-- ==== Sys2Proof/Word.lean ====
section
/-! DEFINITION. The words of the DK-420: 16-bit words of the exchange memory and the calibration
store, 8-bit bytes of the line link. -/

namespace Sys2Proof

/-- A word of the exchange memory or of the calibration store (spec/00_scope.md section 6). -/
abbrev Word := BitVec 16

/-- A byte of a line link frame (R176, R177). -/
abbrev Byte := BitVec 8

end Sys2Proof
end

