-- ==== Sys2Proof/Syntax.lean ====
section
/-! DEFINITION. The commands of the DK-420: one constructor per row of spec/opcode_table.json, with
what the row's event brings from outside the part. -/

namespace Sys2Proof

/-- The three exposure banks (R68). -/
inductive Bank where
  | bk | m1 | m2
deriving DecidableEq, Repr

/-- The two belt scale readers (R52). -/
inductive Reader where
  | scale1 | scale2
deriving DecidableEq, Repr

/-- The two plate sensors (R56). -/
inductive Sensor where
  | infeed | exit
deriving DecidableEq, Repr

/-- The two safety inputs (R201). -/
inductive SafetyInput where
  | estop | cover
deriving DecidableEq, Repr

/-- A byte received on LINK_RX in a response window, with the level of its stop bit (R175, R177). -/
structure RxByte where
  /-- the 8 data bits -/
  data : Byte
  /-- the stop bit was high -/
  stopHigh : Bool
deriving DecidableEq, Repr

/-- A word address on A[13:0] (R186). -/
abbrev BusAddr := BitVec 14

/-- The commands: one constructor per row of spec/opcode_table.json. -/
inductive Instr where
  /-- POWER_ON_RESET (R199) -/
  | powerOnReset
  /-- PIN_RESET (R200) -/
  | pinReset
  /-- HOST_WORD_WRITE (R188): a host write of one word -/
  | hostWordWrite (addr : BusAddr) (value : Word)
  /-- WRITE_HOLD (R191): a host write of a word of a job reference -/
  | writeHold (addr : BusAddr) (value : Word)
  /-- PAIRED_WORD_LATCH (R190): a host read of one word -/
  | pairedWordLatch (addr : BusAddr)
  /-- POSTING_COUNT (R4) -/
  | postingCount (value : Word)
  /-- ATTENTION_INTERVAL (R192) -/
  | attentionInterval (value : Word)
  /-- QUEUE_MARK (R34) -/
  | queueMark (value : Word)
  /-- HEARTBEAT_TIMEOUT (R198) -/
  | heartbeatTimeout (value : Word)
  /-- SOLVENT_LOAD_ENTRY (R128) -/
  | solventLoadEntry (value : Word)
  /-- PROTECT_COUNTER_CLEAR (R188) -/
  | protectCounterClear (value : Word)
  /-- CHECK_COUNT_CLEAR (R184): node is the node number less 1 -/
  | checkCountClear (node : Fin 15) (value : Word)
  /-- ATTN_CAUSE_READ (R194) -/
  | attnCauseRead
  /-- ATTN_MASK_WRITE (R195) -/
  | attnMaskWrite (value : Word)
  /-- HEARTBEAT (R198) -/
  | heartbeat (value : Word)
  /-- REGISTER_WRITE_IGNORED (R193): a host write of IDENT, LINE_STAT or ATTN_CAUSE -/
  | registerWriteIgnored (addr : BusAddr) (value : Word)
  /-- START (R24) -/
  | start
  /-- DRAIN (R25) -/
  | drain
  /-- HALT (R23) -/
  | halt
  /-- RESUME (R30) -/
  | resume
  /-- SAFE_RELEASE (R30) -/
  | safeRelease
  /-- RESET_LINE (R31) -/
  | resetLine
  /-- LINK_SINGLE (R174) -/
  | linkSingle
  /-- LINK_CONTINUOUS (R174) -/
  | linkContinuous
  /-- SHUTTLE_RESET (R150) -/
  | shuttleReset
  /-- RACK_CLEAR (R131) -/
  | rackClear
  /-- CHAMBER_RESET (R168) -/
  | chamberReset
  /-- UNKNOWN_COMMAND (R23): a LINE_CMD code that names no command -/
  | unknownCommand (code : Word)
  /-- READ (R207) -/
  | read
  /-- WRITE (R207) -/
  | write
  /-- ERASE (R207) -/
  | erase
  /-- LOAD_LIVE (R207) -/
  | loadLive
  /-- SAVE_OFFSETS (R207) -/
  | saveOffsets
  /-- UNKNOWN_OPERATION (R206): an operation code that names no operation -/
  | unknownOperation (code : Word)
  /-- WRITE_COMPLETE (R207) -/
  | writeComplete
  /-- ERASE_COMPLETE (R207) -/
  | eraseComplete
  /-- SAVE_OFFSETS_COMPLETE (R207) -/
  | saveOffsetsComplete
  /-- INTAKE_TIMER_EXPIRY (R4) -/
  | intakeTimerExpiry
  /-- SWEEP_VISIT (R5) -/
  | sweepVisit
  /-- LINE_TIME_TIMER (R22) -/
  | lineTimeTimer
  /-- HEARTBEAT_TIMER_EXPIRY (R198) -/
  | heartbeatTimerExpiry
  /-- HOLD_OFF_TIMER_EXPIRY (R197) -/
  | holdOffTimerExpiry
  /-- SCALE_WORD (R52): a phase word, with the level of PLATE_READY at that moment -/
  | scaleWord (reader : Reader) (phase : Word) (plateReady : Bool)
  /-- SCALE_WATCHDOG_EXPIRY (R52), with the level of PLATE_READY at that moment -/
  | scaleWatchdogExpiry (plateReady : Bool)
  /-- SENSOR_INPUT_CHANGE (R56): the input changes to the level given -/
  | sensorInputChange (sensor : Sensor) (present : Bool)
  /-- SETTLE_TIMER_EXPIRY (R56) -/
  | settleTimerExpiry (sensor : Sensor)
  /-- MISFEED_TIMER_EXPIRY (R43) -/
  | misfeedTimerExpiry
  /-- CONVERSION_COMPLETION (R72): a raw converter count of 14 bits -/
  | conversionCompletion (bank : Bank) (raw : BitVec 14)
  /-- PWM_PERIOD_START (R83) -/
  | pwmPeriodStart (bank : Bank)
  /-- ON_TIME_SECOND (R85) -/
  | onTimeSecond (bank : Bank)
  /-- RETRY_TIMER_EXPIRY (R125) -/
  | retryTimerExpiry
  /-- MOVE_TIMER_EXPIRY (R148) -/
  | moveTimerExpiry
  /-- IGNITION_TIMER_EXPIRY (R167) -/
  | ignitionTimerExpiry
  /-- STABILIZING_TIMER_EXPIRY (R158) -/
  | stabilizingTimerExpiry
  /-- IDLE_TIMER_EXPIRY (R159) -/
  | idleTimerExpiry
  /-- SECOND_PLATE_TIMER_EXPIRY (R160) -/
  | secondPlateTimerExpiry
  /-- OPEN_SHUTTER_TIMER_EXPIRY (R164) -/
  | openShutterTimerExpiry
  /-- PASS_TIMER_EXPIRY (R173) -/
  | passTimerExpiry
  /-- LINK_VISIT (R175) -/
  | linkVisit
  /-- RESPONSE_FRAME (R177): the bytes received, in order -/
  | responseFrame (bytes : List RxByte)
  /-- RESPONSE_TIMEOUT (R177) -/
  | responseTimeout
  /-- SAFETY_INPUT_CHANGE (R201): level is true for ESTOP# asserted, and for COVER closed -/
  | safetyInputChange (input : SafetyInput) (level : Bool)
  /-- SAFETY_SETTLE_EXPIRY (R201) -/
  | safetySettleExpiry (input : SafetyInput)
  /-- ESTOP_ASSERTED_AT_RESET (R201) -/
  | estopAssertedAtReset
deriving DecidableEq, Repr

end Sys2Proof
end

