-- ==== Sys2Proof/Config.lean ====
section
/-! DEFINITION. The free values: what the manual leaves open. Each is a constant without a body,
so that nothing proved of the model can rest on its value. -/

namespace Sys2Proof

/-- FREE (R207): whether a store word whose writing a reset cuts holds its new content.
The arguments are the free count and the place of the word in the operation. See log entry 10. -/
opaque Config.cutTakesNew : Nat → Nat → Bool

/-- FREE (R207): whether SAVE_OFFSETS saves, for a bank whose offset moved while it ran, the offset of
the completion rather than that of the request. See log entry 11. -/
opaque Config.savesLateOffset : Nat → Nat → Bool

/-- FREE (R195): whether, of the causes that one write of ATTN_MASK newly enables, the urgent ones are
treated as latched before the routine ones. See log entry 12. -/
opaque Config.urgentFirst : Nat → Bool

/-- FREE (R133, R146): what a node's flag byte means when it is neither 0 nor 1.
The arguments are the free count, the place of the byte, and the byte. See log entry 13. -/
opaque Config.oddFlag : Nat → Nat → Byte → Bool

end Sys2Proof
end

