-- ==== Sys2Proof/Machine/State.lean ====
section
/-! DEFINITION. The state of the DK-420: every register, list, timer, flag and store that the manual gives
its blocks (INVENTORY.md, State), the queue of waiting commands, and the state right after a power-on reset.
Times and deadlines are counts of the part's milliseconds. -/

namespace Sys2Proof.Machine

/-! ## Why a step can stop -/

/-- Why the machine stops. The manual gives no event that stops the part, so there is no reason. -/
inductive Fault where
deriving DecidableEq, Repr

/-- Why a command is refused. -/
inductive Refusal where
  /-- Raised by `exec` for a command without a meaning; safe. No arm of `exec` uses it. -/
  | notModelled (mnemonic : String)
deriving DecidableEq, Repr

/-! ## Names of states, causes and results -/

/-- Line states (R22). -/
inductive LineState where
  | idle | running | draining | halted | safe
deriving DecidableEq, Repr

/-- Halt and safe causes (R22). -/
inductive HaltCause where
  | none | command | stall | vernier | driveLost | washLost | rackFull | estop | cover
deriving DecidableEq, Repr

/-- Outcomes of a line command (R23). -/
inductive CmdOutcome where
  | accepted | refusedState | refusedCover | refusedCal | unknown
deriving DecidableEq, Repr

/-- Attention causes (R194). -/
inductive Attn where
  | safe | halt | node | stray | handling
  | slot | queueLow | hold | lamp | solvent | protect | cal | hostSilent
deriving DecidableEq, Repr

/-- Hold reasons (R35, R36). -/
inductive HoldReason where
  | none | lineNotRunning | coverOpen | solventSpent | shuttleFault | noPlace
  | epochChange | beltNotSettled | infeedEmpty | waitGap
deriving DecidableEq, Repr

/-- Slot states (R3). -/
inductive SlotState where
  | free | queued | active | done | refused
deriving DecidableEq, Repr

/-- Plate stages (R45). -/
inductive Stage where
  | queued | releasing | onBelt | racked | inShuttle | drying | dry | inChamber | ended
deriving DecidableEq, Repr

/-- Refusal reasons of a slot (R7, R12, R20, R21). -/
inductive Reason where
  | noCalibration | badRecipe | badSize | badDepth | badCoverage | doseUnreachable
  | withdrawn | lineReset | partReset
deriving DecidableEq, Repr

/-- Dispositions (R18). -/
inductive Disposition where
  | good | outOfTol | spoiled | lostByReset
deriving DecidableEq, Repr

/-- Verdicts of a station or of finishing (R103, R104, R106, R164). -/
inductive Verdict where
  | inTol | short | over | spread | notRequired | incomplete
deriving DecidableEq, Repr

/-- Sources of a reset (R203). -/
inductive ResetSource where
  | powerOn | resetPin
deriving DecidableEq, Repr

/-- Calibration states (R205). -/
inductive CalState where
  | valid | default
deriving DecidableEq, Repr

/-- Belt states (R60). -/
inductive BeltState where
  | stopped | ramping | settled | deviating
deriving DecidableEq, Repr

/-- Bank states (R69). -/
inductive BankState where
  | dark | tracking | claimed | forcedOff
deriving DecidableEq, Repr

/-- Replenish states (R122). -/
inductive Replenish where
  | idle | pending | ordered | active | retryWait
deriving DecidableEq, Repr

/-- Results of a node's last order (R177). -/
inductive OrderResult where
  | none | done | failed
deriving DecidableEq, Repr

/-- Drawer service states (R134). -/
inductive Service where
  | outOfService | inService | heatFault
deriving DecidableEq, Repr

/-- Shuttle states (R140). -/
inductive ShuttleState where
  | stopped | ready | moving | faulted
deriving DecidableEq, Repr

/-- Kinds of shuttle moves (R139). -/
inductive MoveKind where
  | store | unload | load
deriving DecidableEq, Repr

/-- Chamber states (R154). -/
inductive ChamberState where
  | dark | igniting | stabilizing | ready | loading | exposing | suspended | unloading | faulted
deriving DecidableEq, Repr

/-- The marking of a plate in the chamber batch (R154). -/
inductive Mark where
  | undecided | finished | spoiled
deriving DecidableEq, Repr

/-- The two chamber positions (R154). -/
inductive ChamberPos where
  | one | two
deriving DecidableEq, Repr

/-- Tube states (R156). -/
inductive TubeState where
  | off | starting | lit | failed
deriving DecidableEq, Repr

/-- Scan modes (R171). -/
inductive ScanMode where
  | continuous | single | stopped
deriving DecidableEq, Repr

/-- Node states (R179). -/
inductive NodeState where
  | unseen | present | lost | notScanned
deriving DecidableEq, Repr

/-- Station kinds (R172); drawers are numbered from 0 here, drawer 1 being 0. -/
inductive Station where
  | none | drive | wash | shuttle | finisher | drawer (n : Fin 6)
deriving DecidableEq, Repr

/-- Operation states of the calibration store (R206). -/
inductive OpState where
  | idle | busy | done
deriving DecidableEq, Repr

/-- Results of a calibration operation (R206, R207). -/
inductive OpResult where
  | ok | locked | badAddress | range | ignoredBusy
deriving DecidableEq, Repr

/-- Commands to the station nodes (R176). -/
inductive NodeCmd where
  | stop | run | setSpeed | replenish | move | reset | ignite | extinguish | shutter | heat
deriving DecidableEq, Repr

/-! ## Plates -/

/-- A plate id: the index of its ticket slot (R3). -/
abbrev PlateId := Fin 48

/-- One thing for each of the three banks. -/
structure PerBank (α : Type) where
  /-- of the back bank BK -/
  bk : α
  /-- of the main bank M1 -/
  m1 : α
  /-- of the main bank M2 -/
  m2 : α
deriving DecidableEq, Repr

/-- A station of a dose record (R90). -/
structure DoseStation where
  /-- OPEN rather than CLOSED -/
  isOpen : Bool
  verdict : Option Verdict
  /-- reported minimum, 0.1 mJ/cm² -/
  minimum : Option Nat
  /-- reported maximum, 0.1 mJ/cm² -/
  maximum : Option Nat
deriving DecidableEq, Repr

/-- A dose record (R90): 48 strip accumulators in 0.1 µJ/cm² and two stations. -/
structure DoseRecord where
  strips : PerBank (Vector Nat 16)
  back : DoseStation
  main : DoseStation
deriving DecidableEq, Repr

/-- A plate record (R11), with its dose record (R90), its exit confirmation (R48) and its load at wash
entry (R112). -/
structure Plate where
  stage : Stage
  /-- recipe snapshot: transport speed, 0.01 mm/s -/
  speed : Nat
  backDose : Nat
  mainDose : Nat
  /-- recipe snapshot: tolerance, ‰ -/
  tolerance : Nat
  /-- recipe snapshot: dry time, min -/
  dryTime : Nat
  /-- recipe snapshot: UV-A finish dose -/
  uvaFinish : Nat
  /-- recipe snapshot: UV-C finish dose -/
  uvcFinish : Nat
  /-- ticket snapshot: length, mm -/
  length : Nat
  width : Nat
  depth : Nat
  coverage : Nat
  rush : Bool
  backDone : Bool
  /-- acceptance order (R10) -/
  order : Nat
  epoch : Option Nat
  epochSpeed : Option Nat
  setpoints : Option (PerBank Nat)
  /-- belt position latched at the infeed head edge, µm (R42) -/
  headLatch : Option Nat
  /-- measured length, mm (R44) -/
  measured : Option Nat
  lengthMismatch : Bool
  /-- confirmed at the exit sensor, awaiting its tail (R48) -/
  exitConfirmed : Bool
  dose : DoseRecord
  /-- solvent load at wash entry, held while the plate is in the wash (R116) -/
  entryLoad : Option Nat
  /-- wash figures: entry load and load added (R118) -/
  washFigures : Option (Nat × Nat)
  /-- drawer and slot it was stored into, numbered from 0 (R147) -/
  drawerSlot : Option (Fin 6 × Fin 4)
  /-- dry remaining, ms (R11, R136) -/
  dryRemaining : Nat
  /-- DRY order (R137) -/
  dryOrder : Option Nat
  /-- dry time achieved, s (R144) -/
  dryAchieved : Option Nat
  uvaDose : Nat
  uvcDose : Nat
  finishVerdict : Option Verdict
  lateWithdraw : Bool
  disposition : Option Disposition
deriving DecidableEq, Repr

/-! ## The blocks -/

/-- Levels of the input pins (spec/00_scope.md section 9). -/
structure Pins where
  /-- ESTOP# is low -/
  estopAsserted : Bool
  /-- COVER is high -/
  coverClosed : Bool
  plateReady : Bool
  infeed : Bool
  exit : Bool
deriving DecidableEq, Repr

/-- Words at addresses: strictly rising addresses, no word equal to what an unlisted address reads as. -/
abbrev Cells := List (Nat × Word)

/-- Exchange memory and bus interface (R186 to R200). -/
structure BusInterface where
  /-- the exchange memory's words that are kept as words; an unlisted word reads 0 -/
  ram : Cells
  /-- read capture: the high word's address and value (R190) -/
  capture : Option (Nat × Word)
  /-- write hold: the low word's address and value (R191) -/
  hold : Option (Nat × Word)
  /-- what D[15:0] carried at the latest host read -/
  dataOut : Word
  resetSource : ResetSource
  /-- protect counter, 0 to 255 (R188) -/
  protect : Nat
  /-- latched set of attention causes, each at its bit (R194) -/
  latched : Word
  /-- ATTN_MASK (R195) -/
  mask : Word
  /-- ATTN# asserted -/
  attn : Bool
  /-- routine hold-off timer (R197) -/
  holdOff : Option Nat
  /-- attention interval in force, ms -/
  interval : Nat
  /-- heartbeat timeout in force, s -/
  hbTimeout : Nat
  /-- heartbeat timer (R198) -/
  hbTimer : Option Nat
deriving DecidableEq, Repr

/-- Ticket intake (R4, R5, R10). -/
structure Intake where
  /-- last-seen posting count -/
  lastSeen : Word
  /-- acceptance order counter, 32 bits -/
  order : Nat
  /-- the slot that the sweep in progress visits next -/
  sweep : Option PlateId
  sweepPending : Bool
  /-- one-second timer -/
  timer : Nat
deriving DecidableEq, Repr

/-- Line supervisor (R22, R23). -/
structure Supervisor where
  line : LineState
  cause : HaltCause
  /-- line time, s, 32 bits -/
  lineTime : Nat
  /-- LINE_CMD read register -/
  outcome : CmdOutcome
  /-- 1000 ms timer -/
  timer : Nat
deriving DecidableEq, Repr

/-- Admission unit (R33 to R43). -/
structure Admission where
  queue : List PlateId
  holdReason : HoldReason
  commitments : Nat
  epochNo : Nat
  epochSpeed : Nat
  epochCurrent : Bool
  misfeedHold : Bool
  misfeedArmed : Bool
  misfeedTimer : Option Nat
  /-- GATE output open -/
  gateOpen : Bool
  queueLow : Bool
  /-- queue mark in force (R192) -/
  mark : Nat
  /-- live value, mm -/
  smallGap : Nat
  /-- live value, mm -/
  largeGap : Nat
deriving DecidableEq, Repr

/-- Plate tracker (R45 to R50). -/
structure Tracker where
  plates : Vector (Option Plate) 48
  train : List PlateId
  strayPending : Bool
deriving DecidableEq, Repr

/-- A plate sensor of the transport unit (R56). -/
structure SensorUnit where
  /-- settled level: a plate is present -/
  settled : Bool
  /-- candidate latch, µm -/
  candidate : Option Nat
  /-- 5 ms settle timer -/
  timer : Option Nat
deriving DecidableEq, Repr

/-- Transport unit (R52 to R67). -/
structure Transport where
  /-- belt position, µm; absent until the first good sample -/
  position : Option Nat
  /-- consecutive vernier faults -/
  faults : Nat
  /-- speed history: positions and arrival times, oldest first (R58) -/
  history : List (Nat × Nat)
  /-- speed estimate, 0.01 mm/s -/
  estimate : Nat
  beltState : BeltState
  /-- belt speed demand, 0.01 mm/s -/
  demand : Nat
  speedFlag : Bool
  /-- start of the open run of the settling band (R59, R60) -/
  settleRun : Option Nat
  /-- start of the open run of the deviation band (R59, R61) -/
  deviationRun : Option Nat
  /-- start of the open run of the stall condition (R59, R62) -/
  stallRun : Option Nat
  driveReady : Bool
  driveFault : Bool
  /-- waiting word of SCALE1 -/
  wait1 : Option Word
  /-- waiting word of SCALE2 -/
  wait2 : Option Word
  /-- scale watchdog -/
  watchdog : Nat
  infeed : SensorUnit
  exit : SensorUnit
deriving DecidableEq, Repr

/-- A bank unit (R68). -/
structure BankUnit where
  /-- live window start, mm -/
  w0 : Nat
  /-- live window end, mm -/
  w1 : Nat
  gain : Nat
  /-- live sensor offset, moved by dark tracking -/
  offset : Int
  sensitivity : Nat
  /-- regulator gain K -/
  regGain : Nat
  rated : Nat
  /-- full-duty irradiance F -/
  full : Nat
  state : BankState
  claims : List PlateId
  passed : List PlateId
  setpoint : Option Nat
  /-- commanded duty, ‰ -/
  duty : Nat
  /-- duty of the PWM period in progress, ‰ (R83) -/
  pwm : Nat
  /-- dark time start -/
  darkStart : Option Nat
  /-- last irradiance E -/
  lastE : Nat
  /-- previous completion time -/
  prevTime : Nat
  limited : Bool
  lampWeak : Bool
  drift : Bool
  /-- sample-gap count -/
  gaps : Nat
  /-- on-time, s -/
  onTime : Nat
  /-- on-time not yet counted as a second, ms -/
  onRem : Nat
deriving DecidableEq, Repr

/-- Wash unit (R112). -/
structure Wash where
  /-- solvent load, mg/L -/
  load : Nat
  /-- solvent hold -/
  hold : Bool
  replenish : Replenish
  /-- outstanding order number -/
  outstanding : Option Nat
  /-- portion of the order issued last, L -/
  portion : Nat
  /-- retry timer -/
  retry : Option Nat
  /-- wash node report: tank level, L -/
  level : Nat
  /-- wash node report: solvent temperature, 0.1 °C, as the two's complement word -/
  temp : Word
  ready : Bool
  fault : Bool
  /-- wash node report: the replenish active byte -/
  active : Nat
  result : OrderResult
  /-- wash node report: order echo -/
  echo : Nat
  /-- live value: wash window start, mm -/
  start : Nat
  /-- live value: wash window end, mm -/
  stop : Nat
  /-- live value: tank volume V, L -/
  volume : Nat
  /-- live value: replenish portion P, L -/
  replPortion : Nat
  /-- live value: regen threshold -/
  regen : Nat
  /-- live value: hard limit -/
  hard : Nat
  /-- live value: derate slope -/
  slope : Nat
deriving DecidableEq, Repr

/-- An entry of the exit rack (R130). -/
inductive RackEntry where
  | plate (p : PlateId)
  | stray
deriving DecidableEq, Repr

/-- A drawer record (R132). -/
structure Drawer where
  service : Service
  slots : Vector (Option PlateId) 4
  /-- temperature, 0.1 °C, signed -/
  temp : Int
  doorClosed : Bool
  heaterFault : Bool
  /-- last good response time -/
  lastGood : Option Nat
deriving DecidableEq, Repr

/-- Drying unit (R130, R132, R137, R138). -/
structure Drying where
  rack : List RackEntry
  drawers : Vector Drawer 6
  dryList : List PlateId
  /-- DRY order counter, 32 bits -/
  dryOrder : Nat
  /-- live value: drawer setpoint, 0.1 °C -/
  setpoint : Nat
  /-- live value: band, 0.1 °C -/
  band : Nat
deriving DecidableEq, Repr

/-- Where a shuttle move starts or ends (R145). -/
inductive Place where
  | rack
  | slot (drawer : Fin 6) (slot : Fin 4)
  | chamber (pos : ChamberPos)
  | output
deriving DecidableEq, Repr

/-- The current move of the shuttle (R139). -/
structure Move where
  kind : MoveKind
  plate : PlateId
  source : Place
  dest : Place
  /-- order number -/
  order : Nat
  /-- for UNLOAD: the chamber unit marked the plate spoiled (R142) -/
  spoiled : Bool
deriving DecidableEq, Repr

/-- Shuttle arbiter (R139). -/
structure Shuttle where
  state : ShuttleState
  move : Option Move
  /-- move timer -/
  timer : Option Nat
  resetRequested : Bool
  ready : Bool
  fault : Bool
  result : OrderResult
  /-- position code -/
  position : Nat
  /-- output stack full -/
  stackFull : Bool
  /-- order echo -/
  echo : Nat
deriving DecidableEq, Repr

/-- What the chamber unit asks of the shuttle arbiter (R154). -/
inductive Ask where
  | none
  | load (pos : ChamberPos) (cls : Option (Nat × Nat))
  | unload (plate : PlateId) (pos : ChamberPos) (spoiled : Bool)
deriving DecidableEq, Repr

/-- Finishing chamber unit (R154). -/
structure Chamber where
  state : ChamberState
  pos1 : Option (PlateId × Mark)
  pos2 : Option (PlateId × Mark)
  /-- batch class: UV-A and UV-C finish doses -/
  batchClass : Option (Nat × Nat)
  /-- UV-A accumulator, 0.1 µJ/cm² -/
  accA : Nat
  /-- UV-C accumulator -/
  accC : Nat
  /-- UV-A shutter demanded open -/
  openA : Bool
  /-- UV-C shutter demanded open -/
  openC : Bool
  /-- UV-A on target -/
  onA : Bool
  /-- UV-C on target -/
  onC : Bool
  ask : Ask
  igniteOrder : Option Nat
  ignition : Option Nat
  stabilizing : Option Nat
  idle : Option Nat
  second : Option Nat
  /-- open-shutter timer while it runs: when it expires -/
  openDeadline : Option Nat
  /-- open-shutter timer while it stands: its remaining time, ms -/
  openStanding : Option Nat
  resetAccepted : Bool
  eUva : Nat
  eUvc : Nat
  tubeA : TubeState
  tubeC : TubeState
  doorClosed : Bool
  /-- order echo -/
  echo : Nat
  /-- time of the latest good response -/
  lastGood : Option Nat
deriving DecidableEq, Repr

/-- A node record (R171), with the station that the node number serves in the pass in force (R172). -/
structure NodeRec where
  station : Station
  state : NodeState
  miss : Nat
  check : Nat
  /-- visit sequence -/
  seq : Nat
  /-- last order issued -/
  issued : Option Nat
  /-- last order echoed -/
  echoed : Nat
  /-- last STAT -/
  stat : Byte
  /-- last DATA0 to DATA5 -/
  data : Vector Byte 6
deriving DecidableEq, Repr

/-- Where the scan stands (R171, R175). -/
inductive LinkPhase where
  /-- no pass in progress -/
  | between
  /-- in a pass; the next visit is a marked revisit or the first visited node number above `after`
  (nodes are numbered from 1, so 0 stands before the first) -/
  | guard (after : Nat)
  /-- a response window is open for the node; the frame's ADDR byte and command -/
  | window (node : Fin 15) (isRevisit : Bool) (addr : Byte) (cmd : NodeCmd)
deriving DecidableEq, Repr

/-- Line link master (R171). -/
structure Link where
  mode : ScanMode
  /-- in SINGLE, one further full pass is still to start (R174) -/
  further : Bool
  phase : LinkPhase
  /-- revisit mark (R183) -/
  revisit : Option (Fin 15)
  passTimer : Option Nat
  /-- node records; node number n is at n - 1 -/
  nodes : Vector NodeRec 15
  /-- the latest command frame sent on LINK_TX -/
  txFrame : List Byte
  /-- LINK_DE asserted (R175) -/
  driveEnable : Bool
  /-- live value: last node -/
  lastNode : Nat
  /-- live value: node assignment -/
  assign : Vector Station 15
deriving DecidableEq, Repr

/-- Safety inputs (R201, R202). -/
structure SafetyInputs where
  /-- settled level of ESTOP#: asserted -/
  estop : Bool
  /-- settled level of COVER: closed -/
  coverClosed : Bool
  estopTimer : Option Nat
  coverTimer : Option Nat
  /-- an ESTOP# found asserted at the end of a reset is still to be delivered (R201) -/
  estopAtReset : Bool
  /-- LINE_SAFE# asserted -/
  lineSafe : Bool
deriving DecidableEq, Repr

/-- The calibration operation in progress: what it writes (R207). -/
inductive CalOp where
  | write (addr : Nat) (data : Word)
  | erase (addr : Nat)
  /-- SAVE_OFFSETS, with the live offsets at the request -/
  | save (offsets : PerBank Int)
deriving DecidableEq, Repr

/-- Calibration store (R204 to R207). -/
structure CalStore where
  /-- the store's words; an unlisted word reads 0xFFFF -/
  store : Cells
  state : CalState
  opState : OpState
  result : OpResult
  readData : Word
  /-- the operation in progress and when it completes -/
  running : Option (CalOp × Nat)
deriving DecidableEq, Repr

/-- The state of the part. -/
structure State where
  /-- commands waiting, first in, first out -/
  pending : List Instr
  /-- the model's own counter that free values are drawn with -/
  freeCount : Nat
  /-- the part's millisecond time -/
  now : Nat
  pins : Pins
  bus : BusInterface
  intake : Intake
  supervisor : Supervisor
  admission : Admission
  tracker : Tracker
  transport : Transport
  banks : PerBank BankUnit
  /-- live value shared by the banks: claim lead, mm -/
  claimLead : Nat
  wash : Wash
  drying : Drying
  shuttle : Shuttle
  chamber : Chamber
  link : Link
  safety : SafetyInputs
  cal : CalStore
deriving DecidableEq, Repr

/-! ## The state right after a power-on reset -/

/-- A bank unit after a reset, with its default window (R88, R204); LAMP_WEAK is clear before its evaluation (log
entry 46). -/
def BankUnit.reset (w0 w1 : Nat) : BankUnit where
  w0 := w0
  w1 := w1
  gain := 2048
  offset := 0
  sensitivity := 48
  regGain := 128
  rated := 320
  full := 320
  state := .dark
  claims := []
  passed := []
  setpoint := none
  duty := 0
  pwm := 0
  darkStart := some 0
  lastE := 0
  prevTime := 0
  limited := false
  lampWeak := false
  drift := false
  gaps := 0
  onTime := 0
  onRem := 0

/-- A drawer after a reset (R152). -/
def Drawer.reset : Drawer where
  service := .outOfService
  slots := Vector.replicate 4 none
  temp := 0
  doorClosed := false
  heaterFault := false
  lastGood := none

/-- A node record after a reset, for a node number that serves the station given (R185). -/
def NodeRec.reset (station : Station) : NodeRec where
  station := station
  state := if station = .none then .notScanned else .unseen
  miss := 0
  check := 0
  seq := 0
  issued := none
  echoed := 0
  stat := 0
  data := Vector.replicate 6 0

/-- The default assignment of nodes 1 to 15 (R172, R204). -/
def defaultAssign : Vector Station 15 :=
  #v[.drive, .wash, .shuttle, .finisher, .drawer 0, .drawer 1, .drawer 2, .drawer 3, .drawer 4, .drawer 5,
    .none, .none, .none, .none, .none]

/-- The node table after a reset with the default assignment. -/
def defaultNodes : Vector NodeRec 15 :=
  #v[.reset .drive, .reset .wash, .reset .shuttle, .reset .finisher, .reset (.drawer 0), .reset (.drawer 1),
    .reset (.drawer 2), .reset (.drawer 3), .reset (.drawer 4), .reset (.drawer 5),
    .reset .none, .reset .none, .reset .none, .reset .none, .reset .none]

/-- The part right after a power-on reset (R19, R32, R51, R67, R88, R129, R152, R153, R170, R185, R199,
R201 to R206), with an erased calibration store (log entry 5), its inputs at rest (log entry 4) and its
millisecond time 0 (log entry 2), its safety settle timers stopped (log entry 49). The default live values stand, so the wash unit holds and a replenish
cycle is open (R129), and a sweep (R19) and a link pass (R185) are started. -/
def State.reset : State where
  pending := []
  freeCount := 0
  now := 0
  pins := { estopAsserted := false, coverClosed := true, plateReady := false, infeed := false, exit := false }
  bus :=
    { ram := [(0x0021, 500), (0x0022, 4), (0x0023, 5)]
      capture := none
      hold := none
      dataOut := 0
      resetSource := .powerOn
      protect := 0
      latched := 0
      mask := 0
      attn := false
      holdOff := none
      interval := 500
      hbTimeout := 5
      hbTimer := some 5000 }
  intake := { lastSeen := 0, order := 0, sweep := some 0, sweepPending := false, timer := 1000 }
  supervisor := { line := .idle, cause := .none, lineTime := 0, outcome := .accepted, timer := 1000 }
  admission :=
    { queue := []
      holdReason := .none
      commitments := 0
      epochNo := 0
      epochSpeed := 0
      epochCurrent := false
      misfeedHold := false
      misfeedArmed := false
      misfeedTimer := none
      gateOpen := false
      queueLow := true
      mark := 4
      smallGap := 60
      largeGap := 640 }
  tracker := { plates := Vector.replicate 48 none, train := [], strayPending := false }
  transport :=
    { position := none
      faults := 0
      history := []
      estimate := 0
      beltState := .stopped
      demand := 0
      speedFlag := false
      settleRun := none
      deviationRun := none
      stallRun := none
      driveReady := false
      driveFault := false
      wait1 := none
      wait2 := none
      watchdog := 10
      infeed := { settled := false, candidate := none, timer := none }
      exit := { settled := false, candidate := none, timer := none } }
  banks := { bk := .reset 250 550, m1 := .reset 800 1400, m2 := .reset 1400 2000 }
  claimLead := 20
  wash :=
    { load := 26000
      hold := true
      replenish := .pending
      outstanding := none
      portion := 0
      retry := none
      level := 0
      temp := 0
      ready := false
      fault := false
      active := 0
      result := .none
      echo := 0
      start := 2400
      stop := 4800
      volume := 400
      replPortion := 20
      regen := 18000
      hard := 26000
      slope := 8 }
  drying :=
    { rack := []
      drawers := Vector.replicate 6 .reset
      dryList := []
      dryOrder := 0
      setpoint := 600
      band := 30 }
  shuttle :=
    { state := .stopped
      move := none
      timer := none
      resetRequested := false
      ready := false
      fault := false
      result := .none
      position := 0
      stackFull := true
      echo := 0 }
  chamber :=
    { state := .dark
      pos1 := none
      pos2 := none
      batchClass := none
      accA := 0
      accC := 0
      openA := false
      openC := false
      onA := false
      onC := false
      ask := .none
      igniteOrder := none
      ignition := none
      stabilizing := none
      idle := none
      second := none
      openDeadline := none
      openStanding := none
      resetAccepted := false
      eUva := 0
      eUvc := 0
      tubeA := .off
      tubeC := .off
      doorClosed := false
      echo := 0
      lastGood := none }
  link :=
    { mode := .continuous
      further := false
      phase := .guard 0
      revisit := none
      passTimer := some 20
      nodes := defaultNodes
      txFrame := []
      driveEnable := false
      lastNode := 10
      assign := defaultAssign }
  safety :=
    { estop := false
      coverClosed := true
      estopTimer := none
      coverTimer := none
      estopAtReset := false
      lineSafe := false }
  cal :=
    { store := []
      state := .default
      opState := .idle
      result := .ok
      readData := 0
      running := none }

end Sys2Proof.Machine
end

