-- ==== Sys2Proof/Machine/Arith.lean ====
section
/-! DEFINITION. Number conventions of spec/00_scope.md section 6: rounding, clamping, saturating, signed
words, and the bytes of a word. -/

namespace Sys2Proof.Machine

/-- The distance of two counts, taken without sign. -/
def natDist (a b : Nat) : Nat := (a - b) + (b - a)

/-- Division rounded up. -/
def ceilDiv (a b : Nat) : Nat := (a + (b - 1)) / b

/-- Division with the nearest whole number, an exact half going up. -/
def halfUpDiv (a b : Nat) : Nat := (2 * a + b) / (2 * b)

/-- An integer clamped to a range of counts. -/
def clampInt (lo hi : Nat) (x : Int) : Nat :=
  if x < (lo : Int) then lo else if (hi : Int) < x then hi else x.toNat

/-- A count clamped to a range. -/
def clampNat (lo hi x : Nat) : Nat := if x < lo then lo else if hi < x then hi else x

/-- An addition that saturates at the top given. -/
def satAdd (top a b : Nat) : Nat := min top (a + b)

/-- The top of a 32-bit counter or accumulator. -/
def top32 : Nat := 4294967295

/-- The next value of a 32-bit counter that passes from its top to 0. -/
def next32 (n : Nat) : Nat := (n + 1) % 4294967296

/-- The signed value of a two's complement word. -/
def signedOf (w : Word) : Int := if w.toNat < 32768 then (w.toNat : Int) else (w.toNat : Int) - 65536

/-- The two's complement word of a signed value. -/
def wordOfInt (x : Int) : Word := BitVec.ofInt 16 x

/-- A count as a word. -/
def w16 (n : Nat) : Word := BitVec.ofNat 16 n

/-- The low word of a 32-bit field. -/
def lowWord (n : Nat) : Word := BitVec.ofNat 16 n

/-- The high word of a 32-bit field. -/
def highWord (n : Nat) : Word := BitVec.ofNat 16 (n / 65536)

/-- The low byte of a word, as a count. -/
def lowByte (w : Word) : Nat := w.toNat % 256

/-- The high byte of a word, as a count. -/
def highByte (w : Word) : Nat := w.toNat / 256

/-- A word made of a high and a low byte. -/
def wordOfBytes (high low : Nat) : Word := BitVec.ofNat 16 (high * 256 + low)

/-- The word that two bytes of a frame carry, low byte first. -/
def wordOfLowHigh (low high : Byte) : Word := BitVec.ofNat 16 (high.toNat * 256 + low.toNat)

/-- One bit of a word, set or clear. -/
def bitIf (b : Bool) (n : Nat) : Word := if b then BitVec.ofNat 16 (2 ^ n) else 0

/-- The figure that an accumulator sum in 0.1 µJ/cm² reports, in 0.1 mJ/cm² (R101, R164). -/
def reportedDose (sum : Nat) : Nat := min 65535 ((sum + 500) / 1000)

end Sys2Proof.Machine
end

