-- ==== Sys2Proof/Machine/Operands.lean ====
section
/-! DEFINITION. The encodings of R187 and sections 10.2, 10.6 and 9.3: the codes of states, causes and
commands, the bits of the attention causes, and the addresses of the exchange memory. -/

namespace Sys2Proof.Machine

/-! ## Codes (R187) -/

def slotStateCode : SlotState → Nat
  | .free => 0 | .queued => 1 | .active => 2 | .done => 3 | .refused => 4

/-- The slot state a code names; the part itself writes only the five codes. -/
def slotStateOfCode (n : Nat) : SlotState :=
  if n = 0 then .free else if n = 1 then .queued else if n = 2 then .active
  else if n = 3 then .done else .refused

def stageCode : Stage → Nat
  | .queued => 1 | .releasing => 2 | .onBelt => 3 | .racked => 4 | .inShuttle => 5
  | .drying => 6 | .dry => 7 | .inChamber => 8 | .ended => 9

def reasonCode : Reason → Nat
  | .noCalibration => 1 | .badRecipe => 2 | .badSize => 3 | .badDepth => 4 | .badCoverage => 5
  | .doseUnreachable => 6 | .withdrawn => 7 | .lineReset => 8 | .partReset => 9

def dispositionCode : Disposition → Nat
  | .good => 16 | .outOfTol => 17 | .spoiled => 18 | .lostByReset => 19

def verdictCode : Verdict → Nat
  | .inTol => 1 | .short => 2 | .over => 3 | .spread => 4 | .notRequired => 5 | .incomplete => 6

def holdCode : HoldReason → Nat
  | .none => 0 | .lineNotRunning => 1 | .coverOpen => 2 | .solventSpent => 3 | .shuttleFault => 4
  | .noPlace => 5 | .epochChange => 6 | .beltNotSettled => 7 | .infeedEmpty => 8 | .waitGap => 9

def lineCode : LineState → Nat
  | .idle => 0 | .running => 1 | .draining => 2 | .halted => 3 | .safe => 4

def causeCode : HaltCause → Nat
  | .none => 0 | .command => 1 | .stall => 2 | .vernier => 3 | .driveLost => 4 | .washLost => 5
  | .rackFull => 6 | .estop => 7 | .cover => 8

def resetSourceCode : ResetSource → Nat
  | .powerOn => 1 | .resetPin => 2

def calStateCode : CalState → Nat
  | .valid => 1 | .default => 2

def beltStateCode : BeltState → Nat
  | .stopped => 0 | .ramping => 1 | .settled => 2 | .deviating => 3

def replenishCode : Replenish → Nat
  | .idle => 0 | .pending => 1 | .ordered => 2 | .active => 3 | .retryWait => 4

def serviceCode : Service → Nat
  | .outOfService => 0 | .inService => 1 | .heatFault => 2

def shuttleCode : ShuttleState → Nat
  | .stopped => 0 | .ready => 1 | .moving => 2 | .faulted => 3

def moveKindCode : MoveKind → Nat
  | .store => 1 | .unload => 2 | .load => 3

def chamberCode : ChamberState → Nat
  | .dark => 0 | .igniting => 1 | .stabilizing => 2 | .ready => 3 | .loading => 4 | .exposing => 5
  | .suspended => 6 | .unloading => 7 | .faulted => 8

def nodeStateCode : NodeState → Nat
  | .unseen => 0 | .present => 1 | .lost => 2 | .notScanned => 3

def opStateCode : OpState → Nat
  | .idle => 0 | .busy => 1 | .done => 2

def opResultCode : OpResult → Nat
  | .ok => 0 | .locked => 1 | .badAddress => 2 | .range => 3 | .ignoredBusy => 4

def orderResultCode : OrderResult → Nat
  | .none => 0 | .done => 1 | .failed => 2

/-- Result codes 3 to 7 are taken as NONE (R177). -/
def orderResultOfCode (n : Nat) : OrderResult :=
  if n = 1 then .done else if n = 2 then .failed else .none

def outcomeCode : CmdOutcome → Nat
  | .accepted => 0 | .refusedState => 1 | .refusedCover => 2 | .refusedCal => 3 | .unknown => 4

def scanModeCode : ScanMode → Nat
  | .continuous => 0 | .single => 1 | .stopped => 2

def tubeCode : TubeState → Nat
  | .off => 0 | .starting => 1 | .lit => 2 | .failed => 3

def tubeOfCode (n : Nat) : TubeState :=
  if n = 0 then .off else if n = 1 then .starting else if n = 2 then .lit else .failed

/-- Command codes of the line link (R176). -/
def nodeCmdCode : NodeCmd → Nat
  | .stop => 1 | .run => 2 | .setSpeed => 3 | .replenish => 4 | .move => 5 | .reset => 6
  | .ignite => 7 | .extinguish => 8 | .shutter => 9 | .heat => 10

/-- The station kind of an assignment code (R204); codes above 10 lie outside the item's range. -/
def stationOfCode (n : Nat) : Station :=
  match n with
  | 1 => .drive | 2 => .wash | 3 => .shuttle | 4 => .finisher
  | 5 => .drawer 0 | 6 => .drawer 1 | 7 => .drawer 2 | 8 => .drawer 3 | 9 => .drawer 4 | 10 => .drawer 5
  | _ => .none

/-- Location codes of the shuttle (R145). -/
def placeCode : Place → Nat
  | .rack => 1
  | .slot d m => 16 + 4 * d.val + m.val
  | .chamber .one => 48
  | .chamber .two => 49
  | .output => 64

/-! ## Attention causes (section 10.7) -/

def attnBit : Attn → Nat
  | .safe => 0 | .halt => 1 | .node => 2 | .stray => 3 | .handling => 4
  | .slot => 8 | .queueLow => 9 | .hold => 10 | .lamp => 11 | .solvent => 12 | .protect => 13
  | .cal => 14 | .hostSilent => 15

def attnUrgent : Attn → Bool
  | .safe | .halt | .node | .stray | .handling => true
  | .slot | .queueLow | .hold | .lamp | .solvent | .protect | .cal | .hostSilent => false

/-- The bits of the thirteen causes. -/
def attnValid : Word := 0xFF1F

/-- The bits of the urgent causes. -/
def attnUrgentBits : Word := 0x001F

/-- The bits of the routine causes. -/
def attnRoutineBits : Word := 0xFF00

/-! ## Addresses (section 10.2) -/

/-- The first word of a ticket slot. -/
def slotBase (i : PlateId) : Nat := 0x0400 + 64 * i.val

/-- The first word of a recipe record. -/
def recipeBase (n : Nat) : Nat := 0x0040 + 24 * n

/-- The slot that an address of the ticket table lies in. -/
def slotOfAddr (a : Nat) : PlateId := Fin.ofNat 48 ((a - 0x0400) / 64)

/-- The word of its slot that an address of the ticket table is. -/
def slotOffset (a : Nat) : Nat := (a - 0x0400) % 64

/-- The address lies in the ticket table. -/
def inTickets (a : Nat) : Bool := 0x0400 ≤ a && a < 0x1000

/-- The address is the low word of a job reference, the host-written 32-bit fields (R191). -/
def isJobLow (a : Nat) : Bool := inTickets a && slotOffset a == 2

/-- The address is the low word of a 32-bit field (R190). -/
def isLow32 (a : Nat) : Bool :=
  a == 0x000E || a == 0x0010 ||
  (inTickets a && (slotOffset a == 2 || slotOffset a == 38 || slotOffset a == 56)) ||
  a == 0x1008 || a == 0x1018 || a == 0x1028 || a == 0x1030 || a == 0x10A6 || a == 0x10A8

/-- The node whose check count word the address is (section 10.2, live page). -/
def checkCountNode (a : Nat) : Option (Fin 15) :=
  if 0x10C2 ≤ a ∧ a < 0x10C2 + 45 ∧ (a - 0x10C2) % 3 = 0 then some (Fin.ofNat 15 ((a - 0x10C2) / 3)) else none

/-- The address of a node's check count word. -/
def checkCountAddr (n : Fin 15) : Nat := 0x10C2 + 3 * n.val

/-- Word offsets in a ticket slot (section 10.2, ticket slot). -/
def oRequest : Nat := 0
def oRecipe : Nat := 1
def oLength : Nat := 4
def oWidth : Nat := 5
def oDepth : Nat := 6
def oCoverage : Nat := 7
def oTicketFlags : Nat := 8
def oState : Nat := 32
def oReason : Nat := 33
def oHold : Nat := 34
def oStage : Nat := 35
def oEpoch : Nat := 36
def oMeasured : Nat := 37
def oOrder : Nat := 38
def oBackMin : Nat := 40
def oBackMax : Nat := 41
def oMainMin : Nat := 42
def oMainMax : Nat := 43
def oBackVerdict : Nat := 44
def oMainVerdict : Nat := 45
def oSpeedUsed : Nat := 46
def oEntryLoad : Nat := 47
def oLoadAdded : Nat := 48
def oDrawer : Nat := 49
def oDryTime : Nat := 50
def oUva : Nat := 51
def oUvc : Nat := 52
def oFinish : Nat := 53
def oFlags : Nat := 54
def oCompletion : Nat := 56

end Sys2Proof.Machine
end

