-- ==== Sys2Proof/Machine/Ops.lean ====
section
/-! DEFINITION. The named operations that the blocks share: words of the exchange memory and the store,
time and timers, attention causes, the protect counter, ticket slots, plate records, banks and nodes. -/

namespace Sys2Proof.Machine

/-! ## Words at addresses -/

/-- Read a word; an address not listed reads as `blank`. -/
def cellsRead (blank : Word) : Cells → Nat → Word
  | [], _ => blank
  | (b, w) :: rest, a => if b = a then w else cellsRead blank rest a

/-- Leave out every entry of an address. -/
def cellsErase (a : Nat) : Cells → Cells
  | [] => []
  | (b, w) :: rest => if b = a then cellsErase a rest else (b, w) :: cellsErase a rest

/-- Put an entry before the first higher address. -/
def cellsInsert (a : Nat) (v : Word) : Cells → Cells
  | [] => [(a, v)]
  | (b, w) :: rest => if a < b then (a, v) :: (b, w) :: rest else (b, w) :: cellsInsert a v rest

/-- Write a word; writing `blank` removes the entry. -/
def cellsWrite (blank : Word) (m : Cells) (a : Nat) (v : Word) : Cells :=
  if v = blank then cellsErase a m else cellsInsert a v (cellsErase a m)

/-- The addresses are strictly rising, each above `lo`, and no entry holds `blank`. -/
def cellsWfFrom (blank : Word) (lo : Option Nat) : Cells → Bool
  | [] => true
  | (a, w) :: rest =>
    (match lo with | none => true | some b => decide (b < a)) && w != blank && cellsWfFrom blank (some a) rest

/-- The canonical form of the exchange memory: an unlisted word reads 0 (R199). -/
def memoryWf (m : Cells) : Bool := cellsWfFrom 0 none m

/-- The canonical form of the calibration store: an unlisted word reads 0xFFFF (R204). -/
def storeWf (m : Cells) : Bool := cellsWfFrom 0xFFFF none m

/-- A word of the exchange memory's RAM. -/
def ramRead (s : State) (a : Nat) : Word := cellsRead 0 s.bus.ram a

/-- Write a word of the exchange memory's RAM. -/
def ramWrite (a : Nat) (v : Word) (s : State) : State :=
  { s with bus.ram := cellsWrite 0 s.bus.ram a v }

/-- A word of the calibration store. -/
def storeRead (s : State) (a : Nat) : Word := cellsRead 0xFFFF s.cal.store a

/-- Write a word of the calibration store. -/
def storeWrite (a : Nat) (v : Word) (s : State) : State :=
  { s with cal.store := cellsWrite 0xFFFF s.cal.store a v }

/-! ## Banks, as a family of three -/

/-- The thing of one bank. -/
def PerBank.get {α : Type} (x : PerBank α) : Bank → α
  | .bk => x.bk | .m1 => x.m1 | .m2 => x.m2

/-- Set the thing of one bank. -/
def PerBank.put {α : Type} (x : PerBank α) (k : Bank) (v : α) : PerBank α :=
  match k with
  | .bk => { x with bk := v } | .m1 => { x with m1 := v } | .m2 => { x with m2 := v }

/-- The same change to the thing of each bank. -/
def PerBank.mapAll {α β : Type} (f : α → β) (x : PerBank α) : PerBank β :=
  { bk := f x.bk, m1 := f x.m1, m2 := f x.m2 }

/-- Set one bank unit. -/
def putBank (k : Bank) (b : BankUnit) (s : State) : State := { s with banks := s.banks.put k b }

/-- The same change to each bank unit. -/
def mapBanks (f : BankUnit → BankUnit) (s : State) : State := { s with banks := s.banks.mapAll f }

/-! ## Time (log entry 2) -/

/-- A bank's on-time remainder runs while its commanded duty is above 0 (R85). -/
def runOnTime (dt : Nat) (b : BankUnit) : BankUnit :=
  if 0 < b.duty then { b with onRem := b.onRem + dt } else b

/-- Let the part's time come to `t`; a time already reached changes nothing. -/
def advanceTo (t : Nat) (s : State) : State :=
  if s.now < t then mapBanks (runOnTime (t - s.now)) { s with now := t } else s

/-- The expiry of a timer held as its expiry time: nothing for a stopped timer; for a running one the
part's time comes to the expiry and the effect follows. -/
def onExpiry (timer : Option Nat) (effect : State → State) (s : State) : State :=
  match timer with
  | none => s
  | some t => effect (advanceTo t s)

/-! ## Attention causes (R194 to R197) -/

/-- Drive ATTN# for a cause that is latched, or treated as latched: an enabled urgent cause asserts a
released line (R196); an enabled routine cause asserts it with the hold-off timer stopped, and starts the
timer, and waits otherwise (R197). -/
def driveAttn (c : Attn) (s : State) : State :=
  if s.bus.mask.getLsbD (attnBit c) && !s.bus.attn then
    if attnUrgent c then { s with bus.attn := true }
    else
      match s.bus.holdOff with
      | none => { s with bus.attn := true, bus.holdOff := some (s.now + s.bus.interval) }
      | some _ => s
  else s

/-- Latch an attention cause (R194). -/
def latch (c : Attn) (s : State) : State :=
  driveAttn c { s with bus.latched := s.bus.latched ||| bitIf true (attnBit c) }

/-- Latch a cause if a condition holds. -/
def latchIf (p : Bool) (c : Attn) (s : State) : State := if p then latch c s else s

/-- Count a discarded host write or request (R14, R188). -/
def countDiscard (s : State) : State :=
  latch .protect { s with bus.protect := satAdd 255 s.bus.protect 1 }

/-! ## Ticket slots (R3) -/

/-- A word of a slot. -/
def slotWord (s : State) (i : PlateId) (o : Nat) : Word := ramRead s (slotBase i + o)

/-- Write a word of a slot. -/
def putSlot (i : PlateId) (o : Nat) (v : Word) (s : State) : State := ramWrite (slotBase i + o) v s

/-- Write a count into a word of a slot. -/
def putSlotNat (i : PlateId) (o n : Nat) (s : State) : State := putSlot i o (w16 n) s

/-- Write a 32-bit field of a slot, both words in one event. -/
def putSlot32 (i : PlateId) (o n : Nat) (s : State) : State :=
  putSlot i (o + 1) (highWord n) (putSlot i o (lowWord n) s)

/-- The state of a slot. -/
def slotState (s : State) (i : PlateId) : SlotState := slotStateOfCode (highByte (slotWord s i oState))

/-- The last taken sequence of a slot. -/
def lastTaken (s : State) (i : PlateId) : Nat := lowByte (slotWord s i oState)

/-- Change the state of a slot; its last taken sequence stays. -/
def setSlotState (i : PlateId) (st : SlotState) (s : State) : State :=
  putSlot i oState (wordOfBytes (slotStateCode st) (lastTaken s i)) s

/-- Record a sequence as the last taken one of a slot; its state stays. -/
def setLastTaken (i : PlateId) (sq : Nat) (s : State) : State :=
  putSlot i oState (wordOfBytes (highByte (slotWord s i oState)) sq) s

/-! ## Plate records -/

/-- The plate record of an id. -/
def plateOf (s : State) (p : PlateId) : Option Plate := s.tracker.plates[p]

/-- Set or remove a plate record. -/
def putPlate (p : PlateId) (r : Option Plate) (s : State) : State :=
  { s with tracker.plates := s.tracker.plates.set p r }

/-- Change a plate record, where there is one. -/
def modPlate (p : PlateId) (f : Plate → Plate) (s : State) : State :=
  match plateOf s p with
  | none => s
  | some r => putPlate p (some (f r)) s

/-- Set the stage of a plate record and show it in the slot; a record in ENDED stays ENDED (R45). -/
def setStage (p : PlateId) (st : Stage) (s : State) : State :=
  match plateOf s p with
  | none => s
  | some r =>
    if r.stage = .ended then s
    else putSlotNat p oStage (stageCode st) (putPlate p (some { r with stage := st }) s)

/-- The length of a plate in use, µm: measured once its tail is seen, the ticket's before (R47). -/
def lengthUm (r : Plate) : Nat := (r.measured.getD r.length) * 1000

/-! ## Nodes of the line link (R171, R172, R181) -/

/-- The nodes by their index, in ascending order. -/
def nodeIds : List (Fin 15) := [0, 1, 2, 3, 4, 5, 6, 7, 8, 9, 10, 11, 12, 13, 14]

/-- The visited node that serves a station. -/
def nodeOf (s : State) (st : Station) : Option (Fin 15) :=
  nodeIds.find? fun n => decide (s.link.nodes[n].station = st)

/-- The state of a station's node; a station without a node is NOT_SCANNED (R172). -/
def stationState (s : State) (st : Station) : NodeState :=
  match nodeOf s st with
  | none => .notScanned
  | some n => s.link.nodes[n].state

/-- A station's node is PRESENT. -/
def isPresent (s : State) (st : Station) : Bool := decide (stationState s st = .present)

/-- Set a node record. -/
def putNode (n : Fin 15) (r : NodeRec) (s : State) : State :=
  { s with link.nodes := s.link.nodes.set n r }

/-- The next order number of a station's node: its last order issued plus 1, modulo 256 (R181). -/
def nextOrder (s : State) (st : Station) : Nat :=
  match nodeOf s st with
  | none => 0
  | some n => (s.link.nodes[n].issued.getD 0 + 1) % 256

/-- Record the next order number of a station's node as its last order issued (R181). -/
def takeOrder (st : Station) (s : State) : State :=
  match nodeOf s st with
  | none => s
  | some n => putNode n { s.link.nodes[n] with issued := some (nextOrder s st) } s

/-! ## Line and inputs -/

/-- The line is HALTED or SAFE. -/
def lineStands (s : State) : Bool :=
  match s.supervisor.line with
  | .halted | .safe => true
  | .idle | .running | .draining => false

/-- The line is IDLE or HALTED. -/
def idleOrHalted (s : State) : Bool :=
  match s.supervisor.line with
  | .idle | .halted => true
  | .running | .draining | .safe => false

/-- The line is SAFE. -/
def isSafe (s : State) : Bool := decide (s.supervisor.line = .safe)

/-- The numbers of the drawers and of a drawer's slots, in order. -/
def drawerIds : List (Fin 6) := [0, 1, 2, 3, 4, 5]

def drawerSlotIds : List (Fin 4) := [0, 1, 2, 3]

/-- The drying places in service: 4 for each drawer IN_SERVICE (R135). -/
def placesInService (s : State) : Nat :=
  4 * (drawerIds.filter fun d => decide (s.drying.drawers[d].service = .inService)).length

end Sys2Proof.Machine
end

