-- ==== Sys2Proof/Machine/Flags.lean ====
section
/-! DEFINITION. The flags: LIMITED, LAMP_WEAK and SENSOR_DRIFT of the banks, the solvent hold, the
queue-low state, and the checks of the line link (CRC-8 and order echo parity). -/

namespace Sys2Proof.Machine

/-- LIMITED after a regulation: set at duty 1000 with the error above a fiftieth of the setpoint, cleared
below duty 1000, kept otherwise (R81). -/
def limitedAfter (duty eSet : Nat) (err : Int) (old : Bool) : Bool :=
  if duty < 1000 then false
  else if (eSet : Int) < 50 * err then true
  else old

/-- LAMP_WEAK from F and the rated irradiance, with its band (R82). -/
def lampWeakAfter (full rated : Nat) (old : Bool) : Bool :=
  if 100 * full < 80 * rated then true
  else if 85 * rated ≤ 100 * full then false
  else old

/-- Evaluate LAMP_WEAK of a bank (R82). -/
def evalLampWeak (b : BankUnit) : BankUnit :=
  { b with lampWeak := lampWeakAfter b.full b.rated b.lampWeak }

/-- Set one bank unit and latch LAMP if LIMITED, LAMP_WEAK or SENSOR_DRIFT of it changes from clear to set
(R74, R81, R82, R86). -/
def putBankLatching (k : Bank) (b : BankUnit) (s : State) : State :=
  let old := s.banks.get k
  latchIf ((b.limited && !old.limited) || (b.lampWeak && !old.lampWeak) || (b.drift && !old.drift)) .lamp
    (putBank k b s)

/-- The wanted step of the offset that brings s toward 0 (R73). -/
def wantedStep (sv : Int) : Int := if 0 < sv then -1 else if sv < 0 then 1 else 0

/-- One tracking step of the live offset (R73): not taken at its limit, which SENSOR_DRIFT shows (R74). -/
def trackOffset (sv : Int) (b : BankUnit) : BankUnit :=
  let o := b.offset + wantedStep sv
  if sv = 0 then b
  else if o < -1500 ∨ 1499 < o then { b with drift := true }
  else { b with offset := o, drift := false }

/-- The solvent hold from the load and the hard limit, with its band down to the release level (R121). -/
def solventHoldAfter (load hard : Nat) (old : Bool) : Bool :=
  if hard ≤ load then true
  else if load < hard - 2000 then false
  else old

/-- The queue-low state from the queue count and the mark (R34). -/
def queueLowOf (count mark : Nat) : Bool := decide (mark ≠ 0) && decide (count < mark)

/-- Re-evaluate the queue-low state; a change to low latches QUEUE_LOW (R34). -/
def evalQueueLow (s : State) : State :=
  let low := queueLowOf s.admission.queue.length s.admission.mark
  latchIf (low && !s.admission.queueLow) .queueLow { s with admission.queueLow := low }

/-! ## Checks of the line link (R176, R177) -/

/-- One shift of the CRC-8 register, polynomial 0x2F. -/
def crcShift (r : Byte) : Byte := if r.getLsbD 7 then (r <<< 1) ^^^ 0x2F else r <<< 1

/-- Take one byte into the CRC-8 register: exclusive-OR, then 8 shifts. -/
def crcByte (r b : Byte) : Byte :=
  crcShift (crcShift (crcShift (crcShift (crcShift (crcShift (crcShift (crcShift (r ^^^ b))))))))

/-- The CRC-8 of bytes in order, with initial value 0 (R176). -/
def crc8 (bs : List Byte) : Byte := bs.foldl crcByte 0

/-- The byte holds an odd number of 1 bits (R177). -/
def oddParity (b : Byte) : Bool :=
  b.getLsbD 0 ^^ b.getLsbD 1 ^^ b.getLsbD 2 ^^ b.getLsbD 3 ^^
  b.getLsbD 4 ^^ b.getLsbD 5 ^^ b.getLsbD 6 ^^ b.getLsbD 7

/-- A node's flag byte: 1 set, 0 clear, any other value free (log entry 13). -/
def flagByte (count place : Nat) (b : Byte) : Bool :=
  if b = 1 then true else if b = 0 then false else Config.oddFlag count place b

end Sys2Proof.Machine
end

