-- ==== Sys2Proof/Machine/Dose.lean ====
section
/-! DEFINITION. Setpoints (R8, R75), strips and windows (R92, R93), the crediting of dose (R95), the closing
of stations with their verdicts (R99 to R106), and dispositions (R18). -/

namespace Sys2Proof.Machine

/-! ## Setpoints -/

/-- A bank's share of the dose of a recipe (R8). -/
def doseShare (k : Bank) (backDose mainDose : Nat) (backDone : Bool) : Nat :=
  match k with
  | .bk => if backDone then 0 else backDose
  | .m1 => mainDose / 2
  | .m2 => mainDose - mainDose / 2

/-- The setpoint of a bank for a share at a speed, through a window of a width in mm: the share times the
speed divided by 100 times the width, rounded half up and clamped to 10000 (R8, R75). -/
def setpointFor (share speed width : Nat) : Nat :=
  if share = 0 then 0
  else if width = 0 then 10000
  else min 10000 (halfUpDiv (share * speed) (100 * width))

/-- The width of a bank's live window (R68). -/
def windowWidth (b : BankUnit) : Nat := b.w1 - b.w0

/-- The setpoint that a plate asks of a bank at a speed. -/
def plateSetpoint (s : State) (k : Bank) (r : Plate) (speed : Nat) : Nat :=
  setpointFor (doseShare k r.backDose r.mainDose r.backDone) speed (windowWidth (s.banks.get k))

/-- The three setpoints of a plate at a speed (R41, R75). -/
def plateSetpoints (s : State) (r : Plate) (speed : Nat) : PerBank Nat :=
  { bk := plateSetpoint s .bk r speed, m1 := plateSetpoint s .m1 r speed, m2 := plateSetpoint s .m2 r speed }

/-! ## Strips and head travel -/

/-- The length of the belt loop, µm (section 3.1). -/
def beltLoop : Nat := 12288000

/-- The travel from one belt position to another, modulo the loop. -/
def travelFrom (latch pos : Nat) : Nat := (((pos : Int) - (latch : Int)) % (beltLoop : Int)).toNat

/-- The belt position that events read; absent reads as 0 (R67). -/
def beltPos (s : State) : Nat := s.transport.position.getD 0

/-- The head travel of a plate with a head latch, µm (R47). -/
def headTravel (s : State) (r : Plate) : Option Nat := r.headLatch.map fun l => travelFrom l (beltPos s)

/-- The strip offset of strip i, µm (R92). -/
def stripOffset (lengthUm i : Nat) : Nat := lengthUm * (2 * i + 1) / 32

/-- The centre travel of strip i (R93). -/
def stripTravel (head lengthUm i : Nat) : Int := (head : Int) - (stripOffset lengthUm i : Int)

/-- A centre travel lies in a bank's window (R93). -/
def inWindow (b : BankUnit) (t : Int) : Bool :=
  decide ((b.w0 * 1000 : Nat) ≤ t) && decide (t < (b.w1 * 1000 : Nat))

/-! ## Crediting dose -/

/-- The plate's station for a bank is OPEN (R91). -/
def stationOpen (k : Bank) (d : DoseRecord) : Bool :=
  match k with
  | .bk => d.back.isOpen
  | .m1 => d.main.isOpen
  | .m2 => d.main.isOpen

/-- The accumulators of a bank after a credit to the strips in its window (R95). -/
def creditStrips (b : BankUnit) (head len credit : Nat) (acc : Vector Nat 16) : Vector Nat 16 :=
  Vector.ofFn fun i =>
    if inWindow b (stripTravel head len i.val) then satAdd top32 acc[i] credit else acc[i]

/-- The record of a plate after a completion of bank k credits it (R95, R98). -/
def creditPlate (s : State) (k : Bank) (credit : Nat) (r : Plate) : Plate :=
  match headTravel s r with
  | none => r
  | some h =>
    if stationOpen k r.dose then
      let acc := creditStrips (s.banks.get k) h (lengthUm r) credit (r.dose.strips.get k)
      { r with dose.strips := r.dose.strips.put k acc }
    else r

/-- Credit E times Δt to every plate of the belt train (R95). -/
def creditTrain (k : Bank) (credit : Nat) (s : State) : State :=
  s.tracker.train.foldl (fun t p => modPlate p (creditPlate t k credit) t) s

/-! ## Closing a station -/

/-- The two stations of a plate (R91). -/
inductive StationKind where
  | back | main
deriving DecidableEq, Repr

/-- A station of a dose record. -/
def stationOf (d : DoseRecord) : StationKind → DoseStation
  | .back => d.back
  | .main => d.main

/-- The station sums of the 16 strips (R100). -/
def stationSums (d : DoseRecord) : StationKind → List Nat
  | .back => d.strips.bk.toList
  | .main => (Vector.ofFn fun i : Fin 16 => satAdd top32 d.strips.m1[i] d.strips.m2[i]).toList

/-- The least of some sums; `top32` for none. -/
def minOf (xs : List Nat) : Nat := xs.foldl min top32

/-- The greatest of some sums. -/
def maxOf (xs : List Nat) : Nat := xs.foldl max 0

/-- The target of a station (R91). -/
def stationTarget (r : Plate) : StationKind → Nat
  | .back => r.backDose
  | .main => r.mainDose

/-- The verdict of minimum and maximum sums against a target and a tolerance (R102, R103). -/
def verdictOf (target tolerance lo hi : Nat) : Verdict :=
  let low := target * (1000 - tolerance)
  let high := target * (1000 + tolerance)
  if low ≤ lo then (if hi ≤ high then .inTol else .over)
  else (if hi ≤ high then .short else .spread)

/-- The verdict of a station closed normally; the back station of a BACK_DONE plate is NOT_REQUIRED
(R103, R104). -/
def closeVerdict (r : Plate) (st : StationKind) : Verdict :=
  let v := verdictOf (stationTarget r st) r.tolerance (minOf (stationSums r.dose st)) (maxOf (stationSums r.dose st))
  match st with
  | .back => if r.backDone then .notRequired else v
  | .main => v

/-- A dose record with a station CLOSED with a verdict and its figures (R101, R105). -/
def closedDose (d : DoseRecord) (st : StationKind) (v : Verdict) : DoseRecord :=
  let c : DoseStation :=
    { isOpen := false
      verdict := some v
      minimum := some (reportedDose (minOf (stationSums d st)))
      maximum := some (reportedDose (maxOf (stationSums d st))) }
  match st with
  | .back => { d with back := c }
  | .main => { d with main := c }

/-- Write a station's figures and verdict into the slot (R16, R105). -/
def showStation (p : PlateId) (st : StationKind) (v : Verdict) (lo hi : Nat) (s : State) : State :=
  match st with
  | .back => putSlotNat p oBackVerdict (verdictCode v) (putSlotNat p oBackMax hi (putSlotNat p oBackMin lo s))
  | .main => putSlotNat p oMainVerdict (verdictCode v) (putSlotNat p oMainMax hi (putSlotNat p oMainMin lo s))

/-- Close an OPEN station of a plate with a verdict; a CLOSED one stays as it is (R90, R105). -/
def closeStation (p : PlateId) (st : StationKind) (verdict : Plate → Verdict) (s : State) : State :=
  match plateOf s p with
  | none => s
  | some r =>
    if (stationOf r.dose st).isOpen then
      showStation p st (verdict r) (reportedDose (minOf (stationSums r.dose st)))
        (reportedDose (maxOf (stationSums r.dose st)))
        (putPlate p (some { r with dose := closedDose r.dose st (verdict r) }) s)
    else s

/-- Close a station with the verdict of its sums (R99, R108). -/
def closeNormally (p : PlateId) (st : StationKind) (s : State) : State :=
  closeStation p st (fun r => closeVerdict r st) s

/-- Close a station INCOMPLETE (R106). -/
def closeIncomplete (p : PlateId) (st : StationKind) (s : State) : State :=
  closeStation p st (fun _ => .incomplete) s

/-- The window end at which a station closes, mm (R91). -/
def closePoint (s : State) : StationKind → Nat
  | .back => s.banks.bk.w1
  | .main => s.banks.m2.w1

/-- The close test of one station of a plate at a position sample (R99). -/
def closeTest (p : PlateId) (st : StationKind) (s : State) : State :=
  match (plateOf s p).bind fun r => (headTravel s r).map fun h => stripTravel h (lengthUm r) 15 with
  | none => s
  | some t => if (closePoint s st * 1000 : Nat) ≤ t then closeNormally p st s else s

/-- The close tests of a position sample: every plate of the train, each station (R99). -/
def closeTests (s : State) : State :=
  s.tracker.train.foldl (fun t p => closeTest p .main (closeTest p .back t)) s

/-! ## Dispositions -/

/-- The verdict counts as good: IN_TOL or NOT_REQUIRED (R18). -/
def verdictGood (v : Option Verdict) : Bool :=
  v == some .inTol || v == some .notRequired

/-- The disposition of a finished plate (R18). -/
def finishedDisposition (r : Plate) : Disposition :=
  if verdictGood r.dose.back.verdict && verdictGood r.dose.main.verdict && verdictGood r.finishVerdict
  then .good else .outOfTol

end Sys2Proof.Machine
end

