-- ==== Sys2Proof/Machine/Belt.lean ====
section
/-! DEFINITION. The belt speed demand and the drive's report (R60, R63, R65). -/

namespace Sys2Proof.Machine

/-- Close every open run of the timed conditions (R59). -/
def closeRuns (t : Transport) : Transport :=
  { t with settleRun := none, deviationRun := none, stallRun := none }

/-- Change the belt state, which closes every open run (R59). -/
def setBeltState (b : BeltState) (t : Transport) : Transport :=
  if t.beltState = b then t else closeRuns { t with beltState := b }

/-- Give the transport unit a belt speed demand: one that differs from the demand in force is taken with
the belt STOPPED at 0 and RAMPING above 0, every run closed and SPEED cleared (R59 to R61, R63). -/
def giveDemand (d : Nat) (s : State) : State :=
  if d = s.transport.demand then s
  else
    { s with transport := closeRuns { s.transport with
        demand := d, speedFlag := false, beltState := if d = 0 then .stopped else .ramping } }

/-- Take the drive's latest report; a SETTLED belt whose drive is not ready or shows fault becomes RAMPING
(R60, R65). -/
def takeDriveReport (ready fault : Bool) (s : State) : State :=
  let t := { s.transport with driveReady := ready, driveFault := fault }
  { s with transport :=
      if t.beltState = .settled ∧ (ready && !fault) = false then setBeltState .ramping t else t }

end Sys2Proof.Machine
end

