-- ==== Sys2Proof/Machine/Banks.lean ====
section
/-! DEFINITION. The bank units: duty, claims, forced off, the correction of a sample, regulation and
learning (R69 to R85). -/

namespace Sys2Proof.Machine

/-- Command a duty; the dark time starts when it becomes 0 and is absent while it is above 0 (R68, R79). -/
def setDuty (now d : Nat) (b : BankUnit) : BankUnit :=
  { b with duty := d, darkStart := if 0 < d then none else if 0 < b.duty then some now else b.darkStart }

/-- The duty has been 0 for 200 ms or more (R69). -/
def darkLong (now : Nat) (b : BankUnit) : Bool :=
  match b.darkStart with
  | none => false
  | some t => decide (200 ≤ now - t)

/-- The first duty of a claim (R78): an E_set of 0 gives 0, an F of 0 gives 1000. -/
def firstDuty (eSet full : Nat) : Nat :=
  if eSet = 0 then 0
  else if full = 0 then 1000
  else min 1000 (ceilDiv (eSet * 1000) full)

/-- A bank is forced off: the line is HALTED or SAFE, or COVER reads open (R69). -/
def bankForced (s : State) : Bool := lineStands s || !s.safety.coverClosed

/-- A bank becomes FORCED_OFF: duty and PWM output 0 at once, LIMITED cleared (R84). -/
def forceOff (now : Nat) (b : BankUnit) : BankUnit :=
  { setDuty now 0 b with pwm := 0, limited := false, state := .forcedOff }

/-- A bank leaves FORCED_OFF: CLAIMED with its first duty, or DARK or TRACKING by its dark time (R69, R78). -/
def leaveForced (now : Nat) (b : BankUnit) : BankUnit :=
  if b.claims = [] then { b with state := if darkLong now b then .tracking else .dark }
  else { setDuty now (firstDuty (b.setpoint.getD 0) b.full) b with state := .claimed }

/-- Bring a bank's state in line with whether it is forced off (R69, R84). -/
def syncBank (now : Nat) (forced : Bool) (b : BankUnit) : BankUnit :=
  if forced then (if b.state = .forcedOff then b else forceOff now b)
  else (if b.state = .forcedOff then leaveForced now b else b)

/-- The banks take up a change of the line state or of COVER (R69). -/
def syncBanks (s : State) : State := mapBanks (syncBank s.now (bankForced s)) s

/-- Every bank unit forces its duty to 0 (R28, R84). -/
def forceBanks (s : State) : State := mapBanks (syncBank s.now true) s

/-! ## Claims (R76, R77) -/

/-- The last member has left the claim set: setpoint absent, duty 0, LIMITED cleared, DARK unless forced
off (R77). R77 has the dark time start then; where the duty is 0 already the model keeps the dark time start, the
moment at which the duty last became 0 as R68 words it (the model's choice, log entry 51). -/
def emptyClaims (now : Nat) (b : BankUnit) : BankUnit :=
  { setDuty now 0 b with
    setpoint := none, limited := false, state := if b.state = .forcedOff then .forcedOff else .dark }

/-- A plate leaves the claim set, if it is in it. -/
def dropClaim (now : Nat) (p : PlateId) (b : BankUnit) : BankUnit :=
  if p ∈ b.claims then
    let c := { b with claims := b.claims.erase p }
    if c.claims = [] then emptyClaims now c else c
  else b

/-- A plate joins the claim set; the first one gives the bank its setpoint and, unless it is forced off,
its first duty (R77, R78). -/
def joinClaim (now eSet : Nat) (p : PlateId) (b : BankUnit) : BankUnit :=
  let c := { b with claims := b.claims ++ [p] }
  if b.claims = [] then
    let c := { c with setpoint := some eSet }
    if b.state = .forcedOff then c
    else { setDuty now (firstDuty eSet b.full) c with state := .claimed }
  else c

/-- A plate leaves the belt train: it leaves the claim set and the passed set (R76). -/
def dropPlate (now : Nat) (p : PlateId) (b : BankUnit) : BankUnit :=
  let c := dropClaim now p b
  { c with passed := c.passed.erase p }

/-- The claim test of one plate at a bank, from its head travel and its strip 15 travel (R76). -/
def claimStep (now lead : Nat) (p : PlateId) (head : Nat) (t15 : Int) (eSet : Nat) (b : BankUnit) : BankUnit :=
  if p ∈ b.claims then
    if (b.w1 * 1000 : Nat) ≤ t15 then
      let c := dropClaim now p b
      { c with passed := c.passed ++ [p] }
    else b
  else if p ∈ b.passed then b
  else if (b.w1 * 1000 : Nat) ≤ t15 then { b with passed := b.passed ++ [p] }
  else if (b.w0 - lead) * 1000 ≤ head then joinClaim now eSet p b
  else b

/-- The claim tests of one plate at the three banks (R76). -/
def claimTest (p : PlateId) (s : State) : State :=
  match plateOf s p with
  | none => s
  | some r =>
    match headTravel s r with
    | none => s
    | some h =>
      let t15 := stripTravel h (lengthUm r) 15
      let e (k : Bank) : Nat := match r.setpoints with | none => 0 | some x => x.get k
      { s with banks :=
          { bk := claimStep s.now s.claimLead p h t15 (e .bk) s.banks.bk
            m1 := claimStep s.now s.claimLead p h t15 (e .m1) s.banks.m1
            m2 := claimStep s.now s.claimLead p h t15 (e .m2) s.banks.m2 } }

/-- The claim tests of a position sample, in train order (R76; log entry 20). -/
def claimTests (s : State) : State := s.tracker.train.foldl (fun t p => claimTest p t) s

/-! ## Samples (R70 to R74) -/

/-- The three stages of the correction: s (R71). -/
def sensorS (b : BankUnit) (raw : Nat) : Int := (raw : Int) + b.offset

/-- The corrected count c (R71). -/
def sensorC (b : BankUnit) (raw : Nat) : Nat :=
  clampInt 0 16383 (Int.tdiv (sensorS b raw * ((2048 + b.gain : Nat) : Int)) 4096)

/-- The irradiance E (R71). -/
def sensorE (b : BankUnit) (raw : Nat) : Nat := min 10000 (sensorC b raw * b.sensitivity / 1024)

/-- The interval Δt of a completion, clamped to 1 to 50 (R70). -/
def sampleDt (now : Nat) (b : BankUnit) : Nat := clampNat 1 50 (now - b.prevTime)

/-- The interval and the sample-gap count are taken, and E becomes the last irradiance (R70, R71). -/
def takeSample (now raw : Nat) (b : BankUnit) : BankUnit :=
  { b with
    prevTime := now
    gaps := if 50 < now - b.prevTime then satAdd 65535 b.gaps 1 else b.gaps
    lastE := sensorE b raw }

/-- F after learning from a sample (R80). -/
def learnFull (e duty full : Nat) : Nat :=
  if 100 ≤ duty then
    clampInt 0 20000 ((full : Int) + Int.tdiv (((e * 1000 / duty : Nat) : Int) - (full : Int)) 16)
  else full

/-- The duty after regulation (R79). -/
def regulatedDuty (duty regGain : Nat) (err : Int) : Nat :=
  clampInt 0 1000 ((duty : Int) + Int.tdiv (err * (regGain : Int)) 256)

/-- What a completion does in CLAIMED: F is learned with the duty in force, the duty is regulated, LIMITED
is evaluated (R72 step 4). -/
def regulate (now e : Nat) (b : BankUnit) : BankUnit :=
  let eSet := b.setpoint.getD 0
  let err : Int := (eSet : Int) - (e : Int)
  let f := learnFull e b.duty b.full
  let b1 := if f = b.full then b else evalLampWeak { b with full := f }
  let d := regulatedDuty b.duty b.regGain err
  { setDuty now d b1 with limited := limitedAfter d eSet err b.limited }

/-- What a completion does to its bank after the dose is credited (R72 steps 4 and 5): DARK becomes TRACKING
once the duty has been 0 for 200 ms (R69). -/
def actOnSample (now e : Nat) (sv : Int) (b : BankUnit) : BankUnit :=
  match b.state with
  | .claimed => regulate now e b
  | .dark => if darkLong now b then trackOffset sv { b with state := .tracking } else b
  | .tracking => trackOffset sv b
  | .forcedOff => if darkLong now b then trackOffset sv b else b

/-- A conversion completion of a bank (R72). -/
def conversion (k : Bank) (raw : Nat) (s : State) : State :=
  let b := s.banks.get k
  let e := sensorE b raw
  let s1 := putBank k (takeSample s.now raw b) s
  let s2 := creditTrain k (e * sampleDt s.now b) s1
  putBankLatching k (actOnSample s.now e (sensorS b raw) (s2.banks.get k)) s2

end Sys2Proof.Machine
end

