-- ==== Sys2Proof/Machine/Solvent.lean ====
section
/-! DEFINITION. The wash unit: the load plates add (R116 to R118), the load and its effects (R119), the
derate (R120), the solvent hold (R121) and the replenish cycle (R122 to R128). -/

namespace Sys2Proof.Machine

/-- The circulation demand is RUN: the line is RUNNING or DRAINING (R113). -/
def circulates (s : State) : Bool :=
  match s.supervisor.line with
  | .running | .draining => true
  | .idle | .halted | .safe => false

/-! ## Derate (R120) -/

/-- The derate, ‰. -/
def derate (s : State) : Nat := min 300 (s.wash.load * s.wash.slope / 1000)

/-- The effective speed of a plate of a recipe speed. -/
def effectiveSpeed (s : State) (speed : Nat) : Nat := max 200 (speed * (1000 - derate s) / 1000)

/-! ## The replenish cycle -/

/-- The stop level of the cycle (section 6.1). -/
def stopLevel (s : State) : Nat := s.wash.regen - 2000

/-- An order can be issued: the wash node is PRESENT and the line is not SAFE (R123). -/
def canReplenish (s : State) : Bool := isPresent s .wash && !isSafe s

/-- Issue a REPLENISH order under the next order number, or go to PENDING (R122, R123). -/
def orderOrPend (s : State) : State :=
  if canReplenish s then
    let n := nextOrder s .wash
    latch .solvent { takeOrder .wash s with
      wash.outstanding := some n, wash.portion := s.wash.replPortion, wash.replenish := .ordered }
  else { s with wash.replenish := .pending }

/-- Open a cycle in IDLE with the load at or above the regen threshold (R122). -/
def openCycle (s : State) : State :=
  if s.wash.replenish = .idle ∧ s.wash.regen ≤ s.wash.load then orderOrPend s else s

/-- Close a cycle in PENDING or RETRY_WAIT with the load below the stop level (R122). -/
def closeCycle (s : State) : State :=
  if (s.wash.replenish = .pending ∨ s.wash.replenish = .retryWait) ∧ s.wash.load < stopLevel s then
    { s with wash.replenish := .idle, wash.retry := none }
  else s

/-- Re-evaluate the solvent hold; a change to set latches SOLVENT (R121). -/
def evalSolventHold (s : State) : State :=
  let h := solventHoldAfter s.wash.load s.wash.hard s.wash.hold
  latchIf (h && !s.wash.hold) .solvent { s with wash.hold := h }

/-- Change the solvent load, with the effects of R119. -/
def changeLoad (load : Nat) (s : State) : State :=
  openCycle (closeCycle (evalSolventHold { s with wash.load := load }))

/-- A cycle is open with no order outstanding: PENDING or RETRY_WAIT (R122). -/
def cycleWaits (s : State) : Bool := s.wash.replenish == .pending || s.wash.replenish == .retryWait

/-- The wash node has become PRESENT, or the line has left SAFE: a cycle open with no order outstanding issues
its order if it can (R123, R126, R127; log entry 28). The retry timer runs in RETRY_WAIT only (section 6.1). -/
def orderIfWaiting (s : State) : State :=
  if cycleWaits s && canReplenish s then orderOrPend { s with wash.retry := none } else s

/-- Completion of the outstanding order (R124). -/
def completeReplenish (s : State) : State :=
  let load := ceilDiv (s.wash.load * (s.wash.volume - s.wash.portion)) s.wash.volume
  let t := evalSolventHold { s with wash.load := load, wash.outstanding := none }
  if t.wash.load < stopLevel t then { t with wash.replenish := .idle } else orderOrPend t

/-- The outstanding order has FAILED (R125). -/
def failReplenish (s : State) : State :=
  { s with wash.outstanding := none, wash.replenish := .retryWait, wash.retry := some (s.now + 60000) }

/-- Entry to SAFE cancels the outstanding order; the cycle stays open (R126). -/
def cancelReplenish (s : State) : State :=
  match s.wash.replenish with
  | .ordered | .active => { s with wash.outstanding := none, wash.replenish := .pending }
  | .idle | .pending | .retryWait => { s with wash.outstanding := none }

/-- Take a good response of the wash node (R115) and test it against the outstanding order (R123 to R125). -/
def takeWashReport (ready fault : Bool) (result : OrderResult) (d : Vector Byte 6) (s : State) : State :=
  let t := { s with
    wash.ready := ready, wash.fault := fault, wash.result := result
    wash.level := (wordOfLowHigh d[0] d[1]).toNat, wash.temp := wordOfLowHigh d[2] d[3]
    wash.active := d[4].toNat, wash.echo := d[5].toNat }
  if s.wash.outstanding = some d[5].toNat then
    if d[4] = 1 then { t with wash.replenish := .active }
    else if d[4] = 0 then
      match result with
      | .done => completeReplenish t
      | .failed => failReplenish t
      | .none => t
    else t
  else t

/-! ## Load from plates -/

/-- The mass of polymer a plate leaves, mg (R117 step 1). -/
def plateMass (r : Plate) : Nat :=
  r.width * (r.measured.getD r.length) * r.depth * (1000 - r.coverage) / 1000000

/-- The load that a plate adds, mg/L (R117 step 2). -/
def loadAdded (s : State) (r : Plate) : Nat := ceilDiv (plateMass r) s.wash.volume

/-- A plate leaves the wash, or the belt train while it is in the wash: it gets its wash figures, the slot
shows them, and the load rises (R118). A plate that has not entered the wash adds nothing. -/
def leaveWash (p : PlateId) (s : State) : State :=
  match plateOf s p with
  | none => s
  | some r =>
    match r.entryLoad with
    | none => s
    | some e =>
      let added := loadAdded s r
      changeLoad (satAdd 65535 s.wash.load added)
        (putSlotNat p oLoadAdded (min 65535 added) (putSlotNat p oEntryLoad e
          (putPlate p (some { r with entryLoad := none, washFigures := some (e, added) }) s)))

/-- A plate whose head is in the wash window and which has no entry load enters the wash (R116). A plate
that has its wash figures has left it. -/
def enterWash (p : PlateId) (head : Nat) (s : State) : State :=
  modPlate p (fun r =>
    if r.entryLoad = none ∧ r.washFigures = none ∧ s.wash.start * 1000 ≤ head
    then { r with entryLoad := some s.wash.load } else r) s

/-- The wash tests of one plate, entry first (R116). -/
def washTest (p : PlateId) (s : State) : State :=
  match (plateOf s p).bind fun r => (headTravel s r).map fun h => (h, lengthUm r) with
  | none => s
  | some (h, len) =>
    let t := enterWash p h s
    if (s.wash.stop * 1000 : Nat) ≤ (h : Int) - (len : Int) then leaveWash p t else t

/-- The wash tests of a position sample, in train order (R116). -/
def washTests (s : State) : State := s.tracker.train.foldl (fun t p => washTest p t) s

end Sys2Proof.Machine
end

