-- ==== Sys2Proof/Machine/Plates.lean ====
section
/-! DEFINITION. The plate tracker and the slot of an ended plate: departure from the belt train (R46, R118),
the end of a plate (R17, R18), commitments (R40). -/

namespace Sys2Proof.Machine

/-- Commitments decrease by 1 (R40). -/
def giveBackPlace (s : State) : State := { s with admission.commitments := s.admission.commitments - 1 }

/-- A plate leaves the belt train: it leaves every claim set and passed set (R76), and one that is in the
wash adds its load (R118). -/
def departTrain (p : PlateId) (s : State) : State :=
  leaveWash p (mapBanks (dropPlate s.now p) { s with tracker.train := s.tracker.train.erase p })

/-- Complete the slot of an ended plate and its record, in the order of R17: stage ENDED, completion line
time, disposition, slot state DONE, SLOT latched. -/
def completeSlot (p : PlateId) (d : Disposition) (s : State) : State :=
  let s1 := putSlotNat p oStage (stageCode .ended)
    (modPlate p (fun r => { r with stage := .ended, disposition := some d }) s)
  let s2 := putSlot32 p oCompletion s.supervisor.lineTime s1
  let s3 := putSlotNat p oReason (dispositionCode d) s2
  latch .slot (setSlotState p .done s3)

/-- The plate tracker ends a plate (R17): the stations still OPEN close INCOMPLETE (R106), then the slot is
completed. A plate already ENDED stays as it is (R45). -/
def endPlate (p : PlateId) (spoiled : Bool) (s : State) : State :=
  match plateOf s p with
  | none => s
  | some r =>
    if r.stage = .ended then s
    else
      let t := closeIncomplete p .main (closeIncomplete p .back s)
      match plateOf t p with
      | none => t
      | some q => completeSlot p (if spoiled then .spoiled else finishedDisposition q) t

/-- A plate of the belt train is spoiled: it leaves the train, its commitment is given back and it ends
(R28, R49). -/
def spoilFromTrain (p : PlateId) (s : State) : State :=
  endPlate p true (giveBackPlace (departTrain p s))

end Sys2Proof.Machine
end

