-- ==== Sys2Proof/Machine/Handling.lean ====
section
/-! DEFINITION. The drying unit, the shuttle arbiter and the finishing chamber unit: what they share and
what they tell one another (chapters 7 and 8). -/

namespace Sys2Proof.Machine

/-! ## The finishing chamber: plates, doses, timers -/

/-- A LOAD or UNLOAD move is current with the shuttle (R154, chamber move). -/
def chamberMove (s : State) : Bool :=
  match s.shuttle.move with
  | none => false
  | some m => match m.kind with | .store => false | .unload => true | .load => true

/-- The batch holds no plate. -/
def batchEmpty (c : Chamber) : Bool := c.pos1.isNone && c.pos2.isNone

/-- A plate's finish class (R159). -/
def finishClass (s : State) (p : PlateId) : Option (Nat × Nat) :=
  (plateOf s p).map fun r => (r.uvaFinish, r.uvcFinish)

/-- The group targets: the batch class (R154). -/
def groupTargets (c : Chamber) : Nat × Nat := c.batchClass.getD (0, 0)

/-- Every timer of the chamber unit stops (R167). -/
def stopChamberTimers (c : Chamber) : Chamber :=
  { c with
    ignition := none, stabilizing := none, idle := none, second := none
    openDeadline := none, openStanding := none }

/-- Write doses and a finish verdict into a plate's record and slot (R164, R167). -/
def finishPlate (p : PlateId) (uva uvc : Nat) (v : Verdict) (s : State) : State :=
  putSlotNat p oFinish (verdictCode v) (putSlotNat p oUvc uvc (putSlotNat p oUva uva
    (modPlate p (fun r => { r with uvaDose := uva, uvcDose := uvc, finishVerdict := some v }) s)))

/-- Write doses and a verdict for the occupant of a position, if there is one. -/
def finishOccupant (o : Option (PlateId × Mark)) (uva uvc : Nat) (v : Verdict) (s : State) : State :=
  match o with
  | none => s
  | some (p, _) => finishPlate p uva uvc v s

/-- Mark the occupant of a position. -/
def markOccupant (m : Mark) (o : Option (PlateId × Mark)) : Option (PlateId × Mark) :=
  o.map fun x => (x.1, m)

/-- The occupant of a position, where its marking passes the test. -/
def markedAt (pass : Mark → Bool) (o : Option (PlateId × Mark)) : Option (PlateId × Mark) :=
  o.filter fun x => pass x.2

/-- The UNLOAD to ask for: the plate at the lowest occupied position whose marking passes the test (R166 to
R168). -/
def unloadAsk (pass : Mark → Bool) (c : Chamber) : Ask :=
  match markedAt pass c.pos1 with
  | some (p, m) => .unload p .one (m == .spoiled)
  | none =>
    match markedAt pass c.pos2 with
    | some (p, m) => .unload p .two (m == .spoiled)
    | none => .none

/-- Entry to READY: the idle timer starts and the unit asks for LOAD at position 1 with any class (R159). -/
def enterReady (s : State) : State :=
  { s with
    chamber.state := .ready, chamber.idle := some (s.now + 900000), chamber.ask := .load .one none }

/-- With no chamber move current, the unit asks for the next UNLOAD in UNLOADING and FAULTED; a batch unloaded
gives READY in UNLOADING (R166), and DARK in FAULTED once a reset is accepted (R168). The batch class stays until the
last UNLOAD has ended, as R166 and R168 say, though R154 has it absent once the batch has no plate and no LOAD is
current; in FAULTED it goes then even with no reset accepted (the model's choice, log entry 52). -/
def unloadNext (s : State) : State :=
  let c := s.chamber
  if chamberMove s then s
  else
    match c.state with
    | .unloading =>
      if batchEmpty c then enterReady { s with chamber.batchClass := none }
      else { s with chamber.ask := unloadAsk (fun m => m == .finished) c }
    | .faulted =>
      if batchEmpty c then
        if c.resetAccepted then
          { s with chamber := { c with
              batchClass := none, resetAccepted := false, ask := .none, state := .dark } }
        else { s with chamber := { c with batchClass := none, ask := .none } }
      else { s with chamber.ask := unloadAsk (fun m => m == .finished || c.resetAccepted) c }
    | .dark | .igniting | .stabilizing | .ready | .loading | .exposing | .suspended => s

/-- The end of a batch with its verdict (R164). -/
def endBatch (v : Verdict) (s : State) : State :=
  let c := s.chamber
  let a := reportedDose c.accA
  let u := reportedDose c.accC
  let t := finishOccupant c.pos2 a u v (finishOccupant c.pos1 a u v s)
  unloadNext { t with chamber := { c with
    state := .unloading, openA := false, openC := false, openDeadline := none, openStanding := none
    pos1 := markOccupant .finished c.pos1, pos2 := markOccupant .finished c.pos2 } }

/-- Entry to EXPOSING: the shutters of the groups not on target open and the open-shutter timer runs on; a
batch with both groups on target ends at once (R162, R165). -/
def enterExposing (s : State) : State :=
  let c := s.chamber
  let t := { s with chamber := { c with
    state := .exposing, openA := !c.onA, openC := !c.onC
    openDeadline := some (s.now + c.openStanding.getD 0), openStanding := none } }
  if c.onA && c.onC then endBatch .inTol t else t

/-- Start the exposure of the batch, suspended at once if the line is SAFE or the door is open (R162). -/
def startExposure (s : State) : State :=
  let g := groupTargets s.chamber
  let t := { s with chamber := { s.chamber with
    accA := 0, accC := 0, onA := g.1 == 0, onC := g.2 == 0, openA := false, openC := false
    ask := .none, second := none, openDeadline := none, openStanding := some 1800000 } }
  if isSafe s || !s.chamber.doorClosed then { t with chamber.state := .suspended } else enterExposing t

/-- Suspend an exposing batch: shutters closed, the open-shutter timer stands (R165). -/
def suspendBatch (s : State) : State :=
  let c := s.chamber
  if c.state = .exposing then
    { s with chamber := { c with
      state := .suspended, openA := false, openC := false
      openDeadline := none, openStanding := c.openDeadline.map fun d => d - s.now } }
  else s

/-- Resume a suspended batch once the door is closed and the line is not SAFE (R165). -/
def resumeBatch (s : State) : State :=
  if s.chamber.state = .suspended ∧ s.chamber.doorClosed = true ∧ isSafe s = false then enterExposing s else s

/-- The occupant of a position at the chamber's fault: an undecided plate is spoiled, with the doses of the
accumulators (0 where its exposure had not started) and the verdict INCOMPLETE (R167). -/
def spoilOccupant (o : Option (PlateId × Mark)) (uva uvc : Nat) (s : State) : State :=
  match o with
  | some (p, .undecided) => finishPlate p uva uvc .incomplete s
  | some (_, .finished) => s
  | some (_, .spoiled) => s
  | none => s

/-- The marking of an occupant after the chamber's fault. -/
def spoilMark (o : Option (PlateId × Mark)) : Option (PlateId × Mark) :=
  o.map fun x => (x.1, if x.2 = .undecided then .spoiled else x.2)

/-- The exposure of the batch has started. -/
def exposureStarted (c : Chamber) : Bool := c.state == .exposing || c.state == .suspended

/-- Entry of the chamber to FAULTED (R167), with no CHAMBER_RESET taken yet (R168). -/
def chamberFault (s : State) : State :=
  let c := s.chamber
  let a := if exposureStarted c then reportedDose c.accA else 0
  let u := if exposureStarted c then reportedDose c.accC else 0
  let t := spoilOccupant c.pos2 a u (spoilOccupant c.pos1 a u s)
  unloadNext (latch .handling { t with chamber := { stopChamberTimers c with
    state := .faulted, igniteOrder := none, openA := false, openC := false, resetAccepted := false
    ask := match c.ask with | .load _ _ => .none | .unload p q m => .unload p q m | .none => .none
    pos1 := spoilMark c.pos1, pos2 := spoilMark c.pos2 } })

/-! ## Drawers and the dry list -/

/-- A plate of the dry list is eligible for LOAD with a class required, or any (R143). -/
def eligible (s : State) (cls : Option (Nat × Nat)) (p : PlateId) : Bool :=
  match plateOf s p with
  | none => false
  | some r =>
    match r.drawerSlot with
    | none => false
    | some (d, _) =>
      let w := s.drying.drawers[d]
      (w.service == .inService || w.service == .heatFault) && w.doorClosed &&
        (cls.isNone || cls == some (r.uvaFinish, r.uvcFinish))

/-- The plate that LOAD would take: the eligible plate nearest the front of the dry list (R143). -/
def loadCandidate (s : State) (cls : Option (Nat × Nat)) : Option PlateId :=
  s.drying.dryList.find? fun p => eligible s cls p

/-- The lowest-numbered free slot of a drawer. -/
def freeSlot (w : Drawer) : Option (Fin 4) := drawerSlotIds.find? fun m => w.slots[m].isNone

/-- A drawer offers a slot for STORE: IN_SERVICE with its door closed and a free slot (R141). -/
def storeSlot (s : State) (d : Fin 6) : Option (Fin 6 × Fin 4) :=
  let w := s.drying.drawers[d]
  if w.service == .inService && w.doorClosed then (freeSlot w).map fun m => (d, m) else none

/-- The destination of a STORE: the lowest free slot of the lowest drawer that offers one (R141). -/
def storeDest (s : State) : Option (Fin 6 × Fin 4) := drawerIds.findSome? fun d => storeSlot s d

/-- Set what a drawer slot holds. -/
def putDrawerSlot (d : Fin 6) (m : Fin 4) (p : Option PlateId) (s : State) : State :=
  let w := s.drying.drawers[d]
  { s with drying.drawers := s.drying.drawers.set d { w with slots := w.slots.set m p } }

/-! ## Requests and the grant -/

/-- A plate boards the shuttle under a new order number (R144 steps 2, 4 and 5). -/
def board (kind : MoveKind) (p : PlateId) (src dst : Place) (spoiled : Bool) (s : State) : State :=
  let t := setStage p .inShuttle s
  let n := nextOrder t .shuttle
  { takeOrder .shuttle t with
    shuttle.move := some { kind := kind, plate := p, source := src, dest := dst, order := n, spoiled := spoiled }
    shuttle.timer := some (t.now + 90000)
    shuttle.state := .moving }

/-- The dry time achieved, s (R144 step 3). -/
def dryAchieved (r : Plate) : Nat := (r.dryTime * 60000 - r.dryRemaining) / 1000

/-- STORE, where it stands: the rack head is a plate and a slot is offered (R141, R144). -/
def grantStore (s : State) : Option State :=
  match s.drying.rack with
  | .plate p :: rest =>
    (storeDest s).map fun dm =>
      board .store p .rack (.slot dm.1 dm.2) false { s with drying.rack := rest }
  | .stray :: _ => none
  | [] => none

/-- A plate leaves its chamber position. -/
def clearPos (pos : ChamberPos) (c : Chamber) : Chamber :=
  match pos with
  | .one => { c with pos1 := none }
  | .two => { c with pos2 := none }

/-- UNLOAD, where it stands: the chamber unit asks for it and the output stack is not full (R142, R144). -/
def grantUnload (s : State) : Option State :=
  match s.chamber.ask with
  | .unload p pos spoiled =>
    if s.shuttle.stackFull then none
    else some (board .unload p (.chamber pos) .output spoiled
      { s with chamber := { clearPos pos s.chamber with ask := .none } })
  | .load _ _ => none
  | .none => none

/-- What the chamber unit does at the grant of its LOAD (R159, R160). -/
def loadGranted (pos : ChamberPos) (p : PlateId) (s : State) : State :=
  match pos with
  | .one =>
    { s with
      chamber.state := .loading, chamber.idle := none, chamber.ask := .none
      chamber.batchClass := finishClass s p }
  | .two => { s with chamber.second := none, chamber.ask := .none }

/-- What the drying and admission units do when a LOAD takes a plate: it leaves its slot and the dry list,
its commitment is given back, and it gets its dry time achieved (R144 steps 1 and 3). -/
def takeFromDrawer (p : PlateId) (r : Plate) (d : Fin 6) (m : Fin 4) (s : State) : State :=
  let s1 := putDrawerSlot d m none s
  let s2 := giveBackPlace { s1 with drying.dryList := s1.drying.dryList.erase p }
  putSlotNat p oDryTime (dryAchieved r)
    (putPlate p (some { r with dryAchieved := some (dryAchieved r) }) s2)

/-- LOAD, where it stands: the chamber unit asks for it and an eligible plate exists (R143, R144). -/
def grantLoad (s : State) : Option State :=
  match s.chamber.ask with
  | .load pos cls =>
    match loadCandidate s cls with
    | none => none
    | some p =>
      match plateOf s p with
      | none => none
      | some r =>
        match r.drawerSlot with
        | none => none
        | some (d, m) =>
          some (board .load p (.slot d m) (.chamber pos) false
            (loadGranted pos p (takeFromDrawer p r d m s)))
  | .unload _ _ _ => none
  | .none => none

/-- The grant: a READY shuttle goes to STORE, then UNLOAD, then LOAD (R144). -/
def grant (s : State) : State :=
  if s.shuttle.state = .ready then
    match grantStore s with
    | some t => t
    | none =>
      match grantUnload s with
      | some t => t
      | none =>
        match grantLoad s with
        | some t => t
        | none => s
  else s

/-- The second ask of a batch is withdrawn when no eligible plate of the class is left (R160). -/
def withdrawSecondAsk (s : State) : State :=
  match s.chamber.state, s.chamber.ask with
  | .loading, .load .two cls => if (loadCandidate s cls).isNone then startExposure s else s
  | _, _ => s

/-- A DARK chamber lights its tubes when the finisher node is PRESENT and a plate is eligible (R157). -/
def lightTubes (s : State) : State :=
  if s.chamber.state = .dark ∧ isPresent s .finisher = true ∧ (loadCandidate s none).isSome = true then
    let n := nextOrder s .finisher
    { takeOrder .finisher s with
      chamber.state := .igniting, chamber.igniteOrder := some n, chamber.ignition := some (s.now + 300000) }
  else s

/-- The tests that the chamber unit and the arbiter make in every event that can change their inputs
(R144, R157, R160; log entry 21). -/
def handlingTests (s : State) : State := grant (lightTubes (withdrawSecondAsk s))

/-! ## The shuttle -/

/-- The shuttle is able (R139). -/
def shuttleAble (s : State) : Bool :=
  isPresent s .shuttle && s.shuttle.ready && !s.shuttle.fault && !isSafe s

/-- The change between STOPPED and READY (R140). -/
def evalShuttle (s : State) : State :=
  match s.shuttle.state with
  | .stopped => if shuttleAble s then { s with shuttle.state := .ready } else s
  | .ready => if shuttleAble s then s else { s with shuttle.state := .stopped }
  | .moving => s
  | .faulted => s

/-- A plate enters a chamber position with a marking. -/
def enterPos (pos : ChamberPos) (p : PlateId) (m : Mark) (c : Chamber) : Chamber :=
  match pos with
  | .one => { c with pos1 := some (p, m) }
  | .two => { c with pos2 := some (p, m) }

/-- What the chamber unit does at the completion of a LOAD (R160); in FAULTED the plate joins spoiled (R167). -/
def loadCompleted (pos : ChamberPos) (p : PlateId) (s : State) : State :=
  let t := setStage p .inChamber s
  if t.chamber.state = .faulted then
    unloadNext (finishPlate p 0 0 .incomplete { t with chamber := enterPos pos p .spoiled t.chamber })
  else
    let u := { t with chamber := enterPos pos p .undecided t.chamber }
    match pos with
    | .one =>
      if (loadCandidate u u.chamber.batchClass).isSome then
        { u with chamber.ask := .load .two u.chamber.batchClass, chamber.second := some (u.now + 60000) }
      else startExposure u
    | .two => startExposure u

/-- What the chamber unit does at the failure of a LOAD (R161, R167). -/
def loadFailed (pos : ChamberPos) (s : State) : State :=
  if s.chamber.state = .faulted then unloadNext s
  else
    match pos with
    | .one => enterReady { s with chamber.batchClass := none }
    | .two => startExposure s

/-- The chamber position that a move's end names; position 1 for a place outside the chamber. -/
def placePos : Place → ChamberPos
  | .chamber pos => pos
  | .rack => .one
  | .slot _ _ => .one
  | .output => .one

/-- A stored plate takes its drawer slot (R147, STORE). -/
def storeCompleted (p : PlateId) (dest : Place) (s : State) : State :=
  match dest with
  | .slot d m =>
    setStage p .drying (putSlot p oDrawer (wordOfBytes (d.val + 1) (m.val + 1))
      (modPlate p (fun r => { r with drawerSlot := some (d, m) }) (putDrawerSlot d m (some p) s)))
  | .rack => s
  | .chamber _ => s
  | .output => s

/-- Completion of the current move (R147). -/
def completeMove (m : Move) (s : State) : State :=
  let t := { s with shuttle.move := none, shuttle.timer := none }
  let u :=
    match m.kind with
    | .store => storeCompleted m.plate m.dest t
    | .load => loadCompleted (placePos m.dest) m.plate t
    | .unload => unloadNext (endPlate m.plate m.spoiled t)
  { u with shuttle.state := if shuttleAble u then .ready else .stopped }

/-- Failure of the current move (R148). -/
def failMove (m : Move) (s : State) : State :=
  let t := endPlate m.plate true { s with shuttle.move := none, shuttle.timer := none }
  let u :=
    match m.kind with
    | .store => giveBackPlace t
    | .load => loadFailed (placePos m.dest) t
    | .unload => unloadNext t
  latch .handling { u with shuttle.state := .faulted }

/-- Fail the current move, if there is one (R148). -/
def failCurrentMove (s : State) : State :=
  match s.shuttle.move with
  | none => s
  | some m => failMove m s

/-- Test a response against the current move (R146 step 3). -/
def testMove (echo : Nat) (result : OrderResult) (s : State) : State :=
  match s.shuttle.move with
  | none => s
  | some m =>
    if echo = m.order then
      match result with
      | .done => completeMove m s
      | .failed => failMove m s
      | .none => s
    else s

/-- The end of a shuttle reset: a response to a visit that carried RESET shows ready without fault (R150). -/
def endShuttleReset (carriedReset ready fault : Bool) (s : State) : State :=
  if s.shuttle.state = .faulted ∧ s.shuttle.resetRequested = true ∧ (carriedReset && ready && !fault) = true then
    { s with shuttle.state := .ready, shuttle.resetRequested := false }
  else s

/-- The latest report of the shuttle node (R146 step 1). -/
def recordShuttle (ready fault : Bool) (result : OrderResult) (d : Vector Byte 6) (s : State) : State :=
  { s with
    shuttle.ready := ready, shuttle.fault := fault, shuttle.result := result
    shuttle.position := d[0].toNat, shuttle.stackFull := flagByte s.freeCount 0 d[1]
    shuttle.echo := d[5].toNat }

/-- UNLOAD is re-evaluated where the output stack full indication has changed: one that comes to stand while the
shuttle is READY is granted (R144, R146 step 2). -/
def testUnload (before : Bool) (s : State) : State := if s.shuttle.stackFull = before then s else grant s

/-- Take a good response of the shuttle node, in the order of R146: the report, UNLOAD, the current move, the
state of the shuttle. -/
def takeShuttleReport (carriedReset ready fault : Bool) (result : OrderResult) (d : Vector Byte 6)
    (s : State) : State :=
  let t := testUnload s.shuttle.stackFull (recordShuttle ready fault result d s)
  handlingTests (endShuttleReset carriedReset ready fault (evalShuttle (testMove d[5].toNat result t)))

/-! ## Drawer reports -/

/-- The service state of a drawer whose node is PRESENT, or not (R134). -/
def serviceOf (present heaterFault : Bool) : Service :=
  if present then (if heaterFault then .heatFault else .inService) else .outOfService

/-- Set a drawer record. -/
def putDrawer (d : Fin 6) (w : Drawer) (s : State) : State :=
  { s with drying.drawers := s.drying.drawers.set d w }

/-- A drawer's node has changed state (R134). -/
def drawerNodeChanged (d : Fin 6) (s : State) : State :=
  let w := s.drying.drawers[d]
  let present := isPresent s (.drawer d)
  putDrawer d { w with
    service := serviceOf present w.heaterFault, lastGood := if present then w.lastGood else none } s

/-- A reported temperature qualifies (R132). -/
def qualifies (s : State) (temp : Int) : Bool :=
  decide ((s.drying.setpoint : Int) - (s.drying.band : Int) ≤ temp)

/-- The time that a drawer response credits, ms (R136). -/
def dryDelta (now : Nat) (lastGood : Option Nat) : Nat :=
  match lastGood with
  | none => 0
  | some t => min 1000 (now - t)

/-- A resident in DRYING dries by Δ; at 0 it gets its DRY order, joins the dry list and becomes DRY (R136,
R137). -/
def dryResident (delta : Nat) (p : PlateId) (s : State) : State :=
  match plateOf s p with
  | none => s
  | some r =>
    if r.stage = .drying then
      let left := r.dryRemaining - delta
      if left = 0 then
        let n := next32 s.drying.dryOrder
        setStage p .dry
          { putPlate p (some { r with dryRemaining := 0, dryOrder := some n }) s with
            drying.dryOrder := n, drying.dryList := s.drying.dryList ++ [p] }
      else putPlate p (some { r with dryRemaining := left }) s
    else s

/-- The dry clock step of a drawer, its residents in slot order (R136, R137). -/
def dryClockStep (d : Fin 6) (delta : Nat) (s : State) : State :=
  drawerSlotIds.foldl (fun t m =>
    match s.drying.drawers[d].slots[m] with
    | none => t
    | some p => dryResident delta p t) s

/-- Take a good response of a drawer node (R133). -/
def takeDrawerReport (d : Fin 6) (b : Vector Byte 6) (s : State) : State :=
  let w := s.drying.drawers[d]
  let temp := signedOf (wordOfLowHigh b[0] b[1])
  let door := flagByte s.freeCount 1 b[2]
  let heater := flagByte s.freeCount 2 b[3]
  let s1 := putDrawer d { w with
    temp := temp, doorClosed := door, heaterFault := heater
    service := serviceOf (isPresent s (.drawer d)) heater } s
  let s2 := if qualifies s temp && door then dryClockStep d (dryDelta s.now w.lastGood) s1 else s1
  handlingTests (putDrawer d { s2.drying.drawers[d] with lastGood := some s.now } s2)

/-! ## Finisher reports -/

/-- Credit one open group: the accumulator, and whether it is now on target (R163). -/
def creditGroup (acc e dt target : Nat) : Nat × Bool :=
  let a := satAdd top32 acc (e * dt)
  (a, decide (target * 1000 ≤ a))

/-- Credit the open groups in EXPOSING; with both on target the batch ends IN_TOL (R163). -/
def creditGroups (dt : Nat) (s : State) : State :=
  let c := s.chamber
  if c.state = .exposing then
    let g := groupTargets c
    let a := creditGroup c.accA c.eUva dt g.1
    let u := creditGroup c.accC c.eUvc dt g.2
    let c1 := if c.openA then { c with accA := a.1, onA := c.onA || a.2, openA := !a.2 } else c
    let c2 := if c.openC then { c1 with accC := u.1, onC := c.onC || u.2, openC := !u.2 } else c1
    let t := { s with chamber := c2 }
    if c2.onA && c2.onC then endBatch .inTol t else t
  else s

/-- Test the tube states of a response (R158, R167). -/
def testTubes (s : State) : State :=
  let c := s.chamber
  match c.state with
  | .igniting =>
    if c.igniteOrder = some c.echo then
      if c.tubeA = .lit ∧ c.tubeC = .lit then
        { s with chamber := { c with
          state := .stabilizing, ignition := none, igniteOrder := none
          stabilizing := some (s.now + 120000) } }
      else if c.tubeA = .failed ∨ c.tubeC = .failed then chamberFault s
      else s
    else s
  | .dark => s
  | .faulted => s
  | .stabilizing | .ready | .loading | .exposing | .suspended | .unloading =>
    if c.tubeA = .lit ∧ c.tubeC = .lit then s else chamberFault s

/-- Test the door of a response (R165). -/
def testDoor (s : State) : State :=
  if s.chamber.doorClosed then resumeBatch s else suspendBatch s

/-- The interval of a finisher response, clamped to 1 to 100; 1 where there was none before (R156). -/
def finisherDt (now : Nat) (lastGood : Option Nat) : Nat :=
  match lastGood with
  | none => 1
  | some t => clampNat 1 100 (now - t)

/-- Take a good response of the finisher node (R156). -/
def takeFinisherReport (d : Vector Byte 6) (s : State) : State :=
  let code := d[4].toNat
  let t := { s with chamber := { s.chamber with
    eUva := min 10000 (wordOfLowHigh d[0] d[1]).toNat
    eUvc := min 10000 (wordOfLowHigh d[2] d[3]).toNat
    tubeA := tubeOfCode (code % 4), tubeC := tubeOfCode (code / 4 % 4), doorClosed := code / 16 % 2 == 1
    echo := d[5].toNat, lastGood := some s.now } }
  handlingTests (testDoor (testTubes (creditGroups (finisherDt s.now s.chamber.lastGood) t)))

end Sys2Proof.Machine
end

