-- ==== Sys2Proof/Machine/LinkScan.lean ====
section
/-! DEFINITION. The scan of the line link: the assignment in force, passes and scan modes (R172 to R174), and
what the owner of a station does when its node leaves PRESENT without being lost. -/

namespace Sys2Proof.Machine

/-- The station that a node number serves by the live last node and assignment: the lowest of several nodes
of one kind serves it (R172). -/
def assignedStation (lastNode : Nat) (assign : Vector Station 15) (n : Fin 15) : Station :=
  if lastNode < n.val + 1 then .none
  else if nodeIds.any (fun m => decide (m.val < n.val) && decide (assign[m] = assign[n])) then .none
  else assign[n]

/-- A node's record at the start of a pass, by the assignment that takes effect (R172). -/
def reassigned (st : Station) (r : NodeRec) : NodeRec :=
  if r.station = st then r
  else if st = .none then { r with station := .none, state := .notScanned }
  else { r with station := st, state := .unseen, miss := 0, check := 0, seq := 0, issued := none }

/-- The owner of a station is told that its node has left PRESENT without being LOST (R65, R134, R140,
R172). -/
def toldLeft (st : Station) (s : State) : State :=
  match st with
  | .drive => takeDriveReport false false s
  | .wash => s
  | .shuttle => evalShuttle s
  | .finisher => s
  | .drawer d => drawerNodeChanged d s
  | .none => s

/-- A change of the last node or the assignment takes effect (R172). -/
def takeAssignment (s : State) : State :=
  let st (n : Fin 15) : Station := assignedStation s.link.lastNode s.link.assign n
  let t := { s with link.nodes := Vector.ofFn fun n : Fin 15 => reassigned (st n) s.link.nodes[n] }
  let u := nodeIds.foldl (fun (u : State) (n : Fin 15) =>
    let r : NodeRec := s.link.nodes[n]
    if r.state = .present ∧ r.station ≠ st n then toldLeft r.station u else u) t
  handlingTests u

/-- The first visited node number above k (R173). -/
def nextVisited (s : State) (k : Nat) : Option (Fin 15) :=
  nodeIds.find? fun n => decide (k < n.val + 1) && decide (s.link.nodes[n].station ≠ .none)

/-- A pass starts: the assignment takes effect, the pass timer starts, and the first visit is next. A pass
with no visited node ends at once (R172, R173). -/
def startPass (s : State) : State :=
  let t := takeAssignment s
  let u := { t with link := { t.link with
    passTimer := some (t.now + 20), further := false, revisit := none, phase := .guard 0 } }
  if (nextVisited u 0).isSome then u
  else
    match u.link.mode with
    | .single => { u with link := { u.link with mode := .stopped, phase := .between, passTimer := none } }
    | .continuous => { u with link := { u.link with phase := .between } }
    | .stopped => { u with link := { u.link with phase := .between } }

/-- A further pass is to follow the present one: in CONTINUOUS, and in SINGLE while its further full pass is
still to start (R173, R174). -/
def passFollows (l : Link) : Bool :=
  match l.mode with
  | .continuous => true
  | .single => l.further
  | .stopped => false

/-- A pass ends: a following pass starts now if its pass timer has expired, and at the expiry otherwise;
with none to follow the scan is STOPPED (R173, R174). R173 gives the pass timer's part for CONTINUOUS alone; the
further pass of a LINK_SINGLE taken in CONTINUOUS waits for it too (the model's choice, log entry 48). -/
def endPass (s : State) : State :=
  if passFollows s.link then
    match s.link.passTimer with
    | none => startPass s
    | some _ => { s with link.phase := .between }
  else { s with link := { s.link with mode := .stopped, phase := .between, passTimer := none } }

/-- LINK_CONTINUOUS, a START taken in IDLE, or an entry to SAFE (R174). -/
def linkContinuous (s : State) : State :=
  match s.link.mode with
  | .continuous => s
  | .single => { s with link := { s.link with mode := .continuous, further := false } }
  | .stopped => startPass { s with link.mode := .continuous }

/-- LINK_SINGLE, taken in IDLE or HALTED (R174). -/
def linkSingle (s : State) : State :=
  match s.link.mode with
  | .continuous => { s with link := { s.link with mode := .single, further := true } }
  | .single => s
  | .stopped => startPass { s with link.mode := .single }

end Sys2Proof.Machine
end

