-- ==== Sys2Proof/Machine/Line.lean ====
section
/-! DEFINITION. The line supervisor: entry to IDLE (R26), HALTED (R28) and SAFE (R29), the halt causes (R27). -/

namespace Sys2Proof.Machine

/-- The current epoch ends and the belt speed demand becomes 0 (R26, R28, R38). -/
def endEpoch (s : State) : State := giveDemand 0 { s with admission.epochCurrent := false }

/-- Change the line state; the banks take it up (R69). -/
def setLine (l : LineState) (s : State) : State := syncBanks { s with supervisor.line := l }

/-- Entry to IDLE from DRAINING (R26). -/
def drainedToIdle (s : State) : State := setLine .idle (endEpoch s)

/-- The event that empties the belt train while the line is DRAINING makes it IDLE (R26). -/
def idleIfDrained (s : State) : State :=
  if s.supervisor.line = .draining ∧ s.tracker.train = [] then drainedToIdle s else s

/-- Close the GATE output and cancel the misfeed timer. -/
def closeGate (s : State) : State :=
  { s with admission.gateOpen := false, admission.misfeedTimer := none }

/-- Every plate of the belt train is spoiled, in train order (R28 step 2). -/
def spoilTrain (s : State) : State := s.tracker.train.foldl (fun t p => spoilFromTrain p t) s

/-- The one event of entry to HALTED, or to SAFE from a state that is not HALTED (R28, R29): gate, train,
epoch, banks, cause, line state. -/
def stopLine (cause : HaltCause) (attn : Attn) (l : LineState) (s : State) : State :=
  let t := forceBanks (endEpoch (spoilTrain (closeGate s)))
  setLine l (latch attn { t with supervisor.cause := cause })

/-- Raise a halt cause: in IDLE, RUNNING or DRAINING the line becomes HALTED (R27). -/
def raiseHalt (cause : HaltCause) (s : State) : State :=
  match s.supervisor.line with
  | .idle | .running | .draining => stopLine cause .halt .halted s
  | .halted | .safe => s

/-- What entry to SAFE does to the shuttle (R149). -/
def safeShuttle (s : State) : State :=
  match s.shuttle.state with
  | .ready => { s with shuttle.state := .stopped }
  | .faulted => { s with shuttle.resetRequested := false }
  | .stopped => s
  | .moving => s

/-- What every entry to SAFE also does: LINE_SAFE# asserted, the replenish order cancelled, the chamber
suspended, the shuttle stopped, the scan CONTINUOUS (R29, R126, R149, R165, R174, R202). -/
def safeStations (s : State) : State :=
  linkContinuous (safeShuttle (suspendBatch (cancelReplenish { s with safety.lineSafe := true })))

/-- Entry to SAFE with a cause; in SAFE nothing changes (R29). -/
def enterSafe (cause : HaltCause) (s : State) : State :=
  match s.supervisor.line with
  | .idle | .running | .draining => safeStations (stopLine cause .safe .safe s)
  | .halted => safeStations (setLine .safe (latch .safe { s with supervisor.cause := cause }))
  | .safe => s

/-- Write the outcome of a line command (R23). -/
def setOutcome (o : CmdOutcome) (s : State) : State := { s with supervisor.outcome := o }

/-- DRAIN taken in RUNNING, or a heartbeat lapse in RUNNING (R25). -/
def startDraining (s : State) : State := idleIfDrained (setLine .draining s)

end Sys2Proof.Machine
end

