-- ==== Sys2Proof/Machine/Admit.lean ====
section
/-! DEFINITION. The admission unit: the queue (R33, R34), the hold reason (R36), epochs (R37, R38), the gap
(R39), release (R41), misfeed (R43), and the evaluation of a position sample (R35). -/

namespace Sys2Proof.Machine

/-! ## The queue -/

/-- The plate is a RUSH plate. -/
def isRush (s : State) (p : PlateId) : Bool :=
  match plateOf s p with
  | none => false
  | some r => r.rush

/-- Behind the last RUSH entry, or at the head when there is none (R33). -/
def insertBehindRush (s : State) (p : PlateId) (q : List PlateId) : List PlateId :=
  q.takeWhile (isRush s) ++ p :: q.dropWhile (isRush s)

/-- The queue changes: the queue count and the queue-low state follow (R34). -/
def setQueue (q : List PlateId) (s : State) : State := evalQueueLow { s with admission.queue := q }

/-- An accepted plate joins the queue (R10, R33). -/
def joinQueue (p : PlateId) (s : State) : State :=
  setQueue (if isRush s p then insertBehindRush s p s.admission.queue else s.admission.queue ++ [p]) s

/-- A misfed plate joins the queue at the front of its class (R33). -/
def rejoinQueue (p : PlateId) (s : State) : State :=
  setQueue (if isRush s p then p :: s.admission.queue else insertBehindRush s p s.admission.queue) s

/-- Show the head hold reason in the slot of a QUEUED plate (R36). -/
def showHold (p : PlateId) (s : State) : State := putSlotNat p oHold (holdCode s.admission.holdReason) s

/-- Give the head hold reason: a change latches HOLD and is shown in every QUEUED slot (R36). -/
def setHold (h : HoldReason) (s : State) : State :=
  if h = s.admission.holdReason then s
  else
    latch .hold (s.admission.queue.foldl (fun t p => showHold p t) { s with admission.holdReason := h })

/-- The reason of a queue that holds no head is NONE (R36). -/
def holdIfEmpty (s : State) : State := if s.admission.queue = [] then setHold .none s else s

/-! ## Epochs (R37, R38) -/

/-- An effective speed matches the current epoch (R38). -/
def matchesEpoch (eff epochSpeed : Nat) : Bool := decide (1000 * natDist eff epochSpeed ≤ 20 * epochSpeed)

/-- The effective speed of a queued plate at this moment (R35). -/
def headSpeed (s : State) (p : PlateId) : Nat :=
  match plateOf s p with
  | none => effectiveSpeed s 0
  | some r => effectiveSpeed s r.speed

/-- An epoch is current and the head matches it (R35 condition 6). -/
def epochFits (s : State) (p : PlateId) : Bool :=
  s.admission.epochCurrent && matchesEpoch (headSpeed s p) s.admission.epochSpeed

/-- Begin a new epoch with the head's effective speed (R37). -/
def beginEpoch (v : Nat) (s : State) : State :=
  giveDemand v { s with
    admission.epochNo := (s.admission.epochNo + 1) % 65536
    admission.epochSpeed := v, admission.epochCurrent := true }

/-- The epoch rules of an evaluation (R37). -/
def epochRules (s : State) : State :=
  match s.admission.queue with
  | [] => s
  | p :: _ =>
    if s.supervisor.line = .running ∧ s.tracker.train = [] ∧ epochFits s p = false
    then beginEpoch (headSpeed s p) s else s

/-! ## The gap (R39) -/

/-- The gap required behind a plate, mm: the large gap if any setpoint differs. -/
def requiredGap (s : State) (head last : Option (PerBank Nat)) : Nat :=
  if head = last then s.admission.smallGap else s.admission.largeGap

/-- The setpoints of the head at the epoch speed. -/
def headSetpoints (s : State) (p : PlateId) : Option (PerBank Nat) :=
  (plateOf s p).map fun r => plateSetpoints s r s.admission.epochSpeed

/-- The gap condition for the queue head (R39). -/
def gapHolds (s : State) (p : PlateId) : Bool :=
  match s.tracker.train.getLast? with
  | none => true
  | some q =>
    match plateOf s q with
    | none => false
    | some r =>
      match r.measured, headTravel s r with
      | some m, some h =>
        decide (((requiredGap s (headSetpoints s p) r.setpoints * 1000 : Nat) : Int) ≤ (h : Int) - ((m * 1000 : Nat) : Int))
      | _, _ => false

/-! ## The release conditions (R35) -/

/-- The hold reason of the first release condition that fails, or none (R35). -/
def holdReasonFor (s : State) (p : PlateId) : Option HoldReason :=
  if s.safety.coverClosed = false then some .coverOpen
  else if s.supervisor.line ≠ .running then some .lineNotRunning
  else if s.wash.hold = true then some .solventSpent
  else if s.shuttle.state = .faulted then some .shuttleFault
  else if placesInService s ≤ s.admission.commitments then some .noPlace
  else if epochFits s p = false then some .epochChange
  else if s.transport.beltState ≠ .settled then some .beltNotSettled
  else if s.pins.plateReady = false ∨ s.admission.misfeedHold = true then some .infeedEmpty
  else if gapHolds s p = false then some .waitGap
  else none

/-- Release of the queue head (R41), after which the reason is NONE (R36). -/
def release (p : PlateId) (s : State) : State :=
  let s1 := setQueue (s.admission.queue.erase p) s
  let s2 := modPlate p (fun r => { r with
    epoch := some s.admission.epochNo, epochSpeed := some s.admission.epochSpeed
    setpoints := some (plateSetpoints s r s.admission.epochSpeed) }) s1
  let s3 := setStage p .releasing { s2 with tracker.train := s2.tracker.train ++ [p] }
  let s4 := { s3 with
    admission.commitments := s3.admission.commitments + 1
    admission.gateOpen := true, admission.misfeedTimer := some (s3.now + 5000) }
  let s5 := putSlotNat p oHold 0 (putSlotNat p oSpeedUsed s.admission.epochSpeed
    (putSlotNat p oEpoch s.admission.epochNo s4))
  setHold .none (setSlotState p .active s5)

/-- The two steps in which evaluations clear the misfeed hold (R43): one that reads PLATE_READY absent arms
the release, a later one that reads it present clears the hold. Every evaluation takes them (log entry 26). -/
def misfeedSteps (s : State) : State :=
  if s.admission.misfeedHold then
    if s.pins.plateReady then
      if s.admission.misfeedArmed then
        { s with admission.misfeedHold := false, admission.misfeedArmed := false }
      else s
    else { s with admission.misfeedArmed := true }
  else s

/-- The evaluation of the queue head at a position sample (R35). Neither R35 nor R43 places the steps of the misfeed
hold among the epoch rules and the tests: the model takes them first, so that condition 8 of the evaluation that clears
the hold reads it clear already (the model's choice, log entry 53). -/
def evaluate (s : State) : State :=
  let t := epochRules (misfeedSteps s)
  match t.admission.queue with
  | [] => setHold .none t
  | p :: _ =>
    match holdReasonFor t p with
    | some h => setHold h t
    | none => release p t

/-! ## Misfeed (R43) -/

/-- The RELEASING plate of the belt train. -/
def releasingPlate (s : State) : Option PlateId :=
  s.tracker.train.find? fun p =>
    match plateOf s p with
    | none => false
    | some r => r.stage == .releasing

/-- A plate returns to the queue after a misfeed (R15, R43). -/
def misfeedReturn (p : PlateId) (s : State) : State :=
  let s1 := rejoinQueue p (departTrain p (closeGate s))
  let s2 := setStage p .queued (modPlate p (fun r => { r with
    epoch := none, epochSpeed := none, setpoints := none }) s1)
  let s3 := giveBackPlace { s2 with admission.misfeedHold := true, admission.misfeedArmed := false }
  let s4 := putSlotNat p oSpeedUsed 0 (putSlotNat p oEpoch 0 s3)
  idleIfDrained (showHold p (setSlotState p .queued s4))

/-- Expiry of the misfeed timer: a misfeed while a plate is RELEASING (R43). -/
def misfeed (s : State) : State :=
  match releasingPlate s with
  | none => { s with admission.misfeedTimer := none }
  | some p => misfeedReturn p s

end Sys2Proof.Machine
end

