-- ==== Sys2Proof/Machine/Sample.lean ====
section
/-! DEFINITION. The transport unit's position samples (R52 to R62) and sensor edges (R56, R57), with what the
plate tracker does at each edge (R42, R44, R48 to R50). -/

namespace Sys2Proof.Machine

/-! ## The belt scale (R53) -/

/-- Step 1: D. -/
def scaleD (phi1 phi2 : Word) : Nat := (((phi1.toNat : Int) - (phi2.toNat : Int)) % 65536).toNat

/-- Step 2: the numerator. -/
def scaleNum (phi1 phi2 : Word) : Int := (scaleD phi1 phi2 : Int) * 4096 - (phi1.toNat : Int)

/-- Step 3: the period number before the modulo; a remainder of one half goes to the larger integer. -/
def scaleK (phi1 phi2 : Word) : Int := (scaleNum phi1 phi2 + 32768) / 65536

/-- Step 4: the residual. -/
def scaleResidual (phi1 phi2 : Word) : Int := scaleNum phi1 phi2 - scaleK phi1 phi2 * 65536

/-- Steps 5 and 6: the scale count x. -/
def scaleX (phi1 phi2 : Word) : Nat := (scaleK phi1 phi2 % 4096).toNat * 65536 + phi1.toNat

/-- Step 7: the position, µm. -/
def scalePosition (phi1 phi2 : Word) : Nat := scaleX phi1 phi2 * 3000 / 65536

/-- A sample with readings is good when the magnitude of its residual is 8192 or less (R54). -/
def scaleGood (phi1 phi2 : Word) : Bool := decide ((scaleResidual phi1 phi2).natAbs ≤ 8192)

/-! ## Speed estimate and timed conditions -/

/-- The speed history after a good sample (R58). -/
def historyAfter (h : List (Nat × Nat)) (pos now : Nat) : List (Nat × Nat) :=
  (h ++ [(pos, now)]).dropWhile fun x => decide (x.2 + 500 < now)

/-- The speed estimate from a history whose newest sample is given (R58). -/
def estimateAfter (h : List (Nat × Nat)) (pos now old : Nat) : Nat :=
  match h with
  | [] => old
  | (p0, t0) :: _ =>
    if now - t0 < 100 then old
    else if 6144000 < travelFrom p0 pos then 0
    else min 65535 (travelFrom p0 pos * 100 / (now - t0))

/-- The run of a timed condition after a good sample (R59). -/
def runAfter (now : Nat) (holds : Bool) (run : Option Nat) : Option Nat :=
  if holds then some (run.getD now) else none

/-- A run has held for n ms at the present sample (R59). -/
def runHeld (n now : Nat) (run : Option Nat) : Bool :=
  match run with
  | none => false
  | some t => decide (t + n ≤ now)

/-- The settling band (R60). -/
def settlingBand (t : Transport) : Bool :=
  decide (0 < t.demand) && decide (1000 * natDist t.estimate t.demand ≤ 10 * t.demand) &&
    t.driveReady && !t.driveFault

/-- The deviation band (R61). -/
def deviationBand (t : Transport) : Bool := decide (20 * t.demand < 1000 * natDist t.estimate t.demand)

/-- The stall condition (R62). -/
def stallCondition (t : Transport) : Bool := decide (0 < t.demand) && decide (t.estimate * 10 < t.demand)

/-- The settling band is tested in RAMPING and DEVIATING; held for 1000 ms it makes the belt SETTLED, and
SPEED is cleared (R60, R61). -/
def testSettle (now : Nat) (t : Transport) : Transport :=
  match t.beltState with
  | .ramping | .deviating =>
    let run := runAfter now (settlingBand t) t.settleRun
    if runHeld 1000 now run then setBeltState .settled { t with settleRun := run, speedFlag := false }
    else { t with settleRun := run }
  | .stopped | .settled => t

/-- The deviation band is tested in SETTLED; held for 1000 ms it makes the belt DEVIATING and sets SPEED
(R61). -/
def testDeviation (now : Nat) (t : Transport) : Transport :=
  match t.beltState with
  | .settled =>
    let run := runAfter now (deviationBand t) t.deviationRun
    if runHeld 1000 now run then setBeltState .deviating { t with deviationRun := run, speedFlag := true }
    else { t with deviationRun := run }
  | .stopped | .ramping | .deviating => t

/-- The stall condition is tested in RAMPING, SETTLED and DEVIATING (R62): the new run. -/
def stallRunAfter (now : Nat) (t : Transport) : Option Nat :=
  match t.beltState with
  | .stopped => none
  | .ramping | .settled | .deviating => runAfter now (stallCondition t) t.stallRun

/-- The timed conditions of a good sample, in the order settling, deviation, stall (log entry 22); SPEED
being set latches LAMP, and a stall held for 2000 ms closes its run and raises STALL. -/
def testConditions (s : State) : State :=
  let t := testDeviation s.now (testSettle s.now s.transport)
  let s1 := latchIf (t.speedFlag && !s.transport.speedFlag) .lamp { s with transport := t }
  let run := stallRunAfter s.now t
  if runHeld 2000 s.now run then raiseHalt .stall { s1 with transport.stallRun := none }
  else { s1 with transport.stallRun := run }

/-! ## Position samples -/

/-- A good sample settles the transport unit's own state (R54, R58, R59). -/
def goodSample (pos : Nat) (s : State) : State :=
  let h := historyAfter s.transport.history pos s.now
  testConditions { s with
    transport.position := some pos, transport.faults := 0, transport.history := h
    transport.estimate := estimateAfter h pos s.now s.transport.estimate }

/-- A vernier fault: the position stands, the fault is counted, and VERNIER is raised at a count of 5 or
more (R54). -/
def vernierFault (s : State) : State :=
  let n := satAdd 255 s.transport.faults 1
  let t := { s with transport.faults := n }
  if 5 ≤ n then raiseHalt .vernier t else t

/-- The MISSING test of the head plate of the train (R49). -/
def missingTest (s : State) : State :=
  match s.tracker.train with
  | [] => s
  | p :: _ =>
    match plateOf s p with
    | none => s
    | some r =>
      match headTravel s r with
      | none => s
      | some h =>
        if r.exitConfirmed = false ∧ 5730000 < h then idleIfDrained (spoilFromTrain p s) else s

/-- A sample is handed on, a faulted one too: MISSING, claims, closes, wash, admission (R55, R99; log entry 23).
R76 says that the sample after a head latch or a measured length tests with it, and that a faulted sample changes
no claim; where that sample is a faulted one the model makes the tests, so a claim can change at it (the model's
choice, log entry 23). -/
def handOn (s : State) : State := evaluate (washTests (closeTests (claimTests (missingTest s))))

/-- A good sample at which another demand came into force is the first sample of the new demand: the runs of
the conditions that hold there open with it (R59, and the row of 0 ms of the example of section 3.7; log entry
45). -/
def openRuns (before : Nat) (s : State) : State :=
  if s.transport.demand = before then s
  else { s with transport := { s.transport with
    settleRun := runAfter s.now (settlingBand s.transport) none
    stallRun := runAfter s.now (stallCondition s.transport) none } }

/-- A good sample settles the transport unit and is handed on; a demand that the admission unit gives in it is
tested at this sample (R55, R59, R62). -/
def takeGoodSample (pos : Nat) (s : State) : State :=
  let t := goodSample pos s
  openRuns t.transport.demand (handOn t)

/-- A position sample with its readings, or a silent one (R52 to R55); the watchdog restarts. -/
def positionSample (readings : Option (Word × Word)) (s : State) : State :=
  let t := { s with transport.watchdog := s.now + 10 }
  match readings with
  | none => handOn (vernierFault t)
  | some (a, b) => if scaleGood a b then takeGoodSample (scalePosition a b) t else handOn (vernierFault t)

/-- A reader delivers a word, which waits or pairs with the other reader's (R52). -/
def takeScaleWord (reader : Reader) (w : Word) (s : State) : State :=
  let t := match reader with
    | .scale1 => { s with transport.wait1 := some w }
    | .scale2 => { s with transport.wait2 := some w }
  match t.transport.wait1, t.transport.wait2 with
  | some a, some b => positionSample (some (a, b)) { t with transport.wait1 := none, transport.wait2 := none }
  | none, none => t
  | none, some _ => t
  | some _, none => t

/-! ## Sensor edges -/

/-- The level of a sensor's input. -/
def sensorPin (s : State) : Sensor → Bool
  | .infeed => s.pins.infeed
  | .exit => s.pins.exit

/-- The unit of a sensor. -/
def sensorUnit (s : State) : Sensor → SensorUnit
  | .infeed => s.transport.infeed
  | .exit => s.transport.exit

/-- Set a sensor's input. -/
def putSensorPin (k : Sensor) (v : Bool) (s : State) : State :=
  match k with
  | .infeed => { s with pins.infeed := v }
  | .exit => { s with pins.exit := v }

/-- Set the unit of a sensor. -/
def putSensorUnit (k : Sensor) (u : SensorUnit) (s : State) : State :=
  match k with
  | .infeed => { s with transport.infeed := u }
  | .exit => { s with transport.exit := u }

/-- A sensor input takes a level (R56): a change restarts the settle timer, and a move away from the settled
level takes the candidate latch if it is absent. -/
def sensorChange (k : Sensor) (level : Bool) (s : State) : State :=
  if sensorPin s k = level then s
  else
    let u := sensorUnit s k
    let cand := if level ≠ u.settled ∧ u.candidate = none then some (beltPos s) else u.candidate
    putSensorUnit k { u with candidate := cand, timer := some (s.now + 5) } (putSensorPin k level s)

/-- An infeed head edge (R42). -/
def infeedHead (latched : Nat) (s : State) : State :=
  match releasingPlate s with
  | none => s
  | some p => closeGate (setStage p .onBelt (modPlate p (fun r => { r with headLatch := some latched }) s))

/-- The measured length for a tail edge (R44), mm. -/
def measuredLength (headLatch latched : Nat) : Nat := (travelFrom headLatch latched + 500) / 1000

/-- The flags word of a slot (section 10.2). -/
def slotFlags (r : Plate) : Word := bitIf r.lengthMismatch 0 ||| bitIf r.lateWithdraw 1

/-- An infeed tail edge (R44). -/
def infeedTail (latched : Nat) (s : State) : State :=
  match s.tracker.train.getLast? with
  | none => s
  | some p =>
    match plateOf s p with
    | none => s
    | some r =>
      match r.headLatch, r.measured with
      | some h, none =>
        if r.stage = .onBelt then
          let m := measuredLength h latched
          let q := { r with
            measured := some m, lengthMismatch := r.lengthMismatch || decide (10 < natDist m r.length) }
          putSlot p oFlags (slotFlags q) (putSlotNat p oMeasured m (putPlate p (some q) s))
        else s
      | _, _ => s

/-- The head plate of the train awaits its exit head, and its travel at a latched position (R48). -/
def awaitsExitHead (latched : Nat) (s : State) : Option (PlateId × Nat) :=
  match s.tracker.train with
  | [] => none
  | p :: _ =>
    match plateOf s p with
    | none => none
    | some r => if r.exitConfirmed then none else r.headLatch.map fun l => (p, travelFrom l latched)

/-- An exit head edge (R48). -/
def exitHead (latched : Nat) (s : State) : State :=
  match awaitsExitHead latched s with
  | none => { s with tracker.strayPending := true }
  | some (p, h) =>
    if 5670000 ≤ h ∧ h ≤ 5730000 then modPlate p (fun r => { r with exitConfirmed := true }) s
    else { s with tracker.strayPending := true }

/-- The confirmed head plate of the train (R48). -/
def confirmedHead (s : State) : Option PlateId :=
  match s.tracker.train with
  | [] => none
  | p :: _ =>
    match plateOf s p with
    | none => none
    | some r => if r.exitConfirmed then some p else none

/-- A confirmed plate goes from the train to the exit rack, its open stations closed (R50, R108). -/
def rackPlate (p : PlateId) (s : State) : State :=
  let t := departTrain p (closeNormally p .main (closeNormally p .back s))
  let u := setStage p .racked t
  idleIfDrained { u with drying.rack := u.drying.rack ++ [.plate p] }

/-- The tail of a stray, or of an object with no plate (R50). -/
def strayTail (s : State) : State :=
  let t := { s with tracker.strayPending := false }
  if t.drying.rack.length < 2 then latch .stray { t with drying.rack := t.drying.rack ++ [.stray] }
  else raiseHalt .rackFull (latch .stray t)

/-- An exit tail edge (R50). -/
def exitTail (s : State) : State :=
  match confirmedHead s with
  | some p => if s.drying.rack.length < 2 then rackPlate p s else raiseHalt .rackFull s
  | none => strayTail s

/-- A settled edge of a sensor is delivered with its latched position (R57); the arbiter re-evaluates its
requests after a change of the rack (section 7.5). -/
def deliverEdge (k : Sensor) (present : Bool) (latched : Nat) (s : State) : State :=
  match k, present with
  | .infeed, true => infeedHead latched s
  | .infeed, false => infeedTail latched s
  | .exit, true => exitHead latched s
  | .exit, false => handlingTests (exitTail s)

/-- A sensor's settle timer has expired (R56). -/
def settleSensor (k : Sensor) (s : State) : State :=
  let u := sensorUnit s k
  let level := sensorPin s k
  if level = u.settled then putSensorUnit k { u with candidate := none, timer := none } s
  else
    deliverEdge k level (u.candidate.getD (beltPos s))
      (putSensorUnit k { settled := level, candidate := none, timer := none } s)

end Sys2Proof.Machine
end

