-- ==== Sys2Proof/Machine/Intake.lean ====
section
/-! DEFINITION. Ticket intake: the sweep (R4, R5), validation (R7, R8), acceptance and refusal (R9 to R11),
withdrawal (R12), return (R13) and requests out of turn (R14). -/

namespace Sys2Proof.Machine

/-! ## The snapshot (R6) and its checks (R7, R8) -/

/-- What a POST snapshot holds of the recipe record that the ticket names, as the words read (R1). -/
structure RecipeWords where
  valid : Nat
  speed : Nat
  backDose : Nat
  mainDose : Nat
  tolerance : Nat
  dryTime : Nat
  uvaFinish : Nat
  uvcFinish : Nat
deriving DecidableEq, Repr

/-- What a POST snapshot holds of the ticket fields, as the words read (R2). -/
structure TicketWords where
  recipe : Nat
  length : Nat
  width : Nat
  depth : Nat
  coverage : Nat
  rush : Bool
  backDone : Bool
deriving DecidableEq, Repr

/-- A word of a recipe record (section 10.2). -/
def recipeWord (s : State) (n o : Nat) : Nat := (ramRead s (recipeBase n + o)).toNat

/-- The recipe record of an index, all zeros for an index that names none (R6). -/
def recipeAt (s : State) (n : Nat) : RecipeWords :=
  if n ≤ 31 then
    { valid := recipeWord s n 0, speed := recipeWord s n 3, backDose := recipeWord s n 4
      mainDose := recipeWord s n 5, tolerance := recipeWord s n 6, dryTime := recipeWord s n 7
      uvaFinish := recipeWord s n 8, uvcFinish := recipeWord s n 9 }
  else
    { valid := 0, speed := 0, backDose := 0, mainDose := 0, tolerance := 0, dryTime := 0, uvaFinish := 0
      uvcFinish := 0 }

/-- The ticket fields of a slot (R2). -/
def ticketAt (s : State) (i : PlateId) : TicketWords :=
  { recipe := (slotWord s i oRecipe).toNat, length := (slotWord s i oLength).toNat
    width := (slotWord s i oWidth).toNat, depth := (slotWord s i oDepth).toNat
    coverage := (slotWord s i oCoverage).toNat
    rush := (slotWord s i oTicketFlags).getLsbD 0, backDone := (slotWord s i oTicketFlags).getLsbD 1 }

/-- A count lies in a range. -/
def within (lo hi x : Nat) : Bool := decide (lo ≤ x) && decide (x ≤ hi)

/-- A recipe record is usable (R1). -/
def recipeUsable (r : RecipeWords) : Bool :=
  r.valid == 1 && within 200 3000 r.speed && within 0 60000 r.backDose && within 0 60000 r.mainDose &&
    within 10 200 r.tolerance && within 10 600 r.dryTime

/-- A bank can reach the setpoint that a recipe asks of it (R8). -/
def bankReaches (b : BankUnit) (share speed : Nat) : Bool :=
  share == 0 ||
    (windowWidth b != 0 && decide (100 * setpointFor share speed (windowWidth b) ≤ 95 * b.full))

/-- Every bank can reach its setpoint (R8). -/
def doseReachable (s : State) (t : TicketWords) (r : RecipeWords) : Bool :=
  bankReaches s.banks.bk (doseShare .bk r.backDose r.mainDose t.backDone) r.speed &&
    bankReaches s.banks.m1 (doseShare .m1 r.backDose r.mainDose t.backDone) r.speed &&
    bankReaches s.banks.m2 (doseShare .m2 r.backDose r.mainDose t.backDone) r.speed

/-- The refusal reason of the first check that fails, or none (R7). -/
def validate (s : State) (t : TicketWords) (r : RecipeWords) : Option Reason :=
  if s.cal.state ≠ .valid then some .noCalibration
  else if (decide (t.recipe ≤ 31) && recipeUsable r) = false then some .badRecipe
  else if (within 200 1500 t.length && within 200 1300 t.width) = false then some .badSize
  else if within 100 4000 t.depth = false then some .badDepth
  else if within 0 1000 t.coverage = false then some .badCoverage
  else if doseReachable s t r = false then some .doseUnreachable
  else none

/-! ## Requests -/

/-- The dose record made at acceptance (R90). -/
def freshDose : DoseRecord :=
  { strips := { bk := Vector.replicate 16 0, m1 := Vector.replicate 16 0, m2 := Vector.replicate 16 0 }
    back := { isOpen := true, verdict := none, minimum := none, maximum := none }
    main := { isOpen := true, verdict := none, minimum := none, maximum := none } }

/-- The plate record made at acceptance (R11). -/
def freshPlate (t : TicketWords) (r : RecipeWords) (order : Nat) : Plate :=
  { stage := .queued
    speed := r.speed, backDose := r.backDose, mainDose := r.mainDose, tolerance := r.tolerance
    dryTime := r.dryTime, uvaFinish := r.uvaFinish, uvcFinish := r.uvcFinish
    length := t.length, width := t.width, depth := t.depth, coverage := t.coverage
    rush := t.rush, backDone := t.backDone
    order := order
    epoch := none, epochSpeed := none, setpoints := none
    headLatch := none, measured := none, lengthMismatch := false, exitConfirmed := false
    dose := freshDose
    entryLoad := none, washFigures := none, drawerSlot := none
    dryRemaining := r.dryTime * 60000
    dryOrder := none, dryAchieved := none
    uvaDose := 0, uvcDose := 0, finishVerdict := none
    lateWithdraw := false, disposition := none }

/-- Acceptance of a ticket (R10). -/
def acceptTicket (i : PlateId) (t : TicketWords) (r : RecipeWords) (s : State) : State :=
  let n := next32 s.intake.order
  let s1 := joinQueue i (putPlate i (some (freshPlate t r n)) { s with intake.order := n })
  let s2 := putSlotNat i oStage (stageCode .queued) (putSlot32 i oOrder n s1)
  showHold i (setSlotState i .queued s2)

/-- Refusal of a ticket at validation (R9). -/
def refuseTicket (i : PlateId) (why : Reason) (s : State) : State :=
  latch .slot (setSlotState i .refused (putSlotNat i oReason (reasonCode why) s))

/-- A new POST in a FREE slot (R6 to R10). -/
def postTicket (i : PlateId) (s : State) : State :=
  let t := ticketAt s i
  let r := recipeAt s t.recipe
  match validate s t r with
  | some why => refuseTicket i why s
  | none => acceptTicket i t r s

/-- A QUEUED slot is resolved to REFUSED with a reason: stage ENDED and hold reason 0 first (R10, R12, R20,
R21). -/
def resolveQueued (i : PlateId) (why : Reason) (s : State) : State :=
  setSlotState i .refused (putSlotNat i oHold 0 (putSlotNat i oStage (stageCode .ended)
    (putSlotNat i oReason (reasonCode why) (modPlate i (fun r => { r with stage := .ended }) s))))

/-- A new WITHDRAW in a QUEUED slot (R12). -/
def withdrawTicket (i : PlateId) (s : State) : State :=
  latch .slot (resolveQueued i .withdrawn (holdIfEmpty (setQueue (s.admission.queue.erase i) s)))

/-- A new WITHDRAW in an ACTIVE slot (R12). -/
def withdrawLate (i : PlateId) (s : State) : State :=
  putSlot i oFlags (slotWord s i oFlags ||| bitIf true 1) (modPlate i (fun r => { r with lateWithdraw := true }) s)

/-- The report words of a slot (section 10.2). -/
def reportOffsets : List Nat :=
  [33, 34, 35, 36, 37, 38, 39, 40, 41, 42, 43, 44, 45, 46, 47, 48, 49, 50, 51, 52, 53, 54, 55, 56, 57]

/-- A new RETURN in a DONE or REFUSED slot (R13). -/
def returnSlot (i : PlateId) (s : State) : State :=
  putPlate i none (setSlotState i .free (reportOffsets.foldl (fun t o => putSlot i o 0 t) s))

/-- A new request is acted on in its slot's state (section 1.4, R6 to R14). -/
def actOnRequest (i : PlateId) (code : Nat) (s : State) : State :=
  match code, slotState s i with
  | 1, .free => postTicket i s
  | 2, .queued => withdrawTicket i s
  | 2, .active => withdrawLate i s
  | 3, .done => returnSlot i s
  | 3, .refused => returnSlot i s
  | _, _ => countDiscard s

/-- The visit of a sweep to a slot: a new request is recorded as taken, and then acted on (R5). -/
def visitSlot (i : PlateId) (s : State) : State :=
  let w := slotWord s i oRequest
  if highByte w = 0 then s
  else if lowByte w = lastTaken s i then s
  else actOnRequest i (highByte w) (setLastTaken i (lowByte w) s)

/-! ## The sweep (R4, R5) -/

/-- A call for a sweep (R4). -/
def callSweep (s : State) : State :=
  match s.intake.sweep with
  | none => { s with intake.sweep := some 0 }
  | some _ => { s with intake.sweepPending := true }

/-- The sweep goes on to the next slot, or ends; a sweep that ends with one pending starts again (R4, R5). -/
def nextSlot (i : PlateId) (s : State) : State :=
  if i.val < 47 then { s with intake.sweep := some (Fin.ofNat 48 (i.val + 1)) }
  else if s.intake.sweepPending then
    { s with intake.sweep := some 0, intake.sweepPending := false }
  else { s with intake.sweep := none }

/-- A visit of the sweep in progress; nothing between sweeps. -/
def sweepStep (s : State) : State :=
  match s.intake.sweep with
  | none => s
  | some i => nextSlot i (visitSlot i s)

/-- The posting count word holds a value; a difference from the last-seen one calls for a sweep (R4). -/
def seePostingCount (v : Word) (s : State) : State :=
  if v = s.intake.lastSeen then s else callSweep { s with intake.lastSeen := v }

end Sys2Proof.Machine
end

