-- ==== Sys2Proof/Machine/LinkVisit.lean ====
section
/-! DEFINITION. The visits of the line link: the owners' commands (R64, R114, R133, R145, R155), the command
frame (R175, R176), the judgement of a response (R177), its outcome (R178 to R180, R182) and revisits (R183). -/

namespace Sys2Proof.Machine

/-! ## The owners' commands -/

/-- What the owner of a station gives for a visit: command, arguments, and an outstanding order. -/
structure OwnerDemand where
  cmd : NodeCmd
  arg0 : Byte
  arg1 : Byte
  arg2 : Byte
  order : Option Nat
deriving DecidableEq, Repr

/-- A command without arguments and without an order. -/
def plainDemand (c : NodeCmd) : OwnerDemand := { cmd := c, arg0 := 0, arg1 := 0, arg2 := 0, order := none }

/-- A byte of a count. -/
def byteOf (n : Nat) : Byte := BitVec.ofNat 8 n

/-- A flag as a byte. -/
def byteIf (b : Bool) : Byte := if b then 1 else 0

/-- The drive's command (R64). -/
def driveDemand (s : State) : OwnerDemand :=
  if s.transport.demand = 0 then plainDemand .stop
  else { plainDemand .setSpeed with
    arg0 := byteOf s.transport.demand, arg1 := byteOf (s.transport.demand / 256) }

/-- The wash node's command (R113, R114). -/
def washDemand (s : State) : OwnerDemand :=
  if isSafe s then plainDemand .stop
  else
    match s.wash.outstanding with
    | none => plainDemand (if circulates s then .run else .stop)
    | some n =>
      { cmd := .replenish, arg0 := byteOf s.wash.portion, arg1 := byteIf (circulates s), arg2 := 0, order := some n }

/-- The shuttle node's command (R145). -/
def shuttleDemand (s : State) : OwnerDemand :=
  if isSafe s then plainDemand .stop
  else if s.shuttle.state = .faulted ∧ s.shuttle.resetRequested = true then plainDemand .reset
  else
    match s.shuttle.move with
    | none => plainDemand .stop
    | some m =>
      { cmd := .move, arg0 := byteOf (placeCode m.source), arg1 := byteOf (placeCode m.dest), arg2 := 0
        order := some m.order }

/-- The finisher node's command (R155). -/
def finisherDemand (s : State) : OwnerDemand :=
  match s.chamber.state with
  | .dark | .faulted => plainDemand .extinguish
  | .igniting => { plainDemand .ignite with order := s.chamber.igniteOrder }
  | .exposing => { plainDemand .shutter with arg0 := byteIf s.chamber.openA, arg1 := byteIf s.chamber.openC }
  | .stabilizing | .ready | .loading | .suspended | .unloading => plainDemand .shutter

/-- A drawer node's command (R133). -/
def drawerDemand (s : State) : OwnerDemand :=
  { plainDemand .heat with arg0 := byteOf s.drying.setpoint, arg1 := byteOf (s.drying.setpoint / 256) }

/-- The command that the owner of a station gives; a node number without a station is not visited. -/
def ownerDemand (s : State) : Station → OwnerDemand
  | .drive => driveDemand s
  | .wash => washDemand s
  | .shuttle => shuttleDemand s
  | .finisher => finisherDemand s
  | .drawer _ => drawerDemand s
  | .none => plainDemand .stop

/-! ## The command frame (R175, R176) -/

/-- The ADDR byte: node number in bits 3 to 0, visit sequence in bits 7 to 4. -/
def addrByte (n : Fin 15) (seq : Nat) : Byte := byteOf (seq * 16 + (n.val + 1))

/-- The 8 bytes of a command frame for an ADDR byte, a demand and the node's last order issued. -/
def commandFrame (addr : Byte) (d : OwnerDemand) (issued : Option Nat) : List Byte :=
  let body := [addr, byteOf (nodeCmdCode d.cmd), d.arg0, d.arg1, d.arg2, byteOf (d.order.getD (issued.getD 0))]
  [0xC5] ++ body ++ [crc8 body]

/-- LINK_DE is asserted and the bytes of a frame go out on LINK_TX (R175 step 2). -/
def sendFrame (frame : List Byte) (s : State) : State :=
  { s with link.driveEnable := true, link.txFrame := frame }

/-- The last byte of the frame is out: LINK_DE is released and the response window opens (R175 step 2). Both
ends of the frame fall within the event of the visit (log entry 50). -/
def openWindow (n : Fin 15) (isRevisit : Bool) (addr : Byte) (cmd : NodeCmd) (s : State) : State :=
  { s with link.driveEnable := false, link.revisit := none, link.phase := .window n isRevisit addr cmd }

/-- A visit starts: its sequence, its frame, and the response window (R175 steps 1 and 2). -/
def openVisit (n : Fin 15) (isRevisit : Bool) (s : State) : State :=
  let r : NodeRec := s.link.nodes[n]
  let seq := (r.seq + 1) % 16
  let d := ownerDemand s r.station
  let addr := addrByte n seq
  openWindow n isRevisit addr d.cmd
    (sendFrame (commandFrame addr d r.issued) (putNode n { r with seq := seq } s))

/-- The next visit of the pass in progress: the marked revisit, or the next visited node number; nothing
between passes or while a window is open (R173, R183). -/
def nextVisit (s : State) : State :=
  match s.link.phase with
  | .between => s
  | .window _ _ _ _ => s
  | .guard k =>
    match s.link.revisit with
    | some n => openVisit n true s
    | none =>
      match nextVisited s k with
      | none => s
      | some n => openVisit n false s

/-! ## The judgement of a response (R177) -/

/-- The four ways in which the link master judges what it received. -/
inductive Judged where
  | timeout
  | checkError
  | echoMismatch
  | good (stat : Byte) (data : Vector Byte 6)
deriving DecidableEq, Repr

/-- The judgement of the bytes received, for the ADDR byte sent; bytes past the tenth lie outside the
window (R175 step 3, R177). -/
def judge (addr : Byte) (bytes : List RxByte) : Judged :=
  match (bytes.take 10).map fun b => b.data with
  | [] => .timeout
  | [sync, echo, stat, d0, d1, d2, d3, d4, d5, check] =>
    if (bytes.take 10).any (fun b => !b.stopHigh) then .checkError
    else if sync ≠ 0x3A then .checkError
    else if check ≠ crc8 [echo, stat, d0, d1, d2, d3, d4, d5] then .checkError
    else if stat.getLsbD 0 ≠ oddParity d5 then .checkError
    else if echo ≠ addr then .echoMismatch
    else .good stat #v[d0, d1, d2, d3, d4, d5]
  | _ => .checkError

/-! ## What the owners are told (R179, R182) -/

/-- The owner of a station is told that its node has become PRESENT (R127, R134, R140, R157). -/
def toldPresent (st : Station) (s : State) : State :=
  match st with
  | .drive => s
  | .wash => orderIfWaiting s
  | .shuttle => handlingTests (evalShuttle s)
  | .finisher => handlingTests s
  | .drawer d => handlingTests (drawerNodeChanged d s)
  | .none => s

/-- The chamber unit is told that the finisher node has become LOST (R167). -/
def finisherLost (s : State) : State :=
  match s.chamber.state with
  | .dark => s
  | .faulted => s
  | .igniting | .stabilizing | .ready | .loading | .exposing | .suspended | .unloading => chamberFault s

/-- The owner of a station is told that its node has become LOST (R182). -/
def toldLost (st : Station) (s : State) : State :=
  match st with
  | .drive => takeDriveReport false false (raiseHalt .driveLost s)
  | .wash => raiseHalt .washLost s
  | .shuttle => handlingTests (evalShuttle (failCurrentMove s))
  | .finisher => handlingTests (finisherLost s)
  | .drawer d => handlingTests (drawerNodeChanged d s)
  | .none => s

/-! ## Outcomes -/

/-- The outcome of a visit that is not good (R178, R179): a miss, and for a response a check error. -/
def notGood (n : Fin 15) (isCheck : Bool) (s : State) : State :=
  let r : NodeRec := s.link.nodes[n]
  let q := { r with miss := satAdd 7 r.miss 1, check := if isCheck then satAdd 255 r.check 1 else r.check }
  if r.state = .present ∧ 3 ≤ q.miss then
    toldLost r.station (latch .node (putNode n { q with state := .lost } s))
  else putNode n q s

/-- The result code of a STAT byte (R177). -/
def statResult (stat : Byte) : OrderResult := orderResultOfCode (stat.toNat / 4 % 8)

/-- The delivery of a good response to the owner of its station (R180); `carriedReset` says that the visit's
frame carried RESET (R150). -/
def deliver (st : Station) (carriedReset : Bool) (stat : Byte) (d : Vector Byte 6) (s : State) : State :=
  let ready := stat.getLsbD 7
  let fault := stat.getLsbD 6
  let t :=
    match st with
    | .drive => takeDriveReport ready fault s
    | .wash => takeWashReport ready fault (statResult stat) d s
    | .shuttle => takeShuttleReport carriedReset ready fault (statResult stat) d s
    | .finisher => takeFinisherReport d s
    | .drawer k => takeDrawerReport k d s
    | .none => s
  { t with freeCount := t.freeCount + 1 }

/-- A node record after a good outcome (R178, R179). -/
def goodNode (stat : Byte) (d : Vector Byte 6) (r : NodeRec) : NodeRec :=
  { r with
    miss := 0, stat := stat, data := d, echoed := d[5].toNat
    state := .present
    issued := if r.state = .unseen then some d[5].toNat else r.issued }

/-- A good outcome (R180): the record, the change to PRESENT, the delivery, and the revisit mark (R183). -/
def goodOutcome (n : Fin 15) (isRevisit : Bool) (cmd : NodeCmd) (stat : Byte) (d : Vector Byte 6)
    (s : State) : State :=
  let r : NodeRec := s.link.nodes[n]
  let s1 := putNode n (goodNode stat d r) s
  let s2 := if r.state = .present then s1 else toldPresent r.station s1
  let s3 := deliver r.station (cmd == .reset) stat d s2
  if stat.getLsbD 5 && !isRevisit then { s3 with link.revisit := some n } else s3

/-- The visit has ended: its window is closed, and the pass ends if it has no further visit (R173). -/
def endVisit (n : Fin 15) (s : State) : State :=
  let t := { s with link.phase := .guard (n.val + 1) }
  if t.link.revisit = none ∧ nextVisited t (n.val + 1) = none then endPass t else t

/-- The outcome of the visit whose window is open; what arrives outside a window is discarded (R175). -/
def visitOutcome (judged : Byte → Judged) (s : State) : State :=
  match s.link.phase with
  | .between => s
  | .guard _ => s
  | .window n isRevisit addr cmd =>
    endVisit n
      (match judged addr with
      | .timeout => notGood n false s
      | .checkError => notGood n true s
      | .echoMismatch => notGood n true s
      | .good stat d => goodOutcome n isRevisit cmd stat d s)

/-- The pass timer has expired: a pass starts if the previous one has ended and another is to follow
(R173). -/
def passTimerExpired (s : State) : State :=
  let t := { s with link.passTimer := none }
  match t.link.phase with
  | .between => if passFollows t.link then startPass t else t
  | .guard _ => t
  | .window _ _ _ _ => t

end Sys2Proof.Machine
end

