-- ==== Sys2Proof/Machine/Calibration.lean ====
section
/-! DEFINITION. The calibration store: its items, ranges and defaults (R204), the loads of live values (R87, R205,
R207) and the service operations (R206, R207). -/

namespace Sys2Proof.Machine

/-! ## Items (R204) -/

/-- The store is marked. -/
def storeMarked (s : State) : Bool := storeRead s 0 == 0x6D4B

/-- Words 1 to 52, which hold the items. -/
def itemWords : List Nat :=
  [1, 2, 3, 4, 5, 6, 7, 8, 9, 10, 11, 12, 13, 14, 15, 16, 17, 18, 19, 20, 21, 22, 23, 24, 25, 26] ++
  [27, 28, 29, 30, 31, 32, 33, 34, 35, 36, 37, 38, 39, 40, 41, 42, 43, 44, 45, 46, 47, 48, 49, 50, 51, 52]

/-- A word lies in a range, as a count. -/
def wordIn (lo hi : Nat) (w : Word) : Bool := decide (lo ≤ w.toNat) && decide (w.toNat ≤ hi)

/-- The range of a bank's item, its eight items numbered from 0. -/
def bankItemOk (j : Nat) (w : Word) : Bool :=
  match j with
  | 0 | 1 => wordIn 0 12287 w
  | 2 => wordIn 0 4095 w
  | 3 => decide (-1500 ≤ signedOf w) && decide (signedOf w ≤ 1499)
  | 4 => wordIn 1 8191 w
  | 5 => wordIn 1 255 w
  | 6 => wordIn 0 10000 w
  | _ => wordIn 0 20000 w

/-- The range of the item of a store word. -/
def itemOk (a : Nat) (w : Word) : Bool :=
  if a ≤ 24 then bankItemOk ((a - 1) % 8) w
  else if a = 25 then wordIn 0 200 w
  else if a ≤ 27 then wordIn 0 2000 w
  else if a ≤ 29 then wordIn 0 12287 w
  else if a = 30 then wordIn 100 1000 w
  else if a = 31 then wordIn 5 100 w
  else if a ≤ 33 then true
  else if a = 34 then wordIn 0 50 w
  else if a = 35 then wordIn 0 1200 w
  else if a = 36 then wordIn 0 200 w
  else if a = 37 then wordIn 1 15 w
  else wordIn 0 10 w

/-- The default of a bank's item. -/
def bankItemDefault (w0 w1 : Word) (j : Nat) : Word :=
  match j with
  | 0 => w0 | 1 => w1 | 2 => 2048 | 3 => 0 | 4 => 48 | 5 => 128 | _ => 320

/-- The default of the item of a store word. -/
def itemDefault (a : Nat) : Word :=
  if a ≤ 8 then bankItemDefault 250 550 (a - 1)
  else if a ≤ 16 then bankItemDefault 800 1400 (a - 9)
  else if a ≤ 24 then bankItemDefault 1400 2000 (a - 17)
  else
    match a with
    | 25 => 20 | 26 => 60 | 27 => 640 | 28 => 2400 | 29 => 4800 | 30 => 400 | 31 => 20
    | 32 => 18000 | 33 => 26000 | 34 => 8 | 35 => 600 | 36 => 30 | 37 => 10
    | 38 => 1 | 39 => 2 | 40 => 3 | 41 => 4 | 42 => 5 | 43 => 6 | 44 => 7 | 45 => 8 | 46 => 9 | 47 => 10
    | _ => 0

/-! ## Loads -/

/-- The item of a store word that a load takes, if it lies within its range (R207). -/
def takenItem (s : State) (a : Nat) : Option Word :=
  if itemOk a (storeRead s a) then some (storeRead s a) else none

/-- Every item of words 1 to 52 lies within its range. -/
def allItemsOk (s : State) : Bool := itemWords.all fun a => itemOk a (storeRead s a)

/-- A live count after a load: the item taken, or as it was. -/
def liveNat (take : Nat → Option Word) (a old : Nat) : Nat :=
  match take a with
  | none => old
  | some w => w.toNat

/-- The live values of a bank after a load of the items from a word on; taking the offset clears SENSOR_DRIFT
(R87). -/
def liveBank (take : Nat → Option Word) (base : Nat) (b : BankUnit) : BankUnit :=
  let c := { b with
    w0 := liveNat take base b.w0, w1 := liveNat take (base + 1) b.w1, gain := liveNat take (base + 2) b.gain
    sensitivity := liveNat take (base + 4) b.sensitivity, regGain := liveNat take (base + 5) b.regGain
    rated := liveNat take (base + 6) b.rated, full := liveNat take (base + 7) b.full }
  match take (base + 3) with
  | none => c
  | some w => { c with offset := signedOf w, drift := false }

/-- LAMP_WEAK is evaluated once after a load that takes the rated irradiance or F (R87, log entry 24). -/
def liveLampWeak (take : Nat → Option Word) (base : Nat) (b : BankUnit) : BankUnit :=
  if (take (base + 6)).isSome || (take (base + 7)).isSome then evalLampWeak b else b

/-- The live values of the blocks other than the banks after a load. -/
def liveOthers (take : Nat → Option Word) (s : State) : State :=
  { s with
    claimLead := liveNat take 25 s.claimLead
    admission.smallGap := liveNat take 26 s.admission.smallGap
    admission.largeGap := liveNat take 27 s.admission.largeGap
    wash.start := liveNat take 28 s.wash.start
    wash.stop := liveNat take 29 s.wash.stop
    wash.volume := liveNat take 30 s.wash.volume
    wash.replPortion := liveNat take 31 s.wash.replPortion
    wash.regen := liveNat take 32 s.wash.regen
    wash.hard := liveNat take 33 s.wash.hard
    wash.slope := liveNat take 34 s.wash.slope
    drying.setpoint := liveNat take 35 s.drying.setpoint
    drying.band := liveNat take 36 s.drying.band
    link.lastNode := liveNat take 37 s.link.lastNode
    link.assign := (Vector.ofFn fun n : Fin 15 =>
      match take (38 + n.val) with
      | none => s.link.assign[n]
      | some w => stationOfCode w.toNat) }

/-- The items that a load takes replace their live values in one event, and each owning block takes them:
LAMP_WEAK of the banks, the solvent hold and the replenish cycle are evaluated (R87, R121, R122, R207). -/
def takeLive (take : Nat → Option Word) (s : State) : State :=
  let bank (k : Bank) (base : Nat) (t : State) : State :=
    putBankLatching k (liveLampWeak take base (liveBank take base (t.banks.get k))) t
  openCycle (evalSolventHold (liveOthers take (bank .m2 17 (bank .m1 9 (bank .bk 1 s)))))

/-! ## Service operations (R206, R207) -/

/-- An operation completes (R206). -/
def finishOp (r : OpResult) (s : State) : State :=
  latch .cal { s with cal := { s.cal with opState := .done, result := r, running := none } }

/-- An operation begins that completes after some ms (R206). -/
def beginOp (op : CalOp) (ms : Nat) (s : State) : State :=
  { s with cal := { s.cal with opState := .busy, running := some (op, s.now + ms) } }

/-- The store address word of the service block. -/
def serviceAddr (s : State) : Nat := (ramRead s 0x1101).toNat

/-- The write data word of the service block. -/
def serviceData (s : State) : Word := ramRead s 0x1102

/-- An operation with a store address (R206): BAD_ADDRESS above 255. -/
def withAddr (op : Nat → State → State) (s : State) : State :=
  if 255 < serviceAddr s then finishOp .badAddress s else op (serviceAddr s) s

/-- An operation that is allowed in IDLE and HALTED (R206). -/
def unlessLocked (op : State → State) (s : State) : State :=
  if idleOrHalted s then op s else finishOp .locked s

/-- READ (R207). -/
def opRead (a : Nat) (s : State) : State := finishOp .ok { s with cal.readData := storeRead s a }

/-- The live offsets of the three banks. -/
def liveOffsets (s : State) : PerBank Int :=
  { bk := s.banks.bk.offset, m1 := s.banks.m1.offset, m2 := s.banks.m2.offset }

/-- LOAD_LIVE (R207). -/
def opLoadLive (s : State) : State :=
  if storeMarked s then
    if allItemsOk s then finishOp .ok (takeLive (takenItem s) { s with cal.state := .valid })
    else finishOp .range (takeLive (takenItem s) s)
  else finishOp .range s

/-- A request to the calibration store with a code (R206). -/
def requestOp (code : Word) (s : State) : State :=
  if s.cal.opState = .busy then countDiscard { s with cal.result := .ignoredBusy }
  else
    match code.toNat with
    | 1 => withAddr opRead s
    | 2 => unlessLocked (withAddr fun a t => beginOp (.write a (serviceData t)) 5 t) s
    | 3 => unlessLocked (withAddr fun a t => beginOp (.erase a) 5 t) s
    | 4 => unlessLocked opLoadLive s
    | 5 => unlessLocked (fun t => beginOp (.save (liveOffsets t)) 15 t) s
    | _ => finishOp .locked s

/-- The offset that SAVE_OFFSETS saves: that of the request, or where the live one has moved since, either of
the two (log entry 11). -/
def savedOffset (count place : Nat) (atRequest atEnd : Int) : Int :=
  if atRequest = atEnd then atRequest else if Config.savesLateOffset count place then atEnd else atRequest

/-- The store words of the saved offsets (R207). -/
def saveOffsetWords (old : PerBank Int) (s : State) : State :=
  let o := liveOffsets s
  let c := s.freeCount
  storeWrite 20 (wordOfInt (savedOffset c 2 old.m2 o.m2))
    (storeWrite 12 (wordOfInt (savedOffset c 1 old.m1 o.m1))
      (storeWrite 4 (wordOfInt (savedOffset c 0 old.bk o.bk)) { s with freeCount := c + 1 }))

/-- The completion of a running WRITE (R207). -/
def completeWrite (s : State) : State :=
  match s.cal.running with
  | some (.write a d, t) => finishOp .ok (storeWrite a d (advanceTo t s))
  | some (.erase _, _) => s
  | some (.save _, _) => s
  | none => s

/-- The completion of a running ERASE (R207). -/
def completeErase (s : State) : State :=
  match s.cal.running with
  | some (.erase a, t) => finishOp .ok (storeWrite a 0xFFFF (advanceTo t s))
  | some (.write _ _, _) => s
  | some (.save _, _) => s
  | none => s

/-- The completion of a running SAVE_OFFSETS (R207). -/
def completeSave (s : State) : State :=
  match s.cal.running with
  | some (.save o, t) => finishOp .ok (saveOffsetWords o (advanceTo t s))
  | some (.write _ _, _) => s
  | some (.erase _, _) => s
  | none => s

/-! ## A reset that cuts an operation (R207) -/

/-- A store word whose writing a reset cuts holds its old or its new content (log entry 10). -/
def cutWord (place a : Nat) (new : Word) (s : State) : State :=
  if Config.cutTakesNew s.freeCount place then storeWrite a new s else s

/-- The store as a reset leaves it. -/
def cutStore (s : State) : State :=
  match s.cal.running with
  | none => s
  | some (.write a d, _) => cutWord 0 a d s
  | some (.erase a, _) => cutWord 0 a 0xFFFF s
  | some (.save o, _) =>
    let l := liveOffsets s
    let c := s.freeCount
    cutWord 2 20 (wordOfInt (savedOffset c 2 o.m2 l.m2))
      (cutWord 1 12 (wordOfInt (savedOffset c 1 o.m1 l.m1))
        (cutWord 0 4 (wordOfInt (savedOffset c 0 o.bk l.bk)) s))

end Sys2Proof.Machine
end

