-- ==== Sys2Proof/Machine/Command.lean ====
section
/-! DEFINITION. The line commands (R23 to R31, R131, R150, R168, R174) and the heartbeat (R25, R198). -/

namespace Sys2Proof.Machine

/-- START (R24). -/
def cmdStart (s : State) : State :=
  match s.supervisor.line with
  | .idle =>
    if s.safety.coverClosed = false then setOutcome .refusedCover s
    else if s.cal.state = .default then setOutcome .refusedCal s
    else setOutcome .accepted (linkContinuous (setLine .running { s with admission.epochCurrent := false }))
  | .draining => setOutcome .accepted (setLine .running s)
  | .running | .halted | .safe => setOutcome .refusedState s

/-- DRAIN (R25). -/
def cmdDrain (s : State) : State :=
  match s.supervisor.line with
  | .running => setOutcome .accepted (startDraining s)
  | .idle | .draining | .halted | .safe => setOutcome .refusedState s

/-- HALT (R23, R27). -/
def cmdHalt (s : State) : State :=
  match s.supervisor.line with
  | .idle | .running | .draining => setOutcome .accepted (raiseHalt .command s)
  | .halted | .safe => setOutcome .refusedState s

/-- RESUME (R30). -/
def cmdResume (s : State) : State :=
  match s.supervisor.line with
  | .halted => setOutcome .accepted (setLine .idle { s with supervisor.cause := .none })
  | .idle | .running | .draining | .safe => setOutcome .refusedState s

/-- The line leaves SAFE for HALTED: LINE_SAFE# is released, a waiting replenish is ordered, the shuttle is
evaluated, and a suspended batch resumes (R30, R123, R149, R165, R202). -/
def leaveSafe (s : State) : State :=
  let t := setLine .halted { s with safety.lineSafe := false }
  handlingTests (resumeBatch (evalShuttle (orderIfWaiting t)))

/-- SAFE_RELEASE (R30). -/
def cmdSafeRelease (s : State) : State :=
  match s.supervisor.line with
  | .safe =>
    if s.safety.estop then setOutcome .refusedState s
    else if s.safety.coverClosed = false then setOutcome .refusedCover s
    else setOutcome .accepted (leaveSafe s)
  | .idle | .running | .draining | .halted => setOutcome .refusedState s

/-- The plate ids, in order. -/
def plateIds : List PlateId := (List.range 48).map (Fin.ofNat 48)

/-- Every QUEUED slot is resolved to REFUSED with a reason, and SLOT is latched if any was (R20, R21). -/
def resolveQueuedSlots (why : Reason) (s : State) : State :=
  let queued := plateIds.filter fun i => slotState s i == .queued
  latchIf (!queued.isEmpty) .slot (queued.foldl (fun t i => resolveQueued i why t) s)

/-- Every STRAY entry leaves the rack (R131). -/
def clearStrays (s : State) : State :=
  { s with drying.rack := s.drying.rack.filter fun e => e != .stray }

/-- Every node's miss and check counts become 0 (R31, R185). -/
def clearNodeCounts (s : State) : State :=
  { s with link.nodes := (Vector.ofFn fun n : Fin 15 =>
      let r : NodeRec := s.link.nodes[n]
      { r with miss := 0, check := 0 }) }

/-- The line reset (R21, R31). -/
def lineReset (s : State) : State :=
  let s1 := holdIfEmpty (setQueue [] (resolveQueuedSlots .lineReset s))
  let s2 := clearNodeCounts (clearStrays s1)
  let s3 := { s2 with admission.misfeedHold := false, admission.misfeedArmed := false, supervisor.cause := .none }
  handlingTests (setLine .idle s3)

/-- RESET_LINE (R31). -/
def cmdResetLine (s : State) : State :=
  if idleOrHalted s then setOutcome .accepted (lineReset s) else setOutcome .refusedState s

/-- LINK_SINGLE (R174). -/
def cmdLinkSingle (s : State) : State :=
  if idleOrHalted s then setOutcome .accepted (linkSingle s) else setOutcome .refusedState s

/-- LINK_CONTINUOUS (R174). -/
def cmdLinkContinuous (s : State) : State := setOutcome .accepted (linkContinuous s)

/-- SHUTTLE_RESET (R150). -/
def cmdShuttleReset (s : State) : State :=
  if s.shuttle.state = .faulted ∧ isSafe s = false then
    setOutcome .accepted { s with shuttle.resetRequested := true }
  else setOutcome .refusedState s

/-- RACK_CLEAR (R131). -/
def cmdRackClear (s : State) : State := setOutcome .accepted (handlingTests (clearStrays s))

/-- CHAMBER_RESET (R168). -/
def cmdChamberReset (s : State) : State :=
  if s.chamber.state = .faulted then
    setOutcome .accepted (handlingTests (unloadNext { s with chamber.resetAccepted := true }))
  else setOutcome .refusedState s

/-- A host write of a code to LINE_CMD (R23, R193). -/
def lineCommand (code : Word) (s : State) : State :=
  match code.toNat with
  | 1 => cmdStart s
  | 2 => cmdDrain s
  | 3 => cmdHalt s
  | 4 => cmdResume s
  | 5 => cmdSafeRelease s
  | 6 => cmdResetLine s
  | 7 => cmdLinkSingle s
  | 8 => cmdLinkContinuous s
  | 9 => cmdShuttleReset s
  | 10 => cmdRackClear s
  | 11 => cmdChamberReset s
  | _ => setOutcome .unknown s

/-! ## The heartbeat (R198) -/

/-- The heartbeat timer starts with a timeout, in s; a timeout of 0 stops it. -/
def startHeartbeat (timeout : Nat) (s : State) : State :=
  { s with bus.hbTimer := if timeout = 0 then none else some (s.now + timeout * 1000) }

/-- A heartbeat lapse (R25). -/
def heartbeatLapse (s : State) : State :=
  match s.supervisor.line with
  | .running => latch .hostSilent (startDraining s)
  | .idle | .draining | .halted | .safe => s

end Sys2Proof.Machine
end

