-- ==== Sys2Proof/Machine/Bus.lean ====
section
/-! DEFINITION. The host's parallel bus (R186 to R195): what each word reads, the paired-word latch, the
write hold, the ownership of words, the settings of the header and the registers. -/

namespace Sys2Proof.Machine

/-! ## What a word reads (section 10.2) -/


/-- A count that may be absent; an absent field reads 0. -/
def absentNat (x : Option Nat) : Nat := x.getD 0

/-- A plate id shown in the live page; 0 for none. -/
def shownPlate : Option PlateId → Nat
  | none => 0
  | some p => p.val + 1

/-- An entry of the exit rack as shown. -/
def shownEntry : Option RackEntry → Nat
  | none => 0
  | some (.plate p) => p.val + 1
  | some .stray => 0xFF

/-- A header word (section 10.2, header). -/
def headerWord (s : State) (a : Nat) : Word :=
  match a with
  | 0x00 => w16 (lineCode s.supervisor.line)
  | 0x01 => w16 (causeCode s.supervisor.cause)
  | 0x02 => w16 (resetSourceCode s.bus.resetSource)
  | 0x03 => w16 (calStateCode s.cal.state)
  | 0x04 => w16 s.admission.epochNo
  | 0x05 => w16 (if s.admission.epochCurrent then s.admission.epochSpeed else 0)
  | 0x06 => w16 s.wash.load
  | 0x07 => w16 s.admission.queue.length
  | 0x08 => w16 (holdCode s.admission.holdReason)
  | 0x09 => w16 s.admission.commitments
  | 0x0A => w16 (placesInService s)
  | 0x0B => w16 s.drying.rack.length
  | 0x0C => w16 s.bus.protect
  | 0x0E => lowWord s.intake.order
  | 0x0F => highWord s.intake.order
  | 0x10 => lowWord s.supervisor.lineTime
  | 0x11 => highWord s.supervisor.lineTime
  | _ => if 0x20 ≤ a ∧ a ≤ 0x24 then ramRead s a else 0

/-- A word of a bank block (section 10.2, live page). -/
def bankWord (b : BankUnit) (o : Nat) : Word :=
  match o with
  | 0 => w16 b.lastE
  | 1 => w16 (absentNat b.setpoint)
  | 2 => w16 b.duty
  | 3 => w16 b.full
  | 4 => wordOfInt b.offset
  | 5 => w16 b.gain
  | 6 => bitIf b.limited 0 ||| bitIf b.lampWeak 1 ||| bitIf b.drift 2
  | 7 => w16 b.gaps
  | 8 => lowWord b.onTime
  | 9 => highWord b.onTime
  | _ => 0

/-- The transport words of the live page (R66). -/
def transportWord (s : State) (o : Nat) : Word :=
  match o with
  | 0 => lowWord (beltPos s)
  | 1 => highWord (beltPos s)
  | 2 => w16 s.transport.estimate
  | 3 => w16 s.transport.faults
  | 4 => w16 (beltStateCode s.transport.beltState)
  | 5 => bitIf s.transport.speedFlag 0
  | _ => 0

/-- The wash words of the live page. -/
def washWord (s : State) (o : Nat) : Word :=
  match o with
  | 0 => w16 s.wash.load
  | 1 => w16 (replenishCode s.wash.replenish)
  | 2 => w16 s.wash.level
  | 3 => s.wash.temp
  | 4 => bitIf s.wash.ready 0 ||| bitIf s.wash.fault 1
  | _ => 0

/-- The rack words of the live page. -/
def rackWord (s : State) (o : Nat) : Word :=
  match o with
  | 0 => w16 (placesInService s)
  | 1 => w16 (shownEntry s.drying.rack[0]?)
  | 2 => w16 (shownEntry s.drying.rack[1]?)
  | _ => 0

/-- The dry remaining of a DRYING resident. -/
def dryingRemaining (s : State) (p : Option PlateId) : Option Nat :=
  match p.bind (plateOf s) with
  | none => none
  | some r => if r.stage = .drying then some r.dryRemaining else none

/-- The remaining minimum of a drawer, s (R138). -/
def remainingMinimum (s : State) (w : Drawer) : Nat :=
  match drawerSlotIds.filterMap fun m => dryingRemaining s w.slots[m] with
  | [] => 0
  | x :: xs => ceilDiv (xs.foldl min x) 1000

/-- A word of a drawer block (section 10.2, live page). -/
def drawerWord (s : State) (w : Drawer) (o : Nat) : Word :=
  match o with
  | 0 => w16 (serviceCode w.service)
  | 1 => wordOfInt w.temp
  | 2 => bitIf w.doorClosed 0 ||| bitIf w.heaterFault 1
  | 3 => w16 (shownPlate w.slots[0])
  | 4 => w16 (shownPlate w.slots[1])
  | 5 => w16 (shownPlate w.slots[2])
  | 6 => w16 (shownPlate w.slots[3])
  | _ => w16 (remainingMinimum s w)

/-- A figure of the current move; 0 while it is absent. -/
def moveFigure (s : State) (f : Move → Nat) : Word :=
  match s.shuttle.move with
  | none => 0
  | some m => w16 (f m)

/-- The shuttle words of the live page. -/
def shuttleWord (s : State) (o : Nat) : Word :=
  match o with
  | 0 => w16 (shuttleCode s.shuttle.state)
  | 1 => moveFigure s fun m => moveKindCode m.kind
  | 2 => moveFigure s fun m => m.plate.val + 1
  | 3 => moveFigure s fun m => placeCode m.source
  | 4 => moveFigure s fun m => placeCode m.dest
  | 5 => moveFigure s fun m => m.order
  | 6 =>
    bitIf s.shuttle.ready 0 ||| bitIf s.shuttle.fault 1 ||| bitIf s.shuttle.stackFull 2 |||
      bitIf s.shuttle.resetRequested 3
  | 7 => w16 (orderResultCode s.shuttle.result)
  | 8 => w16 s.shuttle.position
  | 9 => w16 s.shuttle.echo
  | _ => 0

/-- The open-shutter time remaining, s; 0 while the timer is stopped (R169). -/
def openRemaining (s : State) : Nat :=
  match s.chamber.openDeadline with
  | some d => ceilDiv (d - s.now) 1000
  | none => ceilDiv (absentNat s.chamber.openStanding) 1000

/-- The chamber words of the live page. -/
def chamberWord (s : State) (o : Nat) : Word :=
  let c := s.chamber
  match o with
  | 0 => w16 (chamberCode c.state)
  | 1 => w16 (shownPlate (c.pos1.map fun x => x.1))
  | 2 => w16 (shownPlate (c.pos2.map fun x => x.1))
  | 3 => w16 (groupTargets c).1
  | 4 => w16 (groupTargets c).2
  | 6 => lowWord c.accA
  | 7 => highWord c.accA
  | 8 => lowWord c.accC
  | 9 => highWord c.accC
  | 10 => bitIf c.openA 0 ||| bitIf c.openC 1 ||| bitIf c.onA 2 ||| bitIf c.onC 3
  | 11 => w16 (openRemaining s)
  | 12 => w16 c.eUva
  | 13 => w16 c.eUvc
  | 14 => w16 (tubeCode c.tubeA + 4 * tubeCode c.tubeC + (if c.doorClosed then 16 else 0))
  | _ => 0

/-- A node figure of the live page (R184): state, miss count, check count. -/
def nodeWord (r : NodeRec) (o : Nat) : Word :=
  match o with
  | 0 => w16 (nodeStateCode r.state)
  | 1 => w16 r.miss
  | _ => w16 r.check

/-- A word of the live page (section 10.2). -/
def livePageWord (s : State) (a : Nat) : Word :=
  if a < 0x1010 then bankWord s.banks.bk (a - 0x1000)
  else if a < 0x1020 then bankWord s.banks.m1 (a - 0x1010)
  else if a < 0x1030 then bankWord s.banks.m2 (a - 0x1020)
  else if a < 0x1040 then transportWord s (a - 0x1030)
  else if a < 0x1050 then washWord s (a - 0x1040)
  else if a < 0x1060 then rackWord s (a - 0x1050)
  else if a < 0x1090 then
    drawerWord s s.drying.drawers[(Fin.ofNat 6 ((a - 0x1060) / 8))] ((a - 0x1060) % 8)
  else if a < 0x10A0 then shuttleWord s (a - 0x1090)
  else if a < 0x10B0 then chamberWord s (a - 0x10A0)
  else if 0x10C0 ≤ a ∧ a < 0x10C0 + 45 then
    nodeWord s.link.nodes[(Fin.ofNat 15 ((a - 0x10C0) / 3))] ((a - 0x10C0) % 3)
  else 0

/-- A word of the calibration service block (section 10.2). -/
def serviceWord (s : State) (a : Nat) : Word :=
  if a ≤ 0x1102 then ramRead s a
  else if a = 0x1103 then w16 (opStateCode s.cal.opState)
  else if a = 0x1104 then w16 (opResultCode s.cal.result)
  else if a = 0x1105 then s.cal.readData
  else 0

/-- LINE_STAT (section 10.6). -/
def lineStat (s : State) : Word :=
  w16 (lineCode s.supervisor.line) ||| bitIf s.safety.estop 4 ||| bitIf (!s.safety.coverClosed) 5 |||
    bitIf s.safety.lineSafe 6 ||| w16 (scanModeCode s.link.mode * 256)

/-- A register (R193). -/
def registerWord (s : State) (a : Nat) : Word :=
  if a = 0x3FF8 then 0x4201
  else if a = 0x3FF9 then w16 (outcomeCode s.supervisor.outcome)
  else if a = 0x3FFA then lineStat s
  else if a = 0x3FFB then s.bus.latched
  else if a = 0x3FFC then s.bus.mask
  else 0

/-- What a word of the host's address space reads as it stands (R186). -/
def readWord (s : State) (a : Nat) : Word :=
  if a < 0x0040 then headerWord s a
  else if a < 0x1000 then ramRead s a
  else if a < 0x1100 then livePageWord s a
  else if a < 0x1110 then serviceWord s a
  else if a < 0x3FF8 then ramRead s a
  else registerWord s a

/-! ## Host reads (R186, R190, R194) -/

/-- The value a host read returns: the captured high word, or the word as it stands (R190). -/
def readValue (s : State) (a : Nat) : Word :=
  match s.bus.capture with
  | some (b, w) => if b = a ∧ isLow32 (a - 1) = true then w else readWord s a
  | none => readWord s a

/-- The read capture after a host read (R190). -/
def captureAfter (s : State) (a : Nat) : Option (Nat × Word) :=
  if isLow32 a then some (a + 1, readWord s (a + 1)) else none

/-- What a read of ATTN_CAUSE does: the set is emptied and ATTN# released (R194). -/
def readEffect (a : Nat) (s : State) : State :=
  if a = 0x3FFB then { s with bus.latched := 0, bus.attn := false } else s

/-- A host read of a word (R186, R190). -/
def busRead (a : BusAddr) (s : State) : State :=
  readEffect a.toNat { s with
    bus.dataOut := readValue s a.toNat, bus.capture := captureAfter s a.toNat }

/-! ## Host writes -/

/-- A setting of the header takes a clamped value, which its word shows (R192). -/
def writeInterval (v : Word) (s : State) : State :=
  let n := clampNat 100 5000 v.toNat
  ramWrite 0x0021 (w16 n) { s with bus.interval := n }

/-- The queue mark (R34, R192). -/
def writeMark (v : Word) (s : State) : State :=
  let n := clampNat 0 48 v.toNat
  evalQueueLow (ramWrite 0x0022 (w16 n) { s with admission.mark := n })

/-- The heartbeat timeout (R192, R198). -/
def writeTimeout (v : Word) (s : State) : State :=
  let n := clampNat 0 60 v.toNat
  startHeartbeat n (ramWrite 0x0023 (w16 n) { s with bus.hbTimeout := n })

/-- The solvent load entry (R128, R192). -/
def writeLoadEntry (v : Word) (s : State) : State :=
  if idleOrHalted s then changeLoad v.toNat (ramWrite 0x0024 v s) else countDiscard s

/-- A host write to a header word (R188, R192). -/
def writeHeader (a : Nat) (v : Word) (s : State) : State :=
  if a = 0x000C then { s with bus.protect := 0 }
  else if a = 0x0020 then seePostingCount v (ramWrite a v s)
  else if a = 0x0021 then writeInterval v s
  else if a = 0x0022 then writeMark v s
  else if a = 0x0023 then writeTimeout v s
  else if a = 0x0024 then writeLoadEntry v s
  else countDiscard s

/-- A host write to a word of a ticket slot (R188, R189). -/
def writeTicket (a : Nat) (v : Word) (s : State) : State :=
  if slotOffset a = 0 then ramWrite a v s
  else if slotOffset a < 24 then
    if slotState s (slotOfAddr a) = .free then ramWrite a v s else countDiscard s
  else if slotOffset a < 32 then ramWrite a v s
  else countDiscard s

/-- A host write to a word of the live page (R184, R188). -/
def writeLivePage (a : Nat) (s : State) : State :=
  match checkCountNode a with
  | some n => putNode n { s.link.nodes[n] with check := 0 } s
  | none => countDiscard s

/-- A host write to a word of the service block (R188, R206). -/
def writeService (a : Nat) (v : Word) (s : State) : State :=
  if a = 0x1100 then requestOp v (ramWrite a v s)
  else if a ≤ 0x1102 then ramWrite a v s
  else countDiscard s

/-- The urgent and the routine causes. -/
def urgentCauses : List Attn := [.safe, .halt, .node, .stray, .handling]

def routineCauses : List Attn := [.slot, .queueLow, .hold, .lamp, .solvent, .protect, .cal, .hostSilent]

/-- The causes of a list whose bits a word holds are treated as latched (R195). -/
def driveCauses (bits : Word) (cs : List Attn) (s : State) : State :=
  cs.foldl (fun t c => if bits.getLsbD (attnBit c) then driveAttn c t else t) s

/-- A host write to ATTN_MASK (R195): latched causes that it newly enables are treated as latched, the urgent
ones first or last as a free value gives (log entry 12). -/
def writeMask (v : Word) (s : State) : State :=
  let m := v &&& attnValid
  let newly := s.bus.latched &&& m &&& ~~~ s.bus.mask
  let t := { s with bus.mask := m, freeCount := s.freeCount + 1 }
  if Config.urgentFirst s.freeCount then driveCauses newly routineCauses (driveCauses newly urgentCauses t)
  else driveCauses newly urgentCauses (driveCauses newly routineCauses t)

/-- A host write to a register (R193, R195, R198); the addresses past them take no write (R186). -/
def writeRegister (a : Nat) (v : Word) (s : State) : State :=
  if a = 0x3FF9 then lineCommand v s
  else if a = 0x3FFC then writeMask v s
  else if a = 0x3FFD then startHeartbeat s.bus.hbTimeout s
  else s

/-- A host write taken as a write of its own, by the ownership of its word (R188). -/
def routeWrite (a : Nat) (v : Word) (s : State) : State :=
  if a < 0x0040 then writeHeader a v s
  else if a < 0x0400 then ramWrite a v s
  else if a < 0x1000 then writeTicket a v s
  else if a < 0x1100 then writeLivePage a s
  else if a < 0x1110 then writeService a v s
  else if a < 0x3FF8 then ramWrite a v s
  else writeRegister a v s

/-- The two words of a job reference are committed, or discarded and counted once (R189, R191). -/
def commitPair (a : Nat) (low high : Word) (s : State) : State :=
  if slotState s (slotOfAddr a) = .free then ramWrite (a + 1) high (ramWrite a low s) else countDiscard s

/-- A host write of a word (R186, R191). -/
def busWrite (a : BusAddr) (v : Word) (s : State) : State :=
  if isJobLow a.toNat then { s with bus.hold := some (a.toNat, v) }
  else
    let t := { s with bus.hold := none }
    match s.bus.hold with
    | some (b, w) =>
      if a.toNat = b + 1 ∧ isJobLow b = true then commitPair b w v t else routeWrite a.toNat v t
    | none => routeWrite a.toNat v t

/-! ## The routine hold-off timer (R197) -/

/-- The hold-off timer has expired (R197). -/
def holdOffExpired (s : State) : State :=
  if !s.bus.attn && (s.bus.latched &&& s.bus.mask &&& attnRoutineBits) != 0 then
    { s with bus.attn := true, bus.holdOff := some (s.now + s.bus.interval) }
  else { s with bus.holdOff := none }

end Sys2Proof.Machine
end

