-- ==== Sys2Proof/Machine/Timers.lean ====
section
/-! DEFINITION. The safety inputs (R201, R202) and the effects of the expiry of the blocks' timers. -/

namespace Sys2Proof.Machine

/-! ## Safety inputs (R201) -/

/-- The level of a safety input. -/
def safetyPin (s : State) : SafetyInput → Bool
  | .estop => s.pins.estopAsserted
  | .cover => s.pins.coverClosed

/-- An input takes a level: a change restarts its 2 ms timer (R201). -/
def safetyChange (i : SafetyInput) (level : Bool) (s : State) : State :=
  if safetyPin s i = level then s
  else
    match i with
    | .estop => { s with pins.estopAsserted := level, safety.estopTimer := some (s.now + 2) }
    | .cover => { s with pins.coverClosed := level, safety.coverTimer := some (s.now + 2) }

/-- A settled change of ESTOP# (R201). -/
def settledEstop (asserted : Bool) (s : State) : State :=
  let t := { s with safety.estop := asserted }
  if asserted then enterSafe .estop t else t

/-- The line is RUNNING or DRAINING. -/
def lineMoves (s : State) : Bool := circulates s

/-- A settled change of COVER (R69, R201). -/
def settledCover (closed : Bool) (s : State) : State :=
  let t := syncBanks { s with safety.coverClosed := closed }
  if !closed && lineMoves t then enterSafe .cover t else t

/-- The settle timer of an input has expired (R201). -/
def safetySettled (i : SafetyInput) (s : State) : State :=
  match i with
  | .estop =>
    let t := { s with safety.estopTimer := none }
    if s.pins.estopAsserted = s.safety.estop then t else settledEstop s.pins.estopAsserted t
  | .cover =>
    let t := { s with safety.coverTimer := none }
    if s.pins.coverClosed = s.safety.coverClosed then t else settledCover s.pins.coverClosed t

/-- The settle timer of an input. -/
def safetyTimer (s : State) : SafetyInput → Option Nat
  | .estop => s.safety.estopTimer
  | .cover => s.safety.coverTimer

/-- An ESTOP# found asserted at the end of a reset is delivered as a settled change (R201); with none to deliver
nothing happens (log entry 33). -/
def deliverEstopAtReset (s : State) : State :=
  if s.safety.estopAtReset then settledEstop true { s with safety.estopAtReset := false } else s

/-! ## Timers that always run -/

/-- The intake's one-second timer (R4). -/
def intakeTick (s : State) : State :=
  let t := advanceTo s.intake.timer s
  callSweep { t with intake.timer := s.intake.timer + 1000 }

/-- The supervisor's 1000 ms timer counts the line time (R22). -/
def lineTick (s : State) : State :=
  let t := advanceTo s.supervisor.timer s
  { t with
    supervisor.timer := s.supervisor.timer + 1000
    supervisor.lineTime := next32 s.supervisor.lineTime }

/-- The scale watchdog makes a silent sample (R52). -/
def watchdogTick (s : State) : State := positionSample none (advanceTo s.transport.watchdog s)

/-! ## Timers that are started and stopped -/

/-- The heartbeat timer restarts and a lapse is reported (R198). -/
def heartbeatExpired (s : State) : State := heartbeatLapse (startHeartbeat s.bus.hbTimeout s)

/-- The retry timer (R125, R126). -/
def retryExpired (s : State) : State :=
  let t := { s with wash.retry := none }
  if t.wash.replenish = .retryWait then orderOrPend t else t

/-- The move timer fails the current move (R148). -/
def moveExpired (s : State) : State := handlingTests (failCurrentMove { s with shuttle.timer := none })

/-- The ignition timer in IGNITING (R158, R167). -/
def ignitionExpired (s : State) : State :=
  let t := { s with chamber.ignition := none }
  if t.chamber.state = .igniting then handlingTests (chamberFault t) else t

/-- The stabilizing timer makes the chamber READY (R158, R159). -/
def stabilizingExpired (s : State) : State :=
  let t := { s with chamber.stabilizing := none }
  if t.chamber.state = .stabilizing then handlingTests (enterReady t) else t

/-- The idle timer in READY makes the chamber DARK (R159). -/
def idleExpired (s : State) : State :=
  let t := { s with chamber.idle := none }
  if t.chamber.state = .ready then
    handlingTests { t with chamber := { t.chamber with ask := .none, state := .dark } }
  else t

/-- The second-plate timer withdraws the ask and starts the exposure (R160). -/
def secondExpired (s : State) : State :=
  let t := { s with chamber.second := none }
  if t.chamber.state = .loading then handlingTests (startExposure t) else t

/-- The open-shutter timer in EXPOSING ends the batch SHORT (R164). -/
def openShutterExpired (s : State) : State :=
  let t := { s with chamber.openDeadline := none }
  if t.chamber.state = .exposing then handlingTests (endBatch .short t) else t

/-! ## The banks' clocks -/

/-- A PWM period starts with the duty commanded at that moment (R83). -/
def pwmStart (k : Bank) (s : State) : State :=
  putBank k { s.banks.get k with pwm := (s.banks.get k).duty } s

/-- A second of on-time is counted (R85). -/
def countSecond (b : BankUnit) : BankUnit :=
  { b with onTime := satAdd top32 b.onTime 1, onRem := b.onRem - 1000 }

/-- A bank's on-time remainder reaches 1000 ms (R85): the part's time comes to that moment. Nothing happens
while the remainder stands below 1000. -/
def onTimeTick (k : Bank) (s : State) : State :=
  let b := s.banks.get k
  if b.duty = 0 ∧ b.onRem < 1000 then s
  else
    let t := advanceTo (s.now + (1000 - b.onRem)) s
    putBank k (countSecond (t.banks.get k)) t

end Sys2Proof.Machine
end

