-- ==== Sys2Proof/Machine/Reset.lean ====
section
/-! DEFINITION. The power-on reset and the pin reset (R19, R20, R32, R51, R67, R88, R110, R129, R152, R153, R170,
R185, R199 to R205). -/

namespace Sys2Proof.Machine

/-! ## What both resets do -/

/-- The store is good (R205). -/
def storeGood (s : State) : Bool := storeMarked s && allItemsOk s

/-- The items of the load at the end of a reset: the store's, or the defaults (R205). -/
def resetItems (s : State) (a : Nat) : Option Word :=
  some (if storeGood s then storeRead s a else itemDefault a)

/-- The load of live values at the end of a reset (R87, R88, R205): LAMP_WEAK is evaluated without latching. Between
the thresholds of R82 the flag keeps its value, and R88 gives none to keep: the model starts from clear (the
model's choice, log entry 46). -/
def loadAtReset (s : State) : State :=
  let take := resetItems s
  let bank (base : Nat) (b : BankUnit) : BankUnit := evalLampWeak (liveBank take base b)
  let t := liveOthers take s
  { t with
    banks := { bk := bank 1 t.banks.bk, m1 := bank 9 t.banks.m1, m2 := bank 17 t.banks.m2 }
    cal.state := if storeGood s then .valid else .default }

/-- The inputs are taken as they stand (R67, R88, R201): a COVER found open forces the banks off. An ESTOP# found
asserted is delivered in the first event after the reset, so its command goes to the front of the queue (R201,
R202; log entry 33). The two safety settle timers stand stopped (the model's choice, log entry 49). -/
def takeInputs (s : State) : State :=
  let t := { s with
    transport.infeed := { settled := s.pins.infeed, candidate := none, timer := none }
    transport.exit := { settled := s.pins.exit, candidate := none, timer := none }
    safety.estop := s.pins.estopAsserted
    safety.coverClosed := s.pins.coverClosed
    safety.estopAtReset := s.pins.estopAsserted
    pending := if s.pins.estopAsserted then .estopAssertedAtReset :: s.pending else s.pending }
  syncBanks t

/-- The link master starts by the live last node and assignment (R185); a pass with no visited node ends at
once. -/
def startLink (s : State) : State :=
  let t := { s with link.nodes := (Vector.ofFn fun n : Fin 15 =>
    NodeRec.reset (assignedStation s.link.lastNode s.link.assign n)) }
  { t with link.phase := if (nextVisited t 0).isSome then .guard 0 else .between }

/-- The solvent load after a reset: the hold is evaluated without latching, and a cycle opens as the load
gives (R129). A load between the release level and the hard limit keeps the hold's value, and R129 gives none to
keep: the model starts from clear (the model's choice, log entry 47). -/
def startWash (load : Nat) (s : State) : State :=
  openCycle { s with
    wash.load := load, wash.hold := solventHoldAfter load s.wash.hard false, wash.replenish := .idle }

/-- What a reset keeps of any state: the commands waiting, the inputs, and the store as the cut left it. The
free count moves on. -/
def resetBase (s : State) : State :=
  { State.reset with
    pending := s.pending, freeCount := s.freeCount + 1, pins := s.pins, cal.store := (cutStore s).cal.store }

/-- A state right after a reset, before the load of live values, is brought up with a solvent load. -/
def bringUp (load : State → Nat) (s : State) : State :=
  let t := takeInputs (startLink (loadAtReset s))
  startWash (load t) t

/-! ## Power-on reset (R199) -/

/-- The power-on reset: the exchange memory is cleared and takes the header's defaults, and the load is the
live hard limit. -/
def powerOn (s : State) : State := bringUp (fun t => t.wash.hard) (resetBase s)

/-! ## Pin reset (R20, R200) -/

/-- A station of a lost plate that had not closed reads INCOMPLETE with minimum and maximum 0 (R20). -/
def loseStation (i : PlateId) (oMin oMax oVerdict : Nat) (s : State) : State :=
  if slotWord s i oVerdict = 0 then
    putSlotNat i oVerdict (verdictCode .incomplete) (putSlotNat i oMax 0 (putSlotNat i oMin 0 s))
  else s

/-- An ACTIVE slot is completed as lost (R20). -/
def loseSlot (i : PlateId) (s : State) : State :=
  let t := loseStation i oMainMin oMainMax oMainVerdict (loseStation i oBackMin oBackMax oBackVerdict s)
  let u := putSlot32 i oCompletion s.supervisor.lineTime (putSlotNat i oStage (stageCode .ended) t)
  setSlotState i .done (putSlotNat i oReason (dispositionCode .lostByReset) u)

/-- Ticket intake resolves every slot that the reset leaves without a plate; SLOT is latched if any was
(R20). -/
def resolveSlots (s : State) : State :=
  let active := plateIds.filter fun i => slotState s i == .active
  let t := resolveQueuedSlots .partReset s
  latchIf (!active.isEmpty) .slot (active.foldl (fun u i => loseSlot i u) t)

/-- The exchange memory, the line time and the header's settings that a pin reset keeps (R20, R32, R200). -/
def pinBase (s : State) : State :=
  let t := resetBase s
  let u := { t with
    bus.ram := s.bus.ram
    bus.resetSource := .resetPin
    bus.interval := (ramRead s 0x0021).toNat
    bus.hbTimeout := (ramRead s 0x0023).toNat
    admission.mark := (ramRead s 0x0022).toNat
    admission.queueLow := queueLowOf 0 (ramRead s 0x0022).toNat
    intake.lastSeen := ramRead s 0x0020
    supervisor.lineTime := s.supervisor.lineTime }
  startHeartbeat u.bus.hbTimeout u

/-- The pin reset: the slots are resolved, and the solvent load is that of the header's word (R129). -/
def pinReset (s : State) : State := bringUp (fun _ => s.wash.load) (resolveSlots (pinBase s))

end Sys2Proof.Machine
end

