-- ==== Sys2Proof/Machine/Events.lean ====
section
/-! DEFINITION. The meanings of the events that no host access makes: resets, timers, samples, edges, conversions,
link visits and their outcomes, and the safety inputs. -/

namespace Sys2Proof.Machine

/-! ## Resets (R199, R200) -/

/-- POWER_ON_RESET (R199). -/
def execPowerOnReset (s : State) : Host.Outcome State Fault Refusal :=
  .next (powerOn s)

/-- PIN_RESET (R200). -/
def execPinReset (s : State) : Host.Outcome State Fault Refusal :=
  .next (pinReset s)

/-! ## Calibration store (R207) -/

/-- WRITE_COMPLETE (R207). -/
def execWriteComplete (s : State) : Host.Outcome State Fault Refusal :=
  .next (completeWrite s)

/-- ERASE_COMPLETE (R207). -/
def execEraseComplete (s : State) : Host.Outcome State Fault Refusal :=
  .next (completeErase s)

/-- SAVE_OFFSETS_COMPLETE (R207). -/
def execSaveOffsetsComplete (s : State) : Host.Outcome State Fault Refusal :=
  .next (completeSave s)

/-! ## Intake, supervisor and bus interface -/

/-- INTAKE_TIMER_EXPIRY (R4). -/
def execIntakeTimerExpiry (s : State) : Host.Outcome State Fault Refusal :=
  .next (intakeTick s)

/-- SWEEP_VISIT (R5). -/
def execSweepVisit (s : State) : Host.Outcome State Fault Refusal :=
  .next (sweepStep s)

/-- LINE_TIME_TIMER (R22). -/
def execLineTimeTimer (s : State) : Host.Outcome State Fault Refusal :=
  .next (lineTick s)

/-- HEARTBEAT_TIMER_EXPIRY (R198). -/
def execHeartbeatTimerExpiry (s : State) : Host.Outcome State Fault Refusal :=
  .next (onExpiry s.bus.hbTimer heartbeatExpired s)

/-- HOLD_OFF_TIMER_EXPIRY (R197). -/
def execHoldOffTimerExpiry (s : State) : Host.Outcome State Fault Refusal :=
  .next (onExpiry s.bus.holdOff holdOffExpired s)

/-! ## Belt scale, sensors and gate (R43, R52, R56) -/

/-- SCALE_WORD (R52): the reader delivers a phase word; PLATE_READY stands as given. -/
def execScaleWord (reader : Reader) (phase : Word) (plateReady : Bool) (s : State) : Host.Outcome State Fault Refusal :=
  .next (takeScaleWord reader phase { s with pins.plateReady := plateReady })

/-- SCALE_WATCHDOG_EXPIRY (R52); PLATE_READY stands as given. -/
def execScaleWatchdogExpiry (plateReady : Bool) (s : State) : Host.Outcome State Fault Refusal :=
  .next (watchdogTick { s with pins.plateReady := plateReady })

/-- SENSOR_INPUT_CHANGE (R56). -/
def execSensorInputChange (sensor : Sensor) (present : Bool) (s : State) : Host.Outcome State Fault Refusal :=
  .next (sensorChange sensor present s)

/-- SETTLE_TIMER_EXPIRY (R56). -/
def execSettleTimerExpiry (sensor : Sensor) (s : State) : Host.Outcome State Fault Refusal :=
  .next (onExpiry (sensorUnit s sensor).timer (settleSensor sensor) s)

/-- MISFEED_TIMER_EXPIRY (R43). -/
def execMisfeedTimerExpiry (s : State) : Host.Outcome State Fault Refusal :=
  .next (onExpiry s.admission.misfeedTimer misfeed s)

/-! ## Banks (R72, R83, R85) -/

/-- CONVERSION_COMPLETION (R72). -/
def execConversionCompletion (bank : Bank) (raw : BitVec 14) (s : State) : Host.Outcome State Fault Refusal :=
  .next (conversion bank raw.toNat s)

/-- PWM_PERIOD_START (R83). -/
def execPwmPeriodStart (bank : Bank) (s : State) : Host.Outcome State Fault Refusal :=
  .next (pwmStart bank s)

/-- ON_TIME_SECOND (R85). -/
def execOnTimeSecond (bank : Bank) (s : State) : Host.Outcome State Fault Refusal :=
  .next (onTimeTick bank s)

/-! ## Timers of the wash, the shuttle and the chamber -/

/-- RETRY_TIMER_EXPIRY (R125). -/
def execRetryTimerExpiry (s : State) : Host.Outcome State Fault Refusal :=
  .next (onExpiry s.wash.retry retryExpired s)

/-- MOVE_TIMER_EXPIRY (R148). -/
def execMoveTimerExpiry (s : State) : Host.Outcome State Fault Refusal :=
  .next (onExpiry s.shuttle.timer moveExpired s)

/-- IGNITION_TIMER_EXPIRY (R167). -/
def execIgnitionTimerExpiry (s : State) : Host.Outcome State Fault Refusal :=
  .next (onExpiry s.chamber.ignition ignitionExpired s)

/-- STABILIZING_TIMER_EXPIRY (R158). -/
def execStabilizingTimerExpiry (s : State) : Host.Outcome State Fault Refusal :=
  .next (onExpiry s.chamber.stabilizing stabilizingExpired s)

/-- IDLE_TIMER_EXPIRY (R159). -/
def execIdleTimerExpiry (s : State) : Host.Outcome State Fault Refusal :=
  .next (onExpiry s.chamber.idle idleExpired s)

/-- SECOND_PLATE_TIMER_EXPIRY (R160). -/
def execSecondPlateTimerExpiry (s : State) : Host.Outcome State Fault Refusal :=
  .next (onExpiry s.chamber.second secondExpired s)

/-- OPEN_SHUTTER_TIMER_EXPIRY (R164). -/
def execOpenShutterTimerExpiry (s : State) : Host.Outcome State Fault Refusal :=
  .next (onExpiry s.chamber.openDeadline openShutterExpired s)

/-! ## Line link (R173, R175, R177) -/

/-- PASS_TIMER_EXPIRY (R173). -/
def execPassTimerExpiry (s : State) : Host.Outcome State Fault Refusal :=
  .next (onExpiry s.link.passTimer passTimerExpired s)

/-- LINK_VISIT (R175). -/
def execLinkVisit (s : State) : Host.Outcome State Fault Refusal :=
  .next (nextVisit s)

/-- RESPONSE_FRAME (R177). -/
def execResponseFrame (bytes : List RxByte) (s : State) : Host.Outcome State Fault Refusal :=
  .next (visitOutcome (fun addr => judge addr bytes) s)

/-- RESPONSE_TIMEOUT (R177). -/
def execResponseTimeout (s : State) : Host.Outcome State Fault Refusal :=
  .next (visitOutcome (fun _ => .timeout) s)

/-! ## Safety inputs (R201) -/

/-- SAFETY_INPUT_CHANGE (R201). -/
def execSafetyInputChange (input : SafetyInput) (level : Bool) (s : State) : Host.Outcome State Fault Refusal :=
  .next (safetyChange input level s)

/-- SAFETY_SETTLE_EXPIRY (R201). -/
def execSafetySettleExpiry (input : SafetyInput) (s : State) : Host.Outcome State Fault Refusal :=
  .next (onExpiry (safetyTimer s input) (safetySettled input) s)

/-- ESTOP_ASSERTED_AT_RESET (R201). -/
def execEstopAssertedAtReset (s : State) : Host.Outcome State Fault Refusal :=
  .next (deliverEstopAtReset s)

end Sys2Proof.Machine
end

