-- ==== Sys2Proof/Machine/HostCommands.lean ====
section
/-! DEFINITION. The meanings of the host's commands: writes and reads of words and registers, line commands
and service operations. Each is one access of the bus (R186), so each also touches the write hold or the read
capture as R190 and R191 give. -/

namespace Sys2Proof.Machine

/-! ## Host words (R186 to R192) -/

/-- HOST_WORD_WRITE (R188). -/
def execHostWordWrite (addr : BusAddr) (value : Word) (s : State) : Host.Outcome State Fault Refusal :=
  .next (busWrite addr value s)

/-- WRITE_HOLD (R191): a host write of a word of a job reference. -/
def execWriteHold (addr : BusAddr) (value : Word) (s : State) : Host.Outcome State Fault Refusal :=
  .next (busWrite addr value s)

/-- PAIRED_WORD_LATCH (R190): a host read. -/
def execPairedWordLatch (addr : BusAddr) (s : State) : Host.Outcome State Fault Refusal :=
  .next (busRead addr s)

/-- POSTING_COUNT (R4). -/
def execPostingCount (value : Word) (s : State) : Host.Outcome State Fault Refusal :=
  .next (busWrite 0x0020 value s)

/-- ATTENTION_INTERVAL (R192). -/
def execAttentionInterval (value : Word) (s : State) : Host.Outcome State Fault Refusal :=
  .next (busWrite 0x0021 value s)

/-- QUEUE_MARK (R34). -/
def execQueueMark (value : Word) (s : State) : Host.Outcome State Fault Refusal :=
  .next (busWrite 0x0022 value s)

/-- HEARTBEAT_TIMEOUT (R198). -/
def execHeartbeatTimeout (value : Word) (s : State) : Host.Outcome State Fault Refusal :=
  .next (busWrite 0x0023 value s)

/-- SOLVENT_LOAD_ENTRY (R128). -/
def execSolventLoadEntry (value : Word) (s : State) : Host.Outcome State Fault Refusal :=
  .next (busWrite 0x0024 value s)

/-- PROTECT_COUNTER_CLEAR (R188). -/
def execProtectCounterClear (value : Word) (s : State) : Host.Outcome State Fault Refusal :=
  .next (busWrite 0x000C value s)

/-- CHECK_COUNT_CLEAR (R184): a host write of the check count word of a node. -/
def execCheckCountClear (node : Fin 15) (value : Word) (s : State) : Host.Outcome State Fault Refusal :=
  .next (busWrite (BitVec.ofNat 14 (checkCountAddr node)) value s)

/-- ATTN_CAUSE_READ (R194). -/
def execAttnCauseRead (s : State) : Host.Outcome State Fault Refusal :=
  .next (busRead 0x3FFB s)

/-- ATTN_MASK_WRITE (R195). -/
def execAttnMaskWrite (value : Word) (s : State) : Host.Outcome State Fault Refusal :=
  .next (busWrite 0x3FFC value s)

/-- HEARTBEAT (R198). -/
def execHeartbeat (value : Word) (s : State) : Host.Outcome State Fault Refusal :=
  .next (busWrite 0x3FFD value s)

/-- REGISTER_WRITE_IGNORED (R193). -/
def execRegisterWriteIgnored (addr : BusAddr) (value : Word) (s : State) : Host.Outcome State Fault Refusal :=
  .next (busWrite addr value s)

/-! ## Line commands: host writes of a code to LINE_CMD (R23, R193) -/

/-- START (R24). -/
def execStart (s : State) : Host.Outcome State Fault Refusal :=
  .next (busWrite 0x3FF9 1 s)

/-- DRAIN (R25). -/
def execDrain (s : State) : Host.Outcome State Fault Refusal :=
  .next (busWrite 0x3FF9 2 s)

/-- HALT (R23). -/
def execHalt (s : State) : Host.Outcome State Fault Refusal :=
  .next (busWrite 0x3FF9 3 s)

/-- RESUME (R30). -/
def execResume (s : State) : Host.Outcome State Fault Refusal :=
  .next (busWrite 0x3FF9 4 s)

/-- SAFE_RELEASE (R30). -/
def execSafeRelease (s : State) : Host.Outcome State Fault Refusal :=
  .next (busWrite 0x3FF9 5 s)

/-- RESET_LINE (R31). -/
def execResetLine (s : State) : Host.Outcome State Fault Refusal :=
  .next (busWrite 0x3FF9 6 s)

/-- LINK_SINGLE (R174). -/
def execLinkSingle (s : State) : Host.Outcome State Fault Refusal :=
  .next (busWrite 0x3FF9 7 s)

/-- LINK_CONTINUOUS (R174). -/
def execLinkContinuous (s : State) : Host.Outcome State Fault Refusal :=
  .next (busWrite 0x3FF9 8 s)

/-- SHUTTLE_RESET (R150). -/
def execShuttleReset (s : State) : Host.Outcome State Fault Refusal :=
  .next (busWrite 0x3FF9 9 s)

/-- RACK_CLEAR (R131). -/
def execRackClear (s : State) : Host.Outcome State Fault Refusal :=
  .next (busWrite 0x3FF9 10 s)

/-- CHAMBER_RESET (R168). -/
def execChamberReset (s : State) : Host.Outcome State Fault Refusal :=
  .next (busWrite 0x3FF9 11 s)

/-- UNKNOWN_COMMAND (R23). -/
def execUnknownCommand (code : Word) (s : State) : Host.Outcome State Fault Refusal :=
  .next (busWrite 0x3FF9 code s)

/-! ## Service operations: host writes of a code to the operation word (R206) -/

/-- READ (R207). -/
def execRead (s : State) : Host.Outcome State Fault Refusal :=
  .next (busWrite 0x1100 1 s)

/-- WRITE (R207). -/
def execWrite (s : State) : Host.Outcome State Fault Refusal :=
  .next (busWrite 0x1100 2 s)

/-- ERASE (R207). -/
def execErase (s : State) : Host.Outcome State Fault Refusal :=
  .next (busWrite 0x1100 3 s)

/-- LOAD_LIVE (R207). -/
def execLoadLive (s : State) : Host.Outcome State Fault Refusal :=
  .next (busWrite 0x1100 4 s)

/-- SAVE_OFFSETS (R207). -/
def execSaveOffsets (s : State) : Host.Outcome State Fault Refusal :=
  .next (busWrite 0x1100 5 s)

/-- UNKNOWN_OPERATION (R206). -/
def execUnknownOperation (code : Word) (s : State) : Host.Outcome State Fault Refusal :=
  .next (busWrite 0x1100 code s)

end Sys2Proof.Machine
end

