-- ==== Sys2Proof/Machine/Dispatch.lean ====
section
/-! DEFINITION. The dispatch: one arm for each command, one direct call of its meaning. -/

namespace Sys2Proof.Machine

def exec (i : Instr) (s : State) : Host.Outcome State Fault Refusal :=
  match i with
  | .powerOnReset => Sys2Proof.Machine.execPowerOnReset s
  | .pinReset => Sys2Proof.Machine.execPinReset s
  | .hostWordWrite addr value => Sys2Proof.Machine.execHostWordWrite addr value s
  | .writeHold addr value => Sys2Proof.Machine.execWriteHold addr value s
  | .pairedWordLatch addr => Sys2Proof.Machine.execPairedWordLatch addr s
  | .postingCount value => Sys2Proof.Machine.execPostingCount value s
  | .attentionInterval value => Sys2Proof.Machine.execAttentionInterval value s
  | .queueMark value => Sys2Proof.Machine.execQueueMark value s
  | .heartbeatTimeout value => Sys2Proof.Machine.execHeartbeatTimeout value s
  | .solventLoadEntry value => Sys2Proof.Machine.execSolventLoadEntry value s
  | .protectCounterClear value => Sys2Proof.Machine.execProtectCounterClear value s
  | .checkCountClear node value => Sys2Proof.Machine.execCheckCountClear node value s
  | .attnCauseRead => Sys2Proof.Machine.execAttnCauseRead s
  | .attnMaskWrite value => Sys2Proof.Machine.execAttnMaskWrite value s
  | .heartbeat value => Sys2Proof.Machine.execHeartbeat value s
  | .registerWriteIgnored addr value => Sys2Proof.Machine.execRegisterWriteIgnored addr value s
  | .start => Sys2Proof.Machine.execStart s
  | .drain => Sys2Proof.Machine.execDrain s
  | .halt => Sys2Proof.Machine.execHalt s
  | .resume => Sys2Proof.Machine.execResume s
  | .safeRelease => Sys2Proof.Machine.execSafeRelease s
  | .resetLine => Sys2Proof.Machine.execResetLine s
  | .linkSingle => Sys2Proof.Machine.execLinkSingle s
  | .linkContinuous => Sys2Proof.Machine.execLinkContinuous s
  | .shuttleReset => Sys2Proof.Machine.execShuttleReset s
  | .rackClear => Sys2Proof.Machine.execRackClear s
  | .chamberReset => Sys2Proof.Machine.execChamberReset s
  | .unknownCommand code => Sys2Proof.Machine.execUnknownCommand code s
  | .read => Sys2Proof.Machine.execRead s
  | .write => Sys2Proof.Machine.execWrite s
  | .erase => Sys2Proof.Machine.execErase s
  | .loadLive => Sys2Proof.Machine.execLoadLive s
  | .saveOffsets => Sys2Proof.Machine.execSaveOffsets s
  | .unknownOperation code => Sys2Proof.Machine.execUnknownOperation code s
  | .writeComplete => Sys2Proof.Machine.execWriteComplete s
  | .eraseComplete => Sys2Proof.Machine.execEraseComplete s
  | .saveOffsetsComplete => Sys2Proof.Machine.execSaveOffsetsComplete s
  | .intakeTimerExpiry => Sys2Proof.Machine.execIntakeTimerExpiry s
  | .sweepVisit => Sys2Proof.Machine.execSweepVisit s
  | .lineTimeTimer => Sys2Proof.Machine.execLineTimeTimer s
  | .heartbeatTimerExpiry => Sys2Proof.Machine.execHeartbeatTimerExpiry s
  | .holdOffTimerExpiry => Sys2Proof.Machine.execHoldOffTimerExpiry s
  | .scaleWord reader phase plateReady => Sys2Proof.Machine.execScaleWord reader phase plateReady s
  | .scaleWatchdogExpiry plateReady => Sys2Proof.Machine.execScaleWatchdogExpiry plateReady s
  | .sensorInputChange sensor present => Sys2Proof.Machine.execSensorInputChange sensor present s
  | .settleTimerExpiry sensor => Sys2Proof.Machine.execSettleTimerExpiry sensor s
  | .misfeedTimerExpiry => Sys2Proof.Machine.execMisfeedTimerExpiry s
  | .conversionCompletion bank raw => Sys2Proof.Machine.execConversionCompletion bank raw s
  | .pwmPeriodStart bank => Sys2Proof.Machine.execPwmPeriodStart bank s
  | .onTimeSecond bank => Sys2Proof.Machine.execOnTimeSecond bank s
  | .retryTimerExpiry => Sys2Proof.Machine.execRetryTimerExpiry s
  | .moveTimerExpiry => Sys2Proof.Machine.execMoveTimerExpiry s
  | .ignitionTimerExpiry => Sys2Proof.Machine.execIgnitionTimerExpiry s
  | .stabilizingTimerExpiry => Sys2Proof.Machine.execStabilizingTimerExpiry s
  | .idleTimerExpiry => Sys2Proof.Machine.execIdleTimerExpiry s
  | .secondPlateTimerExpiry => Sys2Proof.Machine.execSecondPlateTimerExpiry s
  | .openShutterTimerExpiry => Sys2Proof.Machine.execOpenShutterTimerExpiry s
  | .passTimerExpiry => Sys2Proof.Machine.execPassTimerExpiry s
  | .linkVisit => Sys2Proof.Machine.execLinkVisit s
  | .responseFrame bytes => Sys2Proof.Machine.execResponseFrame bytes s
  | .responseTimeout => Sys2Proof.Machine.execResponseTimeout s
  | .safetyInputChange input level => Sys2Proof.Machine.execSafetyInputChange input level s
  | .safetySettleExpiry input => Sys2Proof.Machine.execSafetySettleExpiry input s
  | .estopAssertedAtReset => Sys2Proof.Machine.execEstopAssertedAtReset s

end Sys2Proof.Machine
end

