-- ==== Sys2Proof/Safety.lean ====
section
/-! DEFINITION. What counts as a safe run: the properties of a state that every step keeps. -/

namespace Sys2Proof.Machine

/-- The exchange memory and the calibration store are in their canonical forms: addresses strictly rising, and
no entry equal to what an unlisted address reads as. -/
def canonical (s : State) : Prop := memoryWf s.bus.ram = true ∧ storeWf s.cal.store = true

/-- The belt stands by the line state: IDLE, HALTED or SAFE (R22). -/
def beltStands (s : State) : Bool :=
  match s.supervisor.line with
  | .idle | .halted | .safe => true
  | .running | .draining => false

/-- In IDLE, HALTED and SAFE no plate is on the belt, the belt speed demand is 0 and no epoch is current (R22,
R26, R28, R29). -/
def lineStill (s : State) : Prop :=
  beltStands s = true →
    s.tracker.train = [] ∧ s.transport.demand = 0 ∧ s.admission.epochCurrent = false

/-- A bank's state and duty follow from whether it is forced off and from its claim set (R69, R84): FORCED_OFF
exactly while forced, CLAIMED otherwise exactly with claims, duty 0 while forced or without claims. -/
def bankFollows (forced : Bool) (b : BankUnit) : Prop :=
  (b.state = .forcedOff ↔ forced = true) ∧
    (forced = false → (b.state = .claimed ↔ b.claims ≠ [])) ∧
    (forced = true ∨ b.claims = [] → b.duty = 0) ∧
    b.duty ≤ 1000

/-- The three banks follow the line state, COVER and their claim sets (R69, R84). -/
def banksFollow (s : State) : Prop :=
  bankFollows (bankForced s) s.banks.bk ∧ bankFollows (bankForced s) s.banks.m1 ∧
    bankFollows (bankForced s) s.banks.m2

/-- LINE_SAFE# is asserted exactly while the line is SAFE (R202). -/
def safeLineAsserted (s : State) : Prop := s.safety.lineSafe = true ↔ s.supervisor.line = .safe

/-- What the line state promises of the belt, the banks and the safety contactor. -/
def lineInv (s : State) : Prop := lineStill s ∧ banksFollow s ∧ safeLineAsserted s

/-- A node record's counts lie in their ranges (R171). -/
def nodeCounts (r : NodeRec) : Prop := r.miss ≤ 7 ∧ r.check ≤ 255 ∧ r.seq ≤ 15

/-- The counts of the part lie in their ranges: the protect counter (R188), the consecutive fault count (R54),
the solvent load (R119), and the counts of every node (R171). -/
def countInv (s : State) : Prop :=
  s.bus.protect ≤ 255 ∧ s.transport.faults ≤ 255 ∧ s.wash.load ≤ 65535 ∧
    ∀ n : Fin 15, nodeCounts s.link.nodes[n]

/-! ## One place for each plate -/

/-- The plates of the exit rack, in order (R130). -/
def rackPlates (s : State) : List PlateId :=
  s.drying.rack.filterMap fun e => match e with | .plate p => some p | .stray => none

/-- The plates of the drawers (R132). -/
def drawerPlates (s : State) : List PlateId :=
  drawerIds.flatMap fun d => drawerSlotIds.filterMap fun m => s.drying.drawers[d].slots[m]

/-- The plate of a batch position. -/
def occupant (o : Option (PlateId × Mark)) : Option PlateId := o.map fun x => x.1

/-- The plates of the belt train, the exit rack, the shuttle and the chamber batch. -/
def workPlates (s : State) : List PlateId :=
  s.tracker.train ++ rackPlates s ++ (s.shuttle.move.map fun m => m.plate).toList ++
    (occupant s.chamber.pos1).toList ++ (occupant s.chamber.pos2).toList

/-- A plate stands at most once in the queue, the train, the rack, the shuttle, the batch and the drawers
together, with the slot state of its place; the dry list holds no plate twice, and only plates that are in none of
those but a drawer and do not dry; a drawer's plate has its place in its record; and a plate that the chamber unit asks
to unload is nowhere but at the position named (R33, R46, R130, R132, R138, R139, R154, R166). -/
def placesInv (s : State) : Prop :=
  (s.admission.queue ++ workPlates s ++ drawerPlates s).Nodup ∧
  (∀ p ∈ s.admission.queue, slotState s p = .queued) ∧
  (∀ p ∈ workPlates s ++ drawerPlates s ++ s.drying.dryList, slotState s p = .active) ∧
  s.drying.dryList.Nodup ∧
  (∀ p ∈ s.drying.dryList, p ∉ workPlates s ∧ (plateOf s p).map (fun r => r.stage) ≠ some .drying) ∧
  (∀ (d : Fin 6) (m : Fin 4) (p : PlateId), s.drying.drawers[d].slots[m] = some p →
    ∀ r, plateOf s p = some r → r.drawerSlot = some (d, m)) ∧
  (match s.chamber.ask with
    | .unload p pos _ =>
      slotState s p = .active ∧ p ∉ s.drying.dryList ++ s.tracker.train ++ rackPlates s ++ drawerPlates s ∧
        (s.shuttle.move.map fun m => m.plate) ≠ some p ∧
        (match pos with | .one => occupant s.chamber.pos2 | .two => occupant s.chamber.pos1) ≠ some p
    | .load _ _ => True
    | .none => True)

/-! ## Words for what an event leaves unchanged -/

/-- The state `t` with the RAM of `s`: equal to `s` when `t` differs from it in the RAM alone. -/
def exceptRam (s t : State) : State := { t with bus.ram := s.bus.ram }

/-- The state `t` with the attention set and line of `s`: equal to `s` when `t` differs from it only in what
latching a cause changes (R194 to R197). -/
def exceptAttn (s t : State) : State :=
  { t with bus.latched := s.bus.latched, bus.attn := s.bus.attn, bus.holdOff := s.bus.holdOff }

/-- The state `t` with the time and the banks' on-time remainders of `s`: equal to `s` when `t` differs from it
only in the time that has passed (R85; log entry 2). -/
def exceptTime (s t : State) : State :=
  { t with
    now := s.now
    banks :=
      { bk := { t.banks.bk with onRem := s.banks.bk.onRem }
        m1 := { t.banks.m1 with onRem := s.banks.m1.onRem }
        m2 := { t.banks.m2 with onRem := s.banks.m2.onRem } } }

/-- The words of the host that a host write of one word enters at once (R186, R188, R189): recipes, general RAM,
the store address and the write data, words 0 and 24 to 31 of a slot, and its ticket words while it is FREE; not
the low word of a job reference, and not the high word while the hold has its low word (R191). -/
def openToHost (s : State) (a : Nat) : Bool :=
  (0x0040 ≤ a && a < 0x0400) || (0x1110 ≤ a && a < 0x3FF8) || a == 0x1101 || a == 0x1102 ||
    (inTickets a && (slotOffset a == 0 || (24 ≤ slotOffset a && slotOffset a < 32))) ||
    (inTickets a && slotOffset a < 24 && slotOffset a != 2 && slotState s (slotOfAddr a) == .free &&
      !(isJobLow (a - 1) && (s.bus.hold.map fun h => h.1) == some (a - 1)))

/-- The ticket words of a slot that is not FREE: a host write of one word is discarded (R189). -/
def closedToHost (s : State) (a : Nat) : Bool :=
  inTickets a && 1 ≤ slotOffset a && slotOffset a < 24 && slotOffset a != 2 &&
    slotState s (slotOfAddr a) != .free &&
    !(isJobLow (a - 1) && (s.bus.hold.map fun h => h.1) == some (a - 1))

/-- From `s` to `t` the causes whose bits are given were latched. -/
def latchedBits (bits : Word) (s t : State) : Prop := t.bus.latched = s.bus.latched ||| bits

/-- From `s` to `t` a host write or a request was discarded and counted once, and nothing else happened
(R188). -/
def discarded (s t : State) : Prop :=
  t.bus.protect = min 255 (s.bus.protect + 1) ∧ latchedBits 0x2000 s t ∧
    exceptAttn s { t with bus.protect := s.bus.protect } = s

/-- The RAM words at addresses outside a list are unchanged. -/
def ramKeptOutside (as : List Nat) (s t : State) : Prop := ∀ a, a ∉ as → ramRead t a = ramRead s a

/-- The write hold is emptied, as every host write does but one of a job reference's low word (R191). -/
def unheld (s : State) : State := { s with bus.hold := none }

/-- A host word written that belongs to the part and clears or resets nothing (R188): header words other than
the protect counter and the settings, words 32 to 63 of a slot, the live page but its check count words, and
the part-written words of the service block. -/
def partOwned (a : Nat) : Bool :=
  (a < 0x0040 && a != 0x000C && !(0x0020 ≤ a && a ≤ 0x0024)) ||
    (inTickets a && 32 ≤ slotOffset a) ||
    (0x1000 ≤ a && a < 0x1100 && (checkCountNode a).isNone) ||
    (0x1103 ≤ a && a < 0x1110)

/-- A request of a slot that a sweep finds new: its code, and its sequence, which differs from the last taken
one (R5). -/
def newRequest (s : State) (i : PlateId) (code sq : Nat) : Prop :=
  code ≠ 0 ∧ highByte (slotWord s i oRequest) = code ∧ lowByte (slotWord s i oRequest) = sq ∧ sq ≠ lastTaken s i

/-- The intake after a visit of a sweep to a slot (R4, R5). -/
def intakeAfterVisit (i : PlateId) (n : Intake) : Intake :=
  if i.val < 47 then { n with sweep := some (Fin.ofNat 48 (i.val + 1)) }
  else if n.sweepPending then { n with sweep := some 0, sweepPending := false }
  else { n with sweep := none }

/-- At a belt position x, µm, no plate of the belt train is lost or leaves the wash: the head plate is confirmed at the
exit or its travel is at most 5730 mm (R49), and of each plate the tail is short of the wash window's end, or the plate has
left the wash already or is short of its start (R116). -/
def trainStays (x : Nat) (s : State) : Prop :=
  ∀ p ∈ s.tracker.train, ∀ r : Plate, plateOf s p = some r → ∀ l : Nat, r.headLatch = some l →
    let head := ((x : Int) - (l : Int)) % 12288000
    let tail := head - ((r.measured.getD r.length * 1000 : Nat) : Int)
    (s.tracker.train.head? = some p → r.exitConfirmed = true ∨ head ≤ 5730000) ∧
    (tail < ((s.wash.stop * 1000 : Nat) : Int) ∨
      r.entryLoad = none ∧ (r.washFigures ≠ none ∨ head < ((s.wash.start * 1000 : Nat) : Int)))

/-- The live values are the items of words 1 to 52, each by its word (R204). -/
def liveValues (item : Nat → Word) (t : State) : Prop :=
  (∀ x ∈ [(Bank.bk, 1), (Bank.m1, 9), (Bank.m2, 17)],
    let b := t.banks.get x.1
    b.w0 = (item x.2).toNat ∧ b.w1 = (item (x.2 + 1)).toNat ∧ b.gain = (item (x.2 + 2)).toNat ∧
    b.offset = (item (x.2 + 3)).toInt ∧ b.sensitivity = (item (x.2 + 4)).toNat ∧
    b.regGain = (item (x.2 + 5)).toNat ∧ b.rated = (item (x.2 + 6)).toNat ∧ b.full = (item (x.2 + 7)).toNat) ∧
  t.claimLead = (item 25).toNat ∧
  t.admission.smallGap = (item 26).toNat ∧ t.admission.largeGap = (item 27).toNat ∧
  t.wash.start = (item 28).toNat ∧ t.wash.stop = (item 29).toNat ∧ t.wash.volume = (item 30).toNat ∧
  t.wash.replPortion = (item 31).toNat ∧ t.wash.regen = (item 32).toNat ∧ t.wash.hard = (item 33).toNat ∧
  t.wash.slope = (item 34).toNat ∧
  t.drying.setpoint = (item 35).toNat ∧ t.drying.band = (item 36).toNat ∧
  t.link.lastNode = (item 37).toNat ∧
  ∀ n : Fin 15, t.link.assign[n] = stationOfCode (item (38 + n.val)).toNat

/-- The window of a visit is open, and the bytes received are a good response of a station's node with a STAT byte and
data; a further visit follows in the pass (R173, R175, R177). -/
def goodResponse (st : Station) (n : Fin 15) (again : Bool) (cmd : NodeCmd) (bytes : List RxByte) (stat : Byte)
    (d : Vector Byte 6) (s : State) : Prop :=
  ∃ addr : Byte, s.link.phase = .window n again addr cmd ∧ judge addr bytes = .good stat d ∧
    s.link.nodes[n].station = st ∧ (s.link.revisit ≠ none ∨ nextVisited s (n.val + 1) ≠ none)

end Sys2Proof.Machine
end

