-- ==== Sys2Proof/WellFormed.lean ====
section
/-! DEFINITION. Which commands are events of the part: the operands a row admits. A command that is not
well formed belongs to another row of the table (R193, R206) or cannot arrive (R175); the machine takes it
as the bus access or the frame that it is. -/

namespace Sys2Proof

/-- The word address of a word of a job reference: words 2 and 3 of a slot (spec/10, ticket slot). -/
def jobReferenceAddr (a : BusAddr) : Bool :=
  0x0400 ≤ a.toNat && a.toNat < 0x1000 && ((a.toNat - 0x0400) % 64 == 2 || (a.toNat - 0x0400) % 64 == 3)

/-- The registers that a host write does not affect: IDENT, LINE_STAT, ATTN_CAUSE (R193). -/
def ignoredRegister (a : BusAddr) : Bool :=
  a.toNat == 0x3FF8 || a.toNat == 0x3FFA || a.toNat == 0x3FFB

/-- The operands that each row of the table admits. -/
def Instr.wellFormed : Instr → Bool
  | .writeHold a _ => jobReferenceAddr a
  | .registerWriteIgnored a _ => ignoredRegister a
  | .unknownCommand c => !(1 ≤ c.toNat && c.toNat ≤ 11)
  | .unknownOperation c => !(1 ≤ c.toNat && c.toNat ≤ 5)
  | .responseFrame bs => 1 ≤ bs.length && bs.length ≤ 10
  | .powerOnReset => true
  | .pinReset => true
  | .hostWordWrite _ _ => true
  | .pairedWordLatch _ => true
  | .postingCount _ => true
  | .attentionInterval _ => true
  | .queueMark _ => true
  | .heartbeatTimeout _ => true
  | .solventLoadEntry _ => true
  | .protectCounterClear _ => true
  | .checkCountClear _ _ => true
  | .attnCauseRead => true
  | .attnMaskWrite _ => true
  | .heartbeat _ => true
  | .start => true
  | .drain => true
  | .halt => true
  | .resume => true
  | .safeRelease => true
  | .resetLine => true
  | .linkSingle => true
  | .linkContinuous => true
  | .shuttleReset => true
  | .rackClear => true
  | .chamberReset => true
  | .read => true
  | .write => true
  | .erase => true
  | .loadLive => true
  | .saveOffsets => true
  | .writeComplete => true
  | .eraseComplete => true
  | .saveOffsetsComplete => true
  | .intakeTimerExpiry => true
  | .sweepVisit => true
  | .lineTimeTimer => true
  | .heartbeatTimerExpiry => true
  | .holdOffTimerExpiry => true
  | .scaleWord _ _ _ => true
  | .scaleWatchdogExpiry _ => true
  | .sensorInputChange _ _ => true
  | .settleTimerExpiry _ => true
  | .misfeedTimerExpiry => true
  | .conversionCompletion _ _ => true
  | .pwmPeriodStart _ => true
  | .onTimeSecond _ => true
  | .retryTimerExpiry => true
  | .moveTimerExpiry => true
  | .ignitionTimerExpiry => true
  | .stabilizingTimerExpiry => true
  | .idleTimerExpiry => true
  | .secondPlateTimerExpiry => true
  | .openShutterTimerExpiry => true
  | .passTimerExpiry => true
  | .linkVisit => true
  | .responseTimeout => true
  | .safetyInputChange _ _ => true
  | .safetySettleExpiry _ => true
  | .estopAssertedAtReset => true

end Sys2Proof
end

