-- ==== Sys2Proof/Certificates/Slice0/Obligations.lean ====
section
/-! DEFINITION. The statements for the provers: each formalises what rules of spec/ say a command or the part does.
Statements about a timer's expiry stand on `advanceTo`, which lets the time come to the expiry (log entry 2). -/

open Sys2Proof Sys2Proof.Machine

/-! ## The machine: the queue, time, and what a reset leaves -/

/-- A step runs the command at the front of the queue on the state with the rest of the queue (log entry 1, the
model's choice). -/
def Obligations.StepRunsFrontCommand : Prop :=
  ∀ (c : Instr) (rest : List Instr) (s : State), s.pending = c :: rest →
    step s = exec c { s with pending := rest }

/-- A step with no command waiting lets one millisecond pass (log entries 1 and 2, the model's choice): the time rises by
1, and the on-time remainder of a bank whose commanded duty is above 0 with it. `advanceTo`, which every timer expiry
begins with, brings the time to the moment given, and changes nothing but the time and the banks' on-time remainders
(log entry 2, the model's choice). -/
def Obligations.EmptyQueueStepLetsTimePass : Prop :=
  (∀ s : State, s.pending = [] → ∃ t, step s = .next t ∧ t.now = s.now + 1 ∧
     (∀ k : Bank, (t.banks.get k).onRem =
       (s.banks.get k).onRem + if 0 < (s.banks.get k).duty then 1 else 0) ∧
     exceptTime s t = s) ∧
  (∀ (d : Nat) (s : State), (advanceTo d s).now = max s.now d ∧
     (∀ k : Bank, ((advanceTo d s).banks.get k).onRem =
       (s.banks.get k).onRem + if 0 < (s.banks.get k).duty then d - s.now else 0) ∧
     exceptTime s (advanceTo d s) = s)

/-- The values that the manual gives a power-on reset (R19, R32, R51, R67, R88, R129, R152, R153, R170, R185, R199,
R202, R203, R206) stand in `State.reset`; the values of the live items are the defaults that R205 gives a
store that is not good. The model's choices among them: the calibration state DEFAULT, of an erased store (log entry 5);
the banks DARK, of a COVER that reads closed (R88, log entry 4); the heartbeat timer at 5000, of a time that is 0 at the
reset (log entry 2). The state right after reset meets the invariants below, and its queue is empty. -/
def Obligations.ResetHoldsTheManualsValues : Prop :=
  let s := State.reset
  (s.supervisor.line = .idle ∧ s.supervisor.cause = .none ∧ s.supervisor.lineTime = 0 ∧
    s.supervisor.outcome = .accepted) ∧
  (s.admission.queue = [] ∧ s.admission.holdReason = .none ∧ s.admission.commitments = 0 ∧
    s.admission.epochNo = 0 ∧ s.admission.epochCurrent = false ∧ s.admission.misfeedHold = false ∧
    s.admission.misfeedTimer = none ∧ s.admission.gateOpen = false) ∧
  (s.tracker.train = [] ∧ s.tracker.strayPending = false ∧ ∀ p : PlateId, plateOf s p = none) ∧
  (s.transport.position = none ∧ s.transport.faults = 0 ∧ s.transport.estimate = 0 ∧
    s.transport.beltState = .stopped ∧ s.transport.demand = 0 ∧ s.transport.speedFlag = false) ∧
  (∀ k : Bank, (s.banks.get k).duty = 0 ∧ (s.banks.get k).claims = [] ∧ (s.banks.get k).state = .dark ∧
    (s.banks.get k).full = 320 ∧ (s.banks.get k).onTime = 0) ∧
  (s.wash.load = 26000 ∧ s.wash.hold = true ∧ s.wash.replenish = .pending) ∧
  (s.drying.rack = [] ∧ s.drying.dryList = [] ∧
    (∀ d : Fin 6, s.drying.drawers[d].service = .outOfService) ∧ s.shuttle.state = .stopped ∧
    s.shuttle.stackFull = true ∧ s.chamber.state = .dark) ∧
  (s.link.mode = .continuous ∧ s.link.revisit = none ∧
    ∀ n : Fin 15, s.link.nodes[n].state = (if n.val < 10 then NodeState.unseen else .notScanned) ∧
      s.link.nodes[n].miss = 0 ∧ s.link.nodes[n].check = 0 ∧ s.link.nodes[n].seq = 0) ∧
  (s.bus.capture = none ∧ s.bus.hold = none ∧ s.bus.latched = 0 ∧ s.bus.mask = 0 ∧ s.bus.attn = false ∧
    s.bus.holdOff = none ∧ s.bus.protect = 0 ∧ s.bus.resetSource = .powerOn ∧ s.bus.hbTimer = some 5000) ∧
  (∀ a : Nat, ramRead s a = if a = 0x0021 then 500 else if a = 0x0022 then 4 else if a = 0x0023 then 5 else 0) ∧
  (s.intake.order = 0 ∧ s.intake.lastSeen = 0 ∧ s.intake.sweep = some 0) ∧
  (s.safety.lineSafe = false ∧ s.cal.state = .default ∧ s.cal.opState = .idle ∧ s.cal.result = .ok ∧
    s.cal.readData = 0) ∧
  (canonical s ∧ lineInv s ∧ countInv s ∧ placesInv s ∧ s.pending = [])

/-- Every step keeps the exchange memory and the calibration store in their canonical forms: equal contents are
equal data. -/
def Obligations.StepKeepsCanonical : Prop :=
  ∀ s t : State, canonical s → step s = .next t → canonical t

/-- Every step keeps what the line state promises: in IDLE, HALTED and SAFE no plate is on the belt, the demand
is 0 and no epoch is current (R22, R26, R28, R29); a bank is FORCED_OFF exactly in HALTED or SAFE or with COVER open,
CLAIMED otherwise exactly with claims, and its duty is 0 without claims or while forced off (R69, R77, R84);
LINE_SAFE# is asserted exactly in SAFE (R202). That RESET_LINE of a HALTED line takes its banks out of FORCED_OFF is the
model's choice (log entry 17): R69 makes the bank state follow the line state, and R89 has a line reset leave every bank
unit as it stands. -/
def Obligations.StepKeepsLineInvariant : Prop :=
  ∀ s t : State, lineInv s → step s = .next t → lineInv t

/-- Every step keeps the counts in their ranges: the protect counter (R188), the consecutive fault count (R54),
the solvent load (R119), and the miss count, check count and visit sequence of every node (R171). -/
def Obligations.StepKeepsCounts : Prop :=
  ∀ s t : State, countInv s → step s = .next t → countInv t

/-- Every step keeps each plate in at most one place: no plate stands twice in the queue, the belt train, the exit rack,
the drawers, the shuttle and the chamber batch together (R33, R46, R130, R132, R139, R154); a plate of the queue has a
QUEUED slot, and one of any other place, or of the dry list, an ACTIVE one (R10, R41); no plate is twice in the dry
list (R138), and a plate of it is in none of the train, the rack, the shuttle and the batch and does not dry; a plate in a drawer
has its slot in its record (R147); and the plate that the chamber unit asks to unload is nowhere but at the position
named (R142, R166). -/
def Obligations.StepKeepsPlatesInOnePlace : Prop :=
  ∀ s t : State, placesInv s → step s = .next t → placesInv t

/-- The calibration store is changed only by the completion of a WRITE, an ERASE or a SAVE_OFFSETS, and by a reset that
finds an operation running (R204 to R207): a reset with none running leaves it. That the store stands from a request
to its completion is the model's choice (log entry 10). -/
def Obligations.OnlyCompletionsAndResetsWriteTheStore : Prop :=
  (∀ (c : Instr) (s t : State), exec c s = .next t →
    c ≠ .writeComplete → c ≠ .eraseComplete → c ≠ .saveOffsetsComplete → c ≠ .powerOnReset → c ≠ .pinReset →
    t.cal.store = s.cal.store) ∧
  (∀ s : State, s.cal.running = none →
    (∃ t, exec .powerOnReset s = .next t ∧ t.cal.store = s.cal.store) ∧
    (∃ t, exec .pinReset s = .next t ∧ t.cal.store = s.cal.store))

/-- A power-on reset with no operation running and a store that is not good, unmarked or with an item out of its range, gives
the machine's reset state, whatever stood before, but for the commands waiting, the free count and the store (R199,
R204, R205; with the inputs at the levels of log entry 4), and there every live value is its default, listed word by word
with the stations that the assignment codes name (R204). The commands waiting are kept (log entry 38), and the free
count moves on by 1 (log entry 3): the model's choices. With ESTOP# found asserted, its delivery is the first command
after the reset, and LINE_SAFE# is released till then (R201, R202; log entry 33). With a good store every live value is the store's,
item by item of words 1 to 52, and the calibration state is VALID, and the solvent load is the store's hard limit, with the
hold set (R121, R129, R204, R205). -/
def Obligations.PowerOnResetGivesTheResetState : Prop :=
  (∀ s : State, s.cal.running = none → s.pins = State.reset.pins →
    storeRead s 0 ≠ 0x6D4B ∨ (∃ a ∈ itemWords, itemOk a (storeRead s a) = false) →
    exec .powerOnReset s = .next { State.reset with
      pending := s.pending, freeCount := s.freeCount + 1, cal.store := s.cal.store }) ∧
  (itemWords = (List.range 52).map (fun n => n + 1) ∧ liveValues itemDefault State.reset ∧
    State.reset.cal.state = .default ∧
    itemWords.map itemDefault =
      [250, 550, 2048, 0, 48, 128, 320, 320] ++ [800, 1400, 2048, 0, 48, 128, 320, 320] ++
        [1400, 2000, 2048, 0, 48, 128, 320, 320] ++ [20, 60, 640, 2400, 4800, 400, 20, 18000, 26000, 8, 600, 30, 10] ++
        [1, 2, 3, 4, 5, 6, 7, 8, 9, 10, 0, 0, 0, 0, 0] ∧
    (List.range 11).map stationOfCode = [.none, .drive, .wash, .shuttle, .finisher,
      .drawer 0, .drawer 1, .drawer 2, .drawer 3, .drawer 4, .drawer 5]) ∧
  (∀ s : State, s.cal.running = none → storeRead s 0 = 0x6D4B →
    (∀ a ∈ itemWords, itemOk a (storeRead s a) = true) →
    ∃ t, exec .powerOnReset s = .next t ∧ t.cal.state = .valid ∧ t.cal.store = s.cal.store ∧
      liveValues (storeRead s) t ∧ t.wash.load = (storeRead s 33).toNat ∧ t.wash.hold = true ∧
      t.supervisor.line = .idle ∧ t.supervisor.lineTime = 0 ∧ t.bus.resetSource = .powerOn ∧
      t.bus.ram = State.reset.bus.ram ∧ t.tracker = State.reset.tracker) ∧
  (∀ s : State, ∃ t, exec .powerOnReset s = .next t ∧ t.safety.estop = s.pins.estopAsserted ∧
    t.safety.estopAtReset = s.pins.estopAsserted ∧ t.safety.lineSafe = false ∧ t.pins = s.pins ∧
    t.safety.coverClosed = s.pins.coverClosed ∧
    t.pending = (if s.pins.estopAsserted then [.estopAssertedAtReset] else []) ++ s.pending)

/-- A pin reset keeps the recipes, the host's words of every slot and of the service block, and general RAM; it takes the
settings from the kept header words, keeps the posting count as last seen and the line time, takes the solvent load as
it stood, takes every live value from a good store, and otherwise its default (R204, R205), and starts the interface as at
power-on (R20, R129, R200, R203). How a pin reset resolves a slot (R20): a
QUEUED slot is REFUSED with PART_RESET, stage ENDED and hold reason 0; an ACTIVE slot is DONE with LOST_BY_RESET,
stage ENDED and the line time as completion, and each of its stations whose verdict word reads 0 reads INCOMPLETE with
minimum and maximum 0; the last taken sequence stays. The report words of any other slot stay. SLOT is latched if a
slot was resolved. The commands waiting are kept (log entry 38), behind the delivery of an ESTOP# found asserted
(R201, log entry 33), and the heartbeat timer counts from a time that is 0 after the reset (log entry 2): the model's
choices. -/
def Obligations.PinResetKeepsTheMemoryAndResolvesTheSlots : Prop :=
  (∀ s : State, s.cal.running = none →
     ∃ t, exec .pinReset s = .next t ∧
       (∀ a : Nat, (inTickets a = true → slotOffset a < 32) → ramRead t a = ramRead s a) ∧
       t.bus.interval = (ramRead s 0x0021).toNat ∧ t.admission.mark = (ramRead s 0x0022).toNat ∧
       t.bus.hbTimeout = (ramRead s 0x0023).toNat ∧
       t.bus.hbTimer = (if ramRead s 0x0023 = 0 then none else some ((ramRead s 0x0023).toNat * 1000)) ∧
       t.intake.lastSeen = ramRead s 0x0020 ∧ t.supervisor.lineTime = s.supervisor.lineTime ∧
       t.wash.load = s.wash.load ∧ t.cal.store = s.cal.store ∧
       (storeRead s 0 = 0x6D4B ∧ (∀ a ∈ itemWords, itemOk a (storeRead s a) = true) →
         t.cal.state = .valid ∧ liveValues (storeRead s) t) ∧
       (storeRead s 0 ≠ 0x6D4B ∨ (∃ a ∈ itemWords, itemOk a (storeRead s a) = false) →
         t.cal.state = .default ∧ liveValues itemDefault t) ∧
       t.bus.resetSource = .resetPin ∧ t.bus.capture = none ∧ t.bus.hold = none ∧ t.bus.mask = 0 ∧
       t.bus.attn = false ∧ t.bus.protect = 0 ∧ t.bus.holdOff = none ∧
       t.supervisor.line = .idle ∧ t.supervisor.cause = .none ∧ t.admission.commitments = 0 ∧
       t.admission.queue = [] ∧ t.tracker = State.reset.tracker ∧ t.intake.order = 0 ∧
       t.drying.rack = [] ∧ t.shuttle = State.reset.shuttle ∧ t.chamber = State.reset.chamber ∧
       t.pending = (if s.pins.estopAsserted then [.estopAssertedAtReset] else []) ++ s.pending ∧
       t.safety.estopAtReset = s.pins.estopAsserted ∧ t.safety.lineSafe = false ∧ t.pins = s.pins) ∧
  (∀ s : State, ∃ t, exec .pinReset s = .next t ∧
     (∀ i : PlateId, slotState s i = .queued → slotState t i = .refused ∧ lastTaken t i = lastTaken s i ∧
       slotWord t i 33 = 9 ∧ slotWord t i 34 = 0 ∧ slotWord t i 35 = 9) ∧
     (∀ i : PlateId, slotState s i = .active → slotState t i = .done ∧ lastTaken t i = lastTaken s i ∧
       slotWord t i 33 = 19 ∧ slotWord t i 35 = 9 ∧
       slotWord t i 56 = lowWord s.supervisor.lineTime ∧ slotWord t i 57 = highWord s.supervisor.lineTime ∧
       (slotWord s i 44 = 0 → slotWord t i 40 = 0 ∧ slotWord t i 41 = 0 ∧ slotWord t i 44 = 6) ∧
       (slotWord s i 44 ≠ 0 → slotWord t i 40 = slotWord s i 40 ∧ slotWord t i 41 = slotWord s i 41 ∧
         slotWord t i 44 = slotWord s i 44) ∧
       (slotWord s i 45 = 0 → slotWord t i 42 = 0 ∧ slotWord t i 43 = 0 ∧ slotWord t i 45 = 6) ∧
       (slotWord s i 45 ≠ 0 → slotWord t i 42 = slotWord s i 42 ∧ slotWord t i 43 = slotWord s i 43 ∧
         slotWord t i 45 = slotWord s i 45)) ∧
     (∀ i : PlateId, slotState s i ≠ .queued → slotState s i ≠ .active →
       ∀ o : Fin 64, slotWord t i o.val = slotWord s i o.val) ∧
     ((∃ i : PlateId, slotState s i = .queued ∨ slotState s i = .active) → t.bus.latched = 0x0100) ∧
     ((∀ i : PlateId, slotState s i ≠ .queued ∧ slotState s i ≠ .active) → t.bus.latched = 0))


/-! ## The host's bus, the settings and the attention line (chapter 10) -/

/-- A host write of one word to a word of the host that is open takes effect and changes nothing else, but that it empties
the write hold (R186, R188, R189, R191). A host write to a word of the part that takes no command, or to a ticket word
of a slot that is not FREE, is discarded and counted once, and PROTECT is latched (R188, R189). -/
def Obligations.HostWordWritesGoWhereTheyMay : Prop :=
  (∀ (a : BusAddr) (v : Word) (s : State), openToHost s a.toNat = true →
     ∃ t, exec (.hostWordWrite a v) s = .next t ∧ ramRead t a.toNat = v ∧ ramKeptOutside [a.toNat] s t ∧
       exceptRam s t = unheld s) ∧
  (∀ (a : BusAddr) (v : Word) (s : State), partOwned a.toNat = true ∨ closedToHost s a.toNat = true →
     ∃ t, exec (.hostWordWrite a v) s = .next t ∧ discarded (unheld s) t)

/-- The low word of a job reference goes into the write hold; the write of its high word that follows commits both
while the slot is FREE, and discards both, counted once, while it is not; a high word written with the hold empty is
taken alone (R189, R191). The other statements about host writes say that each empties the hold. -/
def Obligations.JobReferenceIsCommittedAsAPair : Prop :=
  (∀ (a : BusAddr) (v : Word) (s : State), isJobLow a.toNat = true →
    exec (.writeHold a v) s = .next { s with bus.hold := some (a.toNat, v) }) ∧
  (∀ (a : BusAddr) (b : Nat) (v w : Word) (s : State), isJobLow b = true → a.toNat = b + 1 →
    s.bus.hold = some (b, w) →
    (slotState s (slotOfAddr b) = .free →
      ∃ t, exec (.writeHold a v) s = .next t ∧ ramRead t b = w ∧ ramRead t (b + 1) = v ∧
        ramKeptOutside [b, b + 1] s t ∧ exceptRam s t = unheld s) ∧
    (slotState s (slotOfAddr b) ≠ .free →
      ∃ t, exec (.writeHold a v) s = .next t ∧ discarded (unheld s) t)) ∧
  (∀ (a : BusAddr) (b : Nat) (v : Word) (s : State), isJobLow b = true → a.toNat = b + 1 → s.bus.hold = none →
    (slotState s (slotOfAddr b) = .free →
      ∃ t, exec (.writeHold a v) s = .next t ∧ ramRead t (b + 1) = v ∧ ramKeptOutside [b + 1] s t ∧
        exceptRam s t = s) ∧
    (slotState s (slotOfAddr b) ≠ .free →
      ∃ t, exec (.writeHold a v) s = .next t ∧ discarded s t))

/-- A host read of the low word of a 32-bit field returns it and captures the high word; a read of the captured high word,
taken in any state that the capture has come to, returns the captured value and empties the capture; any other read
returns the word as it stands and leaves the capture empty (R186, R190). A read changes nothing else, but for a read
of ATTN_CAUSE. A read of ATTN_CAUSE returns the latched set, empties it and releases ATTN#; as a read of another word
it empties the read capture (R190, R194). -/
def Obligations.ReadsReturnTheirWords : Prop :=
  (∀ (a b : BusAddr) (s : State), isLow32 a.toNat = true → b.toNat = a.toNat + 1 →
    exec (.pairedWordLatch a) s = .next { s with
      bus.dataOut := readWord s a.toNat, bus.capture := some (a.toNat + 1, readWord s (a.toNat + 1)) } ∧
    ∀ u : State, u.bus.capture = some (a.toNat + 1, readWord s (a.toNat + 1)) →
      exec (.pairedWordLatch b) u = .next { u with
        bus.dataOut := readWord s (a.toNat + 1), bus.capture := none }) ∧
  (∀ (a : BusAddr) (s : State), isLow32 a.toNat = false → a.toNat ≠ 0x3FFB →
    (s.bus.capture.map fun c => c.1) ≠ some a.toNat →
    exec (.pairedWordLatch a) s = .next { s with bus.dataOut := readWord s a.toNat, bus.capture := none }) ∧
  (∀ s : State, exec .attnCauseRead s = .next { s with
     bus.dataOut := s.bus.latched, bus.latched := 0, bus.attn := false, bus.capture := none })

/-- The whole memory map as the host reads it (R186; section 10.2), word by word: what the part shows in the header, in
the live page (R66, R86, R135, R138, R151, R169, R184), in the service block (R206) and in the registers (R193; section
10.6), and the codes that it shows there (R187). A plate is shown as its id plus 1 and a stray as 0x00FF; what is absent reads
0; signed figures are two's complement, for values that a word holds, and 32-bit fields have their low word first, for
values that two words hold. The words left to the RAM are those of the host and the ticket slots; the unassigned ones read 0. A
count is a word of its low 16 bits. Of a drawer the remaining minimum is the least dry remaining of its DRYING residents, in
seconds rounded up, 0 with none (R138); the open-shutter time is rounded up too, running or standing (R169). -/
def Obligations.WordsReadTheirFields : Prop :=
  (∀ s : State,
    let reads (a v : Nat) : Prop := readWord s a = w16 v
    let signed (a : Nat) (x : Int) : Prop := -32768 ≤ x → x ≤ 32767 → (readWord s a).toInt = x
    let pair (a v : Nat) : Prop :=
      v < 4294967296 → (readWord s a).toNat + 65536 * (readWord s (a + 1)).toNat = v
    let bit (b : Bool) (v : Nat) : Nat := if b then v else 0
    let plate (p : Option PlateId) : Nat := (p.map fun i => i.val + 1).getD 0
    let seconds (ms : Nat) : Nat := (ms + 999) / 1000
    let places : Nat := 4 * ((List.finRange 6).filter fun k => decide (s.drying.drawers[k].service = .inService)).length
    let c : Chamber := s.chamber
    let residents (w : Drawer) : List Nat :=
      w.slots.toList.filterMap fun o => (o.bind (plateOf s)).bind fun r =>
        if r.stage = .drying then some r.dryRemaining else none
    (reads 0x0000 (lineCode s.supervisor.line) ∧ reads 0x0001 (causeCode s.supervisor.cause) ∧
      reads 0x0002 (resetSourceCode s.bus.resetSource) ∧ reads 0x0003 (calStateCode s.cal.state) ∧
      reads 0x0004 s.admission.epochNo ∧
      reads 0x0005 (if s.admission.epochCurrent then s.admission.epochSpeed else 0) ∧
      reads 0x0006 s.wash.load ∧ reads 0x0007 s.admission.queue.length ∧
      reads 0x0008 (holdCode s.admission.holdReason) ∧ reads 0x0009 s.admission.commitments ∧
      reads 0x000A places ∧ reads 0x000B s.drying.rack.length ∧ reads 0x000C s.bus.protect ∧
      pair 0x000E s.intake.order ∧ pair 0x0010 s.supervisor.lineTime) ∧
    (∀ x ∈ [(Bank.bk, 0x1000), (Bank.m1, 0x1010), (Bank.m2, 0x1020)],
      let b := s.banks.get x.1
      reads x.2 b.lastE ∧ reads (x.2 + 1) (b.setpoint.getD 0) ∧ reads (x.2 + 2) b.duty ∧ reads (x.2 + 3) b.full ∧
      signed (x.2 + 4) b.offset ∧ reads (x.2 + 5) b.gain ∧
      reads (x.2 + 6) (bit b.limited 1 + bit b.lampWeak 2 + bit b.drift 4) ∧
      reads (x.2 + 7) b.gaps ∧ pair (x.2 + 8) b.onTime) ∧
    (pair 0x1030 (s.transport.position.getD 0) ∧ reads 0x1032 s.transport.estimate ∧
      reads 0x1033 s.transport.faults ∧ reads 0x1034 (beltStateCode s.transport.beltState) ∧
      reads 0x1035 (bit s.transport.speedFlag 1)) ∧
    (reads 0x1040 s.wash.load ∧ reads 0x1041 (replenishCode s.wash.replenish) ∧ reads 0x1042 s.wash.level ∧
      readWord s 0x1043 = s.wash.temp ∧ reads 0x1044 (bit s.wash.ready 1 + bit s.wash.fault 2)) ∧
    (reads 0x1050 places ∧ ∀ k : Fin 2,
      (s.drying.rack[k.val]? = none → reads (0x1051 + k.val) 0) ∧
      (s.drying.rack[k.val]? = some .stray → reads (0x1051 + k.val) 0x00FF) ∧
      (∀ p : PlateId, s.drying.rack[k.val]? = some (.plate p) → reads (0x1051 + k.val) (p.val + 1))) ∧
    (∀ k : Fin 6,
      let w := s.drying.drawers[k]
      let a := 0x1060 + 8 * k.val
      reads a (serviceCode w.service) ∧ signed (a + 1) w.temp ∧
      reads (a + 2) (bit w.doorClosed 1 + bit w.heaterFault 2) ∧
      (∀ j : Fin 4, reads (a + 3 + j.val) (plate w.slots[j])) ∧
      (residents w = [] → reads (a + 7) 0) ∧
      (∀ x ∈ residents w, (∀ y ∈ residents w, x ≤ y) → reads (a + 7) (seconds x))) ∧
    (reads 0x1090 (shuttleCode s.shuttle.state) ∧
      (s.shuttle.move = none → ∀ a ∈ [0x1091, 0x1092, 0x1093, 0x1094, 0x1095], reads a 0) ∧
      (∀ m : Move, s.shuttle.move = some m →
        reads 0x1091 (moveKindCode m.kind) ∧ reads 0x1092 (m.plate.val + 1) ∧ reads 0x1093 (placeCode m.source) ∧
        reads 0x1094 (placeCode m.dest) ∧ reads 0x1095 m.order) ∧
      reads 0x1096 (bit s.shuttle.ready 1 + bit s.shuttle.fault 2 + bit s.shuttle.stackFull 4 +
        bit s.shuttle.resetRequested 8) ∧
      reads 0x1097 (orderResultCode s.shuttle.result) ∧ reads 0x1098 s.shuttle.position ∧
      reads 0x1099 s.shuttle.echo) ∧
    (reads 0x10A0 (chamberCode c.state) ∧ reads 0x10A1 (plate (occupant c.pos1)) ∧
      reads 0x10A2 (plate (occupant c.pos2)) ∧ reads 0x10A3 (c.batchClass.getD (0, 0)).1 ∧
      reads 0x10A4 (c.batchClass.getD (0, 0)).2 ∧ pair 0x10A6 c.accA ∧ pair 0x10A8 c.accC ∧
      reads 0x10AA (bit c.openA 1 + bit c.openC 2 + bit c.onA 4 + bit c.onC 8) ∧
      (∀ d : Nat, c.openDeadline = some d → reads 0x10AB (seconds (d - s.now))) ∧
      (c.openDeadline = none → reads 0x10AB (seconds (c.openStanding.getD 0))) ∧
      reads 0x10AC c.eUva ∧ reads 0x10AD c.eUvc ∧
      reads 0x10AE (tubeCode c.tubeA + 4 * tubeCode c.tubeC + bit c.doorClosed 16)) ∧
    (∀ n : Fin 15,
      let r := s.link.nodes[n]
      let a := 0x10C0 + 3 * n.val
      reads a (nodeStateCode r.state) ∧ reads (a + 1) r.miss ∧ reads (a + 2) r.check) ∧
    (reads 0x1103 (opStateCode s.cal.opState) ∧ reads 0x1104 (opResultCode s.cal.result) ∧
      readWord s 0x1105 = s.cal.readData) ∧
    (readWord s 0x3FF8 = 0x4201 ∧ reads 0x3FF9 (outcomeCode s.supervisor.outcome) ∧
      reads 0x3FFA (lineCode s.supervisor.line + bit s.safety.estop 16 + bit (!s.safety.coverClosed) 32 +
        bit s.safety.lineSafe 64 + 256 * scanModeCode s.link.mode) ∧
      readWord s 0x3FFB = s.bus.latched ∧ readWord s 0x3FFC = s.bus.mask ∧ readWord s 0x3FFD = 0 ∧
      readWord s 0x3FFE = 0 ∧ readWord s 0x3FFF = 0) ∧
    (∀ r ∈ [(0x0020, 0x0025), (0x0040, 0x1000), (0x1100, 0x1103), (0x1110, 0x3FF8)],
      ∀ a : Nat, r.1 ≤ a → a < r.2 → readWord s a = ramRead s a) ∧
    (∀ r ∈ [(0x000D, 0x000E), (0x0012, 0x0020), (0x0025, 0x0040), (0x100A, 0x1010), (0x101A, 0x1020), (0x102A, 0x1030),
        (0x1036, 0x1040), (0x1045, 0x1050), (0x1053, 0x1060), (0x109A, 0x10A0), (0x10A5, 0x10A6), (0x10AF, 0x10C0),
        (0x10ED, 0x1100), (0x1106, 0x1110)],
      ∀ a : Nat, r.1 ≤ a → a < r.2 → readWord s a = 0)) ∧
  (List.map slotStateCode [.free, .queued, .active, .done, .refused] = [0, 1, 2, 3, 4] ∧
    List.map stageCode [.queued, .releasing, .onBelt, .racked, .inShuttle, .drying, .dry, .inChamber, .ended] =
      [1, 2, 3, 4, 5, 6, 7, 8, 9] ∧
    List.map reasonCode [.noCalibration, .badRecipe, .badSize, .badDepth, .badCoverage, .doseUnreachable, .withdrawn,
      .lineReset, .partReset] = [1, 2, 3, 4, 5, 6, 7, 8, 9] ∧
    List.map dispositionCode [.good, .outOfTol, .spoiled, .lostByReset] = [16, 17, 18, 19] ∧
    List.map verdictCode [.inTol, .short, .over, .spread, .notRequired, .incomplete] = [1, 2, 3, 4, 5, 6] ∧
    List.map holdCode [.none, .lineNotRunning, .coverOpen, .solventSpent, .shuttleFault, .noPlace, .epochChange,
      .beltNotSettled, .infeedEmpty, .waitGap] = [0, 1, 2, 3, 4, 5, 6, 7, 8, 9] ∧
    List.map lineCode [.idle, .running, .draining, .halted, .safe] = [0, 1, 2, 3, 4] ∧
    List.map causeCode [.none, .command, .stall, .vernier, .driveLost, .washLost, .rackFull, .estop, .cover] =
      [0, 1, 2, 3, 4, 5, 6, 7, 8] ∧
    List.map resetSourceCode [.powerOn, .resetPin] = [1, 2] ∧ List.map calStateCode [.valid, .default] = [1, 2] ∧
    List.map beltStateCode [.stopped, .ramping, .settled, .deviating] = [0, 1, 2, 3] ∧
    List.map replenishCode [.idle, .pending, .ordered, .active, .retryWait] = [0, 1, 2, 3, 4] ∧
    List.map serviceCode [.outOfService, .inService, .heatFault] = [0, 1, 2] ∧
    List.map shuttleCode [.stopped, .ready, .moving, .faulted] = [0, 1, 2, 3] ∧
    List.map moveKindCode [.store, .unload, .load] = [1, 2, 3] ∧
    List.map chamberCode [.dark, .igniting, .stabilizing, .ready, .loading, .exposing, .suspended, .unloading, .faulted] =
      [0, 1, 2, 3, 4, 5, 6, 7, 8] ∧
    List.map nodeStateCode [.unseen, .present, .lost, .notScanned] = [0, 1, 2, 3] ∧
    List.map opStateCode [.idle, .busy, .done] = [0, 1, 2] ∧
    List.map opResultCode [.ok, .locked, .badAddress, .range, .ignoredBusy] = [0, 1, 2, 3, 4] ∧
    List.map orderResultCode [.none, .done, .failed] = [0, 1, 2] ∧
    List.map outcomeCode [.accepted, .refusedState, .refusedCover, .refusedCal, .unknown] = [0, 1, 2, 3, 4] ∧
    List.map scanModeCode [.continuous, .single, .stopped] = [0, 1, 2] ∧
    List.map tubeCode [.off, .starting, .lit, .failed] = [0, 1, 2, 3])

/-- A write of ATTN_MASK sets the thirteen enables and leaves the latched set (R195). ATTN# stays asserted if it was;
released, it is asserted exactly if the write newly enables a latched urgent cause, or a latched routine one with
the hold-off timer stopped (R196, R197). The hold-off timer stands as it was unless a routine cause is newly enabled
with ATTN# released and the timer stopped; with no urgent cause newly enabled it then starts. (Which comes first,
where both kinds are newly enabled, is a free value, log entry 12.) -/
def Obligations.AttnMaskWriteSetsTheEnables : Prop :=
  ∀ (v : Word) (s : State), ∃ t, exec (.attnMaskWrite v) s = .next t ∧
    (let newly := s.bus.latched &&& v &&& attnValid &&& ~~~ s.bus.mask
     t.bus.mask = v &&& 0xFF1F ∧ t.bus.latched = s.bus.latched ∧
     (t.bus.attn = true ↔ s.bus.attn = true ∨ newly &&& 0x001F ≠ 0 ∨
       (newly &&& 0xFF00 ≠ 0 ∧ s.bus.holdOff = none)) ∧
     (s.bus.attn = true ∨ newly &&& 0xFF00 = 0 ∨ s.bus.holdOff ≠ none → t.bus.holdOff = s.bus.holdOff) ∧
     (s.bus.attn = false → newly &&& 0xFF00 ≠ 0 → newly &&& 0x001F = 0 → s.bus.holdOff = none →
       t.bus.holdOff = some (s.now + s.bus.interval)) ∧
     { exceptAttn s t with bus.mask := s.bus.mask, freeCount := s.freeCount } = unheld s)

/-- Latching a cause adds its bit to the set, whatever the mask holds (R194), and drives ATTN# (R196, R197): an enabled
urgent cause asserts a released line and leaves the hold-off timer; an enabled routine cause asserts it with the timer
stopped and starts the timer, and waits with the timer running; otherwise line and timer stand. At the expiry of the
hold-off timer an enabled routine cause in the set asserts a released ATTN# and the timer starts again; otherwise the
timer stops (R197). -/
def Obligations.LatchAndHoldOffDriveTheAttentionLine : Prop :=
  (∀ (c : Attn) (s : State),
     latchedBits (bitIf true (attnBit c)) s (latch c s) ∧ exceptAttn s (latch c s) = s ∧
     (s.bus.attn = true ∨ s.bus.mask.getLsbD (attnBit c) = false →
       (latch c s).bus.attn = s.bus.attn ∧ (latch c s).bus.holdOff = s.bus.holdOff) ∧
     (s.bus.attn = false → s.bus.mask.getLsbD (attnBit c) = true →
       (attnUrgent c = true → (latch c s).bus.attn = true ∧ (latch c s).bus.holdOff = s.bus.holdOff) ∧
       (attnUrgent c = false → s.bus.holdOff = none →
         (latch c s).bus.attn = true ∧ (latch c s).bus.holdOff = some (s.now + s.bus.interval)) ∧
       (attnUrgent c = false → s.bus.holdOff ≠ none →
         (latch c s).bus.attn = false ∧ (latch c s).bus.holdOff = s.bus.holdOff))) ∧
  (∀ (d : Nat) (s : State), s.bus.holdOff = some d →
     (s.bus.attn = false → s.bus.latched &&& s.bus.mask &&& 0xFF00 ≠ 0 →
       exec .holdOffTimerExpiry s = .next { advanceTo d s with
         bus.attn := true, bus.holdOff := some (max s.now d + s.bus.interval) }) ∧
     (s.bus.attn = true ∨ s.bus.latched &&& s.bus.mask &&& 0xFF00 = 0 →
       exec .holdOffTimerExpiry s = .next { advanceTo d s with bus.holdOff := none }))

/-- The settings of the header are clamped to their ranges, and their words show the clamped values (R192): the attention
interval 100 to 5000, the queue mark 0 to 48, the heartbeat timeout 0 to 60. The mark re-evaluates the queue-low
state, and a change to low latches QUEUE_LOW (R34); the timeout restarts the heartbeat timer, or stops it at 0 (R198).
A host write clears the protect counter, and the check count of a node, whatever value it writes; a host write to
IDENT, LINE_STAT or ATTN_CAUSE does nothing. Each empties the write hold (R184, R188, R191, R193). -/
def Obligations.HeaderWritesActByTheirWords : Prop :=
  (∀ (v : Word) (s : State), ∃ t, exec (.attentionInterval v) s = .next t ∧
    t.bus.interval = max 100 (min 5000 v.toNat) ∧ ramRead t 0x0021 = w16 (max 100 (min 5000 v.toNat)) ∧
    ramKeptOutside [0x0021] s t ∧ { exceptRam s t with bus.interval := s.bus.interval } = unheld s) ∧
  (∀ (v : Word) (s : State), ∃ t, exec (.queueMark v) s = .next t ∧
    (let n := min 48 v.toNat
     let low := decide (n ≠ 0 ∧ s.admission.queue.length < n)
     t.admission = { s.admission with mark := n, queueLow := low } ∧ ramRead t 0x0022 = w16 n ∧
     ramKeptOutside [0x0022] s t ∧
     (if low = true ∧ s.admission.queueLow = false then latchedBits 0x0200 s t
      else exceptRam s { t with admission := s.admission } = unheld s) ∧
     { exceptAttn s (exceptRam s t) with admission := s.admission } = unheld s)) ∧
  (∀ (v : Word) (s : State), ∃ t, exec (.heartbeatTimeout v) s = .next t ∧
    (let n := min 60 v.toNat
     t.bus.hbTimeout = n ∧ t.bus.hbTimer = (if n = 0 then none else some (s.now + n * 1000)) ∧
     ramRead t 0x0023 = w16 n ∧ ramKeptOutside [0x0023] s t ∧
     { exceptRam s t with bus.hbTimeout := s.bus.hbTimeout, bus.hbTimer := s.bus.hbTimer } = unheld s)) ∧
  (∀ (v : Word) (s : State),
    exec (.protectCounterClear v) s = .next { unheld s with bus.protect := 0 }) ∧
  (∀ (n : Fin 15) (v : Word) (s : State), ∃ t, exec (.checkCountClear n v) s = .next t ∧
    t.link.nodes[n] = { s.link.nodes[n] with check := 0 } ∧
    (∀ m : Fin 15, m ≠ n → t.link.nodes[m] = s.link.nodes[m]) ∧
    { t with link.nodes := s.link.nodes } = unheld s) ∧
  (∀ (a : BusAddr) (v : Word) (s : State), (Instr.registerWriteIgnored a v).wellFormed = true →
    exec (.registerWriteIgnored a v) s = .next (unheld s))

/-- A beat restarts the heartbeat timer with the timeout in force, or leaves it stopped at a timeout of 0 (R198). At the
expiry the timer restarts and a lapse is reported, which acts in RUNNING alone: the line becomes DRAINING, or IDLE
with an empty belt train, and HOST_SILENT is latched (R25, R26, R198). A posting count that differs from the last-seen
one becomes it and calls for a sweep; an equal one calls for none (R4). The one-second timer calls for a sweep at each
expiry, and the 1000 ms timer counts the line time, a 32-bit count; each starts again (R4, R22). A call starts a
sweep, or marks one pending. -/
def Obligations.HeartbeatAndTimersAct : Prop :=
  (∀ (v : Word) (s : State), exec (.heartbeat v) s = .next { unheld s with
    bus.hbTimer := if s.bus.hbTimeout = 0 then none else some (s.now + s.bus.hbTimeout * 1000) }) ∧
  (∀ (d : Nat) (s : State), s.bus.hbTimer = some d →
    (let u := { advanceTo d s with
       bus.hbTimer := if s.bus.hbTimeout = 0 then none else some (max s.now d + s.bus.hbTimeout * 1000) }
     (s.supervisor.line ≠ .running → exec .heartbeatTimerExpiry s = .next u) ∧
     (s.supervisor.line = .running → banksFollow s → ∃ t, exec .heartbeatTimerExpiry s = .next t ∧
       latchedBits 0x8000 s t ∧
       (s.tracker.train ≠ [] →
         exceptAttn u t = { u with supervisor.line := .draining }) ∧
       (s.tracker.train = [] → t.supervisor.line = .idle ∧ t.transport.demand = 0 ∧
         t.admission.epochCurrent = false ∧
         { exceptAttn u t with
           supervisor.line := .running, transport := u.transport
           admission.epochCurrent := u.admission.epochCurrent } = u)))) ∧
  (∀ (v : Word) (s : State), ∃ t, exec (.postingCount v) s = .next t ∧ ramRead t 0x0020 = v ∧
    ramKeptOutside [0x0020] s t ∧
    t.intake = (if v = s.intake.lastSeen then s.intake
      else if s.intake.sweep = none then { s.intake with lastSeen := v, sweep := some 0 }
      else { s.intake with lastSeen := v, sweepPending := true }) ∧
    exceptRam s { t with intake := s.intake } = unheld s) ∧
  (∀ s : State, exec .intakeTimerExpiry s = .next { advanceTo s.intake.timer s with
    intake := if s.intake.sweep = none then { s.intake with timer := s.intake.timer + 1000, sweep := some 0 }
      else { s.intake with timer := s.intake.timer + 1000, sweepPending := true } }) ∧
  (∀ s : State, exec .lineTimeTimer s = .next { advanceTo s.supervisor.timer s with
    supervisor.timer := s.supervisor.timer + 1000
    supervisor.lineTime := (s.supervisor.lineTime + 1) % 4294967296 })

/-- A load entry is taken in IDLE and HALTED: the load and its word become the value, the solvent hold follows the
hard limit and its release level, and an open cycle that is PENDING or in RETRY_WAIT closes below the stop level (R119,
R121, R122, R128). In the other line states it is discarded and counted once (R128). -/
def Obligations.SolventLoadEntrySetsTheLoad : Prop :=
  (∀ (v : Word) (s : State), s.supervisor.line = .idle ∨ s.supervisor.line = .halted →
    ∃ t, exec (.solventLoadEntry v) s = .next t ∧ t.wash.load = v.toNat ∧ ramRead t 0x0024 = v ∧
      ramKeptOutside [0x0024] s t ∧
      (s.wash.hard ≤ v.toNat → t.wash.hold = true) ∧ (v.toNat < s.wash.hard - 2000 → t.wash.hold = false) ∧
      (s.wash.hard - 2000 ≤ v.toNat → v.toNat < s.wash.hard → t.wash.hold = s.wash.hold) ∧
      ((t.wash.hold = true ∧ s.wash.hold = false) → t.bus.latched.getLsbD 12 = true) ∧
      (s.wash.replenish = .pending ∨ s.wash.replenish = .retryWait → v.toNat < s.wash.regen - 2000 →
        t.wash.replenish = .idle ∧ t.wash.retry = none) ∧
      (s.wash.replenish = .idle → v.toNat < s.wash.regen → t.wash.replenish = .idle) ∧
      (s.wash.replenish = .idle → s.wash.regen ≤ v.toNat → isPresent s .wash = false →
        t.wash.replenish = .pending) ∧
      (s.wash.replenish = .idle → s.wash.regen ≤ v.toNat → isPresent s .wash = true →
        t.wash.replenish = .ordered ∧ t.wash.outstanding = some (nextOrder s .wash) ∧
        t.wash.portion = s.wash.replPortion ∧ t.bus.latched.getLsbD 12 = true) ∧
      (s.wash.replenish = .ordered ∨ s.wash.replenish = .active →
        t.wash.replenish = s.wash.replenish ∧ t.wash.outstanding = s.wash.outstanding) ∧
      { exceptAttn s (exceptRam s t) with wash := s.wash, link.nodes := s.link.nodes } = unheld s) ∧
  (∀ (v : Word) (s : State), s.supervisor.line ≠ .idle → s.supervisor.line ≠ .halted →
    ∃ t, exec (.solventLoadEntry v) s = .next t ∧ discarded (unheld s) t)

/-! ## Ticket intake (chapter 1) -/

/-- The visit of a sweep to a slot whose request word holds no new request only goes on to the next slot (R5); with
no sweep in progress there is no visit. A new request out of turn is recorded as taken, counted once and latched
as PROTECT, and its slot keeps its state (R5, R14). That SWEEP_VISIT changes nothing with no sweep in progress is the
model's: the part makes no such visit. -/
def Obligations.SweepVisitFindsNoNewRequestOrOneOutOfTurn : Prop :=
  (∀ s : State, s.intake.sweep = none → exec .sweepVisit s = .next s) ∧
  (∀ (i : PlateId) (s : State), s.intake.sweep = some i →
    highByte (slotWord s i 0) = 0 ∨ lowByte (slotWord s i 0) = lastTaken s i →
    exec .sweepVisit s = .next { s with intake := intakeAfterVisit i s.intake }) ∧
  (∀ (i : PlateId) (code sq : Nat) (s : State), s.intake.sweep = some i → newRequest s i code sq →
    (code = 1 ∧ slotState s i ≠ .free) ∨ (code = 2 ∧ slotState s i ≠ .queued ∧ slotState s i ≠ .active) ∨
      (code = 3 ∧ slotState s i ≠ .done ∧ slotState s i ≠ .refused) ∨ 4 ≤ code →
    ∃ t, exec .sweepVisit s = .next t ∧ lastTaken t i = sq ∧ slotState t i = slotState s i ∧
      ramKeptOutside [slotBase i + 32] s t ∧
      discarded s { exceptRam s t with intake := s.intake } ∧ t.intake = intakeAfterVisit i s.intake)

/-- The checks of a POST, in their order, with their ranges and reasons (R1, R7): the first that fails gives the reason.
(Whether each bank can reach its setpoint is the statement after this one.) A new POST in a FREE slot that fails
validation sets the slot REFUSED with the reason and latches SLOT; no plate record is made, and the acceptance order
counter and the other report words stay (R5, R9). -/
def Obligations.ValidationGivesTheFirstFailingCheck : Prop :=
  (∀ (s : State) (t : TicketWords) (r : RecipeWords),
     (s.cal.state = .default → validate s t r = some .noCalibration) ∧
     (s.cal.state = .valid →
       let recipeOk := t.recipe ≤ 31 ∧ r.valid = 1 ∧ 200 ≤ r.speed ∧ r.speed ≤ 3000 ∧ r.backDose ≤ 60000 ∧
         r.mainDose ≤ 60000 ∧ 10 ≤ r.tolerance ∧ r.tolerance ≤ 200 ∧ 10 ≤ r.dryTime ∧ r.dryTime ≤ 600
       let sizeOk := 200 ≤ t.length ∧ t.length ≤ 1500 ∧ 200 ≤ t.width ∧ t.width ≤ 1300
       let depthOk := 100 ≤ t.depth ∧ t.depth ≤ 4000
       (¬recipeOk → validate s t r = some .badRecipe) ∧
       (recipeOk → ¬sizeOk → validate s t r = some .badSize) ∧
       (recipeOk → sizeOk → ¬depthOk → validate s t r = some .badDepth) ∧
       (recipeOk → sizeOk → depthOk → 1000 < t.coverage → validate s t r = some .badCoverage) ∧
       (recipeOk → sizeOk → depthOk → t.coverage ≤ 1000 → doseReachable s t r = false →
         validate s t r = some .doseUnreachable) ∧
       (recipeOk → sizeOk → depthOk → t.coverage ≤ 1000 → doseReachable s t r = true → validate s t r = none))) ∧
  (∀ (i : PlateId) (sq : Nat) (why : Reason) (s : State), s.intake.sweep = some i → newRequest s i 1 sq →
     slotState s i = .free → validate s (ticketAt s i) (recipeAt s (ticketAt s i).recipe) = some why →
     ∃ t, exec .sweepVisit s = .next t ∧ slotState t i = .refused ∧ lastTaken t i = sq ∧
       slotWord t i 33 = w16 (reasonCode why) ∧ ramKeptOutside [slotBase i + 32, slotBase i + 33] s t ∧
       latchedBits 0x0100 s t ∧ t.intake = intakeAfterVisit i s.intake ∧
       exceptAttn s { exceptRam s t with intake := s.intake } = s)

/-- The feasibility check (R8): the ticket fails if any one bank is out of reach. With the share of R8's table, a bank
whose share is 0 is never out of reach; one whose share is not 0 and whose window width is 0 is; otherwise it is
exactly when 100 times its setpoint exceeds 95 times F, where the setpoint is the share times the speed divided by 100
times the width, rounded half up and clamped to 10000: the rounded quotient q is the one with
(2q - 1) * 100 w ≤ 2 * share * speed < (2q + 1) * 100 w. -/
def Obligations.FeasibilityComparesTheSetpointWithTheEstimate : Prop :=
  ∀ (s : State) (t : TicketWords) (r : RecipeWords),
    let outOfReach (b : BankUnit) (share : Nat) : Prop :=
      share ≠ 0 ∧ (b.w1 - b.w0 = 0 ∨ ∃ q : Nat,
        2 * q * (100 * (b.w1 - b.w0)) ≤ 2 * (share * r.speed) + 100 * (b.w1 - b.w0) ∧
        2 * (share * r.speed) + 100 * (b.w1 - b.w0) < (2 * q + 2) * (100 * (b.w1 - b.w0)) ∧
        95 * b.full < 100 * min 10000 q)
    (doseReachable s t r = false ↔
      outOfReach s.banks.bk (if t.backDone then 0 else r.backDose) ∨ outOfReach s.banks.m1 (r.mainDose / 2) ∨
        outOfReach s.banks.m2 (r.mainDose - r.mainDose / 2))

/-- A new POST in a FREE slot that passes validation is accepted (R5, R10, R11, R33, R34): the acceptance order
counter counts, modulo 2^32, and the ticket gets its value; the plate record is made from the snapshot; the plate
joins the queue, a RUSH plate behind the last RUSH entry and any other at the tail; the slot shows QUEUED with its
sequence, stage QUEUED, its order and the head hold reason. The queue-low state follows the queue, and acceptance itself latches no
cause. -/
def Obligations.PostThatPassesIsAccepted : Prop :=
  ∀ (i : PlateId) (sq : Nat) (s : State), s.intake.sweep = some i → newRequest s i 1 sq →
    slotState s i = .free → validate s (ticketAt s i) (recipeAt s (ticketAt s i).recipe) = none →
    i ∉ s.admission.queue →
    ∃ t, exec .sweepVisit s = .next t ∧
      (let n := (s.intake.order + 1) % 4294967296
       let r := freshPlate (ticketAt s i) (recipeAt s (ticketAt s i).recipe) n
       t.intake = intakeAfterVisit i { s.intake with order := n } ∧
       plateOf t i = some r ∧ (∀ p : PlateId, p ≠ i → plateOf t p = plateOf s p) ∧
       r.dryRemaining = r.dryTime * 60000 ∧ r.stage = .queued ∧
       (r.rush = false → t.admission.queue = s.admission.queue ++ [i]) ∧
       (r.rush = true → ∀ front back : List PlateId, s.admission.queue = front ++ back →
         (∀ p ∈ front, isRush s p = true) → (∀ p ∈ back, isRush s p = false) →
         t.admission.queue = front ++ i :: back) ∧
       t.admission.queueLow =
         decide (s.admission.mark ≠ 0 ∧ s.admission.queue.length + 1 < s.admission.mark) ∧
       (s.admission.queueLow = decide (s.admission.mark ≠ 0 ∧ s.admission.queue.length < s.admission.mark) →
         t.bus.latched = s.bus.latched) ∧
       slotState t i = .queued ∧ lastTaken t i = sq ∧ slotWord t i 35 = 1 ∧
       slotWord t i 34 = w16 (holdCode s.admission.holdReason) ∧
       slotWord t i 38 = lowWord n ∧ slotWord t i 39 = highWord n ∧
       ramKeptOutside [slotBase i + 32, slotBase i + 34, slotBase i + 35, slotBase i + 38, slotBase i + 39] s t ∧
       exceptAttn s { exceptRam s t with
         intake := s.intake, tracker.plates := s.tracker.plates
         admission.queue := s.admission.queue, admission.queueLow := s.admission.queueLow } = s)

/-- A new WITHDRAW in a QUEUED slot takes the plate out of the queue and refuses the slot with WITHDRAWN, stage ENDED and
hold reason 0, and latches SLOT; in an ACTIVE slot it only sets LATE_WITHDRAW in the record and in the slot (R5, R10,
R12). A new RETURN in a DONE or REFUSED slot clears the report words, frees the slot with its sequence as the last
taken one, and removes the plate record (R5, R13). -/
def Obligations.WithdrawAndReturnInTheirSlotStates : Prop :=
  (∀ (i : PlateId) (sq : Nat) (s : State), s.intake.sweep = some i → newRequest s i 2 sq →
    slotState s i = .queued →
    ∃ t, exec .sweepVisit s = .next t ∧ t.admission.queue = s.admission.queue.erase i ∧
      slotState t i = .refused ∧ lastTaken t i = sq ∧ slotWord t i 33 = 7 ∧ slotWord t i 34 = 0 ∧
      slotWord t i 35 = 9 ∧ t.bus.latched.getLsbD 8 = true ∧
      plateOf t i = (plateOf s i).map (fun r => { r with stage := .ended }) ∧
      (∀ p : PlateId, p ≠ i → plateOf t p = plateOf s p) ∧
      ramKeptOutside [slotBase i + 32, slotBase i + 33, slotBase i + 34, slotBase i + 35] s t ∧
      t.intake = intakeAfterVisit i s.intake ∧
      exceptAttn s { exceptRam s t with
        intake := s.intake, tracker.plates := s.tracker.plates, admission.queue := s.admission.queue
        admission.queueLow := s.admission.queueLow, admission.holdReason := s.admission.holdReason } = s) ∧
  (∀ (i : PlateId) (sq : Nat) (s : State), s.intake.sweep = some i → newRequest s i 2 sq →
    slotState s i = .active →
    ∃ t, exec .sweepVisit s = .next t ∧ slotState t i = .active ∧ lastTaken t i = sq ∧
      slotWord t i 54 = slotWord s i 54 ||| 2 ∧
      plateOf t i = (plateOf s i).map (fun r => { r with lateWithdraw := true }) ∧
      (∀ p : PlateId, p ≠ i → plateOf t p = plateOf s p) ∧
      ramKeptOutside [slotBase i + 32, slotBase i + 54] s t ∧
      t.intake = intakeAfterVisit i s.intake ∧
      { exceptRam s t with intake := s.intake, tracker.plates := s.tracker.plates } = s) ∧
  (∀ (i : PlateId) (sq : Nat) (s : State), s.intake.sweep = some i → newRequest s i 3 sq →
     slotState s i = .done ∨ slotState s i = .refused →
     ∃ t, exec .sweepVisit s = .next t ∧ slotState t i = .free ∧ lastTaken t i = sq ∧
       (∀ o : Nat, 33 ≤ o → o ≤ 57 → slotWord t i o = 0) ∧ plateOf t i = none ∧
       (∀ p : PlateId, p ≠ i → plateOf t p = plateOf s p) ∧
       ramKeptOutside ((List.range 26).map fun o => slotBase i + 32 + o) s t ∧
       t.intake = intakeAfterVisit i s.intake ∧
       { exceptRam s t with intake := s.intake, tracker.plates := s.tracker.plates } = s)


/-! ## The line commands (chapter 2) -/

/-- A line command refused in the line state that stands changes nothing but the outcome (R23, R24, R25, R30, R31, R150,
R168, R174): START outside IDLE and DRAINING, in IDLE first with COVER open and then with DEFAULT calibration; DRAIN
outside RUNNING; HALT in HALTED and SAFE; RESUME outside HALTED; SAFE_RELEASE outside SAFE, in SAFE first with ESTOP#
asserted and then with COVER open; RESET_LINE and LINK_SINGLE outside IDLE and HALTED; SHUTTLE_RESET outside FAULTED or in
SAFE; CHAMBER_RESET outside FAULTED. A code that names no command gives UNKNOWN. -/
def Obligations.RefusedLineCommandsChangeOnlyTheOutcome : Prop :=
  ∀ s : State,
    let refused (c : Instr) (o : CmdOutcome) : Prop :=
      exec c s = .next { unheld s with supervisor.outcome := o }
    let l := s.supervisor.line
    (l ≠ .idle → l ≠ .draining → refused .start .refusedState) ∧
    (l = .idle → s.safety.coverClosed = false → refused .start .refusedCover) ∧
    (l = .idle → s.safety.coverClosed = true → s.cal.state = .default → refused .start .refusedCal) ∧
    (l ≠ .running → refused .drain .refusedState) ∧
    (l = .halted ∨ l = .safe → refused .halt .refusedState) ∧
    (l ≠ .halted → refused .resume .refusedState) ∧
    (l ≠ .safe → refused .safeRelease .refusedState) ∧
    (l = .safe → s.safety.estop = true → refused .safeRelease .refusedState) ∧
    (l = .safe → s.safety.estop = false → s.safety.coverClosed = false → refused .safeRelease .refusedCover) ∧
    (l ≠ .idle → l ≠ .halted → refused .resetLine .refusedState ∧ refused .linkSingle .refusedState) ∧
    (s.shuttle.state ≠ .faulted ∨ l = .safe → refused .shuttleReset .refusedState) ∧
    (s.chamber.state ≠ .faulted → refused .chamberReset .refusedState) ∧
    (∀ code : Word, (Instr.unknownCommand code).wellFormed = true → refused (.unknownCommand code) .unknown)

/-- START taken in IDLE with COVER closed and calibration VALID makes the line RUNNING with no epoch current; the scan of
the link becomes CONTINUOUS (R24, R174). In DRAINING it makes the line RUNNING again, whatever COVER and the
calibration are. DRAIN taken in RUNNING makes the line DRAINING while plates are on the belt, and IDLE at once
without: then the epoch ends and the belt is given the demand 0 (R25, R26). -/
def Obligations.StartAndDrainRunAndEmptyTheLine : Prop :=
  (∀ s : State, banksFollow s →
     (s.supervisor.line = .draining → exec .start s = .next { unheld s with
       supervisor.line := .running, supervisor.outcome := .accepted }) ∧
     (s.supervisor.line = .idle → s.safety.coverClosed = true → s.cal.state = .valid →
       (s.link.mode = .continuous → exec .start s = .next { unheld s with
         supervisor.line := .running, supervisor.outcome := .accepted, admission.epochCurrent := false }) ∧
       (s.link.mode = .single → exec .start s = .next { unheld s with
         supervisor.line := .running, supervisor.outcome := .accepted, admission.epochCurrent := false
         link.mode := .continuous, link.further := false }) ∧
       (s.link.mode = .stopped → ∃ t, exec .start s = .next t ∧ t.supervisor.line = .running ∧
         t.supervisor.outcome = .accepted ∧ t.admission.epochCurrent = false ∧ t.link.mode = .continuous ∧
         t.link.passTimer = some (s.now + 20) ∧ t.transport.demand = s.transport.demand))) ∧
  (∀ s : State, banksFollow s → s.supervisor.line = .running →
     (s.tracker.train ≠ [] → exec .drain s = .next { unheld s with
       supervisor.line := .draining, supervisor.outcome := .accepted }) ∧
     (s.tracker.train = [] → s.transport.demand = 0 → exec .drain s = .next { unheld s with
       supervisor.line := .idle, supervisor.outcome := .accepted, admission.epochCurrent := false }) ∧
     (s.tracker.train = [] → s.transport.demand ≠ 0 → exec .drain s = .next { unheld s with
       supervisor.line := .idle, supervisor.outcome := .accepted, admission.epochCurrent := false
       transport.demand := 0, transport.beltState := .stopped, transport.speedFlag := false
       transport.settleRun := none, transport.deviationRun := none, transport.stallRun := none }))

/-- HALT taken in IDLE, RUNNING or DRAINING makes the line HALTED with cause COMMAND and latches HALT (R23, R27, R28): the
gate closes and the misfeed timer stops; every plate of the belt train leaves it and ends SPOILED, its slot DONE at the
line time with its open stations INCOMPLETE, and gives its commitment back; the epoch ends and the belt is given the
demand 0; the banks are forced off with duty 0. The plates and slots outside the train, the rack, the drawers, the
shuttle, the chamber, the intake and the store stand. -/
def Obligations.HaltSpoilsTheTrain : Prop :=
  ∀ s : State, s.supervisor.line ≠ .halted → s.supervisor.line ≠ .safe → s.tracker.train.Nodup →
    (∀ p ∈ s.tracker.train, ∃ r, plateOf s p = some r ∧ r.stage ≠ .ended) →
    ∃ t, exec .halt s = .next t ∧ t.supervisor.line = .halted ∧ t.supervisor.cause = .command ∧
      t.supervisor.outcome = .accepted ∧ t.supervisor.lineTime = s.supervisor.lineTime ∧
      t.bus.latched.getLsbD 1 = true ∧ t.admission.gateOpen = false ∧ t.admission.misfeedTimer = none ∧
      t.tracker.train = [] ∧ t.admission.commitments = s.admission.commitments - s.tracker.train.length ∧
      t.admission.epochCurrent = false ∧ t.admission.queue = s.admission.queue ∧
      t.transport.demand = 0 ∧ t.transport.position = s.transport.position ∧
      (∀ k : Bank, (t.banks.get k).state = .forcedOff ∧ ((s.banks.get k).state ≠ .forcedOff →
        (t.banks.get k).duty = 0 ∧ (t.banks.get k).pwm = 0 ∧ (t.banks.get k).limited = false)) ∧
      (∀ p ∈ s.tracker.train, slotState t p = .done ∧ slotWord t p 33 = 18 ∧ slotWord t p 35 = 9 ∧
        slotWord t p 56 = lowWord s.supervisor.lineTime ∧ slotWord t p 57 = highWord s.supervisor.lineTime ∧
        ∃ r, plateOf t p = some r ∧ r.stage = .ended ∧ r.disposition = some .spoiled ∧
          (∀ q, plateOf s p = some q → q.dose.back.isOpen = true → r.dose.back.verdict = some .incomplete) ∧
          (∀ q, plateOf s p = some q → q.dose.main.isOpen = true → r.dose.main.verdict = some .incomplete)) ∧
      (∀ p : PlateId, p ∉ s.tracker.train → plateOf t p = plateOf s p ∧
        ∀ o : Fin 64, slotWord t p o.val = slotWord s p o.val) ∧
      t.drying = s.drying ∧ t.shuttle = s.shuttle ∧ t.chamber = s.chamber ∧ t.intake = s.intake ∧
      t.cal = s.cal ∧ t.safety = s.safety ∧ t.now = s.now

/-- RESUME taken in HALTED makes the line IDLE with cause NONE (R30); with COVER open the banks stay forced off, and with
COVER closed a bank without claims becomes TRACKING or DARK by its dark time (R69). Nothing else changes. SAFE_RELEASE
taken in SAFE with ESTOP# released and COVER closed makes the line HALTED and releases LINE_SAFE#; the cause stays
(R30, R202). The banks stay forced off. A replenish cycle open with no order outstanding, PENDING or in RETRY_WAIT,
issues its order if the wash node is PRESENT, and the retry timer stops (R122, R123; in RETRY_WAIT by log entry 28); a
shuttle that is able leaves STOPPED (R140), and a suspended batch with its door closed is exposed again (R165). -/
def Obligations.ResumeAndSafeReleaseLeaveTheStop : Prop :=
  (∀ s : State, s.supervisor.line = .halted → banksFollow s →
     (s.safety.coverClosed = false → exec .resume s = .next { unheld s with
       supervisor.line := .idle, supervisor.cause := .none, supervisor.outcome := .accepted }) ∧
     (s.safety.coverClosed = true → ∃ t, exec .resume s = .next t ∧
       t.supervisor = { s.supervisor with line := .idle, cause := .none, outcome := .accepted } ∧
       { t with supervisor := s.supervisor, banks := s.banks } = unheld s ∧
       ∀ (k : Bank) (d : Nat), (s.banks.get k).claims = [] → (s.banks.get k).darkStart = some d →
         t.banks.get k =
           { s.banks.get k with state := if 200 ≤ s.now - d then BankState.tracking else .dark })) ∧
  (∀ s : State, s.supervisor.line = .safe → s.safety.estop = false → s.safety.coverClosed = true → banksFollow s →
     ∃ t, exec .safeRelease s = .next t ∧
       t.supervisor = { s.supervisor with line := .halted, outcome := .accepted } ∧
       t.safety = { s.safety with lineSafe := false } ∧ t.banks = s.banks ∧ t.transport = s.transport ∧
       t.intake = s.intake ∧ t.cal = s.cal ∧ t.admission.queue = s.admission.queue ∧
       t.tracker.train = s.tracker.train ∧
       (s.wash.replenish = .pending ∨ s.wash.replenish = .retryWait → isPresent s .wash = true →
         t.wash = { s.wash with
           replenish := .ordered, outstanding := some (nextOrder s .wash), portion := s.wash.replPortion
           retry := none } ∧ t.bus.latched.getLsbD 12 = true) ∧
       ((s.wash.replenish ≠ .pending ∧ s.wash.replenish ≠ .retryWait) ∨ isPresent s .wash = false →
         t.wash = s.wash) ∧
       (s.shuttle.state = .stopped → isPresent s .shuttle = true → s.shuttle.ready = true →
         s.shuttle.fault = false → t.shuttle.state = .ready ∨ t.shuttle.state = .moving) ∧
       (s.chamber.state = .suspended → s.chamber.doorClosed = true → s.chamber.onA = false →
         s.chamber.ask = .none → t.chamber.state = .exposing ∧ t.chamber.openA = true ∧ t.chamber.openC = !s.chamber.onC))

/-- RESET_LINE taken in IDLE or HALTED (R21, R31, R36, R131, R185): every QUEUED slot is REFUSED with LINE_RESET, stage
ENDED and hold reason 0, and its last taken sequence stays; the queue is empty and the hold reason NONE; the misfeed hold
is clear; no STRAY entry is in the rack; every node's miss and check counts are 0; the line is IDLE with cause NONE. The
belt, the load, the store, the intake, the line time and the slots that were not QUEUED keep their words but for the stage
and dry time of a plate that the shuttle takes aboard, and the doses of a batch that ends, in the same event. -/
def Obligations.ResetLineResolvesTheQueue : Prop :=
  ∀ s : State, s.supervisor.line = .idle ∨ s.supervisor.line = .halted →
    ∃ t, exec .resetLine s = .next t ∧ t.supervisor =
        { s.supervisor with line := .idle, cause := .none, outcome := .accepted } ∧
      t.admission.queue = [] ∧ t.admission.holdReason = .none ∧ t.admission.misfeedHold = false ∧
      t.admission.misfeedArmed = false ∧ t.admission.epochNo = s.admission.epochNo ∧
      RackEntry.stray ∉ t.drying.rack ∧
      (∀ n : Fin 15, t.link.nodes[n].miss = 0 ∧ t.link.nodes[n].check = 0 ∧
        t.link.nodes[n].state = s.link.nodes[n].state) ∧
      (∀ i : PlateId, slotState s i = .queued → slotState t i = .refused ∧ lastTaken t i = lastTaken s i ∧
        slotWord t i 33 = 8 ∧ slotWord t i 34 = 0 ∧ slotWord t i 35 = 9) ∧
      (∀ i : PlateId, slotState s i ≠ .queued → ∀ o : Fin 64, o.val ∉ [35, 50, 51, 52, 53] →
        slotWord t i o.val = slotWord s i o.val) ∧
      ((∃ i : PlateId, slotState s i = .queued) → t.bus.latched.getLsbD 8 = true) ∧
      t.transport = s.transport ∧ t.wash = s.wash ∧ t.cal = s.cal ∧ t.intake = s.intake ∧
      t.safety = s.safety ∧ t.tracker.train = s.tracker.train

/-- LINK_SINGLE, in IDLE or HALTED, and LINK_CONTINUOUS, in every line state (R174): they change the scan mode, with one
further full pass to follow the pass in progress when CONTINUOUS becomes SINGLE; from STOPPED a pass starts at once
with its 20 ms timer. In the mode asked for nothing but the outcome changes. SHUTTLE_RESET of a FAULTED shuttle
outside SAFE requests the reset (R150). RACK_CLEAR takes every STRAY entry out of the rack, and with the shuttle not
READY and the chamber neither DARK nor LOADING does nothing else (R131). CHAMBER_RESET of a FAULTED chamber is
remembered (R168): with an empty batch and no chamber move current the chamber becomes DARK, and with plates left it
asks for the UNLOAD of the lowest position (with the shuttle not READY). -/
def Obligations.LinkAndHandlingCommandsAct : Prop :=
  (∀ s : State,
     (s.supervisor.line = .idle ∨ s.supervisor.line = .halted →
       (s.link.mode = .continuous → exec .linkSingle s = .next { unheld s with
         supervisor.outcome := .accepted, link.mode := .single, link.further := true }) ∧
       (s.link.mode = .single → exec .linkSingle s = .next { unheld s with supervisor.outcome := .accepted }) ∧
       (s.link.mode = .stopped → nextVisited (takeAssignment s) 0 ≠ none →
         ∃ t, exec .linkSingle s = .next t ∧ t.supervisor = { s.supervisor with outcome := .accepted } ∧
           t.link.mode = .single ∧ t.link.further = false ∧ t.link.phase = .guard 0 ∧
           t.link.passTimer = some (s.now + 20) ∧ t.transport.demand = s.transport.demand)) ∧
     (s.link.mode = .continuous → exec .linkContinuous s = .next { unheld s with
       supervisor.outcome := .accepted }) ∧
     (s.link.mode = .single → exec .linkContinuous s = .next { unheld s with
       supervisor.outcome := .accepted, link.mode := .continuous, link.further := false }) ∧
     (s.link.mode = .stopped → nextVisited (takeAssignment s) 0 ≠ none →
       ∃ t, exec .linkContinuous s = .next t ∧ t.supervisor = { s.supervisor with outcome := .accepted } ∧
         t.link.mode = .continuous ∧ t.link.phase = .guard 0 ∧ t.link.passTimer = some (s.now + 20))) ∧
  (∀ s : State,
     (s.shuttle.state = .faulted → s.supervisor.line ≠ .safe → exec .shuttleReset s = .next { unheld s with
       supervisor.outcome := .accepted, shuttle.resetRequested := true }) ∧
     (s.shuttle.state ≠ .ready → s.chamber.state ≠ .dark → s.chamber.state ≠ .loading →
       exec .rackClear s = .next { unheld s with
         supervisor.outcome := .accepted, drying.rack := s.drying.rack.filter fun e => e != .stray }) ∧
     (∃ t, exec .rackClear s = .next t ∧ RackEntry.stray ∉ t.drying.rack ∧
       t.supervisor = { s.supervisor with outcome := .accepted }) ∧
     (s.chamber.state = .faulted → s.shuttle.state ≠ .ready → chamberMove s = false →
       s.chamber.pos1 = none → s.chamber.pos2 = none → loadCandidate s none = none →
       exec .chamberReset s = .next { unheld s with
         supervisor.outcome := .accepted, chamber.state := .dark, chamber.batchClass := none, chamber.ask := .none
         chamber.resetAccepted := false }) ∧
     (s.chamber.state = .faulted → s.shuttle.state ≠ .ready → chamberMove s = false →
       (∀ (p : PlateId) (m : Mark), s.chamber.pos1 = some (p, m) →
         exec .chamberReset s = .next { unheld s with
           supervisor.outcome := .accepted, chamber.resetAccepted := true
           chamber.ask := .unload p .one (decide (m = .spoiled)) }) ∧
       (∀ (p : PlateId) (m : Mark), s.chamber.pos1 = none → s.chamber.pos2 = some (p, m) →
         exec .chamberReset s = .next { unheld s with
           supervisor.outcome := .accepted, chamber.resetAccepted := true
           chamber.ask := .unload p .two (decide (m = .spoiled)) })))


/-! ## The calibration store (chapter 11) -/

/-- An allowed operation with the store not BUSY (R206, R207): READ gives the store word at the address and completes at
once with OK and CAL; WRITE, ERASE and SAVE_OFFSETS are BUSY for 5, 5 and 15 ms with what they are to write. The
operation word keeps the code (log entry 34, the model's choice), and the store stands until the completion (log entry
10, the model's choice). Nothing else changes. Requests turned away
(R206): in BUSY every request is ignored: the result becomes IGNORED_BUSY, it is counted once with PROTECT, and the
running operation goes on. Otherwise a code that names no operation, and WRITE, ERASE, LOAD_LIVE and SAVE_OFFSETS
outside IDLE and HALTED, complete at once with LOCKED; an allowed READ, WRITE or ERASE with an address above 255 with
BAD_ADDRESS. Each such completion latches CAL; the store and the read data stand. -/
def Obligations.CalRequestsBeginOrAreTurnedAway : Prop :=
  (∀ s : State, s.cal.opState ≠ .busy →
     let addr := (ramRead s 0x1101).toNat
     let begun (c : Instr) (code : Word) (op : CalOp) (ms : Nat) : Prop :=
       ∃ t, exec c s = .next t ∧ t.cal = { s.cal with opState := .busy, running := some (op, s.now + ms) } ∧
         ramRead t 0x1100 = code ∧ ramKeptOutside [0x1100] s t ∧
         { exceptRam s t with cal := s.cal } = unheld s
     (addr ≤ 255 → ∃ t, exec .read s = .next t ∧
       t.cal = { s.cal with opState := .done, result := .ok, readData := storeRead s addr, running := none } ∧
       ramRead t 0x1100 = 1 ∧ ramKeptOutside [0x1100] s t ∧ latchedBits 0x4000 s t ∧
       exceptAttn s { exceptRam s t with cal := s.cal } = unheld s) ∧
     (s.supervisor.line = .idle ∨ s.supervisor.line = .halted →
       (addr ≤ 255 → begun .write 2 (.write addr (ramRead s 0x1102)) 5 ∧ begun .erase 3 (.erase addr) 5) ∧
       begun .saveOffsets 5
         (.save { bk := s.banks.bk.offset, m1 := s.banks.m1.offset, m2 := s.banks.m2.offset }) 15)) ∧
  (∀ s : State,
     let addr := (ramRead s 0x1101).toNat
     let ignored (c : Instr) (code : Word) : Prop :=
       ∃ t, exec c s = .next t ∧ t.cal = { s.cal with result := .ignoredBusy } ∧ ramRead t 0x1100 = code ∧
         ramKeptOutside [0x1100] s t ∧ discarded (unheld s) { exceptRam s t with cal := s.cal }
     let ended (c : Instr) (code : Word) (r : OpResult) : Prop :=
       ∃ t, exec c s = .next t ∧ t.cal = { s.cal with opState := .done, result := r, running := none } ∧
         ramRead t 0x1100 = code ∧ ramKeptOutside [0x1100] s t ∧ latchedBits 0x4000 s t ∧
         exceptAttn s { exceptRam s t with cal := s.cal } = unheld s
     (s.cal.opState = .busy → ignored .read 1 ∧ ignored .write 2 ∧ ignored .erase 3 ∧ ignored .loadLive 4 ∧
       ignored .saveOffsets 5 ∧ ∀ code : Word, ignored (.unknownOperation code) code) ∧
     (s.cal.opState ≠ .busy →
       (∀ code : Word, (Instr.unknownOperation code).wellFormed = true →
         ended (.unknownOperation code) code .locked) ∧
       (s.supervisor.line ≠ .idle → s.supervisor.line ≠ .halted →
         ended .write 2 .locked ∧ ended .erase 3 .locked ∧ ended .loadLive 4 .locked ∧
         ended .saveOffsets 5 .locked) ∧
       (255 < addr → ended .read 1 .badAddress ∧
         (s.supervisor.line = .idle ∨ s.supervisor.line = .halted →
           ended .write 2 .badAddress ∧ ended .erase 3 .badAddress))))

/-- The completion of the running operation (R207): WRITE has put its data at its address, ERASE 0xFFFF, SAVE_OFFSETS the offsets
in words 4, 12 and 20, for each bank whose live offset has not moved since the request (where it has, which one is
saved is a free value, log entry 11); no other word of the store changes. The state is DONE with OK and CAL is
latched (R206). -/
def Obligations.CalCompletionsWriteTheStore : Prop :=
  ∀ (s : State) (d : Nat),
    let ended (t : State) : Prop :=
      t.cal.opState = .done ∧ t.cal.result = .ok ∧ t.cal.running = none ∧ t.cal.state = s.cal.state ∧
        t.cal.readData = s.cal.readData ∧ latchedBits 0x4000 s t ∧
        { exceptAttn s t with cal := s.cal, freeCount := s.freeCount } = advanceTo d s
    (∀ (a : Nat) (v : Word), s.cal.running = some (.write a v, d) →
      ∃ t, exec .writeComplete s = .next t ∧ storeRead t a = v ∧
        (∀ b : Nat, b ≠ a → storeRead t b = storeRead s b) ∧ ended t) ∧
    (∀ a : Nat, s.cal.running = some (.erase a, d) →
      ∃ t, exec .eraseComplete s = .next t ∧ storeRead t a = 0xFFFF ∧
        (∀ b : Nat, b ≠ a → storeRead t b = storeRead s b) ∧ ended t) ∧
    (∀ o : PerBank Int, s.cal.running = some (.save o, d) →
      ∃ t, exec .saveOffsetsComplete s = .next t ∧
        (s.banks.bk.offset = o.bk → storeRead t 4 = wordOfInt o.bk) ∧
        (s.banks.m1.offset = o.m1 → storeRead t 12 = wordOfInt o.m1) ∧
        (s.banks.m2.offset = o.m2 → storeRead t 20 = wordOfInt o.m2) ∧
        (∀ b : Nat, b ≠ 4 → b ≠ 12 → b ≠ 20 → storeRead t b = storeRead s b) ∧ ended t)

/-- LOAD_LIVE in IDLE or HALTED with the store not BUSY (R87, R204, R206, R207): without the marker no item is taken and the
result is RANGE. With it each item within its range replaces its live value, SENSOR_DRIFT clears with a taken
offset, and an item outside its range leaves its live value; the result is OK and the calibration state VALID when every
item was taken, and otherwise RANGE with the state as it was. The ranges of the items, word by word (R204), are the
first clause. -/
def Obligations.LoadLiveTakesTheItemsInRange : Prop :=
  (∀ w : Word,
    (∀ base ∈ [1, 9, 17],
      (itemOk base w = true ↔ w.toNat ≤ 12287) ∧ (itemOk (base + 1) w = true ↔ w.toNat ≤ 12287) ∧
      (itemOk (base + 2) w = true ↔ w.toNat ≤ 4095) ∧
      (itemOk (base + 3) w = true ↔ w.toNat ≤ 1499 ∨ 64036 ≤ w.toNat) ∧
      (itemOk (base + 4) w = true ↔ 1 ≤ w.toNat ∧ w.toNat ≤ 8191) ∧
      (itemOk (base + 5) w = true ↔ 1 ≤ w.toNat ∧ w.toNat ≤ 255) ∧
      (itemOk (base + 6) w = true ↔ w.toNat ≤ 10000) ∧ (itemOk (base + 7) w = true ↔ w.toNat ≤ 20000)) ∧
    (itemOk 25 w = true ↔ w.toNat ≤ 200) ∧ (itemOk 26 w = true ↔ w.toNat ≤ 2000) ∧
    (itemOk 27 w = true ↔ w.toNat ≤ 2000) ∧ (itemOk 28 w = true ↔ w.toNat ≤ 12287) ∧
    (itemOk 29 w = true ↔ w.toNat ≤ 12287) ∧ (itemOk 30 w = true ↔ 100 ≤ w.toNat ∧ w.toNat ≤ 1000) ∧
    (itemOk 31 w = true ↔ 5 ≤ w.toNat ∧ w.toNat ≤ 100) ∧ itemOk 32 w = true ∧ itemOk 33 w = true ∧
    (itemOk 34 w = true ↔ w.toNat ≤ 50) ∧ (itemOk 35 w = true ↔ w.toNat ≤ 1200) ∧
    (itemOk 36 w = true ↔ w.toNat ≤ 200) ∧ (itemOk 37 w = true ↔ 1 ≤ w.toNat ∧ w.toNat ≤ 15) ∧
    (∀ n : Fin 15, itemOk (38 + n.val) w = true ↔ w.toNat ≤ 10)) ∧
  (∀ s : State, s.cal.opState ≠ .busy → s.supervisor.line = .idle ∨ s.supervisor.line = .halted →
    let ok (a : Nat) : Bool := itemOk a (storeRead s a)
    let nat (a old : Nat) : Nat := if ok a then (storeRead s a).toNat else old
    (storeRead s 0 ≠ 0x6D4B → ∃ t, exec .loadLive s = .next t ∧
      t.cal = { s.cal with opState := .done, result := .range, running := none } ∧ ramKeptOutside [0x1100] s t ∧
      latchedBits 0x4000 s t ∧ exceptAttn s { exceptRam s t with cal := s.cal } = unheld s) ∧
    (storeRead s 0 = 0x6D4B → ∃ t, exec .loadLive s = .next t ∧
      t.cal.opState = .done ∧ t.cal.store = s.cal.store ∧ t.bus.latched.getLsbD 14 = true ∧
      ((∀ a ∈ itemWords, ok a = true) → t.cal.result = .ok ∧ t.cal.state = .valid) ∧
      ((∃ a ∈ itemWords, ok a = false) → t.cal.result = .range ∧ t.cal.state = s.cal.state) ∧
      (∀ x ∈ [(Bank.bk, 1), (Bank.m1, 9), (Bank.m2, 17)],
        let b := s.banks.get x.1
        let c := t.banks.get x.1
        c.w0 = nat x.2 b.w0 ∧ c.w1 = nat (x.2 + 1) b.w1 ∧ c.gain = nat (x.2 + 2) b.gain ∧
        c.offset = (if ok (x.2 + 3) then signedOf (storeRead s (x.2 + 3)) else b.offset) ∧
        c.drift = (if ok (x.2 + 3) then false else b.drift) ∧
        c.sensitivity = nat (x.2 + 4) b.sensitivity ∧ c.regGain = nat (x.2 + 5) b.regGain ∧
        c.rated = nat (x.2 + 6) b.rated ∧ c.full = nat (x.2 + 7) b.full ∧
        c.duty = b.duty ∧ c.state = b.state ∧ c.claims = b.claims) ∧
      t.claimLead = nat 25 s.claimLead ∧ t.admission.smallGap = nat 26 s.admission.smallGap ∧
      t.admission.largeGap = nat 27 s.admission.largeGap ∧
      t.wash.start = nat 28 s.wash.start ∧ t.wash.stop = nat 29 s.wash.stop ∧
      t.wash.volume = nat 30 s.wash.volume ∧ t.wash.replPortion = nat 31 s.wash.replPortion ∧
      t.wash.regen = nat 32 s.wash.regen ∧ t.wash.hard = nat 33 s.wash.hard ∧ t.wash.slope = nat 34 s.wash.slope ∧
      t.drying.setpoint = nat 35 s.drying.setpoint ∧ t.drying.band = nat 36 s.drying.band ∧
      t.link.lastNode = nat 37 s.link.lastNode ∧
      (∀ n : Fin 15, t.link.assign[n] =
        if ok (38 + n.val) then stationOfCode (storeRead s (38 + n.val)).toNat else s.link.assign[n]) ∧
      t.wash.load = s.wash.load ∧ t.supervisor = s.supervisor ∧ t.tracker = s.tracker ∧
      t.transport = s.transport ∧ t.shuttle = s.shuttle ∧ t.chamber = s.chamber ∧ t.intake = s.intake))

/-! ## Belt scale and transport (chapter 3) -/

/-- The arithmetic of a position sample, step by step (R53). -/
def Obligations.ScaleReadingsGiveThePosition : Prop :=
  ∀ a b : Word,
    let d : Nat := scaleD a b
    let num : Int := (d : Int) * 4096 - (a.toNat : Int)
    let k : Int := scaleK a b
    (d < 65536 ∧ (d + b.toNat) % 65536 = a.toNat) ∧
    (scaleResidual a b = num - k * 65536 ∧ -32768 ≤ scaleResidual a b ∧ scaleResidual a b ≤ 32767) ∧
    (scaleX a b = (k % 4096).toNat * 65536 + a.toNat ∧ scaleX a b < 268435456) ∧
    scalePosition a b = scaleX a b * 3000 / 65536 ∧ scalePosition a b < 12288000

/-- The two tracks of the scale give every count back (R53, R54): the second track reads the first less a step for each
4096 counts, so for every count x the readings of x, with the second one off by up to 7 steps either way, give x again,
and with it off by at most one step the sample is good. -/
def Obligations.VernierRecoversEveryCount : Prop :=
  ∀ (x : Nat) (a b : Word) (e : Int), x < 268435456 → a.toNat = x % 65536 → -7 ≤ e → e ≤ 7 →
    (b.toNat : Int) = ((x : Int) - (x / 4096 : Nat) - e) % 65536 →
    scaleX a b = x ∧ scalePosition a b = x * 3000 / 65536 ∧ scaleResidual a b = 4096 * e - ((x % 4096 : Nat) : Int) ∧
      (-1 ≤ e → e ≤ 1 → scaleGood a b = true)

/-- A scale word waits for the other reader's word, in place of one that waited (R52); PLATE_READY stands as given (log
entry 15, the model's choice). With both words there a sample is made, whatever the state: the waiting places are
emptied and the watchdog runs for another 10 ms (R52); a good sample sets the position of R53 and clears the fault count; a
vernier fault keeps the position and counts, up to 255 (R54). -/
def Obligations.ScaleWordsPairIntoSamples : Prop :=
  ∀ (w : Word) (ready : Bool) (s : State),
    (s.transport.wait2 = none → exec (.scaleWord .scale1 w ready) s = .next { s with
      pins.plateReady := ready, transport.wait1 := some w }) ∧
    (s.transport.wait1 = none → exec (.scaleWord .scale2 w ready) s = .next { s with
      pins.plateReady := ready, transport.wait2 := some w }) ∧
    (let sampled (c : Instr) (a b : Word) : Prop :=
       ∃ t, exec c s = .next t ∧ t.transport.wait1 = none ∧ t.transport.wait2 = none ∧
         t.transport.watchdog = s.now + 10 ∧ t.pins = { s.pins with plateReady := ready } ∧ t.now = s.now ∧
         ((scaleResidual a b).natAbs ≤ 8192 →
           t.transport.position = some (scalePosition a b) ∧ t.transport.faults = 0) ∧
         (8192 < (scaleResidual a b).natAbs →
           t.transport.position = s.transport.position ∧ t.transport.faults = min 255 (s.transport.faults + 1) ∧
           t.transport.history = s.transport.history ∧ t.transport.estimate = s.transport.estimate)
     (∀ b : Word, s.transport.wait2 = some b → sampled (.scaleWord .scale1 w ready) w b) ∧
     (∀ a : Word, s.transport.wait1 = some a → sampled (.scaleWord .scale2 w ready) a w))

/-- What a good sample does with nothing to track or to admit. The sample joins the history, what arrived more than 500 ms
before it leaves, and the estimate follows from the oldest sample kept once that is 100 ms or more old: 0 for a travel
above half the loop, and else the travel times 100 over the span (R54, R58); a STOPPED belt takes no more of it. In
RAMPING and DEVIATING the settling band opens, keeps or closes its run, and once held for 1000 ms makes the belt SETTLED
with SPEED clear and every run closed; in SETTLED the deviation band does likewise and makes the belt DEVIATING, with
SPEED set and LAMP latched (R59 to R61); the stall condition, held for 2000 ms while the belt moves, halts a line that
is IDLE, RUNNING or DRAINING with STALL (R27, R28, R62; a run that a change to DEVIATING closes stalls nothing, log entry
22). A good sample at which an epoch begins is the start of the runs of the conditions that hold there (R59; log
entry 45). PLATE_READY takes the level that comes with the command (log entry 15, the model's choice). -/
def Obligations.GoodSampleSettlesTheTransport : Prop :=
  (∀ (a b : Word) (ready : Bool) (s : State), s.transport.wait2 = some b → (scaleResidual a b).natAbs ≤ 8192 →
    s.transport.beltState = .stopped → s.tracker.train = [] → s.admission.queue = [] →
    s.admission.holdReason = .none → s.admission.misfeedHold = false →
    ∃ t, exec (.scaleWord .scale1 a ready) s = .next t ∧
      (let kept := (s.transport.history ++ [(scalePosition a b, s.now)]).dropWhile
         fun x => decide (x.2 + 500 < s.now)
       t.transport.history = kept ∧
       (∀ (p0 t0 : Nat) (rest : List (Nat × Nat)), kept = (p0, t0) :: rest →
         let travel := (((scalePosition a b : Nat) : Int) - (p0 : Int)) % 12288000
         (s.now - t0 < 100 → t.transport.estimate = s.transport.estimate) ∧
         (100 ≤ s.now - t0 → 6144000 < travel → t.transport.estimate = 0) ∧
         (100 ≤ s.now - t0 → travel ≤ 6144000 →
           t.transport.estimate = min 65535 (travel.toNat * 100 / (s.now - t0)))) ∧
       { t with transport := s.transport } = { s with pins.plateReady := ready } ∧
       { t.transport with
         position := s.transport.position, faults := s.transport.faults, history := s.transport.history
         estimate := s.transport.estimate, wait2 := s.transport.wait2, watchdog := s.transport.watchdog
         stallRun := s.transport.stallRun } = { s.transport with wait1 := none })) ∧
  (∀ (a b : Word) (ready : Bool) (s : State), s.transport.wait2 = some b → (scaleResidual a b).natAbs ≤ 8192 →
    s.tracker.train = [] → s.admission.queue = [] → s.admission.holdReason = .none →
    s.admission.misfeedHold = false →
    ∃ t, exec (.scaleWord .scale1 a ready) s = .next t ∧
      (let d := s.transport.demand
       let e := t.transport.estimate
       let held (n : Nat) (run : Option Nat) : Prop := ∃ r, run = some r ∧ r + n ≤ s.now
       let settles : Prop := 0 < d ∧ 990 * d ≤ 1000 * e ∧ 1000 * e ≤ 1010 * d ∧
         s.transport.driveReady = true ∧ s.transport.driveFault = false
       let strays : Prop := 1000 * e < 980 * d ∨ 1020 * d < 1000 * e
       let stalls : Prop := 0 < d ∧ 10 * e < d
       let stalled : Prop := stalls ∧ held 2000 s.transport.stallRun
       let b0 := s.transport.beltState
       let b1 := t.transport.beltState
       (b0 = .ramping ∨ b0 = .deviating →
         (settles → held 1000 s.transport.settleRun → b1 = .settled ∧ t.transport.speedFlag = false ∧
           t.transport.settleRun = none ∧ t.transport.deviationRun = none ∧ t.transport.stallRun = none) ∧
         (¬stalled →
           (settles → ¬held 1000 s.transport.settleRun →
             b1 = b0 ∧ t.transport.settleRun = some (s.transport.settleRun.getD s.now)) ∧
           (¬settles → b1 = b0 ∧ t.transport.settleRun = none))) ∧
       (b0 = .settled →
         (strays → held 1000 s.transport.deviationRun → b1 = .deviating ∧ t.transport.speedFlag = true ∧
           (s.transport.speedFlag = false → t.bus.latched.getLsbD 11 = true)) ∧
         (¬stalled →
           (strays → ¬held 1000 s.transport.deviationRun →
             b1 = .settled ∧ t.transport.deviationRun = some (s.transport.deviationRun.getD s.now)) ∧
           (¬strays → b1 = .settled ∧ t.transport.deviationRun = none))) ∧
       (b0 ≠ .stopped → b1 = b0 → ¬stalled →
         (stalls → t.transport.stallRun = some (s.transport.stallRun.getD s.now)) ∧
         (¬stalls → t.transport.stallRun = none)) ∧
       (b0 ≠ .stopped → stalled → ¬(b0 = .settled ∧ held 1000 s.transport.deviationRun) →
         s.supervisor.line ≠ .halted → s.supervisor.line ≠ .safe →
         t.supervisor.line = .halted ∧ t.supervisor.cause = .stall ∧ t.bus.latched.getLsbD 1 = true ∧
           t.transport.demand = 0 ∧ b1 = .stopped ∧ t.transport.stallRun = none) ∧
       (b0 = .stopped ∨ ¬stalled → t.supervisor = s.supervisor ∧ t.transport.demand = d) ∧
       { exceptAttn s t with
         transport := s.transport, supervisor := s.supervisor, banks := s.banks, admission := s.admission } =
         { s with pins.plateReady := ready })) ∧
  (∀ (a b : Word) (ready : Bool) (p : PlateId) (rest : List PlateId) (r : Plate) (s : State),
    s.transport.wait2 = some b → (scaleResidual a b).natAbs ≤ 8192 → s.transport.beltState = .stopped →
    s.admission.queue = p :: rest → plateOf s p = some r → s.tracker.train = [] → s.supervisor.line = .running →
    epochFits s p = false →
    (let eff := max 200 (r.speed * (1000 - min 300 (s.wash.load * s.wash.slope / 1000)) / 1000)
     s.transport.demand ≠ eff →
     ∃ t, exec (.scaleWord .scale1 a ready) s = .next t ∧
       (let e := t.transport.estimate
        t.transport.demand = eff ∧ t.transport.beltState = .ramping ∧ t.transport.speedFlag = false ∧
        t.transport.deviationRun = none ∧
        t.transport.stallRun = (if 10 * e < eff then some s.now else none) ∧
        (990 * eff ≤ 1000 * e → 1000 * e ≤ 1010 * eff → s.transport.driveReady = true →
          s.transport.driveFault = false → t.transport.settleRun = some s.now) ∧
        (1000 * e < 990 * eff ∨ 1010 * eff < 1000 * e ∨ s.transport.driveReady = false ∨
          s.transport.driveFault = true → t.transport.settleRun = none) ∧
        t.admission.epochSpeed = eff ∧ t.admission.epochCurrent = true)))

/-- A silent sample is made at the expiry of the scale watchdog, which restarts (R52), and is a vernier fault (R54). While the
count stays below 5 on a line with nothing to track or to admit, only the count changes; from 5 on the line becomes HALTED
with VERNIER from IDLE, RUNNING or DRAINING, and HALT is latched (R27, R28, R54); in HALTED and SAFE the cause has no
effect. PLATE_READY takes the level that comes with the command (log entry 15, the model's choice). -/
def Obligations.SilentSamplesHaltTheLine : Prop :=
  ∀ (ready : Bool) (s : State),
    (s.transport.faults < 4 ∨ s.supervisor.line = .halted ∨ s.supervisor.line = .safe →
      s.tracker.train = [] → s.admission.queue = [] → s.admission.holdReason = .none →
      s.admission.misfeedHold = false →
      exec (.scaleWatchdogExpiry ready) s = .next { advanceTo s.transport.watchdog s with
        pins.plateReady := ready, transport.faults := min 255 (s.transport.faults + 1)
        transport.watchdog := max s.now s.transport.watchdog + 10 }) ∧
    (4 ≤ s.transport.faults → s.supervisor.line ≠ .halted → s.supervisor.line ≠ .safe →
      ∃ t, exec (.scaleWatchdogExpiry ready) s = .next t ∧ t.supervisor.line = .halted ∧
        t.supervisor.cause = .vernier ∧ t.bus.latched.getLsbD 1 = true ∧ t.tracker.train = [] ∧
        t.transport.demand = 0 ∧ t.transport.faults = min 255 (s.transport.faults + 1) ∧
        t.transport.position = s.transport.position)

/-- A change of a sensor's input restarts its 5 ms settle timer, and a move away from the settled level takes the belt
position as candidate latch if there is none (R56); a command with the level the input already has is no change (log
entry 42, the model's choice). An expiry that finds
the input at the settled level was chatter: the candidate latch becomes absent and no edge is given (R56). -/
def Obligations.SensorChangesAreDebounced : Prop :=
  ∀ s : State,
    (exec (.sensorInputChange .infeed s.pins.infeed) s = .next s ∧
      exec (.sensorInputChange .exit s.pins.exit) s = .next s) ∧
    (exec (.sensorInputChange .infeed (!s.pins.infeed)) s = .next { s with
      pins.infeed := !s.pins.infeed
      transport.infeed.timer := some (s.now + 5)
      transport.infeed.candidate :=
        if s.pins.infeed = s.transport.infeed.settled ∧ s.transport.infeed.candidate = none
        then some (s.transport.position.getD 0) else s.transport.infeed.candidate } ∧
     exec (.sensorInputChange .exit (!s.pins.exit)) s = .next { s with
      pins.exit := !s.pins.exit
      transport.exit.timer := some (s.now + 5)
      transport.exit.candidate :=
        if s.pins.exit = s.transport.exit.settled ∧ s.transport.exit.candidate = none
        then some (s.transport.position.getD 0) else s.transport.exit.candidate }) ∧
    (∀ d : Nat,
      (s.transport.infeed.timer = some d → s.pins.infeed = s.transport.infeed.settled →
        exec (.settleTimerExpiry .infeed) s = .next { advanceTo d s with
          transport.infeed.candidate := none, transport.infeed.timer := none }) ∧
      (s.transport.exit.timer = some d → s.pins.exit = s.transport.exit.settled →
        exec (.settleTimerExpiry .exit) s = .next { advanceTo d s with
          transport.exit.candidate := none, transport.exit.timer := none }))

/-! ## Plates at the infeed and at the exit (chapter 2) -/

/-- A settled infeed head edge gives the RELEASING plate its head latch and the stage ON_BELT, closes the gate and cancels
the misfeed timer; with no plate RELEASING it applies to none (R42). A settled infeed tail edge gives the last plate
of the train, ON_BELT without a measured length, the travel from its head latch, rounded to mm, and LENGTH_MISMATCH
when that differs from the ticket by more than 10 mm (R44). The edge carries the candidate latch (R56, R57). At the
expiry of the misfeed timer the RELEASING plate leaves the train for the front of its class in the queue (R33, R43):
the gate closes, its epoch, epoch speed and setpoints are absent and its stage QUEUED, its commitment is given back,
the misfeed hold is set and its release disarmed, and its slot is QUEUED again with 0 in the epoch and speed words
(R15). With no plate RELEASING only the timer stops. -/
def Obligations.InfeedEdgesAndMisfeedMoveThePlate : Prop :=
  (∀ (d c : Nat) (s : State), s.transport.infeed.timer = some d → s.transport.infeed.candidate = some c →
     (let settled (level : Bool) : State := { advanceTo d s with
        transport.infeed := { settled := level, candidate := none, timer := none } }
      (s.pins.infeed = true → s.transport.infeed.settled = false →
        (releasingPlate s = none → exec (.settleTimerExpiry .infeed) s = .next (settled true)) ∧
        (∀ (p : PlateId) (r : Plate), releasingPlate s = some p → plateOf s p = some r →
          ∃ t, exec (.settleTimerExpiry .infeed) s = .next t ∧
            plateOf t p = some { r with stage := .onBelt, headLatch := some c } ∧ slotWord t p 35 = 3 ∧
            ramKeptOutside [slotBase p + 35] s t ∧ (∀ q : PlateId, q ≠ p → plateOf t q = plateOf s q) ∧
            { exceptRam s t with tracker.plates := s.tracker.plates } =
              { settled true with admission.gateOpen := false, admission.misfeedTimer := none })) ∧
      (s.pins.infeed = false → s.transport.infeed.settled = true →
        (s.tracker.train = [] → exec (.settleTimerExpiry .infeed) s = .next (settled false)) ∧
        (∀ (p : PlateId) (r : Plate) (h : Nat), s.tracker.train.getLast? = some p → plateOf s p = some r →
          r.stage = .onBelt → r.headLatch = some h → r.measured = none →
          ∃ t, exec (.settleTimerExpiry .infeed) s = .next t ∧
            (let m := ((((c : Int) - (h : Int)) % 12288000).toNat + 500) / 1000
             let mismatch := r.lengthMismatch || decide (r.length + 10 < m ∨ m + 10 < r.length)
             plateOf t p = some { r with measured := some m, lengthMismatch := mismatch } ∧
             slotWord t p 37 = w16 m ∧ (slotWord t p 54).getLsbD 0 = mismatch ∧
             (slotWord t p 54).getLsbD 1 = r.lateWithdraw ∧
             ramKeptOutside [slotBase p + 37, slotBase p + 54] s t ∧
             (∀ q : PlateId, q ≠ p → plateOf t q = plateOf s q) ∧
             { exceptRam s t with tracker.plates := s.tracker.plates } = settled false))))) ∧
  (∀ (d : Nat) (s : State), s.admission.misfeedTimer = some d →
     (releasingPlate s = none →
       exec .misfeedTimerExpiry s = .next { advanceTo d s with admission.misfeedTimer := none }) ∧
     (∀ (p : PlateId) (r : Plate), releasingPlate s = some p → plateOf s p = some r → r.entryLoad = none →
       ∃ t, exec .misfeedTimerExpiry s = .next t ∧ t.tracker.train = s.tracker.train.erase p ∧
         plateOf t p = some { r with
           stage := .queued, epoch := none, epochSpeed := none, setpoints := none } ∧
         (∀ q : PlateId, q ≠ p → plateOf t q = plateOf s q) ∧
         (r.rush = true → t.admission.queue = p :: s.admission.queue) ∧
         (r.rush = false → ∀ front back : List PlateId, s.admission.queue = front ++ back →
           (∀ q ∈ front, isRush s q = true) → (∀ q ∈ back, isRush s q = false) →
           t.admission.queue = front ++ p :: back) ∧
         t.admission.gateOpen = false ∧ t.admission.misfeedTimer = none ∧ t.admission.misfeedHold = true ∧
         t.admission.misfeedArmed = false ∧ t.admission.commitments = s.admission.commitments - 1 ∧
         slotState t p = .queued ∧ lastTaken t p = lastTaken s p ∧ slotWord t p 35 = 1 ∧ slotWord t p 36 = 0 ∧
         slotWord t p 46 = 0 ∧ slotWord t p 34 = w16 (holdCode s.admission.holdReason) ∧
         (s.supervisor.line ≠ .draining → t.supervisor = s.supervisor ∧ t.transport = s.transport) ∧
         (s.supervisor.line = .draining → s.tracker.train.erase p = [] → t.supervisor.line = .idle) ∧
         t.drying = s.drying ∧ t.wash = s.wash ∧ t.shuttle = s.shuttle ∧ t.chamber = s.chamber ∧ t.link = s.link))

/-- A settled exit head edge confirms the unconfirmed head plate of the train whose travel at the latched position is 5670 to
5730 mm, and otherwise sets the stray-pending mark (R48). A settled exit tail edge, with the shuttle not READY and the chamber
neither DARK nor LOADING: a confirmed plate goes from the train to the end of a rack that is not full, RACKED, its stations
closed; with none confirmed a STRAY entry is made in a rack that is not full, and STRAY is latched; with the rack full the
line becomes HALTED with RACK_FULL from IDLE, RUNNING or DRAINING (R50). A tail edge that finds an unconfirmed head plate
and no stray pending is taken as a stray's (log entry 35, the model's choice). At a sample the head plate of the train
that has a head latch, is not confirmed and has travelled more than 5730 mm is MISSING: it leaves the train, gives its
commitment back and ends SPOILED, and an empty train makes a DRAINING line IDLE; any other stays (R26, R49; with an empty
queue, at a silent sample, or at a good one with no stall run open). -/
def Obligations.ExitEdgesMeetThePlate : Prop :=
  (∀ (d c : Nat) (s : State), s.transport.exit.timer = some d → s.transport.exit.candidate = some c →
    (s.pins.exit = true → s.transport.exit.settled = false →
      (let settled : State := { advanceTo d s with
         transport.exit := { settled := true, candidate := none, timer := none } }
       (s.tracker.train = [] →
         exec (.settleTimerExpiry .exit) s = .next { settled with tracker.strayPending := true }) ∧
       (∀ (p : PlateId) (rest : List PlateId) (r : Plate) (h : Nat), s.tracker.train = p :: rest →
         plateOf s p = some r → r.headLatch = some h → r.exitConfirmed = false →
         let travel := ((c : Int) - (h : Int)) % 12288000
         (5670000 ≤ travel ∧ travel ≤ 5730000 → ∃ t, exec (.settleTimerExpiry .exit) s = .next t ∧
           plateOf t p = some { r with exitConfirmed := true } ∧
           (∀ q : PlateId, q ≠ p → plateOf t q = plateOf s q) ∧
           { t with tracker.plates := s.tracker.plates } = settled) ∧
         (travel < 5670000 ∨ 5730000 < travel →
           exec (.settleTimerExpiry .exit) s = .next { settled with tracker.strayPending := true })))) ∧
    (s.pins.exit = false → s.transport.exit.settled = true → s.shuttle.state ≠ .ready →
      s.chamber.state ≠ .dark → s.chamber.state ≠ .loading →
      (∀ (p : PlateId) (rest : List PlateId) (r : Plate), s.tracker.train = p :: rest → plateOf s p = some r →
        r.stage = .onBelt → r.exitConfirmed = true → s.drying.rack.length < 2 →
        ∃ t, exec (.settleTimerExpiry .exit) s = .next t ∧ t.tracker.train = rest ∧
          t.drying = { s.drying with rack := s.drying.rack ++ [.plate p] } ∧ ∃ q, plateOf t p = some q ∧
          q.stage = .racked ∧ q.dose.back.isOpen = false ∧ q.dose.main.isOpen = false ∧ slotWord t p 35 = 4 ∧
          slotState t p = slotState s p ∧ t.admission.commitments = s.admission.commitments ∧
          (s.supervisor.line = .draining → rest = [] → t.supervisor.line = .idle) ∧
          (s.supervisor.line ≠ .draining ∨ rest ≠ [] → t.supervisor = s.supervisor)) ∧
      ((∀ (p : PlateId) (rest : List PlateId) (r : Plate), s.tracker.train = p :: rest → plateOf s p = some r → r.exitConfirmed = false) →
        s.drying.rack.length < 2 →
        ∃ t, exec (.settleTimerExpiry .exit) s = .next t ∧ latchedBits 0x0008 s t ∧
          exceptAttn s t = { advanceTo d s with
            transport.exit := { settled := false, candidate := none, timer := none }
            tracker.strayPending := false, drying.rack := s.drying.rack ++ [.stray] }) ∧
      (2 ≤ s.drying.rack.length → s.supervisor.line ≠ .halted → s.supervisor.line ≠ .safe →
        ∃ t, exec (.settleTimerExpiry .exit) s = .next t ∧ t.supervisor.line = .halted ∧
          t.supervisor.cause = .rackFull ∧ t.bus.latched.getLsbD 1 = true ∧ t.drying.rack = s.drying.rack ∧
          t.tracker.train = []))) ∧
  (∀ (p : PlateId) (rest : List PlateId) (r : Plate) (l : Nat) (ready : Bool) (s : State),
    s.tracker.train = p :: rest → plateOf s p = some r → r.headLatch = some l → s.admission.queue = [] →
    (let tested (c : Instr) (x : Nat) : Prop :=
       let travel := ((x : Int) - (l : Int)) % 12288000
       (r.exitConfirmed = false → 5730000 < travel → r.stage ≠ .ended → ∃ t, exec c s = .next t ∧
         t.tracker.train = rest ∧ t.admission.commitments = s.admission.commitments - 1 ∧
         slotState t p = .done ∧ slotWord t p 33 = 18 ∧ slotWord t p 35 = 9 ∧ t.bus.latched.getLsbD 8 = true ∧
         (∃ q, plateOf t p = some q ∧ q.stage = .ended ∧ q.disposition = some .spoiled) ∧
         (s.supervisor.line = .draining → rest = [] → t.supervisor.line = .idle ∧ t.transport.demand = 0) ∧
         (s.supervisor.line ≠ .draining ∨ rest ≠ [] → t.supervisor = s.supervisor)) ∧
       (r.exitConfirmed = true ∨ travel ≤ 5730000 → ∃ t, exec c s = .next t ∧
         t.tracker.train = s.tracker.train ∧ t.admission.commitments = s.admission.commitments ∧
         slotState t p = slotState s p ∧ t.supervisor = s.supervisor)
     (s.transport.faults < 4 → tested (.scaleWatchdogExpiry ready) (s.transport.position.getD 0)) ∧
     (∀ a b : Word, s.transport.wait2 = some b → (scaleResidual a b).natAbs ≤ 8192 →
       s.transport.beltState = .stopped ∨ s.transport.stallRun = none →
       tested (.scaleWord .scale1 a ready) (scalePosition a b))))


/-! ## Admission (chapter 2) -/

/-- The hold reason of a queue head is that of the first condition, in the order of R35, that fails; the head matches the
epoch when 1000 times the distance of its effective speed from the epoch speed is at most 20 times the epoch speed (R38),
and the gap holds behind an empty train, or once the travel past the last plate's measured tail reaches the gap required
(R39). The evaluation of a sample at which no epoch begins gives the head that reason, and NONE to an empty queue; a
change of it, and nothing else, latches HOLD and writes it into the slot of every plate in the queue (R36). It does so at a
silent sample and at a good one with no stall run open, whichever word comes last, with any train of which no plate is lost
or leaves the wash at that sample; a good sample's transport is as `goodSample` settles it first, its position and belt
state among the conditions. A misfeed hold is released in two steps (R43): PLATE_READY absent arms the release, and present
clears an armed hold, the conditions of that same evaluation reading it clear; every evaluation takes these steps, and
before its conditions (log entries 26 and 53, the model's choices). PLATE_READY takes the level that comes with the command
(log entry 15, the model's choice). -/
def Obligations.HoldReasonIsTheFirstFailingCondition : Prop :=
  (∀ (p : PlateId) (r : Plate) (s : State), plateOf s p = some r →
    let eff := max 200 (r.speed * (1000 - min 300 (s.wash.load * s.wash.slope / 1000)) / 1000)
    let c1 := s.safety.coverClosed = true
    let c2 := s.supervisor.line = .running
    let c3 := s.wash.hold = false
    let c4 := s.shuttle.state ≠ .faulted
    let c5 := s.admission.commitments < placesInService s
    let c6 := s.admission.epochCurrent = true ∧
      1000 * eff ≤ 1020 * s.admission.epochSpeed ∧ 980 * s.admission.epochSpeed ≤ 1000 * eff
    let c7 := s.transport.beltState = .settled
    let c8 := s.pins.plateReady = true ∧ s.admission.misfeedHold = false
    let c9 := gapHolds s p = true
    (¬c1 → holdReasonFor s p = some .coverOpen) ∧
    (c1 → ¬c2 → holdReasonFor s p = some .lineNotRunning) ∧
    (c1 → c2 → ¬c3 → holdReasonFor s p = some .solventSpent) ∧
    (c1 → c2 → c3 → ¬c4 → holdReasonFor s p = some .shuttleFault) ∧
    (c1 → c2 → c3 → c4 → ¬c5 → holdReasonFor s p = some .noPlace) ∧
    (c1 → c2 → c3 → c4 → c5 → ¬c6 → holdReasonFor s p = some .epochChange) ∧
    (c1 → c2 → c3 → c4 → c5 → c6 → ¬c7 → holdReasonFor s p = some .beltNotSettled) ∧
    (c1 → c2 → c3 → c4 → c5 → c6 → c7 → ¬c8 → holdReasonFor s p = some .infeedEmpty) ∧
    (c1 → c2 → c3 → c4 → c5 → c6 → c7 → c8 → ¬c9 → holdReasonFor s p = some .waitGap) ∧
    (c1 → c2 → c3 → c4 → c5 → c6 → c7 → c8 → c9 → holdReasonFor s p = none) ∧
    (s.tracker.train = [] → c9) ∧
    (∀ (q : PlateId) (u : Plate), s.tracker.train.getLast? = some q → plateOf s q = some u →
      (u.measured = none → ¬c9) ∧
      (∀ m l : Nat, u.measured = some m → u.headLatch = some l →
        (c9 ↔ ((if some (plateSetpoints s r s.admission.epochSpeed) = u.setpoints
            then s.admission.smallGap else s.admission.largeGap : Nat) * 1000 : Int) ≤
          (((s.transport.position.getD 0 : Nat) : Int) - (l : Int)) % 12288000 - (m : Int) * 1000)))) ∧
  (∀ (ready : Bool) (s : State), s.tracker.train = [] → s.transport.faults < 4 →
    (let stands : Bool := s.admission.misfeedHold && !(ready && s.admission.misfeedArmed)
     let armed : Bool := if s.admission.misfeedHold then !ready else s.admission.misfeedArmed
     let u : State := { advanceTo s.transport.watchdog s with
       pins.plateReady := ready, transport.faults := s.transport.faults + 1
       transport.watchdog := max s.now s.transport.watchdog + 10
       admission.misfeedHold := stands, admission.misfeedArmed := armed }
     let given (h : HoldReason) : Prop :=
       (h = s.admission.holdReason → exec (.scaleWatchdogExpiry ready) s = .next u) ∧
       (h ≠ s.admission.holdReason → ∃ t, exec (.scaleWatchdogExpiry ready) s = .next t ∧
         t.admission.holdReason = h ∧ latchedBits 0x0400 s t ∧
         (∀ q ∈ s.admission.queue, slotWord t q 34 = w16 (holdCode h)) ∧
         ramKeptOutside (s.admission.queue.map fun q => slotBase q + 34) s t ∧
         exceptAttn u (exceptRam u { t with admission.holdReason := s.admission.holdReason }) = u)
     (s.admission.queue = [] → given .none) ∧
     (∀ (p : PlateId) (rest : List PlateId) (h : HoldReason), s.admission.queue = p :: rest →
       s.supervisor.line ≠ .running ∨ epochFits s p = true →
       holdReasonFor { s with
         pins.plateReady := ready, admission.misfeedHold := stands, admission.misfeedArmed := armed } p = some h →
       given h))) ∧
  (∀ (ready : Bool) (s : State),
    let stands : Bool := s.admission.misfeedHold && !(ready && s.admission.misfeedArmed)
    let armed : Bool := if s.admission.misfeedHold then !ready else s.admission.misfeedArmed
    let evaluated (c : Instr) (x : Nat) (v : State) : Prop :=
      let u : State := { v with
        pins.plateReady := ready, admission.misfeedHold := stands, admission.misfeedArmed := armed }
      let given (h : HoldReason) : Prop := ∃ t, exec c s = .next t ∧
        t.admission = { s.admission with holdReason := h, misfeedHold := stands, misfeedArmed := armed } ∧
        (h ≠ s.admission.holdReason → t.bus.latched.getLsbD 10 = true ∧
          ∀ q ∈ s.admission.queue, slotWord t q 34 = w16 (holdCode h)) ∧
        (h = s.admission.holdReason → t.bus.latched.getLsbD 10 = s.bus.latched.getLsbD 10 ∧
          ∀ q ∈ s.admission.queue, slotWord t q 34 = slotWord s q 34) ∧
        t.tracker.train = s.tracker.train ∧ t.supervisor = s.supervisor ∧ t.wash = s.wash ∧
        t.transport.demand = s.transport.demand ∧ t.drying = s.drying ∧ t.shuttle = s.shuttle ∧
        t.chamber = s.chamber ∧ t.link = s.link ∧ t.intake = s.intake
      trainStays x s → (s.admission.queue = [] → given .none) ∧
        (∀ (p : PlateId) (rest : List PlateId) (h : HoldReason), s.admission.queue = p :: rest →
          s.supervisor.line ≠ .running ∨ s.tracker.train ≠ [] ∨ epochFits s p = true →
          holdReasonFor u p = some h → given h)
    (s.transport.faults < 4 → evaluated (.scaleWatchdogExpiry ready) (s.transport.position.getD 0) s) ∧
    (∀ a b : Word, (scaleResidual a b).natAbs ≤ 8192 →
      s.transport.beltState = .stopped ∨ s.transport.stallRun = none →
      (s.transport.wait2 = some b →
        evaluated (.scaleWord .scale1 a ready) (scalePosition a b) (goodSample (scalePosition a b) s)) ∧
      (s.transport.wait1 = some a →
        evaluated (.scaleWord .scale2 b ready) (scalePosition a b) (goodSample (scalePosition a b) s))))

/-- A sample of a RUNNING line with an empty belt and a head that does not match the current epoch, or with none current,
begins an epoch (R37, R63, R120): the next number, modulo 65536, the head's effective speed, and that speed as belt
speed demand, which makes a belt with another demand RAMPING. The head is then held, with BELT_NOT_SETTLED where the
conditions before it hold (R35). The release of the queue head at a sample at which every condition holds (R15, R35,
R36, R41), behind an empty train or behind a last plate at which the gap holds (R39): it leaves the queue for the tail of the
train; its record takes the epoch, the epoch speed and the three setpoints, and the stage RELEASING; commitments rise by 1;
the gate opens and the misfeed timer runs for 5000 ms; the slot is ACTIVE with stage, epoch, speed used and hold reason 0;
the hold reason becomes NONE. Both stand at a silent sample and at a good one with no stall run open, whichever word comes
last, the belt state and position of a good one as `goodSample` settles them first; the release with no plate of the train
lost or leaving the wash at that sample. PLATE_READY is the level that comes with the command, and an armed misfeed hold is
cleared by the evaluation that releases (log entries 15 and 53, the model's choices; R43). -/
def Obligations.SampleAdmitsTheHead : Prop :=
  (∀ (p : PlateId) (rest : List PlateId) (r : Plate) (ready : Bool) (s : State), s.admission.queue = p :: rest →
     plateOf s p = some r → s.tracker.train = [] → s.supervisor.line = .running →
     epochFits s p = false → s.safety.coverClosed = true → s.wash.hold = false →
     s.shuttle.state ≠ .faulted → s.admission.commitments < placesInService s →
     (let eff := max 200 (r.speed * (1000 - min 300 (s.wash.load * s.wash.slope / 1000)) / 1000)
      let begins (c : Instr) (opened : List (Option Nat)) : Prop := ∃ t, exec c s = .next t ∧
        t.admission.epochNo = (s.admission.epochNo + 1) % 65536 ∧ t.admission.epochSpeed = eff ∧
        t.admission.epochCurrent = true ∧ t.admission.queue = s.admission.queue ∧
        t.transport.demand = eff ∧ t.transport.beltState = .ramping ∧ t.transport.speedFlag = false ∧
        t.transport.settleRun ∈ opened ∧ t.transport.deviationRun = none ∧ t.transport.stallRun ∈ opened ∧
        t.admission.holdReason = .beltNotSettled ∧ t.tracker = s.tracker ∧ t.supervisor = s.supervisor
      s.transport.demand ≠ eff →
        (s.transport.faults < 4 → begins (.scaleWatchdogExpiry ready) [none]) ∧
        (∀ a b : Word, (scaleResidual a b).natAbs ≤ 8192 →
          s.transport.beltState = .stopped ∨ s.transport.stallRun = none →
          (s.transport.wait2 = some b → begins (.scaleWord .scale1 a ready) [none, some s.now]) ∧
          (s.transport.wait1 = some a → begins (.scaleWord .scale2 b ready) [none, some s.now])))) ∧
  (∀ (p : PlateId) (rest : List PlateId) (r : Plate) (s : State), s.admission.queue = p :: rest →
     plateOf s p = some r → r.stage ≠ .ended → p ∉ s.tracker.train →
     s.safety.coverClosed = true → s.supervisor.line = .running → s.wash.hold = false →
     s.shuttle.state ≠ .faulted → s.admission.commitments < placesInService s → epochFits s p = true →
     s.admission.misfeedHold = false ∨ s.admission.misfeedArmed = true →
     (let released (c : Instr) (x now : Nat) (v : State) : Prop :=
        v.transport.beltState = .settled → gapHolds v p = true → trainStays x s →
        ∃ t, exec c s = .next t ∧ t.admission.queue = rest ∧ t.tracker.train = s.tracker.train ++ [p] ∧
          plateOf t p = some { r with
            stage := .releasing, epoch := some s.admission.epochNo, epochSpeed := some s.admission.epochSpeed
            setpoints := some (plateSetpoints s r s.admission.epochSpeed) } ∧
          (∀ q : PlateId, q ≠ p → q ∉ s.tracker.train → plateOf t q = plateOf s q) ∧
          (∀ q ∈ s.tracker.train,
            (plateOf t q).map (fun u => (u.stage, u.headLatch, u.measured, u.setpoints)) =
              (plateOf s q).map (fun u => (u.stage, u.headLatch, u.measured, u.setpoints))) ∧
          t.admission.commitments = s.admission.commitments + 1 ∧ t.admission.gateOpen = true ∧
          t.admission.misfeedTimer = some (now + 5000) ∧ t.admission.misfeedHold = false ∧
          t.admission.misfeedArmed = (s.admission.misfeedArmed && !s.admission.misfeedHold) ∧
          t.admission.holdReason = .none ∧ t.admission.epochNo = s.admission.epochNo ∧
          slotState t p = .active ∧ lastTaken t p = lastTaken s p ∧ slotWord t p 35 = 2 ∧
          slotWord t p 36 = w16 s.admission.epochNo ∧ slotWord t p 46 = w16 s.admission.epochSpeed ∧
          slotWord t p 34 = 0 ∧ t.supervisor = s.supervisor ∧ t.wash = s.wash ∧ t.drying = s.drying ∧
          t.shuttle = s.shuttle ∧ t.chamber = s.chamber ∧ t.link = s.link ∧ t.intake = s.intake
      (s.transport.faults < 4 →
        released (.scaleWatchdogExpiry true) (s.transport.position.getD 0) (max s.now s.transport.watchdog) s) ∧
      (∀ a b : Word, (scaleResidual a b).natAbs ≤ 8192 →
        s.transport.beltState = .stopped ∨ s.transport.stallRun = none →
        (s.transport.wait2 = some b →
          released (.scaleWord .scale1 a true) (scalePosition a b) s.now (goodSample (scalePosition a b) s)) ∧
        (s.transport.wait1 = some a →
          released (.scaleWord .scale2 b true) (scalePosition a b) s.now (goodSample (scalePosition a b) s)))))

/-! ## The banks and the dose (chapters 4 and 5) -/

/-- A conversion completion of a bank (R69 to R74, R79 to R82): the interval, the gap count and the irradiance E in its three
stages; in CLAIMED, F is learned with the duty in force, the duty moves by the error times K over 256, and LIMITED and LAMP_WEAK
follow; in TRACKING, in DARK once the duty has been 0 for 200 ms, and in FORCED_OFF likewise, the offset takes its step, or
SENSOR_DRIFT is set at its limit. LAMP is latched if one of the three flags is newly set. The other banks stand, and but for the
dose of the plates on the belt so does everything else. -/
def Obligations.ConversionMeasuresAndRegulates : Prop :=
  ∀ (k : Bank) (raw : BitVec 14) (s : State),
    let b := s.banks.get k
    let sv : Int := (raw.toNat : Int) + b.offset
    let e : Nat := min 10000
      ((if sv < 0 then 0 else min 16383 (sv.toNat * (2048 + b.gain) / 4096)) * b.sensitivity / 1024)
    let dark : Prop := ∃ d : Nat, b.darkStart = some d ∧ 200 ≤ s.now - d
    let stepped (c : BankUnit) : Prop :=
      (sv = 0 → c.offset = b.offset ∧ c.drift = b.drift) ∧
      (0 < sv → -1500 ≤ b.offset - 1 → b.offset ≤ 1500 → c.offset = b.offset - 1 ∧ c.drift = false) ∧
      (0 < sv → b.offset - 1 < -1500 → c.offset = b.offset ∧ c.drift = true) ∧
      (sv < 0 → b.offset + 1 ≤ 1499 → -1501 ≤ b.offset → c.offset = b.offset + 1 ∧ c.drift = false) ∧
      (sv < 0 → 1499 < b.offset + 1 → c.offset = b.offset ∧ c.drift = true)
    ∃ t, exec (.conversionCompletion k raw) s = .next t ∧
      (let c := t.banks.get k
       c.lastE = e ∧ c.prevTime = s.now ∧
       c.gaps = (if 50 < s.now - b.prevTime then min 65535 (b.gaps + 1) else b.gaps) ∧
       c.claims = b.claims ∧ c.setpoint = b.setpoint ∧ c.onTime = b.onTime ∧ c.pwm = b.pwm ∧
       (b.state = .claimed →
         let err : Int := (b.setpoint.getD 0 : Int) - (e : Int)
         c.state = .claimed ∧ c.offset = b.offset ∧ c.drift = b.drift ∧
         (c.duty : Int) = max 0 (min 1000 ((b.duty : Int) + Int.tdiv (err * (b.regGain : Int)) 256)) ∧
         (b.duty < 100 → c.full = b.full) ∧
         (100 ≤ b.duty → (c.full : Int) =
           max 0 (min 20000 ((b.full : Int) + Int.tdiv (((e * 1000 / b.duty : Nat) : Int) - (b.full : Int)) 16))) ∧
         (c.duty < 1000 → c.limited = false) ∧
         (c.duty = 1000 → (b.setpoint.getD 0 : Int) < 50 * err → c.limited = true) ∧
         (c.duty = 1000 → 50 * err ≤ (b.setpoint.getD 0 : Int) → c.limited = b.limited) ∧
         (c.full ≠ b.full → 100 * c.full < 80 * b.rated → c.lampWeak = true) ∧
         (c.full ≠ b.full → 85 * b.rated ≤ 100 * c.full → c.lampWeak = false)) ∧
       (b.state ≠ .claimed → c.duty = b.duty ∧ c.full = b.full ∧ c.limited = b.limited) ∧
       (b.state = .tracking → c.state = .tracking ∧ stepped c) ∧
       (b.state = .dark → dark → c.state = .tracking ∧ stepped c) ∧
       (b.state = .dark → ¬dark → c.state = .dark ∧ c.offset = b.offset ∧ c.drift = b.drift) ∧
       (b.state = .forcedOff → dark → c.state = .forcedOff ∧ stepped c) ∧
       (b.state = .forcedOff → ¬dark → c.state = .forcedOff ∧ c.offset = b.offset ∧ c.drift = b.drift) ∧
       t.bus.latched = (if (c.limited = true ∧ b.limited = false) ∨ (c.lampWeak = true ∧ b.lampWeak = false) ∨
         (c.drift = true ∧ b.drift = false) then s.bus.latched ||| 0x0800 else s.bus.latched) ∧
       (∀ j : Bank, j ≠ k → t.banks.get j = s.banks.get j) ∧
       { exceptAttn s t with banks := s.banks, tracker.plates := s.tracker.plates } = s)

/-- A conversion completion credits E times the clamped interval to every strip of an open station of a plate of the train
that lies in the bank's window at the belt position of that moment (R70, R72, R92, R93, R95, R98); the other strips, and every
strip of a closed station, take nothing. -/
def Obligations.ConversionCreditsTheDose : Prop :=
  ∀ (k : Bank) (raw : BitVec 14) (p : PlateId) (r : Plate) (l : Nat) (s : State), s.tracker.train.Nodup →
    p ∈ s.tracker.train → plateOf s p = some r → r.headLatch = some l →
    let b := s.banks.get k
    let head : Int := (((s.transport.position.getD 0 : Nat) : Int) - (l : Int)) % 12288000
    let len : Nat := r.measured.getD r.length * 1000
    let openStation : Bool := if k = .bk then r.dose.back.isOpen else r.dose.main.isOpen
    ∃ t, exec (.conversionCompletion k raw) s = .next t ∧ ∃ q, plateOf t p = some q ∧
      (∀ i : Fin 16,
        let travel : Int := head - ((len * (2 * i.val + 1) / 32 : Nat) : Int)
        (openStation = true ∧ (b.w0 : Int) * 1000 ≤ travel ∧ travel < (b.w1 : Int) * 1000 →
          (q.dose.strips.get k)[i] =
            min 4294967295 ((r.dose.strips.get k)[i] + (t.banks.get k).lastE * max 1 (min 50 (s.now - b.prevTime)))) ∧
        (openStation = false ∨ travel < (b.w0 : Int) * 1000 ∨ (b.w1 : Int) * 1000 ≤ travel →
          (q.dose.strips.get k)[i] = (r.dose.strips.get k)[i])) ∧
      (∀ j : Bank, j ≠ k → q.dose.strips.get j = r.dose.strips.get j) ∧
      { q with dose.strips := r.dose.strips } = r

/-- The claim test of a plate at a bank, with its head travel, its strip 15 travel and its setpoint (R76 to R78): in neither
set it joins the claims from the zone start on while strip 15 is before the window's end, and joins the passed set once
strip 15 is at it; a claiming plate then leaves the claims for the passed set; a passed plate claims no more. The first claim
gives the bank its setpoint and, unless it is forced off, CLAIMED and the first duty ceil(E_set × 1000 / F), at most 1000; the
departure of the last makes the setpoint absent, the duty 0, LIMITED clear and the bank DARK, unless it is forced off.
With an E_set of 0 the first duty is 0 even where F is 0 (log entry 25, the model's choice). A duty above 0 starts the dark
time then; of one that is 0 already nothing is said (log entry 51). At a sample with one plate on the belt each bank makes this
test with the plate's head travel, the travel of its strip 15 by its length in use, and its setpoint for that bank: a bank without claims becomes CLAIMED with the first duty (R76 to R78; at a silent sample, log entry 23, and at a
good one with no stall run open, where the plate is not MISSING and no plate is queued). -/
def Obligations.ClaimsFollowTheTravel : Prop :=
  (∀ (now lead head eSet : Nat) (t15 : Int) (p : PlateId) (b : BankUnit),
    let c := claimStep now lead p head t15 eSet b
    (p ∉ b.claims → p ∉ b.passed → t15 < (b.w1 : Int) * 1000 → (b.w0 - lead) * 1000 ≤ head →
      c.claims = b.claims ++ [p] ∧ c.passed = b.passed ∧
      (b.claims ≠ [] → c.setpoint = b.setpoint ∧ c.duty = b.duty ∧ c.state = b.state) ∧
      (b.claims = [] → c.setpoint = some eSet ∧
        (b.state = .forcedOff → c.state = .forcedOff ∧ c.duty = b.duty) ∧
        (b.state ≠ .forcedOff → c.state = .claimed ∧ (eSet = 0 → c.duty = 0) ∧
          (0 < eSet → b.full = 0 → c.duty = 1000) ∧
          (0 < eSet → 0 < b.full → c.duty = min 1000 ((eSet * 1000 + b.full - 1) / b.full))))) ∧
    (p ∉ b.claims → p ∉ b.passed → t15 < (b.w1 : Int) * 1000 → head < (b.w0 - lead) * 1000 → c = b) ∧
    (p ∉ b.claims → p ∉ b.passed → (b.w1 : Int) * 1000 ≤ t15 → c = { b with passed := b.passed ++ [p] }) ∧
    (p ∉ b.claims → p ∈ b.passed → c = b) ∧
    (p ∈ b.claims → t15 < (b.w1 : Int) * 1000 → c = b) ∧
    (p ∈ b.claims → (b.w1 : Int) * 1000 ≤ t15 →
      c.claims = b.claims.erase p ∧ c.passed = b.passed ++ [p] ∧
      (b.claims.erase p ≠ [] → c.duty = b.duty ∧ c.setpoint = b.setpoint ∧ c.state = b.state) ∧
      (b.claims.erase p = [] → c.duty = 0 ∧ c.setpoint = none ∧ c.limited = false ∧
        c.state = (if b.state = .forcedOff then .forcedOff else .dark) ∧
        (0 < b.duty → c.darkStart = some now)))) ∧
  (∀ (p : PlateId) (r : Plate) (l : Nat) (e : PerBank Nat) (ready : Bool) (s : State), s.tracker.train = [p] →
    plateOf s p = some r → r.headLatch = some l → r.setpoints = some e → s.admission.queue = [] →
    (let tested (c : Instr) (x : Nat) (u : State) : Prop :=
       let head : Nat := (((x : Int) - (l : Int)) % 12288000).toNat
       let t15 : Int := (head : Int) - ((r.measured.getD r.length * 1000 * 31 / 32 : Nat) : Int)
       r.exitConfirmed = true ∨ head ≤ 5730000 → ∃ t, exec c s = .next t ∧ (∀ k : Bank,
         let b := u.banks.get k
         let a := t.banks.get k
         a = claimStep u.now s.claimLead p head t15 (e.get k) b ∧
         (b.claims = [] → p ∉ b.passed → b.state ≠ .forcedOff → t15 < (b.w1 : Int) * 1000 →
           (b.w0 - s.claimLead) * 1000 ≤ head → 0 < e.get k → 0 < b.full →
           a.state = .claimed ∧ a.claims = [p] ∧ a.setpoint = some (e.get k) ∧
             a.duty = min 1000 ((e.get k * 1000 + b.full - 1) / b.full)))
     (s.transport.faults < 4 → tested (.scaleWatchdogExpiry ready) (s.transport.position.getD 0)
       (advanceTo s.transport.watchdog s)) ∧
     (∀ a b : Word, s.transport.wait2 = some b → (scaleResidual a b).natAbs ≤ 8192 →
       s.transport.beltState = .stopped ∨ s.transport.stallRun = none →
       tested (.scaleWord .scale1 a ready) (scalePosition a b) s)))

/-- A PWM period takes the duty commanded at its start (R83). On-time counts a second each time the remainder, which runs
while the duty is above 0, reaches 1000 ms, saturating (R85); with the duty 0 and less than a second of remainder no second is
counted. A remainder past 1000 ms, of an expiry taken late, keeps what is over (log entry 36, the model's choice). -/
def Obligations.BankClocksCountTheDuty : Prop :=
  ∀ (k : Bank) (s : State),
    exec (.pwmPeriodStart k) s =
      .next { s with banks := s.banks.put k { s.banks.get k with pwm := (s.banks.get k).duty } } ∧
    ((s.banks.get k).duty = 0 → (s.banks.get k).onRem < 1000 → exec (.onTimeSecond k) s = .next s) ∧
    (0 < (s.banks.get k).duty →
      let u := advanceTo (s.now + (1000 - (s.banks.get k).onRem)) s
      exec (.onTimeSecond k) s = .next { u with banks := u.banks.put k { u.banks.get k with
        onTime := min 4294967295 ((s.banks.get k).onTime + 1), onRem := (u.banks.get k).onRem - 1000 } })

/-- The close of an OPEN station (R99 to R101, R105): it is CLOSED with the verdict and the figures of the least and the greatest
of its 16 sums, for the back station those of BK, for the main station those of M1 and M2 added with saturation (R100), and
the slot's minimum, maximum and verdict words take them; nothing else changes. A CLOSED station stays as it is (R90). The
verdict of a station from its minimum and maximum sums and its limits, target × (1000 ∓ tolerance) (R102, R103); a back
station of a BACK_DONE plate is NOT_REQUIRED whatever its sums (R104). A figure is floor((sum + 500) / 1000), at most
65535 (R101). At a sample with one plate on the belt an OPEN station closes so exactly where the travel of strip 15 is at or
past the window's end, of BK for the back station and of M2 for the main one; short of it, and where it is CLOSED, it stays as it
is (R91, R99; at a silent sample, and at a good one with no stall run open, where the plate is not MISSING and no plate is
queued). -/
def Obligations.ClosingAStationReportsItsSums : Prop :=
  (∀ target tolerance lo hi : Nat, tolerance ≤ 1000 →
    let low := target * (1000 - tolerance)
    let high := target * (1000 + tolerance)
    (low ≤ lo → hi ≤ high → verdictOf target tolerance lo hi = .inTol) ∧
    (lo < low → hi ≤ high → verdictOf target tolerance lo hi = .short) ∧
    (low ≤ lo → high < hi → verdictOf target tolerance lo hi = .over) ∧
    (lo < low → high < hi → verdictOf target tolerance lo hi = .spread)) ∧
  (∀ r : Plate,
    (r.backDone = true → closeVerdict r .back = .notRequired) ∧
    (r.backDone = false → closeVerdict r .back =
      verdictOf r.backDose r.tolerance (minOf (stationSums r.dose .back)) (maxOf (stationSums r.dose .back))) ∧
    closeVerdict r .main =
      verdictOf r.mainDose r.tolerance (minOf (stationSums r.dose .main)) (maxOf (stationSums r.dose .main))) ∧
  (∀ sum : Nat, reportedDose sum = if 65535 < (sum + 500) / 1000 then 65535 else (sum + 500) / 1000) ∧
  (∀ (p : PlateId) (r : Plate) (s : State), plateOf s p = some r →
    (r.dose.back.isOpen = false → closeNormally p .back s = s) ∧
    (r.dose.main.isOpen = false → closeNormally p .main s = s) ∧
    (let closed (v : Verdict) (lo hi : Nat) : DoseStation :=
       { isOpen := false, verdict := some v, minimum := some lo, maximum := some hi }
     let back (x : Fin 16) : Nat := r.dose.strips.bk[x]
     let main (x : Fin 16) : Nat := min 4294967295 (r.dose.strips.m1[x] + r.dose.strips.m2[x])
     (∀ i j : Fin 16, (∀ x : Fin 16, back i ≤ back x ∧ back x ≤ back j ∧ back x ≤ 4294967295) →
       r.dose.back.isOpen = true →
       (let t := closeNormally p .back s
        let v := closeVerdict r .back
        plateOf t p = some { r with dose.back := closed v (reportedDose (back i)) (reportedDose (back j)) } ∧
        slotWord t p 40 = w16 (reportedDose (back i)) ∧ slotWord t p 41 = w16 (reportedDose (back j)) ∧
        slotWord t p 44 = w16 (verdictCode v) ∧
        ramKeptOutside [slotBase p + 40, slotBase p + 41, slotBase p + 44] s t ∧
        (∀ q : PlateId, q ≠ p → plateOf t q = plateOf s q) ∧
        { exceptRam s t with tracker.plates := s.tracker.plates } = s)) ∧
     (∀ i j : Fin 16, (∀ x : Fin 16, main i ≤ main x ∧ main x ≤ main j) → r.dose.main.isOpen = true →
       (let t := closeNormally p .main s
        let v := closeVerdict r .main
        plateOf t p = some { r with dose.main := closed v (reportedDose (main i)) (reportedDose (main j)) } ∧
        slotWord t p 42 = w16 (reportedDose (main i)) ∧ slotWord t p 43 = w16 (reportedDose (main j)) ∧
        slotWord t p 45 = w16 (verdictCode v) ∧
        ramKeptOutside [slotBase p + 42, slotBase p + 43, slotBase p + 45] s t ∧
        (∀ q : PlateId, q ≠ p → plateOf t q = plateOf s q) ∧
        { exceptRam s t with tracker.plates := s.tracker.plates } = s)))) ∧
  (∀ (p : PlateId) (r : Plate) (l : Nat) (ready : Bool) (s : State), s.tracker.train = [p] → plateOf s p = some r →
    r.headLatch = some l → s.admission.queue = [] →
    (let tested (c : Instr) (x : Nat) : Prop :=
       let head : Nat := (((x : Int) - (l : Int)) % 12288000).toNat
       let t15 : Int := (head : Int) - ((r.measured.getD r.length * 1000 * 31 / 32 : Nat) : Int)
       r.exitConfirmed = true ∨ head ≤ 5730000 →
         ∃ t, exec c s = .next t ∧ (∃ q, plateOf t p = some q ∧ q.dose.strips = r.dose.strips ∧
         (let tests (st : StationKind) (now : DoseStation) (stop o : Nat) : Prop :=
            let lo := reportedDose (minOf (stationSums r.dose st))
            let hi := reportedDose (maxOf (stationSums r.dose st))
            let v := closeVerdict r st
            ((stationOf r.dose st).isOpen = true → (stop : Int) * 1000 ≤ t15 →
              now = { isOpen := false, verdict := some v, minimum := some lo, maximum := some hi } ∧
              slotWord t p (40 + o) = w16 lo ∧ slotWord t p (41 + o) = w16 hi ∧
              slotWord t p (44 + o / 2) = w16 (verdictCode v)) ∧
            ((stationOf r.dose st).isOpen = false ∨ t15 < (stop : Int) * 1000 →
              now = stationOf r.dose st ∧ slotWord t p (44 + o / 2) = slotWord s p (44 + o / 2))
          tests .back q.dose.back s.banks.bk.w1 0 ∧ tests .main q.dose.main s.banks.m2.w1 2))
     (s.transport.faults < 4 → tested (.scaleWatchdogExpiry ready) (s.transport.position.getD 0)) ∧
     (∀ a b : Word, s.transport.wait2 = some b → (scaleResidual a b).natAbs ≤ 8192 →
       s.transport.beltState = .stopped ∨ s.transport.stallRun = none →
       tested (.scaleWord .scale1 a ready) (scalePosition a b))))

/-! ## The wash (chapter 6) -/

/-- The load that a plate adds (R117): width × length in use × depth × (1000 − coverage) over 1,000,000, rounded down, gives the
mass, and the mass over the tank volume, rounded up, the load added. A plate that leaves the wash gets its figures, its
slot shows them, and the load rises by it, at most to 65535 (R118, R119); a plate that has not entered adds nothing (R118).
At a sample a plate with a head latch whose travel has reached the wash window start enters: its entry load is the load of
that moment; one whose tail has reached the window end leaves, in the same sample if both hold, and otherwise it stays as
it is (R116; at a silent sample, or a good one with no stall run open, with one plate on the belt, none queued, and the
plate not MISSING: the exit has seen it, or its travel is at most 5730 mm; a plate that has left does not enter again, log
entry 29). -/
def Obligations.LeavingTheWashAddsTheLoad : Prop :=
  (∀ (p : PlateId) (r : Plate) (s : State), plateOf s p = some r → 0 < s.wash.volume →
    let len := r.measured.getD r.length
    let mass := r.width * len * r.depth * (1000 - r.coverage) / 1000000
    (mass ≤ loadAdded s r * s.wash.volume ∧ loadAdded s r * s.wash.volume < mass + s.wash.volume) ∧
    (r.entryLoad = none → leaveWash p s = s) ∧
    (∀ e : Nat, r.entryLoad = some e →
      let t := leaveWash p s
      t.wash.load = min 65535 (s.wash.load + loadAdded s r) ∧
      plateOf t p = some { r with entryLoad := none, washFigures := some (e, loadAdded s r) } ∧
      (∀ q : PlateId, q ≠ p → plateOf t q = plateOf s q) ∧
      slotWord t p 47 = w16 e ∧ slotWord t p 48 = w16 (min 65535 (loadAdded s r)) ∧
      ramKeptOutside [slotBase p + 47, slotBase p + 48] s t ∧
      (s.wash.hard ≤ t.wash.load → t.wash.hold = true) ∧
      (t.wash.hold = true → s.wash.hold = false → t.bus.latched.getLsbD 12 = true) ∧
      (s.wash.replenish = .idle → s.wash.regen ≤ t.wash.load →
        t.wash.replenish = .ordered ∨ t.wash.replenish = .pending))) ∧
  (∀ (p : PlateId) (r : Plate) (l : Nat) (ready : Bool) (s : State), s.tracker.train = [p] → plateOf s p = some r →
    r.headLatch = some l → s.admission.queue = [] →
    (let tested (c : Instr) (x : Nat) : Prop :=
       let head := ((x : Int) - (l : Int)) % 12288000
       let tail := head - ((r.measured.getD r.length * 1000 : Nat) : Int)
       let starts : Prop := ((s.wash.start * 1000 : Nat) : Int) ≤ head
       let ends : Prop := ((s.wash.stop * 1000 : Nat) : Int) ≤ tail
       let left (e : Nat) (t : State) : Prop :=
         (∃ q, plateOf t p = some q ∧ q.entryLoad = none ∧ q.washFigures = some (e, loadAdded s r)) ∧
           t.wash.load = min 65535 (s.wash.load + loadAdded s r) ∧ slotWord t p 47 = w16 e ∧
           slotWord t p 48 = w16 (min 65535 (loadAdded s r))
       r.exitConfirmed = true ∨ head ≤ 5730000 → ∃ t, exec c s = .next t ∧ t.tracker.train = [p] ∧
         (r.entryLoad = none → r.washFigures = none → starts → ends → left s.wash.load t) ∧
         (r.entryLoad = none → r.washFigures = none → starts → ¬ends → t.wash = s.wash ∧
           ∃ q, plateOf t p = some q ∧ q.entryLoad = some s.wash.load ∧ q.washFigures = none) ∧
         (r.entryLoad = none → ¬starts ∨ r.washFigures ≠ none → t.wash = s.wash ∧
           ∃ q, plateOf t p = some q ∧ q.entryLoad = none ∧ q.washFigures = r.washFigures) ∧
         (∀ e : Nat, r.entryLoad = some e →
           (ends → left e t) ∧
           (¬ends → t.wash = s.wash ∧ ∃ q, plateOf t p = some q ∧ q.entryLoad = some e))
     (s.transport.faults < 4 → tested (.scaleWatchdogExpiry ready) (s.transport.position.getD 0)) ∧
     (∀ a b : Word, s.transport.wait2 = some b → (scaleResidual a b).natAbs ≤ 8192 →
       s.transport.beltState = .stopped ∨ s.transport.stallRun = none →
       tested (.scaleWord .scale1 a ready) (scalePosition a b))))

/-! ## Timers of the wash, the shuttle and the chamber (chapters 6 to 8) -/

/-- The expiries of the chamber's timers, with the shuttle not READY. Ignition in IGNITING is a fault: FAULTED, shutters
closed, every timer stopped, HANDLING latched (R158, R167). Stabilizing makes the chamber READY: the idle timer of 900
s runs and it asks for LOAD at position 1 (R158, R159). Idle in READY, with no eligible plate, makes it DARK with no
ask (R159). The second-plate timer in LOADING starts the exposure: EXPOSING with the shutters of the groups that have
a target open and the open-shutter timer at 1,800,000 ms, or SUSPENDED in SAFE or with the door open (R160, R162). The
open-shutter timer in EXPOSING ends the batch SHORT: its plates take the doses and are finished, and the chamber is
UNLOADING (R164, R166). The expiry of the retry timer in RETRY_WAIT issues a new order under the next order number,
with SOLVENT latched, if the wash node is PRESENT and the line is not SAFE, and otherwise leaves the cycle PENDING
(R123, R125, R126, R181). The expiry of the move timer fails the current move: its plate ends SPOILED, a STORE's
commitment is given back, the move is absent, the shuttle FAULTED and HANDLING latched (R40, R148). -/
def Obligations.HandlingTimersExpire : Prop :=
  (∀ (d : Nat) (s : State), s.shuttle.state ≠ .ready →
     (s.chamber.ignition = some d → s.chamber.state = .igniting →
       ∃ t, exec .ignitionTimerExpiry s = .next t ∧ t.chamber.state = .faulted ∧ t.chamber.openA = false ∧
         t.chamber.openC = false ∧ t.chamber.ignition = none ∧ t.chamber.stabilizing = none ∧
         t.chamber.idle = none ∧ t.chamber.second = none ∧ t.chamber.openDeadline = none ∧
         t.chamber.igniteOrder = none ∧ t.bus.latched.getLsbD 4 = true ∧ t.supervisor = s.supervisor ∧
         t.shuttle = s.shuttle ∧ t.drying = s.drying ∧ t.transport = s.transport ∧ t.now = max s.now d) ∧
     (s.chamber.stabilizing = some d → s.chamber.state = .stabilizing →
       exec .stabilizingTimerExpiry s = .next { advanceTo d s with
         chamber.stabilizing := none, chamber.state := .ready, chamber.idle := some (max s.now d + 900000)
         chamber.ask := .load .one none }) ∧
     (s.chamber.idle = some d → s.chamber.state = .ready → loadCandidate s none = none →
       exec .idleTimerExpiry s = .next { advanceTo d s with
         chamber.idle := none, chamber.state := .dark, chamber.ask := .none }) ∧
     (s.chamber.second = some d → s.chamber.state = .loading →
       (let a := (s.chamber.batchClass.getD (0, 0)).1
        let c := (s.chamber.batchClass.getD (0, 0)).2
        let started : State := { advanceTo d s with
          chamber.second := none, chamber.ask := .none, chamber.accA := 0, chamber.accC := 0
          chamber.onA := decide (a = 0), chamber.onC := decide (c = 0) }
        (s.supervisor.line = .safe ∨ s.chamber.doorClosed = false →
          exec .secondPlateTimerExpiry s = .next { started with
            chamber.state := .suspended, chamber.openA := false, chamber.openC := false
            chamber.openDeadline := none, chamber.openStanding := some 1800000 }) ∧
        (s.supervisor.line ≠ .safe → s.chamber.doorClosed = true → a ≠ 0 ∨ c ≠ 0 →
          exec .secondPlateTimerExpiry s = .next { started with
            chamber.state := .exposing, chamber.openA := decide (a ≠ 0), chamber.openC := decide (c ≠ 0)
            chamber.openDeadline := some (max s.now d + 1800000), chamber.openStanding := none }))) ∧
     (s.chamber.openDeadline = some d → s.chamber.state = .exposing → chamberMove s = false →
       ∀ (p : PlateId) (m : Mark) (r : Plate), s.chamber.pos1 = some (p, m) → s.chamber.pos2 = none →
         plateOf s p = some r →
         ∃ t, exec .openShutterTimerExpiry s = .next t ∧ t.chamber.state = .unloading ∧
           t.chamber.openA = false ∧ t.chamber.openC = false ∧ t.chamber.openDeadline = none ∧
           t.chamber.pos1 = some (p, .finished) ∧ t.chamber.ask = .unload p .one false ∧
           plateOf t p = some { r with
             uvaDose := min 65535 ((s.chamber.accA + 500) / 1000)
             uvcDose := min 65535 ((s.chamber.accC + 500) / 1000), finishVerdict := some .short } ∧
           slotWord t p 51 = w16 (min 65535 ((s.chamber.accA + 500) / 1000)) ∧
           slotWord t p 52 = w16 (min 65535 ((s.chamber.accC + 500) / 1000)) ∧ slotWord t p 53 = 2 ∧
           ramKeptOutside [slotBase p + 51, slotBase p + 52, slotBase p + 53] s t)) ∧
  (∀ (d : Nat) (s : State),
     (s.wash.retry = some d → s.wash.replenish = .retryWait →
       (isPresent s .wash = true → s.supervisor.line ≠ .safe →
         ∃ t, exec .retryTimerExpiry s = .next t ∧ latchedBits 0x1000 s t ∧
           t.wash = { s.wash with
             retry := none, replenish := .ordered, outstanding := some (nextOrder s .wash)
             portion := s.wash.replPortion } ∧
           { exceptAttn s t with wash := s.wash, link.nodes := s.link.nodes } = advanceTo d s ∧
           (∀ n : Fin 15, nodeOf s .wash = some n → t.link.nodes[n] =
             { s.link.nodes[n] with issued := some (nextOrder s .wash) })) ∧
       (isPresent s .wash = false ∨ s.supervisor.line = .safe →
         exec .retryTimerExpiry s = .next { advanceTo d s with
           wash.retry := none, wash.replenish := .pending })) ∧
     (∀ (m : Move) (r : Plate), s.shuttle.timer = some d → s.shuttle.move = some m → plateOf s m.plate = some r →
       r.stage ≠ .ended →
       ∃ t, exec .moveTimerExpiry s = .next t ∧ t.shuttle.state = .faulted ∧ t.shuttle.move = none ∧
         t.shuttle.timer = none ∧ t.bus.latched.getLsbD 4 = true ∧ slotState t m.plate = .done ∧
         slotWord t m.plate 33 = 18 ∧
         (∃ q, plateOf t m.plate = some q ∧ q.stage = .ended ∧ q.disposition = some .spoiled) ∧
         t.admission.commitments =
           (if m.kind = .store then s.admission.commitments - 1 else s.admission.commitments) ∧
         t.drying = s.drying ∧ t.transport = s.transport ∧ t.supervisor = s.supervisor ∧ t.now = max s.now d))

/-- The grant of a READY shuttle goes to STORE, then to UNLOAD, then to LOAD (R141 to R144): the plate leaves its source and is
IN_SHUTTLE, the move takes the next order number of the shuttle node, the move timer runs for 90 s and the shuttle is
MOVING; a LOAD gives the commitment back and the plate its dry time achieved. With no request nothing happens.
The event that makes a request stand, or the shuttle READY, grants it (R144): RACK_CLEAR that leaves a plate at the rack head,
and an exit tail edge that racks a plate, with a slot offered, give STORE; the end of stabilizing, whose ask is for LOAD, takes
the eligible plate where STORE does not stand; and a report that makes a STOPPED shuttle able grants what stands, in that
order, and leaves it READY where STORE does not stand and nothing is asked for, or UNLOAD with the output stack full. -/
def Obligations.GrantGoesToStoreThenUnloadThenLoad : Prop :=
  (∀ s : State, s.shuttle.state = .ready →
    let moved (kind : MoveKind) (p : PlateId) (a b : Place) (t : State) : Prop :=
      t.shuttle.state = .moving ∧ t.shuttle.timer = some (s.now + 90000) ∧
        (t.shuttle.move.map fun m => (m.kind, m.plate, m.source, m.dest, m.order)) =
          some (kind, p, a, b, nextOrder s .shuttle) ∧
        (∀ r, plateOf s p = some r → r.stage ≠ .ended → (plateOf t p).map (fun q => q.stage) = some .inShuttle ∧
          slotWord t p 35 = 5) ∧
        t.supervisor = s.supervisor ∧ t.transport = s.transport ∧ t.wash = s.wash ∧ t.tracker.train = s.tracker.train
    (∀ (p : PlateId) (rest : List RackEntry) (d : Fin 6) (m : Fin 4), s.drying.rack = .plate p :: rest →
      storeDest s = some (d, m) →
      moved .store p .rack (.slot d m) (grant s) ∧ (grant s).drying = { s.drying with rack := rest } ∧
        (grant s).chamber = s.chamber ∧ (grant s).admission = s.admission) ∧
    ((s.drying.rack = [] ∨ (∃ rest, s.drying.rack = .stray :: rest) ∨ storeDest s = none) →
      (∀ (p : PlateId) (pos : ChamberPos) (spoiled : Bool), s.chamber.ask = .unload p pos spoiled →
        (s.shuttle.stackFull = false →
          moved .unload p (.chamber pos) .output (grant s) ∧ (grant s).chamber.ask = .none ∧
            (pos = .one → (grant s).chamber.pos1 = none) ∧ (pos = .two → (grant s).chamber.pos2 = none) ∧
            (grant s).drying = s.drying ∧ (grant s).admission = s.admission) ∧
        (s.shuttle.stackFull = true → grant s = s)) ∧
      (∀ (pos : ChamberPos) (cls : Option (Nat × Nat)), s.chamber.ask = .load pos cls →
        (loadCandidate s cls = none → grant s = s) ∧
        (∀ (p : PlateId) (r : Plate) (d : Fin 6) (m : Fin 4), loadCandidate s cls = some p →
          plateOf s p = some r → r.drawerSlot = some (d, m) →
          moved .load p (.slot d m) (.chamber pos) (grant s) ∧ (grant s).chamber.ask = .none ∧
            (pos = .one → (grant s).chamber.state = .loading ∧
              (grant s).chamber.batchClass = some (r.uvaFinish, r.uvcFinish) ∧ (grant s).chamber.idle = none) ∧
            (pos = .two → (grant s).chamber.state = s.chamber.state ∧ (grant s).chamber.second = none) ∧
            (grant s).drying.drawers[d].slots[m] = none ∧
            (grant s).drying.dryList = s.drying.dryList.erase p ∧
            (grant s).admission = { s.admission with commitments := s.admission.commitments - 1 } ∧
            slotWord (grant s) p 50 = w16 ((r.dryTime * 60000 - r.dryRemaining) / 1000))) ∧
      (s.chamber.ask = .none → grant s = s))) ∧
  (∀ s : State,
    let sent (kind : MoveKind) (p : PlateId) (a b : Place) (time : Nat) (t : State) : Prop :=
      t.shuttle.state = .moving ∧ t.shuttle.timer = some (time + 90000) ∧
        (t.shuttle.move.map fun m => (m.kind, m.plate, m.source, m.dest, m.order)) =
          some (kind, p, a, b, nextOrder s .shuttle) ∧
        (∀ r, plateOf s p = some r → r.stage ≠ .ended → (plateOf t p).map (fun q => q.stage) = some .inShuttle ∧
          slotWord t p 35 = 5)
    let noStore : Prop := s.drying.rack = [] ∨ (∃ rest, s.drying.rack = .stray :: rest) ∨ storeDest s = none
    (s.shuttle.state = .ready →
      (∀ (p : PlateId) (rest : List RackEntry) (d : Fin 6) (m : Fin 4),
        s.drying.rack.filter (fun e => e != .stray) = .plate p :: rest → storeDest s = some (d, m) →
        ∃ t, exec .rackClear s = .next t ∧ sent .store p .rack (.slot d m) s.now t ∧
          t.drying = { s.drying with rack := rest } ∧ t.admission = s.admission ∧
          t.supervisor = { s.supervisor with outcome := .accepted }) ∧
      (∀ (x : Nat) (p : PlateId) (rest : List PlateId) (r : Plate) (d : Fin 6) (m : Fin 4),
        s.transport.exit.timer = some x → s.pins.exit = false → s.transport.exit.settled = true →
        s.tracker.train = p :: rest → plateOf s p = some r → r.exitConfirmed = true → s.drying.rack = [] →
        storeDest s = some (d, m) →
        ∃ t, exec (.settleTimerExpiry .exit) s = .next t ∧ sent .store p .rack (.slot d m) (max s.now x) t ∧
          t.drying = s.drying ∧ t.tracker.train = rest ∧ t.admission.commitments = s.admission.commitments) ∧
      (∀ (x : Nat) (p : PlateId) (r : Plate) (d : Fin 6) (m : Fin 4), s.chamber.stabilizing = some x →
        s.chamber.state = .stabilizing → noStore → loadCandidate s none = some p → plateOf s p = some r →
        r.drawerSlot = some (d, m) →
        ∃ t, exec .stabilizingTimerExpiry s = .next t ∧ sent .load p (.slot d m) (.chamber .one) (max s.now x) t ∧
          t.chamber = { s.chamber with
            stabilizing := none, state := .loading, ask := .none, idle := none
            batchClass := some (r.uvaFinish, r.uvcFinish) })) ∧
    (∀ (n : Fin 15) (again : Bool) (cmd : NodeCmd) (bytes : List RxByte) (stat : Byte) (d : Vector Byte 6),
      goodResponse .shuttle n again cmd bytes stat d s → nodeOf s .shuttle = some n →
      s.link.nodes[n].state = .present → s.shuttle.state = .stopped → s.shuttle.move = none →
      s.supervisor.line ≠ .safe → stat.getLsbD 7 = true → stat.getLsbD 6 = false → d[1] = 0 ∨ d[1] = 1 →
      ∃ t, exec (.responseFrame bytes) s = .next t ∧
        (∀ (p : PlateId) (rest : List RackEntry) (k : Fin 6) (m : Fin 4), s.drying.rack = .plate p :: rest →
          storeDest s = some (k, m) → sent .store p .rack (.slot k m) s.now t ∧ t.drying.rack = rest) ∧
        (noStore →
          (∀ (p : PlateId) (pos : ChamberPos) (spoiled : Bool), s.chamber.ask = .unload p pos spoiled → d[1] = 0 →
            sent .unload p (.chamber pos) .output s.now t ∧ t.chamber.ask = .none) ∧
          (∀ (pos : ChamberPos) (cls : Option (Nat × Nat)) (p : PlateId) (r : Plate) (k : Fin 6) (m : Fin 4),
            s.chamber.ask = .load pos cls → loadCandidate s cls = some p → plateOf s p = some r →
            r.drawerSlot = some (k, m) → sent .load p (.slot k m) (.chamber pos) s.now t ∧ t.chamber.ask = .none) ∧
          (s.chamber.ask = .none ∨ (∃ p pos spoiled, s.chamber.ask = .unload p pos spoiled) ∧ d[1] = 1 →
            t.shuttle.state = .ready ∧ t.shuttle.move = none))))

/-! ## The line link (chapter 9) -/

/-- The expiry of the pass timer starts a pass when the previous one has ended and another follows: the first visit is next and
the timer runs for 20 ms (R173, R174; that the further pass of SINGLE waits for it is the model's choice, log entry 48); in a
pass, and with none to follow, only the timer stops. A visit that is due increments the node's sequence, modulo 16, and sends
the frame of the owner's command (R175, R176): SYNC, ADDR, CMD, ARG0 to ARG2, the order number, and a CHECK that brings the
CRC-8 of bytes 1 to 7 to 0. A marked revisit comes first (R183). LINK_DE is released after the last byte (R175; within the
event, log entry 50). A LINK_VISIT between passes changes nothing (log entry 32, the model's choice). The pass ends with
its last visit, unless that marks a revisit, which then belongs to it (R183): with none to follow, as in SINGLE, the mode becomes STOPPED; a pass that follows starts at once
if the pass timer has expired, and otherwise the scan stands between passes until it does (R173, R174). At the start of a pass a
node serves its assigned station, none above the last node or where a lower node has the same kind (R172): a node whose
station stands keeps its record, one left without becomes NOT_SCANNED, and one with another UNSEEN, its counts and sequence
0 and no order issued, but for an order granted in that event. For the former station of a PRESENT node the drive's report
is not ready and a SETTLED belt RAMPING, a READY shuttle is STOPPED, a drawer is OUT_OF_SERVICE (R65, R134, R140, R172). -/
def Obligations.LinkPassesAndVisits : Prop :=
  (∀ s : State,
    (∀ d : Nat, s.link.passTimer = some d →
      (s.link.phase ≠ .between ∨ passFollows s.link = false →
        exec .passTimerExpiry s = .next { advanceTo d s with link.passTimer := none }) ∧
      (s.link.phase = .between → passFollows s.link = true → nextVisited (takeAssignment s) 0 ≠ none →
        ∃ t, exec .passTimerExpiry s = .next t ∧ t.link.phase = .guard 0 ∧
          t.link.passTimer = some (max s.now d + 20) ∧ t.link.mode = s.link.mode ∧ t.link.revisit = none ∧
          t.supervisor = s.supervisor)) ∧
    (∀ (k : Nat) (n : Fin 15) (again : Bool), s.link.phase = .guard k →
      (if again = true then s.link.revisit = some n else s.link.revisit = none ∧ nextVisited s k = some n) →
      ∃ t, exec .linkVisit s = .next t ∧
        (let seq := (s.link.nodes[n].seq + 1) % 16
         let o := ownerDemand s s.link.nodes[n].station
         let addr : Byte := BitVec.ofNat 8 (seq * 16 + n.val + 1)
         t.link.phase = .window n again addr o.cmd ∧ t.link.revisit = none ∧ t.link.driveEnable = false ∧
         t.link.nodes[n] = { s.link.nodes[n] with seq := seq } ∧
         (∀ m : Fin 15, m ≠ n → t.link.nodes[m] = s.link.nodes[m]) ∧
         (∃ check : Byte, t.link.txFrame =
             [0xC5, addr, BitVec.ofNat 8 (nodeCmdCode o.cmd), o.arg0, o.arg1, o.arg2,
               BitVec.ofNat 8 (o.order.getD (s.link.nodes[n].issued.getD 0)), check] ∧
           crc8 (t.link.txFrame.drop 1) = 0) ∧
         { t.link with
           nodes := s.link.nodes, phase := s.link.phase, revisit := s.link.revisit, txFrame := s.link.txFrame
           driveEnable := s.link.driveEnable } = s.link ∧
         { t with link := s.link } = s)) ∧
    (s.link.phase = .between → exec .linkVisit s = .next s)) ∧
  (∀ (n : Fin 15) (again : Bool) (addr : Byte) (cmd : NodeCmd) (s : State), s.link.phase = .window n again addr cmd →
    s.link.revisit = none → nextVisited s (n.val + 1) = none →
    (let ended (c : Instr) : Prop := ∃ t, exec c s = .next t ∧
       (passFollows s.link = false → t.link.mode = .stopped ∧ t.link.phase = .between) ∧
       (passFollows s.link = true → t.link.mode = s.link.mode ∧
         (∀ x : Nat, s.link.passTimer = some x → t.link.phase = .between ∧ t.link.passTimer = some x ∧
           t.link.further = s.link.further) ∧
         (s.link.passTimer = none → (∃ m : Fin 15, assignedStation s.link.lastNode s.link.assign m ≠ .none) →
           t.link.phase = .guard 0 ∧ t.link.passTimer = some (s.now + 20) ∧ t.link.further = false)) ∧
       t.link.revisit = none ∧ t.now = s.now
     ended .responseTimeout ∧
     (∀ bytes : List RxByte,
       (∀ (stat : Byte) (d : Vector Byte 6), judge addr bytes = .good stat d → stat.getLsbD 5 = false ∨ again = true) →
       ended (.responseFrame bytes)) ∧
     (∀ (bytes : List RxByte) (stat : Byte) (d : Vector Byte 6), judge addr bytes = .good stat d →
       stat.getLsbD 5 = true → again = false → ∃ t, exec (.responseFrame bytes) s = .next t ∧
         t.link.phase = .guard (n.val + 1) ∧ t.link.revisit = some n ∧ t.link.mode = s.link.mode ∧
         t.link.passTimer = s.link.passTimer))) ∧
  (∀ (last : Nat) (assign : Vector Station 15) (n : Fin 15),
    (last < n.val + 1 → assignedStation last assign n = .none) ∧
    ((∃ m : Fin 15, m.val < n.val ∧ assign[m] = assign[n]) → assignedStation last assign n = .none) ∧
    (n.val + 1 ≤ last → (∀ m : Fin 15, m.val < n.val → assign[m] ≠ assign[n]) →
      assignedStation last assign n = assign[n])) ∧
  (∀ (d : Nat) (s : State), s.link.passTimer = some d → s.link.phase = .between → passFollows s.link = true →
    ∃ t, exec .passTimerExpiry s = .next t ∧ t.supervisor = s.supervisor ∧ t.wash = s.wash ∧
      (∀ n : Fin 15,
        let r := s.link.nodes[n]
        let st := assignedStation s.link.lastNode s.link.assign n
        let takes (y : NodeRec) : Prop :=
          { t.link.nodes[n] with issued := y.issued } = y ∧
            (t.link.nodes[n].issued = y.issued ∨ (st = .shuttle ∧ t.shuttle.state = .moving) ∨
              (st = .finisher ∧ t.chamber.state ≠ s.chamber.state))
        (st = r.station → takes r) ∧
        (st ≠ r.station → st = .none → takes { r with station := .none, state := .notScanned }) ∧
        (st ≠ r.station → st ≠ .none → takes { r with
          station := st, state := .unseen, miss := 0, check := 0, seq := 0, issued := none }) ∧
        (st ≠ r.station → r.state = .present → (∀ m : Fin 15, m ≠ n → s.link.nodes[m].station ≠ r.station) →
          (r.station = .drive →
            (s.transport.beltState = .settled → t.transport = { s.transport with
              driveReady := false, driveFault := false, beltState := .ramping
              settleRun := none, deviationRun := none, stallRun := none }) ∧
            (s.transport.beltState ≠ .settled → t.transport = { s.transport with
              driveReady := false, driveFault := false })) ∧
          (r.station = .shuttle → t.shuttle = { s.shuttle with
            state := if s.shuttle.state = .ready then .stopped else s.shuttle.state }) ∧
          (∀ k : Fin 6, r.station = .drawer k → t.drying.drawers[k] = { s.drying.drawers[k] with
            service := .outOfService, lastGood := none }))))

/-- The commands that the owners give for a visit, with their arguments (R64, R113, R114, R133, R145, R150, R155), the command
codes of their frames (R176) and the location codes of the shuttle (R145). -/
def Obligations.OwnersGiveTheirCommands : Prop :=
  (∀ s : State,
    let gives (st : Station) (c : NodeCmd) (a0 a1 a2 : Byte) (o : Option Nat) : Prop :=
      ownerDemand s st = { cmd := c, arg0 := a0, arg1 := a1, arg2 := a2, order := o }
    let low (n : Nat) : Byte := BitVec.ofNat 8 n
    let high (n : Nat) : Byte := BitVec.ofNat 8 (n / 256)
    let flag (b : Bool) : Byte := if b then 1 else 0
    let runs : Bool := decide (s.supervisor.line = .running ∨ s.supervisor.line = .draining)
    (s.transport.demand = 0 → gives .drive .stop 0 0 0 none) ∧
    (s.transport.demand ≠ 0 → gives .drive .setSpeed (low s.transport.demand) (high s.transport.demand) 0 none) ∧
    (s.supervisor.line = .safe → gives .wash .stop 0 0 0 none ∧ gives .shuttle .stop 0 0 0 none) ∧
    (s.supervisor.line ≠ .safe →
      (s.wash.outstanding = none → gives .wash (if runs then .run else .stop) 0 0 0 none) ∧
      (∀ n : Nat, s.wash.outstanding = some n → gives .wash .replenish (low s.wash.portion) (flag runs) 0 (some n)) ∧
      (s.shuttle.state = .faulted → s.shuttle.resetRequested = true → gives .shuttle .reset 0 0 0 none) ∧
      (s.shuttle.state ≠ .faulted ∨ s.shuttle.resetRequested = false →
        (s.shuttle.move = none → gives .shuttle .stop 0 0 0 none) ∧
        (∀ m : Move, s.shuttle.move = some m →
          gives .shuttle .move (low (placeCode m.source)) (low (placeCode m.dest)) 0 (some m.order)))) ∧
    (s.chamber.state = .dark ∨ s.chamber.state = .faulted → gives .finisher .extinguish 0 0 0 none) ∧
    (s.chamber.state = .igniting → gives .finisher .ignite 0 0 0 s.chamber.igniteOrder) ∧
    (s.chamber.state = .exposing → gives .finisher .shutter (flag s.chamber.openA) (flag s.chamber.openC) 0 none) ∧
    (s.chamber.state = .stabilizing ∨ s.chamber.state = .ready ∨ s.chamber.state = .loading ∨
      s.chamber.state = .suspended ∨ s.chamber.state = .unloading → gives .finisher .shutter 0 0 0 none) ∧
    (∀ k : Fin 6, gives (.drawer k) .heat (low s.drying.setpoint) (high s.drying.setpoint) 0 none)) ∧
  (List.map nodeCmdCode [.stop, .run, .setSpeed, .replenish, .move, .reset, .ignite, .extinguish, .shutter, .heat] =
    [1, 2, 3, 4, 5, 6, 7, 8, 9, 10]) ∧
  (placeCode .rack = 1 ∧ (∀ (n : Fin 6) (m : Fin 4), placeCode (.slot n m) = 16 + 4 * n.val + m.val) ∧
    placeCode (.chamber .one) = 48 ∧ placeCode (.chamber .two) = 49 ∧ placeCode .output = 64)

/-- The four judgements of what was received, the first that applies (R177): no byte is a timeout; of ten bytes with high stop
bits, SYNC 0x3A, the CRC-8 of bytes 1 to 8 in byte 9 and the parity of DATA5 in STAT bit 0, an ADDR echo equal to the ADDR sent is good
and another is an echo mismatch; anything else is a check error. -/
def Obligations.ResponsesAreJudged : Prop :=
  ∀ addr : Byte, judge addr [] = .timeout ∧
    (∀ bs : List RxByte, bs ≠ [] → bs.length < 10 → judge addr bs = .checkError) ∧
    (∀ (y : Byte) (echo stat d0 d1 d2 d3 d4 d5 check : Byte) (stops : Fin 10 → Bool),
      let frame : List RxByte := [⟨y, stops 0⟩, ⟨echo, stops 1⟩, ⟨stat, stops 2⟩, ⟨d0, stops 3⟩, ⟨d1, stops 4⟩,
        ⟨d2, stops 5⟩, ⟨d3, stops 6⟩, ⟨d4, stops 7⟩, ⟨d5, stops 8⟩, ⟨check, stops 9⟩]
      let wellFormed : Prop := (∀ i : Fin 10, stops i = true) ∧ y = 0x3A ∧
        check = crc8 [echo, stat, d0, d1, d2, d3, d4, d5] ∧
        (stat.getLsbD 0 = true ↔ ((List.range 8).filter fun i => d5.getLsbD i).length % 2 = 1)
      (¬wellFormed → judge addr frame = .checkError) ∧
      (wellFormed → echo ≠ addr → judge addr frame = .echoMismatch) ∧
      (wellFormed → echo = addr → judge addr frame = .good stat #v[d0, d1, d2, d3, d4, d5]))

/-- An outcome that is not good counts a miss, up to 7, and for what was received also a check error, up to 255; nothing is
delivered (R178). While the node does not reach 3 misses as PRESENT, only its counts and the scan change (R179, with a further
visit in the pass). A PRESENT node that reaches 3 misses is LOST and NODE is latched: for the drive the line becomes HALTED with
DRIVE_LOST from IDLE, RUNNING or DRAINING and the report is not ready; for the wash it is HALTED with WASH_LOST (R27, R65, R179,
R182); the shuttle's current move fails, its plate SPOILED (R148); and a finisher whose chamber is neither DARK nor FAULTED
makes it FAULTED, its shutters closed (R167). The loss of a drawer is said with its reports. -/
def Obligations.MissedVisitsLoseTheNode : Prop :=
  ∀ (n : Fin 15) (again : Bool) (addr : Byte) (cmd : NodeCmd) (s : State), s.link.phase = .window n again addr cmd →
    let r := s.link.nodes[n]
    let counted (c : Instr) (isCheck : Bool) : Prop :=
      let q := { r with
        miss := min 7 (r.miss + 1), check := if isCheck then min 255 (r.check + 1) else r.check }
      (r.state ≠ .present ∨ r.miss < 2 →
        s.link.revisit ≠ none ∨ nextVisited s (n.val + 1) ≠ none →
        ∃ t, exec c s = .next t ∧ t.link.nodes[n] = q ∧ (∀ m : Fin 15, m ≠ n → t.link.nodes[m] = s.link.nodes[m]) ∧
          t.link.phase = .guard (n.val + 1) ∧
          { t with link.nodes := s.link.nodes, link.phase := s.link.phase } = s) ∧
      (r.state = .present → 2 ≤ r.miss →
        ∃ t, exec c s = .next t ∧ t.bus.latched.getLsbD 2 = true ∧
          (s.link.revisit ≠ none ∨ nextVisited s (n.val + 1) ≠ none →
            t.link.nodes[n].state = .lost ∧ t.link.nodes[n].miss = min 7 (r.miss + 1)) ∧
          (r.station = .drive → s.supervisor.line ≠ .halted → s.supervisor.line ≠ .safe →
            t.supervisor.line = .halted ∧ t.supervisor.cause = .driveLost ∧ t.transport.driveReady = false ∧
            t.transport.driveFault = false ∧ t.tracker.train = []) ∧
          (r.station = .wash → s.supervisor.line ≠ .halted → s.supervisor.line ≠ .safe →
            t.supervisor.line = .halted ∧ t.supervisor.cause = .washLost ∧ t.tracker.train = []) ∧
          (r.station = .shuttle → ∀ (m : Move) (x : Plate), s.shuttle.move = some m → plateOf s m.plate = some x →
            x.stage ≠ .ended → t.shuttle.state = .faulted ∧ t.shuttle.move = none ∧ t.bus.latched.getLsbD 4 = true ∧
            slotState t m.plate = .done ∧ slotWord t m.plate 33 = 18) ∧
          (r.station = .finisher → s.chamber.state ≠ .dark → s.chamber.state ≠ .faulted →
            t.chamber.state = .faulted ∧ t.chamber.openA = false ∧ t.chamber.openC = false ∧
            t.bus.latched.getLsbD 4 = true))
    counted .responseTimeout false ∧
    (∀ bytes : List RxByte, judge addr bytes = .checkError ∨ judge addr bytes = .echoMismatch →
      counted (.responseFrame bytes) true)

/-- A good response makes its node PRESENT with no misses and keeps its STAT, its DATA and the order echoed; on the first one of an
UNSEEN node the last order issued is that echo (R178, R179, R181). Its request bit marks a revisit, unless the visit was one (R183).
Delivered to the drive's owner of a PRESENT node it is the drive's report, and one that is not ready or shows fault makes a
SETTLED belt RAMPING, its runs closed (R65, R180); nothing else changes then. Of a PRESENT node of the wash, the shuttle, the
finisher and a drawer the response is taken by that station's owner, on the state with the node's new record, and nothing
else happens but the mark and the end of the visit (R115, R133, R146, R156, R180); what each owner then does is said by the
statements after this one. -/
def Obligations.GoodResponsesAreDelivered : Prop :=
  ∀ (n : Fin 15) (again : Bool) (addr : Byte) (cmd : NodeCmd) (bytes : List RxByte) (stat : Byte)
    (d : Vector Byte 6) (s : State), s.link.phase = .window n again addr cmd → judge addr bytes = .good stat d →
    let r := s.link.nodes[n]
    let more : Prop := s.link.revisit ≠ none ∨ nextVisited s (n.val + 1) ≠ none
    (more → ∃ t, exec (.responseFrame bytes) s = .next t ∧
      (let q := t.link.nodes[n]
       q.state = .present ∧ q.miss = 0 ∧ q.check = r.check ∧ q.seq = r.seq ∧ q.stat = stat ∧ q.data = d ∧
       q.echoed = d[5].toNat ∧ q.station = r.station ∧
       (r.station = .drive → q.issued = if r.state = .unseen then some d[5].toNat else r.issued)) ∧
      t.link.phase = .guard (n.val + 1) ∧
      (stat.getLsbD 5 = true → again = false → t.link.revisit = some n) ∧
      (stat.getLsbD 5 = false ∨ again = true → t.link.revisit = s.link.revisit)) ∧
    (r.station = .drive → r.state = .present → more → ∃ t, exec (.responseFrame bytes) s = .next t ∧
      t.transport.driveReady = stat.getLsbD 7 ∧ t.transport.driveFault = stat.getLsbD 6 ∧
      (s.transport.beltState = .settled → stat.getLsbD 7 = false ∨ stat.getLsbD 6 = true →
        t.transport.beltState = .ramping ∧ t.transport.settleRun = none ∧ t.transport.deviationRun = none ∧
        t.transport.stallRun = none) ∧
      (s.transport.beltState ≠ .settled ∨ (stat.getLsbD 7 = true ∧ stat.getLsbD 6 = false) →
        t.transport = { s.transport with driveReady := stat.getLsbD 7, driveFault := stat.getLsbD 6 }) ∧
      { t with transport := s.transport, link := s.link, freeCount := s.freeCount } = s) ∧
    (r.state = .present → more →
      (let taken : State := { s with link.nodes := s.link.nodes.set n { r with
         miss := 0, stat := stat, data := d, echoed := d[5].toNat } }
       let mark : Option (Fin 15) := if stat.getLsbD 5 = true ∧ again = false then some n else s.link.revisit
       let ends (u : State) : State := { u with
         freeCount := u.freeCount + 1, link := { u.link with revisit := mark, phase := .guard (n.val + 1) } }
       let result : OrderResult := orderResultOfCode (stat.toNat / 4 % 8)
       let ready := stat.getLsbD 7
       let fault := stat.getLsbD 6
       (r.station = .wash → exec (.responseFrame bytes) s = .next (ends (takeWashReport ready fault result d taken))) ∧
       (r.station = .shuttle → exec (.responseFrame bytes) s =
         .next (ends (takeShuttleReport (decide (cmd = .reset)) ready fault result d taken))) ∧
       (r.station = .finisher → exec (.responseFrame bytes) s = .next (ends (takeFinisherReport d taken))) ∧
       (∀ k : Fin 6, r.station = .drawer k →
         exec (.responseFrame bytes) s = .next (ends (takeDrawerReport k d taken)))))

/-- What the reports of the wash node and of the drawer nodes do at a good response. Wash (R115, R123 to R125): the report is kept; an
echo of the outstanding order with replenish active 1 makes the cycle ACTIVE; with 0 and FAILED it waits 60 s in RETRY_WAIT; with 0
and DONE the load becomes load × (V − P) / V, rounded up, the solvent hold is evaluated, and the cycle closes below the
stop level or gives the next order, PENDING in SAFE; any other echo or result changes nothing of the cycle. Drawers
(R133 to R137): temperature, door, heater fault, service state and response time are kept, and the places in service
follow. A temperature of at least the setpoint less the band with the door closed takes from each DRYING resident the time since the
last good response, at most 1000 ms, 0 without one; one left at 0 becomes DRY, with the next DRY order, at the tail of the dry list, in
slot order. Otherwise no resident changes. A DARK chamber lights its tubes when the finisher is PRESENT and a plate is then eligible
(R157). Three missed visits make a PRESENT drawer OUT_OF_SERVICE, its response time absent (R134, R182). The shuttle is
not READY in the drawers' clauses and no second LOAD is gathered: a grant in the same event is said by the grant's statement. That
the tests are made in every such event is log entry 21, the model's choice. -/
def Obligations.StationReportsAct : Prop :=
  (∀ (n : Fin 15) (again : Bool) (cmd : NodeCmd) (bytes : List RxByte) (stat : Byte) (d : Vector Byte 6) (s : State),
    goodResponse .wash n again cmd bytes stat d s → nodeOf s .wash = some n → s.link.nodes[n].state = .present →
    let result : OrderResult := orderResultOfCode (stat.toNat / 4 % 8)
    let report : Wash := { s.wash with
      ready := stat.getLsbD 7, fault := stat.getLsbD 6, result := result
      level := d[0].toNat + 256 * d[1].toNat, temp := d[3] ++ d[2], active := d[4].toNat, echo := d[5].toNat }
    ∃ t, exec (.responseFrame bytes) s = .next t ∧
      { exceptAttn s t with wash := s.wash, link := s.link, freeCount := s.freeCount } = s ∧
      (s.wash.outstanding ≠ some d[5].toNat → t.wash = report) ∧
      (s.wash.outstanding = some d[5].toNat →
        (d[4] = 1 → t.wash = { report with replenish := .active }) ∧
        (d[4] = 0 → result = .none → t.wash = report) ∧
        (d[4] = 0 → result = .failed → t.wash = { report with
          outstanding := none, replenish := .retryWait, retry := some (s.now + 60000) }) ∧
        (d[4] = 0 → result = .done → 0 < s.wash.volume →
          (s.wash.load * (s.wash.volume - s.wash.portion) ≤ t.wash.load * s.wash.volume ∧
            t.wash.load * s.wash.volume < s.wash.load * (s.wash.volume - s.wash.portion) + s.wash.volume) ∧
          t.wash.hold = (decide (s.wash.hard ≤ t.wash.load) ||
            (s.wash.hold && decide (s.wash.hard - 2000 ≤ t.wash.load))) ∧
          (t.wash.load < s.wash.regen - 2000 → t.wash = { report with
            load := t.wash.load, hold := t.wash.hold, outstanding := none, replenish := .idle }) ∧
          (s.wash.regen - 2000 ≤ t.wash.load →
            (s.supervisor.line ≠ .safe → t.bus.latched.getLsbD 12 = true ∧ t.wash = { report with
              load := t.wash.load, hold := t.wash.hold, replenish := .ordered, portion := s.wash.replPortion
              outstanding := some ((s.link.nodes[n].issued.getD 0 + 1) % 256) }) ∧
            (s.supervisor.line = .safe → t.wash = { report with
              load := t.wash.load, hold := t.wash.hold, outstanding := none, replenish := .pending }))))) ∧
  (∀ (k : Fin 6) (n : Fin 15) (again : Bool) (cmd : NodeCmd) (bytes : List RxByte) (stat : Byte) (d : Vector Byte 6)
    (s : State), goodResponse (.drawer k) n again cmd bytes stat d s → nodeOf s (.drawer k) = some n →
    s.shuttle.state ≠ .ready → s.chamber.state ≠ .loading → d[2] = 0 ∨ d[2] = 1 → d[3] = 0 ∨ d[3] = 1 →
    let w := s.drying.drawers[k]
    let residents : List PlateId := drawerSlotIds.filterMap fun m => w.slots[m]
    let temp : Int := (d[1] ++ d[0]).toInt
    let counts : Prop := (s.drying.setpoint : Int) - s.drying.band ≤ temp ∧ d[2] = 1
    let delta : Nat := (w.lastGood.map fun x => min 1000 (s.now - x)).getD 0
    let dries (p : PlateId) : Bool := (plateOf s p).any fun r => r.stage == .drying && r.dryRemaining ≤ delta
    let dried : List PlateId := residents.filter dries
    let record : Drawer := { w with
      temp := temp, doorClosed := decide (d[2] = 1), heaterFault := decide (d[3] = 1), lastGood := some s.now
      service := if d[3] = 1 then .heatFault else .inService }
    let four (x : Service) : Nat := if x = .inService then 4 else 0
    ∃ t, exec (.responseFrame bytes) s = .next t ∧
      { t with
        tracker := s.tracker, drying := s.drying, chamber := s.chamber, link := s.link, freeCount := s.freeCount
        bus.ram := s.bus.ram } = s ∧
      placesInService t + four w.service = placesInService s + four record.service ∧
      (¬ counts → t.tracker = s.tracker ∧ t.bus.ram = s.bus.ram ∧
        t.drying = { s.drying with drawers := s.drying.drawers.set k record }) ∧
      (counts → residents.Nodup →
        t.drying = { s.drying with
          drawers := s.drying.drawers.set k record, dryList := s.drying.dryList ++ dried
          dryOrder := if dried = [] then s.drying.dryOrder
            else (s.drying.dryOrder + dried.length) % 4294967296 } ∧
        (∀ (p : PlateId) (r : Plate), plateOf s p = some r →
          (p ∉ residents ∨ r.stage ≠ .drying → plateOf t p = some r) ∧
          (p ∈ residents → r.stage = .drying → delta < r.dryRemaining →
            plateOf t p = some { r with dryRemaining := r.dryRemaining - delta })) ∧
        (∀ (i : Fin 4) (p : PlateId) (r : Plate), dried[i.val]? = some p → plateOf s p = some r →
          plateOf t p = some { r with
            dryRemaining := 0, stage := .dry, dryOrder := some ((s.drying.dryOrder + i.val + 1) % 4294967296) } ∧
          slotWord t p 35 = 7) ∧
        ramKeptOutside (dried.map fun p => slotBase p + 35) s t) ∧
      (s.chamber.state ≠ .dark → t.chamber = s.chamber) ∧
      (s.chamber.state = .dark → s.link.nodes[n].state = .present →
        (isPresent s .finisher = true → loadCandidate t none ≠ none → t.chamber = { s.chamber with
          state := .igniting, igniteOrder := some (nextOrder s .finisher), ignition := some (s.now + 300000) }) ∧
        (isPresent s .finisher = false ∨ loadCandidate t none = none → t.chamber = s.chamber))) ∧
  (∀ (k : Fin 6) (n : Fin 15) (again : Bool) (addr : Byte) (cmd : NodeCmd) (s : State),
    s.link.phase = .window n again addr cmd → s.link.nodes[n].station = .drawer k → nodeOf s (.drawer k) = some n →
    s.link.nodes[n].state = .present → 2 ≤ s.link.nodes[n].miss → s.shuttle.state ≠ .ready →
    s.link.revisit ≠ none ∨ nextVisited s (n.val + 1) ≠ none →
    ∃ t, exec .responseTimeout s = .next t ∧ t.drying = { s.drying with
        drawers := s.drying.drawers.set k { s.drying.drawers[k] with service := .outOfService, lastGood := none } } ∧
      t.admission = s.admission ∧ t.shuttle = s.shuttle ∧ t.supervisor = s.supervisor)

/-- What a good response of the shuttle node does (R140, R144, R146 to R148, R150). The report is kept. An echo of another order, or NONE,
leaves the move. DONE ends it, the shuttle then READY or on its next move if able, else STOPPED. STORE puts the plate in its
slot, stage DRYING, its commitment kept; UNLOAD, the plate's belt stations closed, ends it GOOD with all three verdicts IN_TOL or
NOT_REQUIRED, OUT_OF_TOL with another, SPOILED as marked (R17, R18), and the chamber asks for its lowest plate left, or is READY
with none (R166); LOAD puts it in the batch, undecided, and a second one is asked for or the exposure starts, SUSPENDED in SAFE or
with the door open (R160, R162), or, with no target, the batch ends at once IN_TOL (R162); in a FAULTED chamber it joins spoiled,
INCOMPLETE, with doses 0 (R167). Where the shuttle is able these figures of the plate stand after the grant of the same event,
which may take the unload asked for, or a LOAD with its commitment (R144; in states where each plate has one place, the
invariant of StepKeepsPlatesInOnePlace); an UNLOAD so granted keeps the batch class, also where it takes the last plate of
the batch (log entry 52, the model's choice). FAILED makes the shuttle FAULTED, latches
HANDLING and spoils the plate; a STORE gives its commitment back, a failed LOAD leaves the chamber READY or starts the exposure
(R161). A STOPPED shuttle that is able becomes READY, a READY one that is not STOPPED. A response to RESET, ready without fault,
ends a shuttle reset; any other leaves it. A stack no longer full lets a READY shuttle take an UNLOAD that is asked for
before the readiness of that response is looked at. -/
def Obligations.ShuttleReportsEndTheMove : Prop :=
  ∀ (n : Fin 15) (again : Bool) (cmd : NodeCmd) (bytes : List RxByte) (stat : Byte) (d : Vector Byte 6) (s : State),
    goodResponse .shuttle n again cmd bytes stat d s → nodeOf s .shuttle = some n → s.link.nodes[n].state = .present →
    d[1] = 0 ∨ d[1] = 1 →
    let result : OrderResult := orderResultOfCode (stat.toNat / 4 % 8)
    let able : Prop := stat.getLsbD 7 = true ∧ stat.getLsbD 6 = false ∧ s.supervisor.line ≠ .safe
    let report : Shuttle := { s.shuttle with
      ready := stat.getLsbD 7, fault := stat.getLsbD 6, result := result, position := d[0].toNat
      stackFull := decide (d[1] = 1), echo := d[5].toNat }
    let group : Nat × Nat := s.chamber.batchClass.getD (0, 0)
    let fine (v : Option Verdict) : Prop := v = some .inTol ∨ v = some .notRequired
    let unloaded (m : Move) (r : Plate) (t : State) : Prop :=
      let good : Prop := fine r.dose.back.verdict ∧ fine r.dose.main.verdict ∧ fine r.finishVerdict
      let ends (x : Disposition) (code : Word) : Prop :=
        plateOf t m.plate = some { r with stage := .ended, disposition := some x } ∧ slotWord t m.plate 33 = code
      slotState t m.plate = .done ∧ slotWord t m.plate 35 = 9 ∧ t.bus.latched.getLsbD 8 = true ∧
      (m.spoiled = true → ends .spoiled 18) ∧
      (m.spoiled = false → (good → ends .good 16) ∧ (¬ good → ends .outOfTol 17))
    let lowest (p : PlateId) (pos : ChamberPos) : Prop :=
      pos = .one ∧ s.chamber.pos1 = some (p, .finished) ∨
        pos = .two ∧ s.chamber.pos1 = none ∧ s.chamber.pos2 = some (p, .finished)
    let emptied : Chamber := { s.chamber with
      state := .ready, idle := some (s.now + 900000), ask := .load .one none, batchClass := none }
    let started (m : Move) (pos : ChamberPos) (t : State) : Prop :=
      let joined : Chamber := { s.chamber with
        pos1 := if pos = .one then some (m.plate, .undecided) else s.chamber.pos1
        pos2 := if pos = .two then some (m.plate, .undecided) else s.chamber.pos2
        accA := 0, accC := 0, onA := decide (group.1 = 0), onC := decide (group.2 = 0), second := none }
      (s.supervisor.line ≠ .safe → s.chamber.doorClosed = true → t.chamber = { joined with
        state := .exposing, openA := decide (group.1 ≠ 0), openC := decide (group.2 ≠ 0)
        openDeadline := some (s.now + 1800000), openStanding := none }) ∧
      (s.supervisor.line = .safe ∨ s.chamber.doorClosed = false → t.chamber = { joined with
        state := .suspended, openA := false, openC := false
        openDeadline := none, openStanding := some 1800000 })
    ∃ t, exec (.responseFrame bytes) s = .next t ∧
      (t.shuttle.ready = report.ready ∧ t.shuttle.fault = report.fault ∧ t.shuttle.result = result ∧
        t.shuttle.position = report.position ∧ t.shuttle.stackFull = report.stackFull ∧
        t.shuttle.echo = report.echo) ∧
      (∀ m : Move, s.shuttle.state = .moving → s.shuttle.move = some m → cmd ≠ .reset →
        (d[5].toNat ≠ m.order ∨ result = .none → s.chamber.state ≠ .loading → s.chamber.state ≠ .dark →
          { t with link := s.link, freeCount := s.freeCount } = { s with shuttle := report }) ∧
        (d[5].toNat = m.order → result = .done → able →
          t.shuttle.state = .ready ∧ t.shuttle.move = none ∨ t.shuttle.state = .moving ∧ t.shuttle.timer = some (s.now + 90000)) ∧
        (d[5].toNat = m.order → result = .done → able → placesInv s → ∀ r : Plate, plateOf s m.plate = some r →
          r.stage ≠ .ended →
          let next (kind : MoveKind) : Prop := t.shuttle.move.map (fun x => x.kind) = some kind
          (next .load → t.admission = { s.admission with commitments := s.admission.commitments - 1 }) ∧
          (¬ next .load → t.admission = s.admission) ∧
          (∀ (k : Fin 6) (j : Fin 4), m.kind = .store → m.dest = .slot k j →
            plateOf t m.plate = some { r with drawerSlot := some (k, j), stage := .drying } ∧
            slotWord t m.plate 35 = 6 ∧ slotWord t m.plate 49 = w16 ((k.val + 1) * 256 + (j.val + 1)) ∧
            ((∀ p ∈ s.drying.dryList, (plateOf s p).bind (fun q => q.drawerSlot) ≠ some (k, j)) →
              t.drying.drawers[k].slots[j] = some m.plate)) ∧
          (m.kind = .unload → r.dose.back.isOpen = false → r.dose.main.isOpen = false → unloaded m r t ∧
            (s.chamber.state = .unloading →
              (∀ (p : PlateId) (pos : ChamberPos), lowest p pos →
                t.chamber = { s.chamber with ask := .unload p pos false } ∨
                next .unload ∧ t.shuttle.move.map (fun x => x.plate) = some p ∧ t.chamber = { s.chamber with
                  ask := .none, pos1 := none, pos2 := if pos = .one then s.chamber.pos2 else none }) ∧
              (s.chamber.pos1 = none → s.chamber.pos2 = none → t.chamber = emptied ∨
                next .load ∧ t.chamber = { emptied with
                  state := .loading, idle := none, ask := .none, batchClass := t.chamber.batchClass }))) ∧
          (∀ pos : ChamberPos, m.kind = .load → m.dest = .chamber pos →
            (s.chamber.state = .loading → s.chamber.ask = .none →
              (pos = .two ∨ loadCandidate s s.chamber.batchClass = none) → group.1 ≠ 0 ∨ group.2 ≠ 0 →
              plateOf t m.plate = some { r with stage := .inChamber } ∧ slotWord t m.plate 35 = 8 ∧
              started m pos t) ∧
            (s.chamber.state = .loading → s.chamber.ask = .none →
              (pos = .two ∨ loadCandidate s s.chamber.batchClass = none) → group = (0, 0) →
              s.chamber.doorClosed = true → slotWord t m.plate 51 = 0 ∧ slotWord t m.plate 52 = 0 ∧
              slotWord t m.plate 53 = 1 ∧ (t.chamber.state = .unloading) ∧
              (plateOf t m.plate).map (fun q => (q.uvaDose, q.uvcDose, q.finishVerdict)) = some (0, 0, some .inTol)) ∧
            (s.chamber.state = .loading → pos = .one → loadCandidate s s.chamber.batchClass ≠ none →
              plateOf t m.plate = some { r with stage := .inChamber } ∧ slotWord t m.plate 35 = 8 ∧
              (t.chamber = { s.chamber with
                  pos1 := some (m.plate, .undecided), ask := .load .two s.chamber.batchClass
                  second := some (s.now + 60000) } ∨
                next .load ∧ t.chamber = { s.chamber with
                  pos1 := some (m.plate, .undecided), ask := .none, second := none })) ∧
            (s.chamber.state = .faulted →
              let held : Prop :=
                (if pos = .one then t.chamber.pos1 else t.chamber.pos2) = some (m.plate, .spoiled) ∧
                  plateOf t m.plate = some { r with
                    stage := .inChamber, uvaDose := 0, uvcDose := 0, finishVerdict := some .incomplete }
              slotWord t m.plate 51 = 0 ∧ slotWord t m.plate 52 = 0 ∧ slotWord t m.plate 53 = 6 ∧
              t.chamber.state = .faulted ∧ (s.chamber.resetAccepted = false → held) ∧
              (held ∨ next .unload ∧ t.shuttle.move.map (fun x => x.plate) = some m.plate)))) ∧
        (d[5].toNat = m.order → result = .done → ¬ able → ∀ r : Plate, plateOf s m.plate = some r →
          r.stage ≠ .ended →
          t.shuttle = { report with state := .stopped, move := none, timer := none } ∧
          (∀ (k : Fin 6) (j : Fin 4), m.kind = .store → m.dest = .slot k j → s.chamber.state ≠ .loading →
            plateOf t m.plate = some { r with drawerSlot := some (k, j), stage := .drying } ∧
            t.drying = { s.drying with drawers := s.drying.drawers.set k { s.drying.drawers[k] with
              slots := s.drying.drawers[k].slots.set j (some m.plate) } } ∧
            slotWord t m.plate 35 = 6 ∧ slotWord t m.plate 49 = w16 ((k.val + 1) * 256 + (j.val + 1)) ∧
            t.admission = s.admission ∧ ramKeptOutside [slotBase m.plate + 35, slotBase m.plate + 49] s t) ∧
          (m.kind = .unload → s.chamber.state ≠ .loading → r.dose.back.isOpen = false →
            r.dose.main.isOpen = false → unloaded m r t ∧
            (s.chamber.state = .unloading →
              (∀ (p : PlateId) (pos : ChamberPos), lowest p pos →
                t.chamber = { s.chamber with ask := .unload p pos false }) ∧
              (s.chamber.pos1 = none → s.chamber.pos2 = none → t.chamber = emptied))) ∧
          (∀ pos : ChamberPos, m.kind = .load → m.dest = .chamber pos →
            (s.chamber.state = .loading → s.chamber.ask = .none →
              (pos = .two ∨ loadCandidate s s.chamber.batchClass = none) → group.1 ≠ 0 ∨ group.2 ≠ 0 →
              plateOf t m.plate = some { r with stage := .inChamber } ∧ slotWord t m.plate 35 = 8 ∧
              started m pos t) ∧
            (s.chamber.state = .loading → pos = .one → loadCandidate s s.chamber.batchClass ≠ none →
              plateOf t m.plate = some { r with stage := .inChamber } ∧
              t.chamber = { s.chamber with
                pos1 := some (m.plate, .undecided), ask := .load .two s.chamber.batchClass
                second := some (s.now + 60000) }) ∧
            (s.chamber.state = .faulted →
              plateOf t m.plate = some { r with
                stage := .inChamber, uvaDose := 0, uvcDose := 0, finishVerdict := some .incomplete } ∧
              slotWord t m.plate 51 = 0 ∧ slotWord t m.plate 52 = 0 ∧ slotWord t m.plate 53 = 6 ∧
              t.chamber.state = .faulted ∧ (pos = .one → t.chamber.pos1 = some (m.plate, .spoiled)) ∧
              (pos = .two → t.chamber.pos2 = some (m.plate, .spoiled))))) ∧
        (d[5].toNat = m.order → result = .failed → ∀ r : Plate, plateOf s m.plate = some r → r.stage ≠ .ended →
          t.shuttle = { report with state := .faulted, move := none, timer := none } ∧
          t.bus.latched.getLsbD 4 = true ∧ slotState t m.plate = .done ∧ slotWord t m.plate 33 = 18 ∧
          ((plateOf t m.plate).map fun q => (q.stage, q.disposition)) = some (.ended, some .spoiled) ∧
          t.admission = { s.admission with commitments :=
            if m.kind = .store then s.admission.commitments - 1 else s.admission.commitments } ∧
          t.drying = s.drying ∧ t.supervisor = s.supervisor ∧
          (m.kind = .load → m.dest = .chamber .one → s.chamber.state = .loading → t.chamber = emptied) ∧
          (m.kind = .load → m.dest = .chamber .two → s.chamber.state = .loading → group.1 ≠ 0 ∨ group.2 ≠ 0 →
            t.chamber.pos2 = s.chamber.pos2 ∧
              (t.chamber.state = .exposing ↔ s.supervisor.line ≠ .safe ∧ s.chamber.doorClosed = true) ∧
              (t.chamber.state = .suspended ↔ s.supervisor.line = .safe ∨ s.chamber.doorClosed = false)))) ∧
      (s.shuttle.move = none →
        (s.shuttle.state = .stopped → able → t.shuttle.state = .ready ∨ t.shuttle.state = .moving) ∧
        (s.shuttle.state = .stopped → ¬ able → t.shuttle = report) ∧
        (s.shuttle.state = .ready → s.shuttle.stackFull = decide (d[1] = 1) → ¬ able →
          t.shuttle = { report with state := .stopped }) ∧
        (∀ (p : PlateId) (pos : ChamberPos) (spoiled : Bool), s.shuttle.state = .ready → s.shuttle.stackFull = true →
          d[1] = 0 → s.drying.rack = [] → s.chamber.ask = .unload p pos spoiled → s.chamber.state ≠ .loading →
          d[5].toNat ≠ nextOrder s .shuttle →
          t.shuttle = { report with
            state := .moving, timer := some (s.now + 90000)
            move := some { kind := .unload, plate := p, source := .chamber pos, dest := .output
                           order := nextOrder s .shuttle, spoiled := spoiled } }) ∧
        (s.shuttle.state = .faulted → s.shuttle.resetRequested = true →
          (cmd = .reset → stat.getLsbD 7 = true → stat.getLsbD 6 = false →
            t.shuttle.resetRequested = false ∧ (t.shuttle.state = .ready ∨ t.shuttle.state = .moving)) ∧
          (cmd ≠ .reset ∨ stat.getLsbD 7 = false ∨ stat.getLsbD 6 = true → t.shuttle = report)))

/-- What a good response of the finisher node does (R156, R158, R163 to R165, R167). The report is kept. IGNITING: with the ignite order
echoed, both groups LIT give STABILIZING for 120 s and a FAILED one the fault; otherwise nothing. In STABILIZING to
UNLOADING a group that is not LIT faults the chamber: HANDLING is latched, timers stopped, shutters closed, no LOAD asked
for, and an undecided plate spoiled, INCOMPLETE, with the doses of the accumulators, 0 before its exposure. EXPOSING: each open group
takes E times the interval since the last response, 1 to 100 ms, and closes at its target; with both on target the batch ends IN_TOL
with its doses in the records and slots. Then the door: open, the batch is SUSPENDED with the time it has left; closed with the line not
SAFE, a suspended one goes on with the groups not on target open. In the other states the door does nothing. Between these nothing
else changes. The shuttle is not READY, no eligible plate waits on a DARK chamber and no second LOAD is asked for: what
those add in the same event is said by the statements of the grant and of the timers, and by log entry 21. That bits 5 to 7
of DATA4, of which R156 does not speak, are ignored is the model's choice (log entry 31). -/
def Obligations.FinisherReportsCreditAndTest : Prop :=
  ∀ (n : Fin 15) (again : Bool) (cmd : NodeCmd) (bytes : List RxByte) (stat : Byte) (d : Vector Byte 6) (s : State),
    goodResponse .finisher n again cmd bytes stat d s → s.link.nodes[n].state = .present →
    let c := s.chamber
    let a : Nat := d[4].toNat % 4
    let u : Nat := d[4].toNat / 4 % 4
    let lit : Prop := a = 2 ∧ u = 2
    let door : Prop := d[4].toNat / 16 % 2 = 1
    let report : Chamber := { c with
      eUva := min 10000 (d[0].toNat + 256 * d[1].toNat), eUvc := min 10000 (d[2].toNat + 256 * d[3].toNat)
      tubeA := tubeOfCode a, tubeC := tubeOfCode u, doorClosed := decide (d[4].toNat / 16 % 2 = 1)
      echo := d[5].toNat, lastGood := some s.now }
    ∃ t, exec (.responseFrame bytes) s = .next t ∧
      (t.chamber.eUva = report.eUva ∧ t.chamber.eUvc = report.eUvc ∧ t.chamber.tubeA = report.tubeA ∧
        t.chamber.tubeC = report.tubeC ∧ t.chamber.doorClosed = report.doorClosed ∧ t.chamber.echo = report.echo ∧
        t.chamber.lastGood = report.lastGood) ∧
      (s.shuttle.state ≠ .ready → (∀ cls : Option (Nat × Nat), c.ask ≠ .load .two cls) →
        let only (x : Chamber) : Prop :=
          { t with link := s.link, freeCount := s.freeCount } = { s with chamber := x }
        let written (p : PlateId) (r : Plate) (x y : Nat) (v : Verdict) (code : Word) : Prop :=
          plateOf t p = some { r with uvaDose := x, uvcDose := y, finishVerdict := some v } ∧
            slotWord t p 51 = w16 x ∧ slotWord t p 52 = w16 y ∧ slotWord t p 53 = code
        let dose (x : Nat) : Nat := min 65535 ((x + 500) / 1000)
        let faulted (x y : Nat) : Prop :=
          t.chamber.state = .faulted ∧ t.bus.latched.getLsbD 4 = true ∧ t.chamber.openA = false ∧
            t.chamber.openC = false ∧ t.chamber.igniteOrder = none ∧ t.chamber.ignition = none ∧
            t.chamber.stabilizing = none ∧ t.chamber.idle = none ∧ t.chamber.second = none ∧
            t.chamber.openDeadline = none ∧ t.chamber.openStanding = none ∧
            (∀ (pos : ChamberPos) (cls : Option (Nat × Nat)), t.chamber.ask ≠ .load pos cls) ∧
            (∀ (p : PlateId) (r : Plate), occupant c.pos2 ≠ some p → plateOf s p = some r →
              c.pos1 = some (p, .undecided) → t.chamber.pos1 = some (p, .spoiled) ∧ written p r x y .incomplete 6)
        let dt : Nat := (c.lastGood.map fun x => max 1 (min 100 (s.now - x))).getD 1
        let accA : Nat := if c.openA = true then min 4294967295 (c.accA + report.eUva * dt) else c.accA
        let accC : Nat := if c.openC = true then min 4294967295 (c.accC + report.eUvc * dt) else c.accC
        let hitA : Bool := c.openA && decide ((c.batchClass.getD (0, 0)).1 * 1000 ≤ accA)
        let hitC : Bool := c.openC && decide ((c.batchClass.getD (0, 0)).2 * 1000 ≤ accC)
        let both : Bool := (c.onA || hitA) && (c.onC || hitC)
        let credited : Chamber := { report with
          accA := accA, accC := accC, onA := c.onA || hitA, onC := c.onC || hitC
          openA := c.openA && !hitA, openC := c.openC && !hitC }
        (c.state = .faulted ∨ (c.state = .dark ∧ loadCandidate s none = none) → only report) ∧
        (c.state = .igniting →
          (c.igniteOrder ≠ some d[5].toNat ∨ (¬ lit ∧ a ≠ 3 ∧ u ≠ 3) → only report) ∧
          (c.igniteOrder = some d[5].toNat → lit → only { report with
            state := .stabilizing, ignition := none, igniteOrder := none
            stabilizing := some (s.now + 120000) }) ∧
          (c.igniteOrder = some d[5].toNat → a = 3 ∨ u = 3 → faulted 0 0)) ∧
        (c.state = .stabilizing ∨ c.state = .ready ∨ c.state = .loading ∨ c.state = .unloading →
          (lit → only report) ∧ (¬ lit → faulted 0 0)) ∧
        (c.state = .suspended →
          (¬ lit → faulted (dose c.accA) (dose c.accC)) ∧
          (lit → ¬ door ∨ s.supervisor.line = .safe → only report) ∧
          (lit → door → s.supervisor.line ≠ .safe → (c.onA && c.onC) = false → only { report with
            state := .exposing, openA := !c.onA, openC := !c.onC
            openDeadline := some (s.now + c.openStanding.getD 0), openStanding := none })) ∧
        (c.state = .exposing →
          (both = false → lit → door → only credited) ∧
          (both = false → lit → ¬ door → only { credited with
            state := .suspended, openA := false, openC := false
            openDeadline := none, openStanding := c.openDeadline.map fun x => x - s.now }) ∧
          (both = false → ¬ lit → faulted (dose accA) (dose accC)) ∧
          (both = true → lit → chamberMove s = false → ∀ (p : PlateId) (m : Mark) (r : Plate), c.pos1 = some (p, m) →
            occupant c.pos2 ≠ some p → plateOf s p = some r →
            t.chamber = { credited with
              state := .unloading, openA := false, openC := false, openDeadline := none, openStanding := none
              pos1 := some (p, .finished), pos2 := c.pos2.map fun x => (x.1, .finished)
              ask := .unload p .one false } ∧
            written p r (dose accA) (dose accC) .inTol 1)))

/-! ## The safety inputs (chapter 11) -/

/-- A change of a safety input restarts its 2 ms timer (R201); a command with the level it already has is no change (log
entry 42, the model's choice). At the expiry an
unchanged level delivers nothing. ESTOP# asserted, outside SAFE, makes the line SAFE with cause ESTOP, latches SAFE and asserts
LINE_SAFE#, with the train empty, the belt given 0 and the banks forced off; in SAFE, and released, only the settled level
changes. COVER open in RUNNING or DRAINING makes the line SAFE with cause COVER; elsewhere COVER moves the banks alone (R29, R69, R201,
R202). An ESTOP# found asserted at a reset is delivered by its own command, which the reset puts first, and the mark of it is
cleared then; with no mark the command changes nothing (log entry 33, the model's choice). -/
def Obligations.SafetyInputsSettle : Prop :=
  ∀ s : State,
    (exec (.safetyInputChange .estop s.pins.estopAsserted) s = .next s ∧
      exec (.safetyInputChange .cover s.pins.coverClosed) s = .next s ∧
      exec (.safetyInputChange .estop (!s.pins.estopAsserted)) s = .next { s with
        pins.estopAsserted := !s.pins.estopAsserted, safety.estopTimer := some (s.now + 2) } ∧
      exec (.safetyInputChange .cover (!s.pins.coverClosed)) s = .next { s with
        pins.coverClosed := !s.pins.coverClosed, safety.coverTimer := some (s.now + 2) }) ∧
    (∀ d : Nat, s.safety.estopTimer = some d →
      (s.pins.estopAsserted = s.safety.estop → exec (.safetySettleExpiry .estop) s = .next { advanceTo d s with
        safety.estopTimer := none }) ∧
      (s.pins.estopAsserted = false → s.safety.estop = true → exec (.safetySettleExpiry .estop) s = .next { advanceTo d s with
          safety.estopTimer := none, safety.estop := false }) ∧
      (s.pins.estopAsserted = true → s.safety.estop = false → s.supervisor.line = .safe →
        exec (.safetySettleExpiry .estop) s = .next { advanceTo d s with
          safety.estopTimer := none, safety.estop := true }) ∧
      (s.pins.estopAsserted = true → s.safety.estop = false → s.supervisor.line ≠ .safe →
        ∃ t, exec (.safetySettleExpiry .estop) s = .next t ∧ t.supervisor.line = .safe ∧
          t.supervisor.cause = .estop ∧ t.safety.estop = true ∧ t.safety.lineSafe = true ∧
          t.bus.latched.getLsbD 0 = true ∧ t.wash.outstanding = none ∧ t.shuttle.state ≠ .ready ∧
          t.chamber.state ≠ .exposing ∧ t.link.mode = .continuous ∧
          (s.supervisor.line ≠ .halted → t.tracker.train = [] ∧ t.transport.demand = 0) ∧
          (∀ k : Bank, banksFollow s → (t.banks.get k).state = .forcedOff ∧ (t.banks.get k).duty = 0))) ∧
    (∀ d : Nat, s.safety.coverTimer = some d →
      (s.pins.coverClosed = s.safety.coverClosed →
        exec (.safetySettleExpiry .cover) s = .next { advanceTo d s with safety.coverTimer := none }) ∧
      (s.pins.coverClosed = false → s.safety.coverClosed = true →
        s.supervisor.line = .running ∨ s.supervisor.line = .draining →
        ∃ t, exec (.safetySettleExpiry .cover) s = .next t ∧ t.supervisor.line = .safe ∧
          t.supervisor.cause = .cover ∧ t.safety.coverClosed = false ∧ t.safety.lineSafe = true ∧
          t.bus.latched.getLsbD 0 = true ∧ t.tracker.train = [] ∧
          (∀ k : Bank, (t.banks.get k).state = .forcedOff)) ∧
      (s.pins.coverClosed ≠ s.safety.coverClosed →
        (s.supervisor.line ≠ .running ∧ s.supervisor.line ≠ .draining) ∨ s.pins.coverClosed = true →
        ∃ t, exec (.safetySettleExpiry .cover) s = .next t ∧
          { t with banks := s.banks } = { advanceTo d s with
            banks := s.banks, safety.coverTimer := none, safety.coverClosed := s.pins.coverClosed } ∧
          (∀ k : Bank, s.pins.coverClosed = false → (t.banks.get k).state = .forcedOff))) ∧
    (s.safety.estopAtReset = true → s.supervisor.line ≠ .safe →
      ∃ t, exec .estopAssertedAtReset s = .next t ∧ t.supervisor.line = .safe ∧ t.supervisor.cause = .estop ∧
        t.safety.lineSafe = true ∧ t.safety.estopAtReset = false ∧ t.bus.latched.getLsbD 0 = true) ∧
    (s.safety.estopAtReset = false → exec .estopAssertedAtReset s = .next s)
end

