-- ==== Sys2Proof/Laws/State.lean ====
section
/-! SUPPORT. The fields of a state after each plain update: one lemma per field, true by `rfl`. -/

namespace Sys2Proof.Machine

/-! ## `ramWrite` -/

@[simp] theorem ramWrite_pending (a : Nat) (v : Word) (s : State) : (ramWrite a v s).pending = s.pending := rfl
@[simp] theorem ramWrite_freeCount (a : Nat) (v : Word) (s : State) : (ramWrite a v s).freeCount = s.freeCount := rfl
@[simp] theorem ramWrite_now (a : Nat) (v : Word) (s : State) : (ramWrite a v s).now = s.now := rfl
@[simp] theorem ramWrite_pins (a : Nat) (v : Word) (s : State) : (ramWrite a v s).pins = s.pins := rfl
@[simp] theorem ramWrite_intake (a : Nat) (v : Word) (s : State) : (ramWrite a v s).intake = s.intake := rfl
@[simp] theorem ramWrite_supervisor (a : Nat) (v : Word) (s : State) : (ramWrite a v s).supervisor = s.supervisor := rfl
@[simp] theorem ramWrite_admission (a : Nat) (v : Word) (s : State) : (ramWrite a v s).admission = s.admission := rfl
@[simp] theorem ramWrite_tracker (a : Nat) (v : Word) (s : State) : (ramWrite a v s).tracker = s.tracker := rfl
@[simp] theorem ramWrite_transport (a : Nat) (v : Word) (s : State) : (ramWrite a v s).transport = s.transport := rfl
@[simp] theorem ramWrite_banks (a : Nat) (v : Word) (s : State) : (ramWrite a v s).banks = s.banks := rfl
@[simp] theorem ramWrite_claimLead (a : Nat) (v : Word) (s : State) : (ramWrite a v s).claimLead = s.claimLead := rfl
@[simp] theorem ramWrite_wash (a : Nat) (v : Word) (s : State) : (ramWrite a v s).wash = s.wash := rfl
@[simp] theorem ramWrite_drying (a : Nat) (v : Word) (s : State) : (ramWrite a v s).drying = s.drying := rfl
@[simp] theorem ramWrite_shuttle (a : Nat) (v : Word) (s : State) : (ramWrite a v s).shuttle = s.shuttle := rfl
@[simp] theorem ramWrite_chamber (a : Nat) (v : Word) (s : State) : (ramWrite a v s).chamber = s.chamber := rfl
@[simp] theorem ramWrite_link (a : Nat) (v : Word) (s : State) : (ramWrite a v s).link = s.link := rfl
@[simp] theorem ramWrite_safety (a : Nat) (v : Word) (s : State) : (ramWrite a v s).safety = s.safety := rfl
@[simp] theorem ramWrite_cal (a : Nat) (v : Word) (s : State) : (ramWrite a v s).cal = s.cal := rfl
@[simp] theorem ramWrite_bus_capture (a : Nat) (v : Word) (s : State) :
    (ramWrite a v s).bus.capture = s.bus.capture := rfl
@[simp] theorem ramWrite_bus_hold (a : Nat) (v : Word) (s : State) :
    (ramWrite a v s).bus.hold = s.bus.hold := rfl
@[simp] theorem ramWrite_bus_dataOut (a : Nat) (v : Word) (s : State) :
    (ramWrite a v s).bus.dataOut = s.bus.dataOut := rfl
@[simp] theorem ramWrite_bus_resetSource (a : Nat) (v : Word) (s : State) :
    (ramWrite a v s).bus.resetSource = s.bus.resetSource := rfl
@[simp] theorem ramWrite_bus_protect (a : Nat) (v : Word) (s : State) :
    (ramWrite a v s).bus.protect = s.bus.protect := rfl
@[simp] theorem ramWrite_bus_latched (a : Nat) (v : Word) (s : State) :
    (ramWrite a v s).bus.latched = s.bus.latched := rfl
@[simp] theorem ramWrite_bus_mask (a : Nat) (v : Word) (s : State) :
    (ramWrite a v s).bus.mask = s.bus.mask := rfl
@[simp] theorem ramWrite_bus_attn (a : Nat) (v : Word) (s : State) :
    (ramWrite a v s).bus.attn = s.bus.attn := rfl
@[simp] theorem ramWrite_bus_holdOff (a : Nat) (v : Word) (s : State) :
    (ramWrite a v s).bus.holdOff = s.bus.holdOff := rfl
@[simp] theorem ramWrite_bus_interval (a : Nat) (v : Word) (s : State) :
    (ramWrite a v s).bus.interval = s.bus.interval := rfl
@[simp] theorem ramWrite_bus_hbTimeout (a : Nat) (v : Word) (s : State) :
    (ramWrite a v s).bus.hbTimeout = s.bus.hbTimeout := rfl
@[simp] theorem ramWrite_bus_hbTimer (a : Nat) (v : Word) (s : State) :
    (ramWrite a v s).bus.hbTimer = s.bus.hbTimer := rfl
@[simp] theorem ramWrite_bus_ram (a : Nat) (v : Word) (s : State) :
    (ramWrite a v s).bus.ram = cellsWrite 0 s.bus.ram a v := rfl

/-! ## `storeWrite` -/

@[simp] theorem storeWrite_pending (a : Nat) (v : Word) (s : State) : (storeWrite a v s).pending = s.pending := rfl
@[simp] theorem storeWrite_freeCount (a : Nat) (v : Word) (s : State) : (storeWrite a v s).freeCount = s.freeCount := rfl
@[simp] theorem storeWrite_now (a : Nat) (v : Word) (s : State) : (storeWrite a v s).now = s.now := rfl
@[simp] theorem storeWrite_pins (a : Nat) (v : Word) (s : State) : (storeWrite a v s).pins = s.pins := rfl
@[simp] theorem storeWrite_bus (a : Nat) (v : Word) (s : State) : (storeWrite a v s).bus = s.bus := rfl
@[simp] theorem storeWrite_intake (a : Nat) (v : Word) (s : State) : (storeWrite a v s).intake = s.intake := rfl
@[simp] theorem storeWrite_supervisor (a : Nat) (v : Word) (s : State) : (storeWrite a v s).supervisor = s.supervisor := rfl
@[simp] theorem storeWrite_admission (a : Nat) (v : Word) (s : State) : (storeWrite a v s).admission = s.admission := rfl
@[simp] theorem storeWrite_tracker (a : Nat) (v : Word) (s : State) : (storeWrite a v s).tracker = s.tracker := rfl
@[simp] theorem storeWrite_transport (a : Nat) (v : Word) (s : State) : (storeWrite a v s).transport = s.transport := rfl
@[simp] theorem storeWrite_banks (a : Nat) (v : Word) (s : State) : (storeWrite a v s).banks = s.banks := rfl
@[simp] theorem storeWrite_claimLead (a : Nat) (v : Word) (s : State) : (storeWrite a v s).claimLead = s.claimLead := rfl
@[simp] theorem storeWrite_wash (a : Nat) (v : Word) (s : State) : (storeWrite a v s).wash = s.wash := rfl
@[simp] theorem storeWrite_drying (a : Nat) (v : Word) (s : State) : (storeWrite a v s).drying = s.drying := rfl
@[simp] theorem storeWrite_shuttle (a : Nat) (v : Word) (s : State) : (storeWrite a v s).shuttle = s.shuttle := rfl
@[simp] theorem storeWrite_chamber (a : Nat) (v : Word) (s : State) : (storeWrite a v s).chamber = s.chamber := rfl
@[simp] theorem storeWrite_link (a : Nat) (v : Word) (s : State) : (storeWrite a v s).link = s.link := rfl
@[simp] theorem storeWrite_safety (a : Nat) (v : Word) (s : State) : (storeWrite a v s).safety = s.safety := rfl
@[simp] theorem storeWrite_cal_state (a : Nat) (v : Word) (s : State) :
    (storeWrite a v s).cal.state = s.cal.state := rfl
@[simp] theorem storeWrite_cal_opState (a : Nat) (v : Word) (s : State) :
    (storeWrite a v s).cal.opState = s.cal.opState := rfl
@[simp] theorem storeWrite_cal_result (a : Nat) (v : Word) (s : State) :
    (storeWrite a v s).cal.result = s.cal.result := rfl
@[simp] theorem storeWrite_cal_readData (a : Nat) (v : Word) (s : State) :
    (storeWrite a v s).cal.readData = s.cal.readData := rfl
@[simp] theorem storeWrite_cal_running (a : Nat) (v : Word) (s : State) :
    (storeWrite a v s).cal.running = s.cal.running := rfl
@[simp] theorem storeWrite_cal_store (a : Nat) (v : Word) (s : State) :
    (storeWrite a v s).cal.store = cellsWrite 0xFFFF s.cal.store a v := rfl

/-! ## `putBank` -/

@[simp] theorem putBank_pending (k : Bank) (b : BankUnit) (s : State) : (putBank k b s).pending = s.pending := rfl
@[simp] theorem putBank_freeCount (k : Bank) (b : BankUnit) (s : State) : (putBank k b s).freeCount = s.freeCount := rfl
@[simp] theorem putBank_now (k : Bank) (b : BankUnit) (s : State) : (putBank k b s).now = s.now := rfl
@[simp] theorem putBank_pins (k : Bank) (b : BankUnit) (s : State) : (putBank k b s).pins = s.pins := rfl
@[simp] theorem putBank_bus (k : Bank) (b : BankUnit) (s : State) : (putBank k b s).bus = s.bus := rfl
@[simp] theorem putBank_intake (k : Bank) (b : BankUnit) (s : State) : (putBank k b s).intake = s.intake := rfl
@[simp] theorem putBank_supervisor (k : Bank) (b : BankUnit) (s : State) : (putBank k b s).supervisor = s.supervisor := rfl
@[simp] theorem putBank_admission (k : Bank) (b : BankUnit) (s : State) : (putBank k b s).admission = s.admission := rfl
@[simp] theorem putBank_tracker (k : Bank) (b : BankUnit) (s : State) : (putBank k b s).tracker = s.tracker := rfl
@[simp] theorem putBank_transport (k : Bank) (b : BankUnit) (s : State) : (putBank k b s).transport = s.transport := rfl
@[simp] theorem putBank_claimLead (k : Bank) (b : BankUnit) (s : State) : (putBank k b s).claimLead = s.claimLead := rfl
@[simp] theorem putBank_wash (k : Bank) (b : BankUnit) (s : State) : (putBank k b s).wash = s.wash := rfl
@[simp] theorem putBank_drying (k : Bank) (b : BankUnit) (s : State) : (putBank k b s).drying = s.drying := rfl
@[simp] theorem putBank_shuttle (k : Bank) (b : BankUnit) (s : State) : (putBank k b s).shuttle = s.shuttle := rfl
@[simp] theorem putBank_chamber (k : Bank) (b : BankUnit) (s : State) : (putBank k b s).chamber = s.chamber := rfl
@[simp] theorem putBank_link (k : Bank) (b : BankUnit) (s : State) : (putBank k b s).link = s.link := rfl
@[simp] theorem putBank_safety (k : Bank) (b : BankUnit) (s : State) : (putBank k b s).safety = s.safety := rfl
@[simp] theorem putBank_cal (k : Bank) (b : BankUnit) (s : State) : (putBank k b s).cal = s.cal := rfl
@[simp] theorem putBank_banks (k : Bank) (b : BankUnit) (s : State) :
    (putBank k b s).banks = s.banks.put k b := rfl

/-! ## `mapBanks` -/

@[simp] theorem mapBanks_pending (f : BankUnit → BankUnit) (s : State) : (mapBanks f s).pending = s.pending := rfl
@[simp] theorem mapBanks_freeCount (f : BankUnit → BankUnit) (s : State) : (mapBanks f s).freeCount = s.freeCount := rfl
@[simp] theorem mapBanks_now (f : BankUnit → BankUnit) (s : State) : (mapBanks f s).now = s.now := rfl
@[simp] theorem mapBanks_pins (f : BankUnit → BankUnit) (s : State) : (mapBanks f s).pins = s.pins := rfl
@[simp] theorem mapBanks_bus (f : BankUnit → BankUnit) (s : State) : (mapBanks f s).bus = s.bus := rfl
@[simp] theorem mapBanks_intake (f : BankUnit → BankUnit) (s : State) : (mapBanks f s).intake = s.intake := rfl
@[simp] theorem mapBanks_supervisor (f : BankUnit → BankUnit) (s : State) : (mapBanks f s).supervisor = s.supervisor := rfl
@[simp] theorem mapBanks_admission (f : BankUnit → BankUnit) (s : State) : (mapBanks f s).admission = s.admission := rfl
@[simp] theorem mapBanks_tracker (f : BankUnit → BankUnit) (s : State) : (mapBanks f s).tracker = s.tracker := rfl
@[simp] theorem mapBanks_transport (f : BankUnit → BankUnit) (s : State) : (mapBanks f s).transport = s.transport := rfl
@[simp] theorem mapBanks_claimLead (f : BankUnit → BankUnit) (s : State) : (mapBanks f s).claimLead = s.claimLead := rfl
@[simp] theorem mapBanks_wash (f : BankUnit → BankUnit) (s : State) : (mapBanks f s).wash = s.wash := rfl
@[simp] theorem mapBanks_drying (f : BankUnit → BankUnit) (s : State) : (mapBanks f s).drying = s.drying := rfl
@[simp] theorem mapBanks_shuttle (f : BankUnit → BankUnit) (s : State) : (mapBanks f s).shuttle = s.shuttle := rfl
@[simp] theorem mapBanks_chamber (f : BankUnit → BankUnit) (s : State) : (mapBanks f s).chamber = s.chamber := rfl
@[simp] theorem mapBanks_link (f : BankUnit → BankUnit) (s : State) : (mapBanks f s).link = s.link := rfl
@[simp] theorem mapBanks_safety (f : BankUnit → BankUnit) (s : State) : (mapBanks f s).safety = s.safety := rfl
@[simp] theorem mapBanks_cal (f : BankUnit → BankUnit) (s : State) : (mapBanks f s).cal = s.cal := rfl
@[simp] theorem mapBanks_banks (f : BankUnit → BankUnit) (s : State) :
    (mapBanks f s).banks = s.banks.mapAll f := rfl

/-! ## `putPlate` -/

@[simp] theorem putPlate_pending (p : PlateId) (r : Option Plate) (s : State) : (putPlate p r s).pending = s.pending := rfl
@[simp] theorem putPlate_freeCount (p : PlateId) (r : Option Plate) (s : State) : (putPlate p r s).freeCount = s.freeCount := rfl
@[simp] theorem putPlate_now (p : PlateId) (r : Option Plate) (s : State) : (putPlate p r s).now = s.now := rfl
@[simp] theorem putPlate_pins (p : PlateId) (r : Option Plate) (s : State) : (putPlate p r s).pins = s.pins := rfl
@[simp] theorem putPlate_bus (p : PlateId) (r : Option Plate) (s : State) : (putPlate p r s).bus = s.bus := rfl
@[simp] theorem putPlate_intake (p : PlateId) (r : Option Plate) (s : State) : (putPlate p r s).intake = s.intake := rfl
@[simp] theorem putPlate_supervisor (p : PlateId) (r : Option Plate) (s : State) : (putPlate p r s).supervisor = s.supervisor := rfl
@[simp] theorem putPlate_admission (p : PlateId) (r : Option Plate) (s : State) : (putPlate p r s).admission = s.admission := rfl
@[simp] theorem putPlate_transport (p : PlateId) (r : Option Plate) (s : State) : (putPlate p r s).transport = s.transport := rfl
@[simp] theorem putPlate_banks (p : PlateId) (r : Option Plate) (s : State) : (putPlate p r s).banks = s.banks := rfl
@[simp] theorem putPlate_claimLead (p : PlateId) (r : Option Plate) (s : State) : (putPlate p r s).claimLead = s.claimLead := rfl
@[simp] theorem putPlate_wash (p : PlateId) (r : Option Plate) (s : State) : (putPlate p r s).wash = s.wash := rfl
@[simp] theorem putPlate_drying (p : PlateId) (r : Option Plate) (s : State) : (putPlate p r s).drying = s.drying := rfl
@[simp] theorem putPlate_shuttle (p : PlateId) (r : Option Plate) (s : State) : (putPlate p r s).shuttle = s.shuttle := rfl
@[simp] theorem putPlate_chamber (p : PlateId) (r : Option Plate) (s : State) : (putPlate p r s).chamber = s.chamber := rfl
@[simp] theorem putPlate_link (p : PlateId) (r : Option Plate) (s : State) : (putPlate p r s).link = s.link := rfl
@[simp] theorem putPlate_safety (p : PlateId) (r : Option Plate) (s : State) : (putPlate p r s).safety = s.safety := rfl
@[simp] theorem putPlate_cal (p : PlateId) (r : Option Plate) (s : State) : (putPlate p r s).cal = s.cal := rfl
@[simp] theorem putPlate_tracker_train (p : PlateId) (r : Option Plate) (s : State) :
    (putPlate p r s).tracker.train = s.tracker.train := rfl
@[simp] theorem putPlate_tracker_strayPending (p : PlateId) (r : Option Plate) (s : State) :
    (putPlate p r s).tracker.strayPending = s.tracker.strayPending := rfl
@[simp] theorem putPlate_tracker_plates (p : PlateId) (r : Option Plate) (s : State) :
    (putPlate p r s).tracker.plates = s.tracker.plates.set p r := rfl

/-! ## `putNode` -/

@[simp] theorem putNode_pending (n : Fin 15) (r : NodeRec) (s : State) : (putNode n r s).pending = s.pending := rfl
@[simp] theorem putNode_freeCount (n : Fin 15) (r : NodeRec) (s : State) : (putNode n r s).freeCount = s.freeCount := rfl
@[simp] theorem putNode_now (n : Fin 15) (r : NodeRec) (s : State) : (putNode n r s).now = s.now := rfl
@[simp] theorem putNode_pins (n : Fin 15) (r : NodeRec) (s : State) : (putNode n r s).pins = s.pins := rfl
@[simp] theorem putNode_bus (n : Fin 15) (r : NodeRec) (s : State) : (putNode n r s).bus = s.bus := rfl
@[simp] theorem putNode_intake (n : Fin 15) (r : NodeRec) (s : State) : (putNode n r s).intake = s.intake := rfl
@[simp] theorem putNode_supervisor (n : Fin 15) (r : NodeRec) (s : State) : (putNode n r s).supervisor = s.supervisor := rfl
@[simp] theorem putNode_admission (n : Fin 15) (r : NodeRec) (s : State) : (putNode n r s).admission = s.admission := rfl
@[simp] theorem putNode_tracker (n : Fin 15) (r : NodeRec) (s : State) : (putNode n r s).tracker = s.tracker := rfl
@[simp] theorem putNode_transport (n : Fin 15) (r : NodeRec) (s : State) : (putNode n r s).transport = s.transport := rfl
@[simp] theorem putNode_banks (n : Fin 15) (r : NodeRec) (s : State) : (putNode n r s).banks = s.banks := rfl
@[simp] theorem putNode_claimLead (n : Fin 15) (r : NodeRec) (s : State) : (putNode n r s).claimLead = s.claimLead := rfl
@[simp] theorem putNode_wash (n : Fin 15) (r : NodeRec) (s : State) : (putNode n r s).wash = s.wash := rfl
@[simp] theorem putNode_drying (n : Fin 15) (r : NodeRec) (s : State) : (putNode n r s).drying = s.drying := rfl
@[simp] theorem putNode_shuttle (n : Fin 15) (r : NodeRec) (s : State) : (putNode n r s).shuttle = s.shuttle := rfl
@[simp] theorem putNode_chamber (n : Fin 15) (r : NodeRec) (s : State) : (putNode n r s).chamber = s.chamber := rfl
@[simp] theorem putNode_safety (n : Fin 15) (r : NodeRec) (s : State) : (putNode n r s).safety = s.safety := rfl
@[simp] theorem putNode_cal (n : Fin 15) (r : NodeRec) (s : State) : (putNode n r s).cal = s.cal := rfl
@[simp] theorem putNode_link_mode (n : Fin 15) (r : NodeRec) (s : State) :
    (putNode n r s).link.mode = s.link.mode := rfl
@[simp] theorem putNode_link_further (n : Fin 15) (r : NodeRec) (s : State) :
    (putNode n r s).link.further = s.link.further := rfl
@[simp] theorem putNode_link_phase (n : Fin 15) (r : NodeRec) (s : State) :
    (putNode n r s).link.phase = s.link.phase := rfl
@[simp] theorem putNode_link_revisit (n : Fin 15) (r : NodeRec) (s : State) :
    (putNode n r s).link.revisit = s.link.revisit := rfl
@[simp] theorem putNode_link_passTimer (n : Fin 15) (r : NodeRec) (s : State) :
    (putNode n r s).link.passTimer = s.link.passTimer := rfl
@[simp] theorem putNode_link_txFrame (n : Fin 15) (r : NodeRec) (s : State) :
    (putNode n r s).link.txFrame = s.link.txFrame := rfl
@[simp] theorem putNode_link_driveEnable (n : Fin 15) (r : NodeRec) (s : State) :
    (putNode n r s).link.driveEnable = s.link.driveEnable := rfl
@[simp] theorem putNode_link_lastNode (n : Fin 15) (r : NodeRec) (s : State) :
    (putNode n r s).link.lastNode = s.link.lastNode := rfl
@[simp] theorem putNode_link_assign (n : Fin 15) (r : NodeRec) (s : State) :
    (putNode n r s).link.assign = s.link.assign := rfl
@[simp] theorem putNode_link_nodes (n : Fin 15) (r : NodeRec) (s : State) :
    (putNode n r s).link.nodes = s.link.nodes.set n r := rfl

/-! ## The three banks -/

@[simp] theorem PerBank.get_bk {α : Type} (x : PerBank α) : x.get .bk = x.bk := rfl
@[simp] theorem PerBank.get_m1 {α : Type} (x : PerBank α) : x.get .m1 = x.m1 := rfl
@[simp] theorem PerBank.get_m2 {α : Type} (x : PerBank α) : x.get .m2 = x.m2 := rfl

/-- The thing of a bank after one is set. -/
@[simp] theorem PerBank.get_put {α : Type} (x : PerBank α) (k j : Bank) (v : α) :
    (x.put k v).get j = if j = k then v else x.get j := by
  cases k <;> cases j <;> rfl

/-- The thing of a bank after the same change to each. -/
@[simp] theorem PerBank.get_mapAll {α β : Type} (f : α → β) (x : PerBank α) (k : Bank) :
    (x.mapAll f).get k = f (x.get k) := by
  cases k <;> rfl

/-- Setting a bank to what it is changes nothing. -/
@[simp] theorem PerBank.put_get {α : Type} (x : PerBank α) (k : Bank) : x.put k (x.get k) = x := by
  cases k <;> rfl

/-! ## Plate records and node records -/

/-- A plate record after one is set. -/
@[simp] theorem plateOf_putPlate (p q : PlateId) (r : Option Plate) (s : State) :
    plateOf (putPlate p r s) q = if q = p then r else plateOf s q := by
  simp only [plateOf, putPlate_tracker_plates, Fin.getElem_fin, Vector.getElem_set]
  by_cases h : q = p
  · subst h; simp
  · rw [if_neg h, if_neg (fun e => h (Fin.ext e.symm))]

/-- A node record after one is set. -/
@[simp] theorem nodes_putNode (n m : Fin 15) (r : NodeRec) (s : State) :
    (putNode n r s).link.nodes[m] = if m = n then r else s.link.nodes[m] := by
  simp only [putNode_link_nodes, Fin.getElem_fin, Vector.getElem_set]
  by_cases h : m = n
  · subst h; simp
  · rw [if_neg h, if_neg (fun e => h (Fin.ext e.symm))]

/-- A plate record after a change to one. -/
theorem plateOf_modPlate (p q : PlateId) (f : Plate → Plate) (s : State) :
    plateOf (modPlate p f s) q = if q = p then (plateOf s p).map f else plateOf s q := by
  unfold modPlate
  split
  · rename_i h
    by_cases hq : q = p
    · subst hq; simp [h]
    · simp [hq]
  · rename_i r h
    simp [h]

/-- What setting a stage does to a plate record; one in ENDED stays (R45). -/
theorem plateOf_setStage (p q : PlateId) (st : Stage) (s : State) :
    plateOf (setStage p st s) q =
      if q = p then (plateOf s p).map (fun r => if r.stage = .ended then r else { r with stage := st })
      else plateOf s q := by
  unfold setStage
  split
  · rename_i h
    by_cases hq : q = p
    · subst hq; simp [h]
    · simp [hq]
  · rename_i r h
    split
    · rename_i he
      by_cases hq : q = p
      · subst hq; simp [h, he]
      · simp [hq]
    · rename_i he
      simp only [putSlotNat, putSlot, plateOf, ramWrite_tracker]
      have := plateOf_putPlate p q (some { r with stage := st }) s
      rw [plateOf] at this
      rw [this]
      by_cases hq : q = p
      · subst hq; simp only [plateOf] at h; simp [h, he]
      · simp [hq, plateOf]

end Sys2Proof.Machine
end

