-- ==== Sys2Proof/Laws/FrameOps.lean ====
section
/-! SUPPORT. What the operations of Machine/Ops.lean leave unchanged: one frame lemma for each, which
`simp` takes part by part. -/

namespace Sys2Proof.Machine

@[simp] theorem advanceTo_frame (t : Nat) (s : State) :
    (advanceTo t s).pending = s.pending ∧ (advanceTo t s).freeCount = s.freeCount ∧ (advanceTo t s).pins =
    s.pins ∧ (advanceTo t s).bus = s.bus ∧ (advanceTo t s).intake = s.intake ∧ (advanceTo t s).supervisor =
    s.supervisor ∧ (advanceTo t s).admission = s.admission ∧ (advanceTo t s).tracker = s.tracker ∧ (advanceTo t
    s).transport = s.transport ∧ (advanceTo t s).claimLead = s.claimLead ∧ (advanceTo t s).wash = s.wash ∧
    (advanceTo t s).drying = s.drying ∧ (advanceTo t s).shuttle = s.shuttle ∧ (advanceTo t s).chamber =
    s.chamber ∧ (advanceTo t s).link = s.link ∧ (advanceTo t s).safety = s.safety ∧ (advanceTo t s).cal = s.cal := by
  and_intros <;> (unfold advanceTo; (repeat' split) <;> simp)

@[simp] theorem driveAttn_frame (c : Attn) (s : State) :
    (driveAttn c s).pending = s.pending ∧ (driveAttn c s).freeCount = s.freeCount ∧ (driveAttn c s).now = s.now
    ∧ (driveAttn c s).pins = s.pins ∧ (driveAttn c s).intake = s.intake ∧ (driveAttn c s).supervisor =
    s.supervisor ∧ (driveAttn c s).admission = s.admission ∧ (driveAttn c s).tracker = s.tracker ∧ (driveAttn c
    s).transport = s.transport ∧ (driveAttn c s).banks = s.banks ∧ (driveAttn c s).claimLead = s.claimLead ∧
    (driveAttn c s).wash = s.wash ∧ (driveAttn c s).drying = s.drying ∧ (driveAttn c s).shuttle = s.shuttle ∧
    (driveAttn c s).chamber = s.chamber ∧ (driveAttn c s).link = s.link ∧ (driveAttn c s).safety = s.safety ∧
    (driveAttn c s).cal = s.cal ∧ (driveAttn c s).bus.ram = s.bus.ram ∧ (driveAttn c s).bus.capture =
    s.bus.capture ∧ (driveAttn c s).bus.hold = s.bus.hold ∧ (driveAttn c s).bus.dataOut = s.bus.dataOut ∧
    (driveAttn c s).bus.resetSource = s.bus.resetSource ∧ (driveAttn c s).bus.protect = s.bus.protect ∧
    (driveAttn c s).bus.latched = s.bus.latched ∧ (driveAttn c s).bus.mask = s.bus.mask ∧ (driveAttn c
    s).bus.interval = s.bus.interval ∧ (driveAttn c s).bus.hbTimeout = s.bus.hbTimeout ∧ (driveAttn c
    s).bus.hbTimer = s.bus.hbTimer := by
  and_intros <;> (unfold driveAttn; (try dsimp only); (repeat' split) <;> simp)

@[simp] theorem latch_frame (c : Attn) (s : State) :
    (latch c s).pending = s.pending ∧ (latch c s).freeCount = s.freeCount ∧ (latch c s).now = s.now ∧ (latch c
    s).pins = s.pins ∧ (latch c s).intake = s.intake ∧ (latch c s).supervisor = s.supervisor ∧ (latch c
    s).admission = s.admission ∧ (latch c s).tracker = s.tracker ∧ (latch c s).transport = s.transport ∧ (latch
    c s).banks = s.banks ∧ (latch c s).claimLead = s.claimLead ∧ (latch c s).wash = s.wash ∧ (latch c s).drying
    = s.drying ∧ (latch c s).shuttle = s.shuttle ∧ (latch c s).chamber = s.chamber ∧ (latch c s).link = s.link ∧
    (latch c s).safety = s.safety ∧ (latch c s).cal = s.cal ∧ (latch c s).bus.ram = s.bus.ram ∧ (latch c
    s).bus.capture = s.bus.capture ∧ (latch c s).bus.hold = s.bus.hold ∧ (latch c s).bus.dataOut = s.bus.dataOut
    ∧ (latch c s).bus.resetSource = s.bus.resetSource ∧ (latch c s).bus.protect = s.bus.protect ∧ (latch c
    s).bus.mask = s.bus.mask ∧ (latch c s).bus.interval = s.bus.interval ∧ (latch c s).bus.hbTimeout =
    s.bus.hbTimeout ∧ (latch c s).bus.hbTimer = s.bus.hbTimer := by
  and_intros <;> (simp [latch])

@[simp] theorem latchIf_frame (p : Bool) (c : Attn) (s : State) :
    (latchIf p c s).pending = s.pending ∧ (latchIf p c s).freeCount = s.freeCount ∧ (latchIf p c s).now = s.now
    ∧ (latchIf p c s).pins = s.pins ∧ (latchIf p c s).intake = s.intake ∧ (latchIf p c s).supervisor =
    s.supervisor ∧ (latchIf p c s).admission = s.admission ∧ (latchIf p c s).tracker = s.tracker ∧ (latchIf p c
    s).transport = s.transport ∧ (latchIf p c s).banks = s.banks ∧ (latchIf p c s).claimLead = s.claimLead ∧
    (latchIf p c s).wash = s.wash ∧ (latchIf p c s).drying = s.drying ∧ (latchIf p c s).shuttle = s.shuttle ∧
    (latchIf p c s).chamber = s.chamber ∧ (latchIf p c s).link = s.link ∧ (latchIf p c s).safety = s.safety ∧
    (latchIf p c s).cal = s.cal ∧ (latchIf p c s).bus.ram = s.bus.ram ∧ (latchIf p c s).bus.capture =
    s.bus.capture ∧ (latchIf p c s).bus.hold = s.bus.hold ∧ (latchIf p c s).bus.dataOut = s.bus.dataOut ∧
    (latchIf p c s).bus.resetSource = s.bus.resetSource ∧ (latchIf p c s).bus.protect = s.bus.protect ∧ (latchIf
    p c s).bus.mask = s.bus.mask ∧ (latchIf p c s).bus.interval = s.bus.interval ∧ (latchIf p c s).bus.hbTimeout
    = s.bus.hbTimeout ∧ (latchIf p c s).bus.hbTimer = s.bus.hbTimer := by
  and_intros <;> (unfold latchIf; (repeat' split) <;> simp)

@[simp] theorem countDiscard_frame (s : State) :
    (countDiscard s).pending = s.pending ∧ (countDiscard s).freeCount = s.freeCount ∧ (countDiscard s).now =
    s.now ∧ (countDiscard s).pins = s.pins ∧ (countDiscard s).intake = s.intake ∧ (countDiscard s).supervisor =
    s.supervisor ∧ (countDiscard s).admission = s.admission ∧ (countDiscard s).tracker = s.tracker ∧
    (countDiscard s).transport = s.transport ∧ (countDiscard s).banks = s.banks ∧ (countDiscard s).claimLead =
    s.claimLead ∧ (countDiscard s).wash = s.wash ∧ (countDiscard s).drying = s.drying ∧ (countDiscard s).shuttle
    = s.shuttle ∧ (countDiscard s).chamber = s.chamber ∧ (countDiscard s).link = s.link ∧ (countDiscard
    s).safety = s.safety ∧ (countDiscard s).cal = s.cal ∧ (countDiscard s).bus.ram = s.bus.ram ∧ (countDiscard
    s).bus.capture = s.bus.capture ∧ (countDiscard s).bus.hold = s.bus.hold ∧ (countDiscard s).bus.dataOut =
    s.bus.dataOut ∧ (countDiscard s).bus.resetSource = s.bus.resetSource ∧ (countDiscard s).bus.mask =
    s.bus.mask ∧ (countDiscard s).bus.interval = s.bus.interval ∧ (countDiscard s).bus.hbTimeout =
    s.bus.hbTimeout ∧ (countDiscard s).bus.hbTimer = s.bus.hbTimer := by
  and_intros <;> (simp [countDiscard])

@[simp] theorem putSlot_frame (i : PlateId) (o : Nat) (v : Word) (s : State) :
    (putSlot i o v s).pending = s.pending ∧ (putSlot i o v s).freeCount = s.freeCount ∧ (putSlot i o v s).now =
    s.now ∧ (putSlot i o v s).pins = s.pins ∧ (putSlot i o v s).intake = s.intake ∧ (putSlot i o v s).supervisor
    = s.supervisor ∧ (putSlot i o v s).admission = s.admission ∧ (putSlot i o v s).tracker = s.tracker ∧
    (putSlot i o v s).transport = s.transport ∧ (putSlot i o v s).banks = s.banks ∧ (putSlot i o v s).claimLead
    = s.claimLead ∧ (putSlot i o v s).wash = s.wash ∧ (putSlot i o v s).drying = s.drying ∧ (putSlot i o v
    s).shuttle = s.shuttle ∧ (putSlot i o v s).chamber = s.chamber ∧ (putSlot i o v s).link = s.link ∧ (putSlot
    i o v s).safety = s.safety ∧ (putSlot i o v s).cal = s.cal ∧ (putSlot i o v s).bus.capture = s.bus.capture ∧
    (putSlot i o v s).bus.hold = s.bus.hold ∧ (putSlot i o v s).bus.dataOut = s.bus.dataOut ∧ (putSlot i o v
    s).bus.resetSource = s.bus.resetSource ∧ (putSlot i o v s).bus.protect = s.bus.protect ∧ (putSlot i o v
    s).bus.latched = s.bus.latched ∧ (putSlot i o v s).bus.mask = s.bus.mask ∧ (putSlot i o v s).bus.attn =
    s.bus.attn ∧ (putSlot i o v s).bus.holdOff = s.bus.holdOff ∧ (putSlot i o v s).bus.interval = s.bus.interval
    ∧ (putSlot i o v s).bus.hbTimeout = s.bus.hbTimeout ∧ (putSlot i o v s).bus.hbTimer = s.bus.hbTimer := by
  and_intros <;> (simp [putSlot])

@[simp] theorem putSlotNat_frame (i : PlateId) (o n : Nat) (s : State) :
    (putSlotNat i o n s).pending = s.pending ∧ (putSlotNat i o n s).freeCount = s.freeCount ∧ (putSlotNat i o n
    s).now = s.now ∧ (putSlotNat i o n s).pins = s.pins ∧ (putSlotNat i o n s).intake = s.intake ∧ (putSlotNat i
    o n s).supervisor = s.supervisor ∧ (putSlotNat i o n s).admission = s.admission ∧ (putSlotNat i o n
    s).tracker = s.tracker ∧ (putSlotNat i o n s).transport = s.transport ∧ (putSlotNat i o n s).banks = s.banks
    ∧ (putSlotNat i o n s).claimLead = s.claimLead ∧ (putSlotNat i o n s).wash = s.wash ∧ (putSlotNat i o n
    s).drying = s.drying ∧ (putSlotNat i o n s).shuttle = s.shuttle ∧ (putSlotNat i o n s).chamber = s.chamber ∧
    (putSlotNat i o n s).link = s.link ∧ (putSlotNat i o n s).safety = s.safety ∧ (putSlotNat i o n s).cal =
    s.cal ∧ (putSlotNat i o n s).bus.capture = s.bus.capture ∧ (putSlotNat i o n s).bus.hold = s.bus.hold ∧
    (putSlotNat i o n s).bus.dataOut = s.bus.dataOut ∧ (putSlotNat i o n s).bus.resetSource = s.bus.resetSource
    ∧ (putSlotNat i o n s).bus.protect = s.bus.protect ∧ (putSlotNat i o n s).bus.latched = s.bus.latched ∧
    (putSlotNat i o n s).bus.mask = s.bus.mask ∧ (putSlotNat i o n s).bus.attn = s.bus.attn ∧ (putSlotNat i o n
    s).bus.holdOff = s.bus.holdOff ∧ (putSlotNat i o n s).bus.interval = s.bus.interval ∧ (putSlotNat i o n
    s).bus.hbTimeout = s.bus.hbTimeout ∧ (putSlotNat i o n s).bus.hbTimer = s.bus.hbTimer := by
  and_intros <;> (simp [putSlotNat])

@[simp] theorem putSlot32_frame (i : PlateId) (o n : Nat) (s : State) :
    (putSlot32 i o n s).pending = s.pending ∧ (putSlot32 i o n s).freeCount = s.freeCount ∧ (putSlot32 i o n
    s).now = s.now ∧ (putSlot32 i o n s).pins = s.pins ∧ (putSlot32 i o n s).intake = s.intake ∧ (putSlot32 i o
    n s).supervisor = s.supervisor ∧ (putSlot32 i o n s).admission = s.admission ∧ (putSlot32 i o n s).tracker =
    s.tracker ∧ (putSlot32 i o n s).transport = s.transport ∧ (putSlot32 i o n s).banks = s.banks ∧ (putSlot32 i
    o n s).claimLead = s.claimLead ∧ (putSlot32 i o n s).wash = s.wash ∧ (putSlot32 i o n s).drying = s.drying ∧
    (putSlot32 i o n s).shuttle = s.shuttle ∧ (putSlot32 i o n s).chamber = s.chamber ∧ (putSlot32 i o n s).link
    = s.link ∧ (putSlot32 i o n s).safety = s.safety ∧ (putSlot32 i o n s).cal = s.cal ∧ (putSlot32 i o n
    s).bus.capture = s.bus.capture ∧ (putSlot32 i o n s).bus.hold = s.bus.hold ∧ (putSlot32 i o n s).bus.dataOut
    = s.bus.dataOut ∧ (putSlot32 i o n s).bus.resetSource = s.bus.resetSource ∧ (putSlot32 i o n s).bus.protect
    = s.bus.protect ∧ (putSlot32 i o n s).bus.latched = s.bus.latched ∧ (putSlot32 i o n s).bus.mask =
    s.bus.mask ∧ (putSlot32 i o n s).bus.attn = s.bus.attn ∧ (putSlot32 i o n s).bus.holdOff = s.bus.holdOff ∧
    (putSlot32 i o n s).bus.interval = s.bus.interval ∧ (putSlot32 i o n s).bus.hbTimeout = s.bus.hbTimeout ∧
    (putSlot32 i o n s).bus.hbTimer = s.bus.hbTimer := by
  and_intros <;> (simp [putSlot32])

@[simp] theorem setSlotState_frame (i : PlateId) (st : SlotState) (s : State) :
    (setSlotState i st s).pending = s.pending ∧ (setSlotState i st s).freeCount = s.freeCount ∧ (setSlotState i
    st s).now = s.now ∧ (setSlotState i st s).pins = s.pins ∧ (setSlotState i st s).intake = s.intake ∧
    (setSlotState i st s).supervisor = s.supervisor ∧ (setSlotState i st s).admission = s.admission ∧
    (setSlotState i st s).tracker = s.tracker ∧ (setSlotState i st s).transport = s.transport ∧ (setSlotState i
    st s).banks = s.banks ∧ (setSlotState i st s).claimLead = s.claimLead ∧ (setSlotState i st s).wash = s.wash
    ∧ (setSlotState i st s).drying = s.drying ∧ (setSlotState i st s).shuttle = s.shuttle ∧ (setSlotState i st
    s).chamber = s.chamber ∧ (setSlotState i st s).link = s.link ∧ (setSlotState i st s).safety = s.safety ∧
    (setSlotState i st s).cal = s.cal ∧ (setSlotState i st s).bus.capture = s.bus.capture ∧ (setSlotState i st
    s).bus.hold = s.bus.hold ∧ (setSlotState i st s).bus.dataOut = s.bus.dataOut ∧ (setSlotState i st
    s).bus.resetSource = s.bus.resetSource ∧ (setSlotState i st s).bus.protect = s.bus.protect ∧ (setSlotState i
    st s).bus.latched = s.bus.latched ∧ (setSlotState i st s).bus.mask = s.bus.mask ∧ (setSlotState i st
    s).bus.attn = s.bus.attn ∧ (setSlotState i st s).bus.holdOff = s.bus.holdOff ∧ (setSlotState i st
    s).bus.interval = s.bus.interval ∧ (setSlotState i st s).bus.hbTimeout = s.bus.hbTimeout ∧ (setSlotState i
    st s).bus.hbTimer = s.bus.hbTimer := by
  and_intros <;> (simp [setSlotState])

@[simp] theorem setLastTaken_frame (i : PlateId) (sq : Nat) (s : State) :
    (setLastTaken i sq s).pending = s.pending ∧ (setLastTaken i sq s).freeCount = s.freeCount ∧ (setLastTaken i
    sq s).now = s.now ∧ (setLastTaken i sq s).pins = s.pins ∧ (setLastTaken i sq s).intake = s.intake ∧
    (setLastTaken i sq s).supervisor = s.supervisor ∧ (setLastTaken i sq s).admission = s.admission ∧
    (setLastTaken i sq s).tracker = s.tracker ∧ (setLastTaken i sq s).transport = s.transport ∧ (setLastTaken i
    sq s).banks = s.banks ∧ (setLastTaken i sq s).claimLead = s.claimLead ∧ (setLastTaken i sq s).wash = s.wash
    ∧ (setLastTaken i sq s).drying = s.drying ∧ (setLastTaken i sq s).shuttle = s.shuttle ∧ (setLastTaken i sq
    s).chamber = s.chamber ∧ (setLastTaken i sq s).link = s.link ∧ (setLastTaken i sq s).safety = s.safety ∧
    (setLastTaken i sq s).cal = s.cal ∧ (setLastTaken i sq s).bus.capture = s.bus.capture ∧ (setLastTaken i sq
    s).bus.hold = s.bus.hold ∧ (setLastTaken i sq s).bus.dataOut = s.bus.dataOut ∧ (setLastTaken i sq
    s).bus.resetSource = s.bus.resetSource ∧ (setLastTaken i sq s).bus.protect = s.bus.protect ∧ (setLastTaken i
    sq s).bus.latched = s.bus.latched ∧ (setLastTaken i sq s).bus.mask = s.bus.mask ∧ (setLastTaken i sq
    s).bus.attn = s.bus.attn ∧ (setLastTaken i sq s).bus.holdOff = s.bus.holdOff ∧ (setLastTaken i sq
    s).bus.interval = s.bus.interval ∧ (setLastTaken i sq s).bus.hbTimeout = s.bus.hbTimeout ∧ (setLastTaken i
    sq s).bus.hbTimer = s.bus.hbTimer := by
  and_intros <;> (simp [setLastTaken])

@[simp] theorem modPlate_frame (p : PlateId) (f : Plate → Plate) (s : State) :
    (modPlate p f s).pending = s.pending ∧ (modPlate p f s).freeCount = s.freeCount ∧ (modPlate p f s).now =
    s.now ∧ (modPlate p f s).pins = s.pins ∧ (modPlate p f s).bus = s.bus ∧ (modPlate p f s).intake = s.intake ∧
    (modPlate p f s).supervisor = s.supervisor ∧ (modPlate p f s).admission = s.admission ∧ (modPlate p f
    s).transport = s.transport ∧ (modPlate p f s).banks = s.banks ∧ (modPlate p f s).claimLead = s.claimLead ∧
    (modPlate p f s).wash = s.wash ∧ (modPlate p f s).drying = s.drying ∧ (modPlate p f s).shuttle = s.shuttle ∧
    (modPlate p f s).chamber = s.chamber ∧ (modPlate p f s).link = s.link ∧ (modPlate p f s).safety = s.safety ∧
    (modPlate p f s).cal = s.cal ∧ (modPlate p f s).tracker.train = s.tracker.train ∧ (modPlate p f
    s).tracker.strayPending = s.tracker.strayPending := by
  and_intros <;> (unfold modPlate; (repeat' split) <;> simp)

@[simp] theorem setStage_frame (p : PlateId) (st : Stage) (s : State) :
    (setStage p st s).pending = s.pending ∧ (setStage p st s).freeCount = s.freeCount ∧ (setStage p st s).now =
    s.now ∧ (setStage p st s).pins = s.pins ∧ (setStage p st s).intake = s.intake ∧ (setStage p st s).supervisor
    = s.supervisor ∧ (setStage p st s).admission = s.admission ∧ (setStage p st s).transport = s.transport ∧
    (setStage p st s).banks = s.banks ∧ (setStage p st s).claimLead = s.claimLead ∧ (setStage p st s).wash =
    s.wash ∧ (setStage p st s).drying = s.drying ∧ (setStage p st s).shuttle = s.shuttle ∧ (setStage p st
    s).chamber = s.chamber ∧ (setStage p st s).link = s.link ∧ (setStage p st s).safety = s.safety ∧ (setStage p
    st s).cal = s.cal ∧ (setStage p st s).bus.capture = s.bus.capture ∧ (setStage p st s).bus.hold = s.bus.hold
    ∧ (setStage p st s).bus.dataOut = s.bus.dataOut ∧ (setStage p st s).bus.resetSource = s.bus.resetSource ∧
    (setStage p st s).bus.protect = s.bus.protect ∧ (setStage p st s).bus.latched = s.bus.latched ∧ (setStage p
    st s).bus.mask = s.bus.mask ∧ (setStage p st s).bus.attn = s.bus.attn ∧ (setStage p st s).bus.holdOff =
    s.bus.holdOff ∧ (setStage p st s).bus.interval = s.bus.interval ∧ (setStage p st s).bus.hbTimeout =
    s.bus.hbTimeout ∧ (setStage p st s).bus.hbTimer = s.bus.hbTimer ∧ (setStage p st s).tracker.train =
    s.tracker.train ∧ (setStage p st s).tracker.strayPending = s.tracker.strayPending := by
  and_intros <;> (unfold setStage; (repeat' split) <;> simp)

@[simp] theorem takeOrder_frame (st : Station) (s : State) :
    (takeOrder st s).pending = s.pending ∧ (takeOrder st s).freeCount = s.freeCount ∧ (takeOrder st s).now =
    s.now ∧ (takeOrder st s).pins = s.pins ∧ (takeOrder st s).bus = s.bus ∧ (takeOrder st s).intake = s.intake ∧
    (takeOrder st s).supervisor = s.supervisor ∧ (takeOrder st s).admission = s.admission ∧ (takeOrder st
    s).tracker = s.tracker ∧ (takeOrder st s).transport = s.transport ∧ (takeOrder st s).banks = s.banks ∧
    (takeOrder st s).claimLead = s.claimLead ∧ (takeOrder st s).wash = s.wash ∧ (takeOrder st s).drying =
    s.drying ∧ (takeOrder st s).shuttle = s.shuttle ∧ (takeOrder st s).chamber = s.chamber ∧ (takeOrder st
    s).safety = s.safety ∧ (takeOrder st s).cal = s.cal ∧ (takeOrder st s).link.mode = s.link.mode ∧ (takeOrder
    st s).link.phase = s.link.phase ∧ (takeOrder st s).link.lastNode = s.link.lastNode ∧ (takeOrder st
    s).link.assign = s.link.assign := by
  and_intros <;> (unfold takeOrder; (try dsimp only); (repeat' split) <;> simp)

end Sys2Proof.Machine
end

