-- ==== Sys2Proof/Laws/FrameFlags.lean ====
section
/-! SUPPORT. What the operations of Machine/Flags.lean leave unchanged: one frame lemma for each, which
`simp` takes part by part. -/

namespace Sys2Proof.Machine

@[simp] theorem putBankLatching_frame (k : Bank) (b : BankUnit) (s : State) :
    (putBankLatching k b s).pending = s.pending ∧ (putBankLatching k b s).freeCount = s.freeCount ∧
    (putBankLatching k b s).now = s.now ∧ (putBankLatching k b s).pins = s.pins ∧ (putBankLatching k b s).intake
    = s.intake ∧ (putBankLatching k b s).supervisor = s.supervisor ∧ (putBankLatching k b s).admission =
    s.admission ∧ (putBankLatching k b s).tracker = s.tracker ∧ (putBankLatching k b s).transport = s.transport
    ∧ (putBankLatching k b s).claimLead = s.claimLead ∧ (putBankLatching k b s).wash = s.wash ∧ (putBankLatching
    k b s).drying = s.drying ∧ (putBankLatching k b s).shuttle = s.shuttle ∧ (putBankLatching k b s).chamber =
    s.chamber ∧ (putBankLatching k b s).link = s.link ∧ (putBankLatching k b s).safety = s.safety ∧
    (putBankLatching k b s).cal = s.cal ∧ (putBankLatching k b s).bus.ram = s.bus.ram ∧ (putBankLatching k b
    s).bus.capture = s.bus.capture ∧ (putBankLatching k b s).bus.hold = s.bus.hold ∧ (putBankLatching k b
    s).bus.dataOut = s.bus.dataOut ∧ (putBankLatching k b s).bus.resetSource = s.bus.resetSource ∧
    (putBankLatching k b s).bus.protect = s.bus.protect ∧ (putBankLatching k b s).bus.mask = s.bus.mask ∧
    (putBankLatching k b s).bus.interval = s.bus.interval ∧ (putBankLatching k b s).bus.hbTimeout =
    s.bus.hbTimeout ∧ (putBankLatching k b s).bus.hbTimer = s.bus.hbTimer := by
  and_intros <;> (simp [putBankLatching])

@[simp] theorem evalQueueLow_frame (s : State) :
    (evalQueueLow s).pending = s.pending ∧ (evalQueueLow s).freeCount = s.freeCount ∧ (evalQueueLow s).now =
    s.now ∧ (evalQueueLow s).pins = s.pins ∧ (evalQueueLow s).intake = s.intake ∧ (evalQueueLow s).supervisor =
    s.supervisor ∧ (evalQueueLow s).tracker = s.tracker ∧ (evalQueueLow s).transport = s.transport ∧
    (evalQueueLow s).banks = s.banks ∧ (evalQueueLow s).claimLead = s.claimLead ∧ (evalQueueLow s).wash = s.wash
    ∧ (evalQueueLow s).drying = s.drying ∧ (evalQueueLow s).shuttle = s.shuttle ∧ (evalQueueLow s).chamber =
    s.chamber ∧ (evalQueueLow s).link = s.link ∧ (evalQueueLow s).safety = s.safety ∧ (evalQueueLow s).cal =
    s.cal ∧ (evalQueueLow s).bus.ram = s.bus.ram ∧ (evalQueueLow s).bus.capture = s.bus.capture ∧ (evalQueueLow
    s).bus.hold = s.bus.hold ∧ (evalQueueLow s).bus.dataOut = s.bus.dataOut ∧ (evalQueueLow s).bus.resetSource =
    s.bus.resetSource ∧ (evalQueueLow s).bus.protect = s.bus.protect ∧ (evalQueueLow s).bus.mask = s.bus.mask ∧
    (evalQueueLow s).bus.interval = s.bus.interval ∧ (evalQueueLow s).bus.hbTimeout = s.bus.hbTimeout ∧
    (evalQueueLow s).bus.hbTimer = s.bus.hbTimer ∧ (evalQueueLow s).admission.queue = s.admission.queue ∧
    (evalQueueLow s).admission.holdReason = s.admission.holdReason ∧ (evalQueueLow s).admission.commitments =
    s.admission.commitments ∧ (evalQueueLow s).admission.epochNo = s.admission.epochNo ∧ (evalQueueLow
    s).admission.epochSpeed = s.admission.epochSpeed ∧ (evalQueueLow s).admission.epochCurrent =
    s.admission.epochCurrent ∧ (evalQueueLow s).admission.misfeedHold = s.admission.misfeedHold ∧ (evalQueueLow
    s).admission.gateOpen = s.admission.gateOpen ∧ (evalQueueLow s).admission.mark = s.admission.mark := by
  and_intros <;> (simp [evalQueueLow])

end Sys2Proof.Machine
end

