-- ==== Sys2Proof/Laws/FrameDose.lean ====
section
/-! SUPPORT. What the operations of Machine/Dose.lean leave unchanged: one frame lemma for each, which
`simp` takes part by part; and its tests of a train of one plate. -/

namespace Sys2Proof.Machine

@[simp] theorem creditTrain_frame (k : Bank) (credit : Nat) (s : State) :
    (creditTrain k credit s).pending = s.pending ∧ (creditTrain k credit s).freeCount = s.freeCount ∧
    (creditTrain k credit s).now = s.now ∧ (creditTrain k credit s).pins = s.pins ∧ (creditTrain k credit s).bus
    = s.bus ∧ (creditTrain k credit s).intake = s.intake ∧ (creditTrain k credit s).supervisor = s.supervisor ∧
    (creditTrain k credit s).admission = s.admission ∧ (creditTrain k credit s).transport = s.transport ∧
    (creditTrain k credit s).banks = s.banks ∧ (creditTrain k credit s).claimLead = s.claimLead ∧ (creditTrain k
    credit s).wash = s.wash ∧ (creditTrain k credit s).drying = s.drying ∧ (creditTrain k credit s).shuttle =
    s.shuttle ∧ (creditTrain k credit s).chamber = s.chamber ∧ (creditTrain k credit s).link = s.link ∧
    (creditTrain k credit s).safety = s.safety ∧ (creditTrain k credit s).cal = s.cal ∧ (creditTrain k credit
    s).tracker.train = s.tracker.train ∧ (creditTrain k credit s).tracker.strayPending = s.tracker.strayPending := 
  ⟨by unfold creditTrain; exact foldl_keeps (fun t : State => t.pending) _ (fun t a => by simp) _ _,
   by unfold creditTrain; exact foldl_keeps (fun t : State => t.freeCount) _ (fun t a => by simp) _ _,
   by unfold creditTrain; exact foldl_keeps (fun t : State => t.now) _ (fun t a => by simp) _ _,
   by unfold creditTrain; exact foldl_keeps (fun t : State => t.pins) _ (fun t a => by simp) _ _,
   by unfold creditTrain; exact foldl_keeps (fun t : State => t.bus) _ (fun t a => by simp) _ _,
   by unfold creditTrain; exact foldl_keeps (fun t : State => t.intake) _ (fun t a => by simp) _ _,
   by unfold creditTrain; exact foldl_keeps (fun t : State => t.supervisor) _ (fun t a => by simp) _ _,
   by unfold creditTrain; exact foldl_keeps (fun t : State => t.admission) _ (fun t a => by simp) _ _,
   by unfold creditTrain; exact foldl_keeps (fun t : State => t.transport) _ (fun t a => by simp) _ _,
   by unfold creditTrain; exact foldl_keeps (fun t : State => t.banks) _ (fun t a => by simp) _ _,
   by unfold creditTrain; exact foldl_keeps (fun t : State => t.claimLead) _ (fun t a => by simp) _ _,
   by unfold creditTrain; exact foldl_keeps (fun t : State => t.wash) _ (fun t a => by simp) _ _,
   by unfold creditTrain; exact foldl_keeps (fun t : State => t.drying) _ (fun t a => by simp) _ _,
   by unfold creditTrain; exact foldl_keeps (fun t : State => t.shuttle) _ (fun t a => by simp) _ _,
   by unfold creditTrain; exact foldl_keeps (fun t : State => t.chamber) _ (fun t a => by simp) _ _,
   by unfold creditTrain; exact foldl_keeps (fun t : State => t.link) _ (fun t a => by simp) _ _,
   by unfold creditTrain; exact foldl_keeps (fun t : State => t.safety) _ (fun t a => by simp) _ _,
   by unfold creditTrain; exact foldl_keeps (fun t : State => t.cal) _ (fun t a => by simp) _ _,
   by unfold creditTrain; exact foldl_keeps (fun t : State => t.tracker.train) _ (fun t a => by simp) _ _,
   by unfold creditTrain; exact foldl_keeps (fun t : State => t.tracker.strayPending) _ (fun t a => by simp) _ _⟩

@[simp] theorem showStation_frame (p : PlateId) (st : StationKind) (v : Verdict) (lo hi : Nat) (s : State) :
    (showStation p st v lo hi s).pending = s.pending ∧ (showStation p st v lo hi s).freeCount = s.freeCount ∧
    (showStation p st v lo hi s).now = s.now ∧ (showStation p st v lo hi s).pins = s.pins ∧ (showStation p st v
    lo hi s).intake = s.intake ∧ (showStation p st v lo hi s).supervisor = s.supervisor ∧ (showStation p st v lo
    hi s).admission = s.admission ∧ (showStation p st v lo hi s).tracker = s.tracker ∧ (showStation p st v lo hi
    s).transport = s.transport ∧ (showStation p st v lo hi s).banks = s.banks ∧ (showStation p st v lo hi
    s).claimLead = s.claimLead ∧ (showStation p st v lo hi s).wash = s.wash ∧ (showStation p st v lo hi
    s).drying = s.drying ∧ (showStation p st v lo hi s).shuttle = s.shuttle ∧ (showStation p st v lo hi
    s).chamber = s.chamber ∧ (showStation p st v lo hi s).link = s.link ∧ (showStation p st v lo hi s).safety =
    s.safety ∧ (showStation p st v lo hi s).cal = s.cal ∧ (showStation p st v lo hi s).bus.capture =
    s.bus.capture ∧ (showStation p st v lo hi s).bus.hold = s.bus.hold ∧ (showStation p st v lo hi
    s).bus.dataOut = s.bus.dataOut ∧ (showStation p st v lo hi s).bus.resetSource = s.bus.resetSource ∧
    (showStation p st v lo hi s).bus.protect = s.bus.protect ∧ (showStation p st v lo hi s).bus.latched =
    s.bus.latched ∧ (showStation p st v lo hi s).bus.mask = s.bus.mask ∧ (showStation p st v lo hi s).bus.attn =
    s.bus.attn ∧ (showStation p st v lo hi s).bus.holdOff = s.bus.holdOff ∧ (showStation p st v lo hi
    s).bus.interval = s.bus.interval ∧ (showStation p st v lo hi s).bus.hbTimeout = s.bus.hbTimeout ∧
    (showStation p st v lo hi s).bus.hbTimer = s.bus.hbTimer := by
  and_intros <;> (unfold showStation; (repeat' split) <;> simp)

@[simp] theorem closeStation_frame (p : PlateId) (st : StationKind) (verdict : Plate → Verdict) (s : State) :
    (closeStation p st verdict s).pending = s.pending ∧ (closeStation p st verdict s).freeCount = s.freeCount ∧
    (closeStation p st verdict s).now = s.now ∧ (closeStation p st verdict s).pins = s.pins ∧ (closeStation p st
    verdict s).intake = s.intake ∧ (closeStation p st verdict s).supervisor = s.supervisor ∧ (closeStation p st
    verdict s).admission = s.admission ∧ (closeStation p st verdict s).transport = s.transport ∧ (closeStation p
    st verdict s).banks = s.banks ∧ (closeStation p st verdict s).claimLead = s.claimLead ∧ (closeStation p st
    verdict s).wash = s.wash ∧ (closeStation p st verdict s).drying = s.drying ∧ (closeStation p st verdict
    s).shuttle = s.shuttle ∧ (closeStation p st verdict s).chamber = s.chamber ∧ (closeStation p st verdict
    s).link = s.link ∧ (closeStation p st verdict s).safety = s.safety ∧ (closeStation p st verdict s).cal =
    s.cal ∧ (closeStation p st verdict s).bus.capture = s.bus.capture ∧ (closeStation p st verdict s).bus.hold =
    s.bus.hold ∧ (closeStation p st verdict s).bus.dataOut = s.bus.dataOut ∧ (closeStation p st verdict
    s).bus.resetSource = s.bus.resetSource ∧ (closeStation p st verdict s).bus.protect = s.bus.protect ∧
    (closeStation p st verdict s).bus.latched = s.bus.latched ∧ (closeStation p st verdict s).bus.mask =
    s.bus.mask ∧ (closeStation p st verdict s).bus.attn = s.bus.attn ∧ (closeStation p st verdict s).bus.holdOff
    = s.bus.holdOff ∧ (closeStation p st verdict s).bus.interval = s.bus.interval ∧ (closeStation p st verdict
    s).bus.hbTimeout = s.bus.hbTimeout ∧ (closeStation p st verdict s).bus.hbTimer = s.bus.hbTimer ∧
    (closeStation p st verdict s).tracker.train = s.tracker.train ∧ (closeStation p st verdict
    s).tracker.strayPending = s.tracker.strayPending := by
  and_intros <;> (unfold closeStation; (repeat' split) <;> simp)

@[simp] theorem closeNormally_frame (p : PlateId) (st : StationKind) (s : State) :
    (closeNormally p st s).pending = s.pending ∧ (closeNormally p st s).freeCount = s.freeCount ∧ (closeNormally
    p st s).now = s.now ∧ (closeNormally p st s).pins = s.pins ∧ (closeNormally p st s).intake = s.intake ∧
    (closeNormally p st s).supervisor = s.supervisor ∧ (closeNormally p st s).admission = s.admission ∧
    (closeNormally p st s).transport = s.transport ∧ (closeNormally p st s).banks = s.banks ∧ (closeNormally p
    st s).claimLead = s.claimLead ∧ (closeNormally p st s).wash = s.wash ∧ (closeNormally p st s).drying =
    s.drying ∧ (closeNormally p st s).shuttle = s.shuttle ∧ (closeNormally p st s).chamber = s.chamber ∧
    (closeNormally p st s).link = s.link ∧ (closeNormally p st s).safety = s.safety ∧ (closeNormally p st s).cal
    = s.cal ∧ (closeNormally p st s).bus.capture = s.bus.capture ∧ (closeNormally p st s).bus.hold = s.bus.hold
    ∧ (closeNormally p st s).bus.dataOut = s.bus.dataOut ∧ (closeNormally p st s).bus.resetSource =
    s.bus.resetSource ∧ (closeNormally p st s).bus.protect = s.bus.protect ∧ (closeNormally p st s).bus.latched
    = s.bus.latched ∧ (closeNormally p st s).bus.mask = s.bus.mask ∧ (closeNormally p st s).bus.attn =
    s.bus.attn ∧ (closeNormally p st s).bus.holdOff = s.bus.holdOff ∧ (closeNormally p st s).bus.interval =
    s.bus.interval ∧ (closeNormally p st s).bus.hbTimeout = s.bus.hbTimeout ∧ (closeNormally p st s).bus.hbTimer
    = s.bus.hbTimer ∧ (closeNormally p st s).tracker.train = s.tracker.train ∧ (closeNormally p st
    s).tracker.strayPending = s.tracker.strayPending := by
  and_intros <;> (simp [closeNormally])

@[simp] theorem closeIncomplete_frame (p : PlateId) (st : StationKind) (s : State) :
    (closeIncomplete p st s).pending = s.pending ∧ (closeIncomplete p st s).freeCount = s.freeCount ∧
    (closeIncomplete p st s).now = s.now ∧ (closeIncomplete p st s).pins = s.pins ∧ (closeIncomplete p st
    s).intake = s.intake ∧ (closeIncomplete p st s).supervisor = s.supervisor ∧ (closeIncomplete p st
    s).admission = s.admission ∧ (closeIncomplete p st s).transport = s.transport ∧ (closeIncomplete p st
    s).banks = s.banks ∧ (closeIncomplete p st s).claimLead = s.claimLead ∧ (closeIncomplete p st s).wash =
    s.wash ∧ (closeIncomplete p st s).drying = s.drying ∧ (closeIncomplete p st s).shuttle = s.shuttle ∧
    (closeIncomplete p st s).chamber = s.chamber ∧ (closeIncomplete p st s).link = s.link ∧ (closeIncomplete p
    st s).safety = s.safety ∧ (closeIncomplete p st s).cal = s.cal ∧ (closeIncomplete p st s).bus.capture =
    s.bus.capture ∧ (closeIncomplete p st s).bus.hold = s.bus.hold ∧ (closeIncomplete p st s).bus.dataOut =
    s.bus.dataOut ∧ (closeIncomplete p st s).bus.resetSource = s.bus.resetSource ∧ (closeIncomplete p st
    s).bus.protect = s.bus.protect ∧ (closeIncomplete p st s).bus.latched = s.bus.latched ∧ (closeIncomplete p
    st s).bus.mask = s.bus.mask ∧ (closeIncomplete p st s).bus.attn = s.bus.attn ∧ (closeIncomplete p st
    s).bus.holdOff = s.bus.holdOff ∧ (closeIncomplete p st s).bus.interval = s.bus.interval ∧ (closeIncomplete p
    st s).bus.hbTimeout = s.bus.hbTimeout ∧ (closeIncomplete p st s).bus.hbTimer = s.bus.hbTimer ∧
    (closeIncomplete p st s).tracker.train = s.tracker.train ∧ (closeIncomplete p st s).tracker.strayPending =
    s.tracker.strayPending := by
  and_intros <;> (simp [closeIncomplete])

@[simp] theorem closeTest_frame (p : PlateId) (st : StationKind) (s : State) :
    (closeTest p st s).pending = s.pending ∧ (closeTest p st s).freeCount = s.freeCount ∧ (closeTest p st s).now
    = s.now ∧ (closeTest p st s).pins = s.pins ∧ (closeTest p st s).intake = s.intake ∧ (closeTest p st
    s).supervisor = s.supervisor ∧ (closeTest p st s).admission = s.admission ∧ (closeTest p st s).transport =
    s.transport ∧ (closeTest p st s).banks = s.banks ∧ (closeTest p st s).claimLead = s.claimLead ∧ (closeTest p
    st s).wash = s.wash ∧ (closeTest p st s).drying = s.drying ∧ (closeTest p st s).shuttle = s.shuttle ∧
    (closeTest p st s).chamber = s.chamber ∧ (closeTest p st s).link = s.link ∧ (closeTest p st s).safety =
    s.safety ∧ (closeTest p st s).cal = s.cal ∧ (closeTest p st s).bus.capture = s.bus.capture ∧ (closeTest p st
    s).bus.hold = s.bus.hold ∧ (closeTest p st s).bus.dataOut = s.bus.dataOut ∧ (closeTest p st
    s).bus.resetSource = s.bus.resetSource ∧ (closeTest p st s).bus.protect = s.bus.protect ∧ (closeTest p st
    s).bus.latched = s.bus.latched ∧ (closeTest p st s).bus.mask = s.bus.mask ∧ (closeTest p st s).bus.attn =
    s.bus.attn ∧ (closeTest p st s).bus.holdOff = s.bus.holdOff ∧ (closeTest p st s).bus.interval =
    s.bus.interval ∧ (closeTest p st s).bus.hbTimeout = s.bus.hbTimeout ∧ (closeTest p st s).bus.hbTimer =
    s.bus.hbTimer ∧ (closeTest p st s).tracker.train = s.tracker.train ∧ (closeTest p st s).tracker.strayPending
    = s.tracker.strayPending := by
  and_intros <;> (unfold closeTest; (repeat' split) <;> simp)

@[simp] theorem closeTests_frame (s : State) :
    (closeTests s).pending = s.pending ∧ (closeTests s).freeCount = s.freeCount ∧ (closeTests s).now = s.now ∧
    (closeTests s).pins = s.pins ∧ (closeTests s).intake = s.intake ∧ (closeTests s).supervisor = s.supervisor ∧
    (closeTests s).admission = s.admission ∧ (closeTests s).transport = s.transport ∧ (closeTests s).banks =
    s.banks ∧ (closeTests s).claimLead = s.claimLead ∧ (closeTests s).wash = s.wash ∧ (closeTests s).drying =
    s.drying ∧ (closeTests s).shuttle = s.shuttle ∧ (closeTests s).chamber = s.chamber ∧ (closeTests s).link =
    s.link ∧ (closeTests s).safety = s.safety ∧ (closeTests s).cal = s.cal ∧ (closeTests s).bus.capture =
    s.bus.capture ∧ (closeTests s).bus.hold = s.bus.hold ∧ (closeTests s).bus.dataOut = s.bus.dataOut ∧
    (closeTests s).bus.resetSource = s.bus.resetSource ∧ (closeTests s).bus.protect = s.bus.protect ∧
    (closeTests s).bus.latched = s.bus.latched ∧ (closeTests s).bus.mask = s.bus.mask ∧ (closeTests s).bus.attn
    = s.bus.attn ∧ (closeTests s).bus.holdOff = s.bus.holdOff ∧ (closeTests s).bus.interval = s.bus.interval ∧
    (closeTests s).bus.hbTimeout = s.bus.hbTimeout ∧ (closeTests s).bus.hbTimer = s.bus.hbTimer ∧ (closeTests
    s).tracker.train = s.tracker.train ∧ (closeTests s).tracker.strayPending = s.tracker.strayPending := 
  ⟨by unfold closeTests; exact foldl_keeps (fun t : State => t.pending) _ (fun t a => by simp) _ _,
   by unfold closeTests; exact foldl_keeps (fun t : State => t.freeCount) _ (fun t a => by simp) _ _,
   by unfold closeTests; exact foldl_keeps (fun t : State => t.now) _ (fun t a => by simp) _ _,
   by unfold closeTests; exact foldl_keeps (fun t : State => t.pins) _ (fun t a => by simp) _ _,
   by unfold closeTests; exact foldl_keeps (fun t : State => t.intake) _ (fun t a => by simp) _ _,
   by unfold closeTests; exact foldl_keeps (fun t : State => t.supervisor) _ (fun t a => by simp) _ _,
   by unfold closeTests; exact foldl_keeps (fun t : State => t.admission) _ (fun t a => by simp) _ _,
   by unfold closeTests; exact foldl_keeps (fun t : State => t.transport) _ (fun t a => by simp) _ _,
   by unfold closeTests; exact foldl_keeps (fun t : State => t.banks) _ (fun t a => by simp) _ _,
   by unfold closeTests; exact foldl_keeps (fun t : State => t.claimLead) _ (fun t a => by simp) _ _,
   by unfold closeTests; exact foldl_keeps (fun t : State => t.wash) _ (fun t a => by simp) _ _,
   by unfold closeTests; exact foldl_keeps (fun t : State => t.drying) _ (fun t a => by simp) _ _,
   by unfold closeTests; exact foldl_keeps (fun t : State => t.shuttle) _ (fun t a => by simp) _ _,
   by unfold closeTests; exact foldl_keeps (fun t : State => t.chamber) _ (fun t a => by simp) _ _,
   by unfold closeTests; exact foldl_keeps (fun t : State => t.link) _ (fun t a => by simp) _ _,
   by unfold closeTests; exact foldl_keeps (fun t : State => t.safety) _ (fun t a => by simp) _ _,
   by unfold closeTests; exact foldl_keeps (fun t : State => t.cal) _ (fun t a => by simp) _ _,
   by unfold closeTests; exact foldl_keeps (fun t : State => t.bus.capture) _ (fun t a => by simp) _ _,
   by unfold closeTests; exact foldl_keeps (fun t : State => t.bus.hold) _ (fun t a => by simp) _ _,
   by unfold closeTests; exact foldl_keeps (fun t : State => t.bus.dataOut) _ (fun t a => by simp) _ _,
   by unfold closeTests; exact foldl_keeps (fun t : State => t.bus.resetSource) _ (fun t a => by simp) _ _,
   by unfold closeTests; exact foldl_keeps (fun t : State => t.bus.protect) _ (fun t a => by simp) _ _,
   by unfold closeTests; exact foldl_keeps (fun t : State => t.bus.latched) _ (fun t a => by simp) _ _,
   by unfold closeTests; exact foldl_keeps (fun t : State => t.bus.mask) _ (fun t a => by simp) _ _,
   by unfold closeTests; exact foldl_keeps (fun t : State => t.bus.attn) _ (fun t a => by simp) _ _,
   by unfold closeTests; exact foldl_keeps (fun t : State => t.bus.holdOff) _ (fun t a => by simp) _ _,
   by unfold closeTests; exact foldl_keeps (fun t : State => t.bus.interval) _ (fun t a => by simp) _ _,
   by unfold closeTests; exact foldl_keeps (fun t : State => t.bus.hbTimeout) _ (fun t a => by simp) _ _,
   by unfold closeTests; exact foldl_keeps (fun t : State => t.bus.hbTimer) _ (fun t a => by simp) _ _,
   by unfold closeTests; exact foldl_keeps (fun t : State => t.tracker.train) _ (fun t a => by simp) _ _,
   by unfold closeTests; exact foldl_keeps (fun t : State => t.tracker.strayPending) _ (fun t a => by simp) _ _⟩

/-- The close tests of a train of one plate: the back station, then the main one. -/
theorem closeTests_of_one {s : State} {p : PlateId} (h : s.tracker.train = [p]) :
    closeTests s = closeTest p .main (closeTest p .back s) := by
  simp [closeTests, h]

end Sys2Proof.Machine
end

