-- ==== Sys2Proof/Laws/FrameBelt.lean ====
section
/-! SUPPORT. What the operations of Machine/Belt.lean leave unchanged: one frame lemma for each, which
`simp` takes part by part. -/

namespace Sys2Proof.Machine

@[simp] theorem giveDemand_frame (d : Nat) (s : State) :
    (giveDemand d s).pending = s.pending ∧ (giveDemand d s).freeCount = s.freeCount ∧ (giveDemand d s).now =
    s.now ∧ (giveDemand d s).pins = s.pins ∧ (giveDemand d s).bus = s.bus ∧ (giveDemand d s).intake = s.intake ∧
    (giveDemand d s).supervisor = s.supervisor ∧ (giveDemand d s).admission = s.admission ∧ (giveDemand d
    s).tracker = s.tracker ∧ (giveDemand d s).banks = s.banks ∧ (giveDemand d s).claimLead = s.claimLead ∧
    (giveDemand d s).wash = s.wash ∧ (giveDemand d s).drying = s.drying ∧ (giveDemand d s).shuttle = s.shuttle ∧
    (giveDemand d s).chamber = s.chamber ∧ (giveDemand d s).link = s.link ∧ (giveDemand d s).safety = s.safety ∧
    (giveDemand d s).cal = s.cal := by
  and_intros <;> (unfold giveDemand; (try dsimp only); (repeat' split) <;> simp)

@[simp] theorem takeDriveReport_frame (ready fault : Bool) (s : State) :
    (takeDriveReport ready fault s).pending = s.pending ∧ (takeDriveReport ready fault s).freeCount =
    s.freeCount ∧ (takeDriveReport ready fault s).now = s.now ∧ (takeDriveReport ready fault s).pins = s.pins ∧
    (takeDriveReport ready fault s).bus = s.bus ∧ (takeDriveReport ready fault s).intake = s.intake ∧
    (takeDriveReport ready fault s).supervisor = s.supervisor ∧ (takeDriveReport ready fault s).admission =
    s.admission ∧ (takeDriveReport ready fault s).tracker = s.tracker ∧ (takeDriveReport ready fault s).banks =
    s.banks ∧ (takeDriveReport ready fault s).claimLead = s.claimLead ∧ (takeDriveReport ready fault s).wash =
    s.wash ∧ (takeDriveReport ready fault s).drying = s.drying ∧ (takeDriveReport ready fault s).shuttle =
    s.shuttle ∧ (takeDriveReport ready fault s).chamber = s.chamber ∧ (takeDriveReport ready fault s).link =
    s.link ∧ (takeDriveReport ready fault s).safety = s.safety ∧ (takeDriveReport ready fault s).cal = s.cal := by
  and_intros <;> (simp [takeDriveReport])

end Sys2Proof.Machine
end

