-- ==== Sys2Proof/Laws/FrameBanks.lean ====
section
/-! SUPPORT. What the operations of Machine/Banks.lean leave unchanged: one frame lemma for each, which
`simp` takes part by part; and its tests of a train of one plate. -/

namespace Sys2Proof.Machine

@[simp] theorem syncBanks_frame (s : State) :
    (syncBanks s).pending = s.pending ∧ (syncBanks s).freeCount = s.freeCount ∧ (syncBanks s).now = s.now ∧
    (syncBanks s).pins = s.pins ∧ (syncBanks s).bus = s.bus ∧ (syncBanks s).intake = s.intake ∧ (syncBanks
    s).supervisor = s.supervisor ∧ (syncBanks s).admission = s.admission ∧ (syncBanks s).tracker = s.tracker ∧
    (syncBanks s).transport = s.transport ∧ (syncBanks s).claimLead = s.claimLead ∧ (syncBanks s).wash = s.wash
    ∧ (syncBanks s).drying = s.drying ∧ (syncBanks s).shuttle = s.shuttle ∧ (syncBanks s).chamber = s.chamber ∧
    (syncBanks s).link = s.link ∧ (syncBanks s).safety = s.safety ∧ (syncBanks s).cal = s.cal := by
  and_intros <;> (simp [syncBanks])

@[simp] theorem forceBanks_frame (s : State) :
    (forceBanks s).pending = s.pending ∧ (forceBanks s).freeCount = s.freeCount ∧ (forceBanks s).now = s.now ∧
    (forceBanks s).pins = s.pins ∧ (forceBanks s).bus = s.bus ∧ (forceBanks s).intake = s.intake ∧ (forceBanks
    s).supervisor = s.supervisor ∧ (forceBanks s).admission = s.admission ∧ (forceBanks s).tracker = s.tracker ∧
    (forceBanks s).transport = s.transport ∧ (forceBanks s).claimLead = s.claimLead ∧ (forceBanks s).wash =
    s.wash ∧ (forceBanks s).drying = s.drying ∧ (forceBanks s).shuttle = s.shuttle ∧ (forceBanks s).chamber =
    s.chamber ∧ (forceBanks s).link = s.link ∧ (forceBanks s).safety = s.safety ∧ (forceBanks s).cal = s.cal := by
  and_intros <;> (simp [forceBanks])

@[simp] theorem claimTest_frame (p : PlateId) (s : State) :
    (claimTest p s).pending = s.pending ∧ (claimTest p s).freeCount = s.freeCount ∧ (claimTest p s).now = s.now
    ∧ (claimTest p s).pins = s.pins ∧ (claimTest p s).bus = s.bus ∧ (claimTest p s).intake = s.intake ∧
    (claimTest p s).supervisor = s.supervisor ∧ (claimTest p s).admission = s.admission ∧ (claimTest p
    s).tracker = s.tracker ∧ (claimTest p s).transport = s.transport ∧ (claimTest p s).claimLead = s.claimLead ∧
    (claimTest p s).wash = s.wash ∧ (claimTest p s).drying = s.drying ∧ (claimTest p s).shuttle = s.shuttle ∧
    (claimTest p s).chamber = s.chamber ∧ (claimTest p s).link = s.link ∧ (claimTest p s).safety = s.safety ∧
    (claimTest p s).cal = s.cal := by
  and_intros <;> (unfold claimTest; (try dsimp only); (repeat' split) <;> simp)

@[simp] theorem claimTests_frame (s : State) :
    (claimTests s).pending = s.pending ∧ (claimTests s).freeCount = s.freeCount ∧ (claimTests s).now = s.now ∧
    (claimTests s).pins = s.pins ∧ (claimTests s).bus = s.bus ∧ (claimTests s).intake = s.intake ∧ (claimTests
    s).supervisor = s.supervisor ∧ (claimTests s).admission = s.admission ∧ (claimTests s).tracker = s.tracker ∧
    (claimTests s).transport = s.transport ∧ (claimTests s).claimLead = s.claimLead ∧ (claimTests s).wash =
    s.wash ∧ (claimTests s).drying = s.drying ∧ (claimTests s).shuttle = s.shuttle ∧ (claimTests s).chamber =
    s.chamber ∧ (claimTests s).link = s.link ∧ (claimTests s).safety = s.safety ∧ (claimTests s).cal = s.cal := 
  ⟨by unfold claimTests; exact foldl_keeps (fun t : State => t.pending) _ (fun t a => by simp) _ _,
   by unfold claimTests; exact foldl_keeps (fun t : State => t.freeCount) _ (fun t a => by simp) _ _,
   by unfold claimTests; exact foldl_keeps (fun t : State => t.now) _ (fun t a => by simp) _ _,
   by unfold claimTests; exact foldl_keeps (fun t : State => t.pins) _ (fun t a => by simp) _ _,
   by unfold claimTests; exact foldl_keeps (fun t : State => t.bus) _ (fun t a => by simp) _ _,
   by unfold claimTests; exact foldl_keeps (fun t : State => t.intake) _ (fun t a => by simp) _ _,
   by unfold claimTests; exact foldl_keeps (fun t : State => t.supervisor) _ (fun t a => by simp) _ _,
   by unfold claimTests; exact foldl_keeps (fun t : State => t.admission) _ (fun t a => by simp) _ _,
   by unfold claimTests; exact foldl_keeps (fun t : State => t.tracker) _ (fun t a => by simp) _ _,
   by unfold claimTests; exact foldl_keeps (fun t : State => t.transport) _ (fun t a => by simp) _ _,
   by unfold claimTests; exact foldl_keeps (fun t : State => t.claimLead) _ (fun t a => by simp) _ _,
   by unfold claimTests; exact foldl_keeps (fun t : State => t.wash) _ (fun t a => by simp) _ _,
   by unfold claimTests; exact foldl_keeps (fun t : State => t.drying) _ (fun t a => by simp) _ _,
   by unfold claimTests; exact foldl_keeps (fun t : State => t.shuttle) _ (fun t a => by simp) _ _,
   by unfold claimTests; exact foldl_keeps (fun t : State => t.chamber) _ (fun t a => by simp) _ _,
   by unfold claimTests; exact foldl_keeps (fun t : State => t.link) _ (fun t a => by simp) _ _,
   by unfold claimTests; exact foldl_keeps (fun t : State => t.safety) _ (fun t a => by simp) _ _,
   by unfold claimTests; exact foldl_keeps (fun t : State => t.cal) _ (fun t a => by simp) _ _⟩

@[simp] theorem conversion_frame (k : Bank) (raw : Nat) (s : State) :
    (conversion k raw s).pending = s.pending ∧ (conversion k raw s).freeCount = s.freeCount ∧ (conversion k raw
    s).now = s.now ∧ (conversion k raw s).pins = s.pins ∧ (conversion k raw s).intake = s.intake ∧ (conversion k
    raw s).supervisor = s.supervisor ∧ (conversion k raw s).admission = s.admission ∧ (conversion k raw
    s).transport = s.transport ∧ (conversion k raw s).claimLead = s.claimLead ∧ (conversion k raw s).wash =
    s.wash ∧ (conversion k raw s).drying = s.drying ∧ (conversion k raw s).shuttle = s.shuttle ∧ (conversion k
    raw s).chamber = s.chamber ∧ (conversion k raw s).link = s.link ∧ (conversion k raw s).safety = s.safety ∧
    (conversion k raw s).cal = s.cal ∧ (conversion k raw s).bus.ram = s.bus.ram ∧ (conversion k raw
    s).bus.capture = s.bus.capture ∧ (conversion k raw s).bus.hold = s.bus.hold ∧ (conversion k raw
    s).bus.dataOut = s.bus.dataOut ∧ (conversion k raw s).bus.resetSource = s.bus.resetSource ∧ (conversion k
    raw s).bus.protect = s.bus.protect ∧ (conversion k raw s).bus.mask = s.bus.mask ∧ (conversion k raw
    s).bus.interval = s.bus.interval ∧ (conversion k raw s).bus.hbTimeout = s.bus.hbTimeout ∧ (conversion k raw
    s).bus.hbTimer = s.bus.hbTimer ∧ (conversion k raw s).tracker.train = s.tracker.train ∧ (conversion k raw
    s).tracker.strayPending = s.tracker.strayPending := by
  and_intros <;> (simp [conversion])

/-- The claim tests of a train of one plate. -/
theorem claimTests_of_one {s : State} {p : PlateId} (h : s.tracker.train = [p]) : claimTests s = claimTest p s := by
  simp [claimTests, h]

end Sys2Proof.Machine
end

