-- ==== Sys2Proof/Laws/FrameSolvent.lean ====
section
/-! SUPPORT. What the operations of Machine/Solvent.lean leave unchanged: one frame lemma for each, which
`simp` takes part by part; and its tests of a train of one plate. -/

namespace Sys2Proof.Machine

@[simp] theorem orderOrPend_frame (s : State) :
    (orderOrPend s).pending = s.pending ∧ (orderOrPend s).freeCount = s.freeCount ∧ (orderOrPend s).now = s.now
    ∧ (orderOrPend s).pins = s.pins ∧ (orderOrPend s).intake = s.intake ∧ (orderOrPend s).supervisor =
    s.supervisor ∧ (orderOrPend s).admission = s.admission ∧ (orderOrPend s).tracker = s.tracker ∧ (orderOrPend
    s).transport = s.transport ∧ (orderOrPend s).banks = s.banks ∧ (orderOrPend s).claimLead = s.claimLead ∧
    (orderOrPend s).drying = s.drying ∧ (orderOrPend s).shuttle = s.shuttle ∧ (orderOrPend s).chamber =
    s.chamber ∧ (orderOrPend s).safety = s.safety ∧ (orderOrPend s).cal = s.cal ∧ (orderOrPend s).bus.ram =
    s.bus.ram ∧ (orderOrPend s).bus.capture = s.bus.capture ∧ (orderOrPend s).bus.hold = s.bus.hold ∧
    (orderOrPend s).bus.dataOut = s.bus.dataOut ∧ (orderOrPend s).bus.resetSource = s.bus.resetSource ∧
    (orderOrPend s).bus.protect = s.bus.protect ∧ (orderOrPend s).bus.mask = s.bus.mask ∧ (orderOrPend
    s).bus.interval = s.bus.interval ∧ (orderOrPend s).bus.hbTimeout = s.bus.hbTimeout ∧ (orderOrPend
    s).bus.hbTimer = s.bus.hbTimer ∧ (orderOrPend s).link.mode = s.link.mode ∧ (orderOrPend s).link.phase =
    s.link.phase ∧ (orderOrPend s).link.lastNode = s.link.lastNode ∧ (orderOrPend s).link.assign = s.link.assign
    ∧ (orderOrPend s).wash.load = s.wash.load ∧ (orderOrPend s).wash.hold = s.wash.hold := by
  and_intros <;> (unfold orderOrPend; (try dsimp only); (repeat' split) <;> simp)

@[simp] theorem openCycle_frame (s : State) :
    (openCycle s).pending = s.pending ∧ (openCycle s).freeCount = s.freeCount ∧ (openCycle s).now = s.now ∧
    (openCycle s).pins = s.pins ∧ (openCycle s).intake = s.intake ∧ (openCycle s).supervisor = s.supervisor ∧
    (openCycle s).admission = s.admission ∧ (openCycle s).tracker = s.tracker ∧ (openCycle s).transport =
    s.transport ∧ (openCycle s).banks = s.banks ∧ (openCycle s).claimLead = s.claimLead ∧ (openCycle s).drying =
    s.drying ∧ (openCycle s).shuttle = s.shuttle ∧ (openCycle s).chamber = s.chamber ∧ (openCycle s).safety =
    s.safety ∧ (openCycle s).cal = s.cal ∧ (openCycle s).bus.ram = s.bus.ram ∧ (openCycle s).bus.capture =
    s.bus.capture ∧ (openCycle s).bus.hold = s.bus.hold ∧ (openCycle s).bus.dataOut = s.bus.dataOut ∧ (openCycle
    s).bus.resetSource = s.bus.resetSource ∧ (openCycle s).bus.protect = s.bus.protect ∧ (openCycle s).bus.mask
    = s.bus.mask ∧ (openCycle s).bus.interval = s.bus.interval ∧ (openCycle s).bus.hbTimeout = s.bus.hbTimeout ∧
    (openCycle s).bus.hbTimer = s.bus.hbTimer ∧ (openCycle s).link.mode = s.link.mode ∧ (openCycle s).link.phase
    = s.link.phase ∧ (openCycle s).link.lastNode = s.link.lastNode ∧ (openCycle s).link.assign = s.link.assign ∧
    (openCycle s).wash.load = s.wash.load ∧ (openCycle s).wash.hold = s.wash.hold := by
  and_intros <;> (unfold openCycle; (repeat' split) <;> simp)

@[simp] theorem closeCycle_frame (s : State) :
    (closeCycle s).pending = s.pending ∧ (closeCycle s).freeCount = s.freeCount ∧ (closeCycle s).now = s.now ∧
    (closeCycle s).pins = s.pins ∧ (closeCycle s).bus = s.bus ∧ (closeCycle s).intake = s.intake ∧ (closeCycle
    s).supervisor = s.supervisor ∧ (closeCycle s).admission = s.admission ∧ (closeCycle s).tracker = s.tracker ∧
    (closeCycle s).transport = s.transport ∧ (closeCycle s).banks = s.banks ∧ (closeCycle s).claimLead =
    s.claimLead ∧ (closeCycle s).drying = s.drying ∧ (closeCycle s).shuttle = s.shuttle ∧ (closeCycle s).chamber
    = s.chamber ∧ (closeCycle s).link = s.link ∧ (closeCycle s).safety = s.safety ∧ (closeCycle s).cal = s.cal ∧
    (closeCycle s).wash.load = s.wash.load ∧ (closeCycle s).wash.hold = s.wash.hold := by
  and_intros <;> (unfold closeCycle; (try dsimp only); (repeat' split) <;> simp)

@[simp] theorem evalSolventHold_frame (s : State) :
    (evalSolventHold s).pending = s.pending ∧ (evalSolventHold s).freeCount = s.freeCount ∧ (evalSolventHold
    s).now = s.now ∧ (evalSolventHold s).pins = s.pins ∧ (evalSolventHold s).intake = s.intake ∧
    (evalSolventHold s).supervisor = s.supervisor ∧ (evalSolventHold s).admission = s.admission ∧
    (evalSolventHold s).tracker = s.tracker ∧ (evalSolventHold s).transport = s.transport ∧ (evalSolventHold
    s).banks = s.banks ∧ (evalSolventHold s).claimLead = s.claimLead ∧ (evalSolventHold s).drying = s.drying ∧
    (evalSolventHold s).shuttle = s.shuttle ∧ (evalSolventHold s).chamber = s.chamber ∧ (evalSolventHold s).link
    = s.link ∧ (evalSolventHold s).safety = s.safety ∧ (evalSolventHold s).cal = s.cal ∧ (evalSolventHold
    s).bus.ram = s.bus.ram ∧ (evalSolventHold s).bus.capture = s.bus.capture ∧ (evalSolventHold s).bus.hold =
    s.bus.hold ∧ (evalSolventHold s).bus.dataOut = s.bus.dataOut ∧ (evalSolventHold s).bus.resetSource =
    s.bus.resetSource ∧ (evalSolventHold s).bus.protect = s.bus.protect ∧ (evalSolventHold s).bus.mask =
    s.bus.mask ∧ (evalSolventHold s).bus.interval = s.bus.interval ∧ (evalSolventHold s).bus.hbTimeout =
    s.bus.hbTimeout ∧ (evalSolventHold s).bus.hbTimer = s.bus.hbTimer ∧ (evalSolventHold s).wash.load =
    s.wash.load ∧ (evalSolventHold s).wash.replenish = s.wash.replenish := by
  and_intros <;> (simp [evalSolventHold])

@[simp] theorem changeLoad_frame (load : Nat) (s : State) :
    (changeLoad load s).pending = s.pending ∧ (changeLoad load s).freeCount = s.freeCount ∧ (changeLoad load
    s).now = s.now ∧ (changeLoad load s).pins = s.pins ∧ (changeLoad load s).intake = s.intake ∧ (changeLoad
    load s).supervisor = s.supervisor ∧ (changeLoad load s).admission = s.admission ∧ (changeLoad load
    s).tracker = s.tracker ∧ (changeLoad load s).transport = s.transport ∧ (changeLoad load s).banks = s.banks ∧
    (changeLoad load s).claimLead = s.claimLead ∧ (changeLoad load s).drying = s.drying ∧ (changeLoad load
    s).shuttle = s.shuttle ∧ (changeLoad load s).chamber = s.chamber ∧ (changeLoad load s).safety = s.safety ∧
    (changeLoad load s).cal = s.cal ∧ (changeLoad load s).bus.ram = s.bus.ram ∧ (changeLoad load s).bus.capture
    = s.bus.capture ∧ (changeLoad load s).bus.hold = s.bus.hold ∧ (changeLoad load s).bus.dataOut =
    s.bus.dataOut ∧ (changeLoad load s).bus.resetSource = s.bus.resetSource ∧ (changeLoad load s).bus.protect =
    s.bus.protect ∧ (changeLoad load s).bus.mask = s.bus.mask ∧ (changeLoad load s).bus.interval =
    s.bus.interval ∧ (changeLoad load s).bus.hbTimeout = s.bus.hbTimeout ∧ (changeLoad load s).bus.hbTimer =
    s.bus.hbTimer ∧ (changeLoad load s).link.mode = s.link.mode ∧ (changeLoad load s).link.phase = s.link.phase
    ∧ (changeLoad load s).link.lastNode = s.link.lastNode ∧ (changeLoad load s).link.assign = s.link.assign := by
  and_intros <;> (simp [changeLoad])

@[simp] theorem orderIfWaiting_frame (s : State) :
    (orderIfWaiting s).pending = s.pending ∧ (orderIfWaiting s).freeCount = s.freeCount ∧ (orderIfWaiting s).now =
    s.now ∧ (orderIfWaiting s).pins = s.pins ∧ (orderIfWaiting s).intake = s.intake ∧ (orderIfWaiting s).supervisor =
    s.supervisor ∧ (orderIfWaiting s).admission = s.admission ∧ (orderIfWaiting s).tracker = s.tracker ∧
    (orderIfWaiting s).transport = s.transport ∧ (orderIfWaiting s).banks = s.banks ∧ (orderIfWaiting s).claimLead =
    s.claimLead ∧ (orderIfWaiting s).drying = s.drying ∧ (orderIfWaiting s).shuttle = s.shuttle ∧ (orderIfWaiting
    s).chamber = s.chamber ∧ (orderIfWaiting s).safety = s.safety ∧ (orderIfWaiting s).cal = s.cal ∧ (orderIfWaiting
    s).bus.ram = s.bus.ram ∧ (orderIfWaiting s).bus.capture = s.bus.capture ∧ (orderIfWaiting s).bus.hold =
    s.bus.hold ∧ (orderIfWaiting s).bus.dataOut = s.bus.dataOut ∧ (orderIfWaiting s).bus.resetSource =
    s.bus.resetSource ∧ (orderIfWaiting s).bus.protect = s.bus.protect ∧ (orderIfWaiting s).bus.mask = s.bus.mask ∧
    (orderIfWaiting s).bus.interval = s.bus.interval ∧ (orderIfWaiting s).bus.hbTimeout = s.bus.hbTimeout ∧
    (orderIfWaiting s).bus.hbTimer = s.bus.hbTimer ∧ (orderIfWaiting s).link.mode = s.link.mode ∧ (orderIfWaiting
    s).link.phase = s.link.phase ∧ (orderIfWaiting s).link.lastNode = s.link.lastNode ∧ (orderIfWaiting
    s).link.assign = s.link.assign ∧ (orderIfWaiting s).wash.load = s.wash.load ∧ (orderIfWaiting s).wash.hold =
    s.wash.hold := by
  and_intros <;> (unfold orderIfWaiting; (repeat' split) <;> simp)

@[simp] theorem completeReplenish_frame (s : State) :
    (completeReplenish s).pending = s.pending ∧ (completeReplenish s).freeCount = s.freeCount ∧
    (completeReplenish s).now = s.now ∧ (completeReplenish s).pins = s.pins ∧ (completeReplenish s).intake =
    s.intake ∧ (completeReplenish s).supervisor = s.supervisor ∧ (completeReplenish s).admission = s.admission ∧
    (completeReplenish s).tracker = s.tracker ∧ (completeReplenish s).transport = s.transport ∧
    (completeReplenish s).banks = s.banks ∧ (completeReplenish s).claimLead = s.claimLead ∧ (completeReplenish
    s).drying = s.drying ∧ (completeReplenish s).shuttle = s.shuttle ∧ (completeReplenish s).chamber = s.chamber
    ∧ (completeReplenish s).safety = s.safety ∧ (completeReplenish s).cal = s.cal ∧ (completeReplenish
    s).bus.ram = s.bus.ram ∧ (completeReplenish s).bus.capture = s.bus.capture ∧ (completeReplenish s).bus.hold
    = s.bus.hold ∧ (completeReplenish s).bus.dataOut = s.bus.dataOut ∧ (completeReplenish s).bus.resetSource =
    s.bus.resetSource ∧ (completeReplenish s).bus.protect = s.bus.protect ∧ (completeReplenish s).bus.mask =
    s.bus.mask ∧ (completeReplenish s).bus.interval = s.bus.interval ∧ (completeReplenish s).bus.hbTimeout =
    s.bus.hbTimeout ∧ (completeReplenish s).bus.hbTimer = s.bus.hbTimer ∧ (completeReplenish s).link.mode =
    s.link.mode ∧ (completeReplenish s).link.phase = s.link.phase ∧ (completeReplenish s).link.lastNode =
    s.link.lastNode ∧ (completeReplenish s).link.assign = s.link.assign := by
  and_intros <;> (unfold completeReplenish; (try dsimp only); (repeat' split) <;> simp)

@[simp] theorem failReplenish_frame (s : State) :
    (failReplenish s).pending = s.pending ∧ (failReplenish s).freeCount = s.freeCount ∧ (failReplenish s).now =
    s.now ∧ (failReplenish s).pins = s.pins ∧ (failReplenish s).bus = s.bus ∧ (failReplenish s).intake =
    s.intake ∧ (failReplenish s).supervisor = s.supervisor ∧ (failReplenish s).admission = s.admission ∧
    (failReplenish s).tracker = s.tracker ∧ (failReplenish s).transport = s.transport ∧ (failReplenish s).banks
    = s.banks ∧ (failReplenish s).claimLead = s.claimLead ∧ (failReplenish s).drying = s.drying ∧ (failReplenish
    s).shuttle = s.shuttle ∧ (failReplenish s).chamber = s.chamber ∧ (failReplenish s).link = s.link ∧
    (failReplenish s).safety = s.safety ∧ (failReplenish s).cal = s.cal ∧ (failReplenish s).wash.load =
    s.wash.load ∧ (failReplenish s).wash.hold = s.wash.hold := by
  and_intros <;> (simp [failReplenish])

@[simp] theorem cancelReplenish_frame (s : State) :
    (cancelReplenish s).pending = s.pending ∧ (cancelReplenish s).freeCount = s.freeCount ∧ (cancelReplenish
    s).now = s.now ∧ (cancelReplenish s).pins = s.pins ∧ (cancelReplenish s).bus = s.bus ∧ (cancelReplenish
    s).intake = s.intake ∧ (cancelReplenish s).supervisor = s.supervisor ∧ (cancelReplenish s).admission =
    s.admission ∧ (cancelReplenish s).tracker = s.tracker ∧ (cancelReplenish s).transport = s.transport ∧
    (cancelReplenish s).banks = s.banks ∧ (cancelReplenish s).claimLead = s.claimLead ∧ (cancelReplenish
    s).drying = s.drying ∧ (cancelReplenish s).shuttle = s.shuttle ∧ (cancelReplenish s).chamber = s.chamber ∧
    (cancelReplenish s).link = s.link ∧ (cancelReplenish s).safety = s.safety ∧ (cancelReplenish s).cal = s.cal
    ∧ (cancelReplenish s).wash.load = s.wash.load ∧ (cancelReplenish s).wash.hold = s.wash.hold := by
  and_intros <;> (unfold cancelReplenish; (try dsimp only); (repeat' split) <;> simp)

@[simp] theorem takeWashReport_frame (ready fault : Bool) (result : OrderResult) (d : Vector Byte 6) (s : State) :
    (takeWashReport ready fault result d s).pending = s.pending ∧ (takeWashReport ready fault result d
    s).freeCount = s.freeCount ∧ (takeWashReport ready fault result d s).now = s.now ∧ (takeWashReport ready
    fault result d s).pins = s.pins ∧ (takeWashReport ready fault result d s).intake = s.intake ∧
    (takeWashReport ready fault result d s).supervisor = s.supervisor ∧ (takeWashReport ready fault result d
    s).admission = s.admission ∧ (takeWashReport ready fault result d s).tracker = s.tracker ∧ (takeWashReport
    ready fault result d s).transport = s.transport ∧ (takeWashReport ready fault result d s).banks = s.banks ∧
    (takeWashReport ready fault result d s).claimLead = s.claimLead ∧ (takeWashReport ready fault result d
    s).drying = s.drying ∧ (takeWashReport ready fault result d s).shuttle = s.shuttle ∧ (takeWashReport ready
    fault result d s).chamber = s.chamber ∧ (takeWashReport ready fault result d s).safety = s.safety ∧
    (takeWashReport ready fault result d s).cal = s.cal ∧ (takeWashReport ready fault result d s).bus.ram =
    s.bus.ram ∧ (takeWashReport ready fault result d s).bus.capture = s.bus.capture ∧ (takeWashReport ready
    fault result d s).bus.hold = s.bus.hold ∧ (takeWashReport ready fault result d s).bus.dataOut =
    s.bus.dataOut ∧ (takeWashReport ready fault result d s).bus.resetSource = s.bus.resetSource ∧
    (takeWashReport ready fault result d s).bus.protect = s.bus.protect ∧ (takeWashReport ready fault result d
    s).bus.mask = s.bus.mask ∧ (takeWashReport ready fault result d s).bus.interval = s.bus.interval ∧
    (takeWashReport ready fault result d s).bus.hbTimeout = s.bus.hbTimeout ∧ (takeWashReport ready fault result
    d s).bus.hbTimer = s.bus.hbTimer ∧ (takeWashReport ready fault result d s).link.mode = s.link.mode ∧
    (takeWashReport ready fault result d s).link.phase = s.link.phase ∧ (takeWashReport ready fault result d
    s).link.lastNode = s.link.lastNode ∧ (takeWashReport ready fault result d s).link.assign = s.link.assign := by
  and_intros <;> (unfold takeWashReport; (try dsimp only); (repeat' split) <;> simp)

@[simp] theorem leaveWash_frame (p : PlateId) (s : State) :
    (leaveWash p s).pending = s.pending ∧ (leaveWash p s).freeCount = s.freeCount ∧ (leaveWash p s).now = s.now
    ∧ (leaveWash p s).pins = s.pins ∧ (leaveWash p s).intake = s.intake ∧ (leaveWash p s).supervisor =
    s.supervisor ∧ (leaveWash p s).admission = s.admission ∧ (leaveWash p s).transport = s.transport ∧
    (leaveWash p s).banks = s.banks ∧ (leaveWash p s).claimLead = s.claimLead ∧ (leaveWash p s).drying =
    s.drying ∧ (leaveWash p s).shuttle = s.shuttle ∧ (leaveWash p s).chamber = s.chamber ∧ (leaveWash p
    s).safety = s.safety ∧ (leaveWash p s).cal = s.cal ∧ (leaveWash p s).bus.capture = s.bus.capture ∧
    (leaveWash p s).bus.hold = s.bus.hold ∧ (leaveWash p s).bus.dataOut = s.bus.dataOut ∧ (leaveWash p
    s).bus.resetSource = s.bus.resetSource ∧ (leaveWash p s).bus.protect = s.bus.protect ∧ (leaveWash p
    s).bus.mask = s.bus.mask ∧ (leaveWash p s).bus.interval = s.bus.interval ∧ (leaveWash p s).bus.hbTimeout =
    s.bus.hbTimeout ∧ (leaveWash p s).bus.hbTimer = s.bus.hbTimer ∧ (leaveWash p s).tracker.train =
    s.tracker.train ∧ (leaveWash p s).tracker.strayPending = s.tracker.strayPending ∧ (leaveWash p s).link.mode
    = s.link.mode ∧ (leaveWash p s).link.phase = s.link.phase ∧ (leaveWash p s).link.lastNode = s.link.lastNode
    ∧ (leaveWash p s).link.assign = s.link.assign := by
  and_intros <;> (unfold leaveWash; (try dsimp only); (repeat' split) <;> simp)

@[simp] theorem enterWash_frame (p : PlateId) (head : Nat) (s : State) :
    (enterWash p head s).pending = s.pending ∧ (enterWash p head s).freeCount = s.freeCount ∧ (enterWash p head
    s).now = s.now ∧ (enterWash p head s).pins = s.pins ∧ (enterWash p head s).bus = s.bus ∧ (enterWash p head
    s).intake = s.intake ∧ (enterWash p head s).supervisor = s.supervisor ∧ (enterWash p head s).admission =
    s.admission ∧ (enterWash p head s).transport = s.transport ∧ (enterWash p head s).banks = s.banks ∧
    (enterWash p head s).claimLead = s.claimLead ∧ (enterWash p head s).wash = s.wash ∧ (enterWash p head
    s).drying = s.drying ∧ (enterWash p head s).shuttle = s.shuttle ∧ (enterWash p head s).chamber = s.chamber ∧
    (enterWash p head s).link = s.link ∧ (enterWash p head s).safety = s.safety ∧ (enterWash p head s).cal =
    s.cal ∧ (enterWash p head s).tracker.train = s.tracker.train ∧ (enterWash p head s).tracker.strayPending =
    s.tracker.strayPending := by
  and_intros <;> (simp [enterWash])

@[simp] theorem washTest_frame (p : PlateId) (s : State) :
    (washTest p s).pending = s.pending ∧ (washTest p s).freeCount = s.freeCount ∧ (washTest p s).now = s.now ∧
    (washTest p s).pins = s.pins ∧ (washTest p s).intake = s.intake ∧ (washTest p s).supervisor = s.supervisor ∧
    (washTest p s).admission = s.admission ∧ (washTest p s).transport = s.transport ∧ (washTest p s).banks =
    s.banks ∧ (washTest p s).claimLead = s.claimLead ∧ (washTest p s).drying = s.drying ∧ (washTest p s).shuttle
    = s.shuttle ∧ (washTest p s).chamber = s.chamber ∧ (washTest p s).safety = s.safety ∧ (washTest p s).cal =
    s.cal ∧ (washTest p s).bus.capture = s.bus.capture ∧ (washTest p s).bus.hold = s.bus.hold ∧ (washTest p
    s).bus.dataOut = s.bus.dataOut ∧ (washTest p s).bus.resetSource = s.bus.resetSource ∧ (washTest p
    s).bus.protect = s.bus.protect ∧ (washTest p s).bus.mask = s.bus.mask ∧ (washTest p s).bus.interval =
    s.bus.interval ∧ (washTest p s).bus.hbTimeout = s.bus.hbTimeout ∧ (washTest p s).bus.hbTimer = s.bus.hbTimer
    ∧ (washTest p s).tracker.train = s.tracker.train ∧ (washTest p s).tracker.strayPending =
    s.tracker.strayPending ∧ (washTest p s).link.mode = s.link.mode ∧ (washTest p s).link.phase = s.link.phase ∧
    (washTest p s).link.lastNode = s.link.lastNode ∧ (washTest p s).link.assign = s.link.assign := by
  and_intros <;> (unfold washTest; (try dsimp only); (repeat' split) <;> simp)

@[simp] theorem washTests_frame (s : State) :
    (washTests s).pending = s.pending ∧ (washTests s).freeCount = s.freeCount ∧ (washTests s).now = s.now ∧
    (washTests s).pins = s.pins ∧ (washTests s).intake = s.intake ∧ (washTests s).supervisor = s.supervisor ∧
    (washTests s).admission = s.admission ∧ (washTests s).transport = s.transport ∧ (washTests s).banks =
    s.banks ∧ (washTests s).claimLead = s.claimLead ∧ (washTests s).drying = s.drying ∧ (washTests s).shuttle =
    s.shuttle ∧ (washTests s).chamber = s.chamber ∧ (washTests s).safety = s.safety ∧ (washTests s).cal = s.cal
    ∧ (washTests s).bus.capture = s.bus.capture ∧ (washTests s).bus.hold = s.bus.hold ∧ (washTests
    s).bus.dataOut = s.bus.dataOut ∧ (washTests s).bus.resetSource = s.bus.resetSource ∧ (washTests
    s).bus.protect = s.bus.protect ∧ (washTests s).bus.mask = s.bus.mask ∧ (washTests s).bus.interval =
    s.bus.interval ∧ (washTests s).bus.hbTimeout = s.bus.hbTimeout ∧ (washTests s).bus.hbTimer = s.bus.hbTimer ∧
    (washTests s).tracker.train = s.tracker.train ∧ (washTests s).tracker.strayPending = s.tracker.strayPending
    ∧ (washTests s).link.mode = s.link.mode ∧ (washTests s).link.phase = s.link.phase ∧ (washTests
    s).link.lastNode = s.link.lastNode ∧ (washTests s).link.assign = s.link.assign := 
  ⟨by unfold washTests; exact foldl_keeps (fun t : State => t.pending) _ (fun t a => by simp) _ _,
   by unfold washTests; exact foldl_keeps (fun t : State => t.freeCount) _ (fun t a => by simp) _ _,
   by unfold washTests; exact foldl_keeps (fun t : State => t.now) _ (fun t a => by simp) _ _,
   by unfold washTests; exact foldl_keeps (fun t : State => t.pins) _ (fun t a => by simp) _ _,
   by unfold washTests; exact foldl_keeps (fun t : State => t.intake) _ (fun t a => by simp) _ _,
   by unfold washTests; exact foldl_keeps (fun t : State => t.supervisor) _ (fun t a => by simp) _ _,
   by unfold washTests; exact foldl_keeps (fun t : State => t.admission) _ (fun t a => by simp) _ _,
   by unfold washTests; exact foldl_keeps (fun t : State => t.transport) _ (fun t a => by simp) _ _,
   by unfold washTests; exact foldl_keeps (fun t : State => t.banks) _ (fun t a => by simp) _ _,
   by unfold washTests; exact foldl_keeps (fun t : State => t.claimLead) _ (fun t a => by simp) _ _,
   by unfold washTests; exact foldl_keeps (fun t : State => t.drying) _ (fun t a => by simp) _ _,
   by unfold washTests; exact foldl_keeps (fun t : State => t.shuttle) _ (fun t a => by simp) _ _,
   by unfold washTests; exact foldl_keeps (fun t : State => t.chamber) _ (fun t a => by simp) _ _,
   by unfold washTests; exact foldl_keeps (fun t : State => t.safety) _ (fun t a => by simp) _ _,
   by unfold washTests; exact foldl_keeps (fun t : State => t.cal) _ (fun t a => by simp) _ _,
   by unfold washTests; exact foldl_keeps (fun t : State => t.bus.capture) _ (fun t a => by simp) _ _,
   by unfold washTests; exact foldl_keeps (fun t : State => t.bus.hold) _ (fun t a => by simp) _ _,
   by unfold washTests; exact foldl_keeps (fun t : State => t.bus.dataOut) _ (fun t a => by simp) _ _,
   by unfold washTests; exact foldl_keeps (fun t : State => t.bus.resetSource) _ (fun t a => by simp) _ _,
   by unfold washTests; exact foldl_keeps (fun t : State => t.bus.protect) _ (fun t a => by simp) _ _,
   by unfold washTests; exact foldl_keeps (fun t : State => t.bus.mask) _ (fun t a => by simp) _ _,
   by unfold washTests; exact foldl_keeps (fun t : State => t.bus.interval) _ (fun t a => by simp) _ _,
   by unfold washTests; exact foldl_keeps (fun t : State => t.bus.hbTimeout) _ (fun t a => by simp) _ _,
   by unfold washTests; exact foldl_keeps (fun t : State => t.bus.hbTimer) _ (fun t a => by simp) _ _,
   by unfold washTests; exact foldl_keeps (fun t : State => t.tracker.train) _ (fun t a => by simp) _ _,
   by unfold washTests; exact foldl_keeps (fun t : State => t.tracker.strayPending) _ (fun t a => by simp) _ _,
   by unfold washTests; exact foldl_keeps (fun t : State => t.link.mode) _ (fun t a => by simp) _ _,
   by unfold washTests; exact foldl_keeps (fun t : State => t.link.phase) _ (fun t a => by simp) _ _,
   by unfold washTests; exact foldl_keeps (fun t : State => t.link.lastNode) _ (fun t a => by simp) _ _,
   by unfold washTests; exact foldl_keeps (fun t : State => t.link.assign) _ (fun t a => by simp) _ _⟩

/-- All that `orderIfWaiting` can do. -/
theorem orderIfWaiting_cases (s : State) :
    (cycleWaits s = true ∧ canReplenish s = true ∧
      orderIfWaiting s = orderOrPend { s with wash.retry := none }) ∨
    ((cycleWaits s = false ∨ canReplenish s = false) ∧ orderIfWaiting s = s) := by
  unfold orderIfWaiting
  cases cycleWaits s <;> cases canReplenish s <;> simp

/-- The wash tests of a train of one plate. -/
theorem washTests_of_one {s : State} {p : PlateId} (h : s.tracker.train = [p]) : washTests s = washTest p s := by
  simp [washTests, h]

end Sys2Proof.Machine
end

