-- ==== Sys2Proof/Laws/FramePlates.lean ====
section
/-! SUPPORT. What the operations of Machine/Plates.lean leave unchanged: one frame lemma for each, which
`simp` takes part by part. -/

namespace Sys2Proof.Machine

@[simp] theorem giveBackPlace_frame (s : State) :
    (giveBackPlace s).pending = s.pending ∧ (giveBackPlace s).freeCount = s.freeCount ∧ (giveBackPlace s).now =
    s.now ∧ (giveBackPlace s).pins = s.pins ∧ (giveBackPlace s).bus = s.bus ∧ (giveBackPlace s).intake =
    s.intake ∧ (giveBackPlace s).supervisor = s.supervisor ∧ (giveBackPlace s).tracker = s.tracker ∧
    (giveBackPlace s).transport = s.transport ∧ (giveBackPlace s).banks = s.banks ∧ (giveBackPlace s).claimLead
    = s.claimLead ∧ (giveBackPlace s).wash = s.wash ∧ (giveBackPlace s).drying = s.drying ∧ (giveBackPlace
    s).shuttle = s.shuttle ∧ (giveBackPlace s).chamber = s.chamber ∧ (giveBackPlace s).link = s.link ∧
    (giveBackPlace s).safety = s.safety ∧ (giveBackPlace s).cal = s.cal ∧ (giveBackPlace s).admission.queue =
    s.admission.queue ∧ (giveBackPlace s).admission.holdReason = s.admission.holdReason ∧ (giveBackPlace
    s).admission.epochNo = s.admission.epochNo ∧ (giveBackPlace s).admission.epochSpeed = s.admission.epochSpeed
    ∧ (giveBackPlace s).admission.epochCurrent = s.admission.epochCurrent ∧ (giveBackPlace
    s).admission.misfeedHold = s.admission.misfeedHold ∧ (giveBackPlace s).admission.gateOpen =
    s.admission.gateOpen ∧ (giveBackPlace s).admission.mark = s.admission.mark := by
  and_intros <;> (simp [giveBackPlace])

@[simp] theorem departTrain_frame (p : PlateId) (s : State) :
    (departTrain p s).pending = s.pending ∧ (departTrain p s).freeCount = s.freeCount ∧ (departTrain p s).now =
    s.now ∧ (departTrain p s).pins = s.pins ∧ (departTrain p s).intake = s.intake ∧ (departTrain p s).supervisor
    = s.supervisor ∧ (departTrain p s).admission = s.admission ∧ (departTrain p s).transport = s.transport ∧
    (departTrain p s).claimLead = s.claimLead ∧ (departTrain p s).drying = s.drying ∧ (departTrain p s).shuttle
    = s.shuttle ∧ (departTrain p s).chamber = s.chamber ∧ (departTrain p s).safety = s.safety ∧ (departTrain p
    s).cal = s.cal ∧ (departTrain p s).bus.capture = s.bus.capture ∧ (departTrain p s).bus.hold = s.bus.hold ∧
    (departTrain p s).bus.dataOut = s.bus.dataOut ∧ (departTrain p s).bus.resetSource = s.bus.resetSource ∧
    (departTrain p s).bus.protect = s.bus.protect ∧ (departTrain p s).bus.mask = s.bus.mask ∧ (departTrain p
    s).bus.interval = s.bus.interval ∧ (departTrain p s).bus.hbTimeout = s.bus.hbTimeout ∧ (departTrain p
    s).bus.hbTimer = s.bus.hbTimer ∧ (departTrain p s).tracker.strayPending = s.tracker.strayPending ∧
    (departTrain p s).link.mode = s.link.mode ∧ (departTrain p s).link.phase = s.link.phase ∧ (departTrain p
    s).link.lastNode = s.link.lastNode ∧ (departTrain p s).link.assign = s.link.assign := by
  and_intros <;> (simp [departTrain])

@[simp] theorem completeSlot_frame (p : PlateId) (d : Disposition) (s : State) :
    (completeSlot p d s).pending = s.pending ∧ (completeSlot p d s).freeCount = s.freeCount ∧ (completeSlot p d
    s).now = s.now ∧ (completeSlot p d s).pins = s.pins ∧ (completeSlot p d s).intake = s.intake ∧ (completeSlot
    p d s).supervisor = s.supervisor ∧ (completeSlot p d s).admission = s.admission ∧ (completeSlot p d
    s).transport = s.transport ∧ (completeSlot p d s).banks = s.banks ∧ (completeSlot p d s).claimLead =
    s.claimLead ∧ (completeSlot p d s).wash = s.wash ∧ (completeSlot p d s).drying = s.drying ∧ (completeSlot p
    d s).shuttle = s.shuttle ∧ (completeSlot p d s).chamber = s.chamber ∧ (completeSlot p d s).link = s.link ∧
    (completeSlot p d s).safety = s.safety ∧ (completeSlot p d s).cal = s.cal ∧ (completeSlot p d s).bus.capture
    = s.bus.capture ∧ (completeSlot p d s).bus.hold = s.bus.hold ∧ (completeSlot p d s).bus.dataOut =
    s.bus.dataOut ∧ (completeSlot p d s).bus.resetSource = s.bus.resetSource ∧ (completeSlot p d s).bus.protect
    = s.bus.protect ∧ (completeSlot p d s).bus.mask = s.bus.mask ∧ (completeSlot p d s).bus.interval =
    s.bus.interval ∧ (completeSlot p d s).bus.hbTimeout = s.bus.hbTimeout ∧ (completeSlot p d s).bus.hbTimer =
    s.bus.hbTimer ∧ (completeSlot p d s).tracker.train = s.tracker.train ∧ (completeSlot p d
    s).tracker.strayPending = s.tracker.strayPending := by
  and_intros <;> (simp [completeSlot])

@[simp] theorem endPlate_frame (p : PlateId) (spoiled : Bool) (s : State) :
    (endPlate p spoiled s).pending = s.pending ∧ (endPlate p spoiled s).freeCount = s.freeCount ∧ (endPlate p
    spoiled s).now = s.now ∧ (endPlate p spoiled s).pins = s.pins ∧ (endPlate p spoiled s).intake = s.intake ∧
    (endPlate p spoiled s).supervisor = s.supervisor ∧ (endPlate p spoiled s).admission = s.admission ∧
    (endPlate p spoiled s).transport = s.transport ∧ (endPlate p spoiled s).banks = s.banks ∧ (endPlate p
    spoiled s).claimLead = s.claimLead ∧ (endPlate p spoiled s).wash = s.wash ∧ (endPlate p spoiled s).drying =
    s.drying ∧ (endPlate p spoiled s).shuttle = s.shuttle ∧ (endPlate p spoiled s).chamber = s.chamber ∧
    (endPlate p spoiled s).link = s.link ∧ (endPlate p spoiled s).safety = s.safety ∧ (endPlate p spoiled s).cal
    = s.cal ∧ (endPlate p spoiled s).bus.capture = s.bus.capture ∧ (endPlate p spoiled s).bus.hold = s.bus.hold
    ∧ (endPlate p spoiled s).bus.dataOut = s.bus.dataOut ∧ (endPlate p spoiled s).bus.resetSource =
    s.bus.resetSource ∧ (endPlate p spoiled s).bus.protect = s.bus.protect ∧ (endPlate p spoiled s).bus.mask =
    s.bus.mask ∧ (endPlate p spoiled s).bus.interval = s.bus.interval ∧ (endPlate p spoiled s).bus.hbTimeout =
    s.bus.hbTimeout ∧ (endPlate p spoiled s).bus.hbTimer = s.bus.hbTimer ∧ (endPlate p spoiled s).tracker.train
    = s.tracker.train ∧ (endPlate p spoiled s).tracker.strayPending = s.tracker.strayPending := by
  and_intros <;> (unfold endPlate; (try dsimp only); (repeat' split) <;> simp)

@[simp] theorem spoilFromTrain_frame (p : PlateId) (s : State) :
    (spoilFromTrain p s).pending = s.pending ∧ (spoilFromTrain p s).freeCount = s.freeCount ∧ (spoilFromTrain p
    s).now = s.now ∧ (spoilFromTrain p s).pins = s.pins ∧ (spoilFromTrain p s).intake = s.intake ∧
    (spoilFromTrain p s).supervisor = s.supervisor ∧ (spoilFromTrain p s).transport = s.transport ∧
    (spoilFromTrain p s).claimLead = s.claimLead ∧ (spoilFromTrain p s).drying = s.drying ∧ (spoilFromTrain p
    s).shuttle = s.shuttle ∧ (spoilFromTrain p s).chamber = s.chamber ∧ (spoilFromTrain p s).safety = s.safety ∧
    (spoilFromTrain p s).cal = s.cal ∧ (spoilFromTrain p s).bus.capture = s.bus.capture ∧ (spoilFromTrain p
    s).bus.hold = s.bus.hold ∧ (spoilFromTrain p s).bus.dataOut = s.bus.dataOut ∧ (spoilFromTrain p
    s).bus.resetSource = s.bus.resetSource ∧ (spoilFromTrain p s).bus.protect = s.bus.protect ∧ (spoilFromTrain
    p s).bus.mask = s.bus.mask ∧ (spoilFromTrain p s).bus.interval = s.bus.interval ∧ (spoilFromTrain p
    s).bus.hbTimeout = s.bus.hbTimeout ∧ (spoilFromTrain p s).bus.hbTimer = s.bus.hbTimer ∧ (spoilFromTrain p
    s).admission.queue = s.admission.queue ∧ (spoilFromTrain p s).admission.holdReason = s.admission.holdReason
    ∧ (spoilFromTrain p s).admission.epochNo = s.admission.epochNo ∧ (spoilFromTrain p s).admission.epochSpeed =
    s.admission.epochSpeed ∧ (spoilFromTrain p s).admission.epochCurrent = s.admission.epochCurrent ∧
    (spoilFromTrain p s).admission.misfeedHold = s.admission.misfeedHold ∧ (spoilFromTrain p
    s).admission.gateOpen = s.admission.gateOpen ∧ (spoilFromTrain p s).admission.mark = s.admission.mark ∧
    (spoilFromTrain p s).tracker.strayPending = s.tracker.strayPending ∧ (spoilFromTrain p s).link.mode =
    s.link.mode ∧ (spoilFromTrain p s).link.phase = s.link.phase ∧ (spoilFromTrain p s).link.lastNode =
    s.link.lastNode ∧ (spoilFromTrain p s).link.assign = s.link.assign := by
  and_intros <;> (simp [spoilFromTrain])

end Sys2Proof.Machine
end

