-- ==== Sys2Proof/Laws/FrameHandling.lean ====
section
/-! SUPPORT. What the operations of Machine/Handling.lean leave unchanged: one frame lemma for each, which
`simp` takes part by part. -/

namespace Sys2Proof.Machine

@[simp] theorem finishPlate_frame (p : PlateId) (uva uvc : Nat) (v : Verdict) (s : State) :
    (finishPlate p uva uvc v s).pending = s.pending ∧ (finishPlate p uva uvc v s).freeCount = s.freeCount ∧
    (finishPlate p uva uvc v s).now = s.now ∧ (finishPlate p uva uvc v s).pins = s.pins ∧ (finishPlate p uva uvc
    v s).intake = s.intake ∧ (finishPlate p uva uvc v s).supervisor = s.supervisor ∧ (finishPlate p uva uvc v
    s).admission = s.admission ∧ (finishPlate p uva uvc v s).transport = s.transport ∧ (finishPlate p uva uvc v
    s).banks = s.banks ∧ (finishPlate p uva uvc v s).claimLead = s.claimLead ∧ (finishPlate p uva uvc v s).wash
    = s.wash ∧ (finishPlate p uva uvc v s).drying = s.drying ∧ (finishPlate p uva uvc v s).shuttle = s.shuttle ∧
    (finishPlate p uva uvc v s).chamber = s.chamber ∧ (finishPlate p uva uvc v s).link = s.link ∧ (finishPlate p
    uva uvc v s).safety = s.safety ∧ (finishPlate p uva uvc v s).cal = s.cal ∧ (finishPlate p uva uvc v
    s).bus.capture = s.bus.capture ∧ (finishPlate p uva uvc v s).bus.hold = s.bus.hold ∧ (finishPlate p uva uvc
    v s).bus.dataOut = s.bus.dataOut ∧ (finishPlate p uva uvc v s).bus.resetSource = s.bus.resetSource ∧
    (finishPlate p uva uvc v s).bus.protect = s.bus.protect ∧ (finishPlate p uva uvc v s).bus.latched =
    s.bus.latched ∧ (finishPlate p uva uvc v s).bus.mask = s.bus.mask ∧ (finishPlate p uva uvc v s).bus.attn =
    s.bus.attn ∧ (finishPlate p uva uvc v s).bus.holdOff = s.bus.holdOff ∧ (finishPlate p uva uvc v
    s).bus.interval = s.bus.interval ∧ (finishPlate p uva uvc v s).bus.hbTimeout = s.bus.hbTimeout ∧
    (finishPlate p uva uvc v s).bus.hbTimer = s.bus.hbTimer ∧ (finishPlate p uva uvc v s).tracker.train =
    s.tracker.train ∧ (finishPlate p uva uvc v s).tracker.strayPending = s.tracker.strayPending := by
  and_intros <;> (simp [finishPlate])

@[simp] theorem finishOccupant_frame (o : Option (PlateId × Mark)) (uva uvc : Nat) (v : Verdict) (s : State) :
    (finishOccupant o uva uvc v s).pending = s.pending ∧ (finishOccupant o uva uvc v s).freeCount = s.freeCount
    ∧ (finishOccupant o uva uvc v s).now = s.now ∧ (finishOccupant o uva uvc v s).pins = s.pins ∧
    (finishOccupant o uva uvc v s).intake = s.intake ∧ (finishOccupant o uva uvc v s).supervisor = s.supervisor
    ∧ (finishOccupant o uva uvc v s).admission = s.admission ∧ (finishOccupant o uva uvc v s).transport =
    s.transport ∧ (finishOccupant o uva uvc v s).banks = s.banks ∧ (finishOccupant o uva uvc v s).claimLead =
    s.claimLead ∧ (finishOccupant o uva uvc v s).wash = s.wash ∧ (finishOccupant o uva uvc v s).drying =
    s.drying ∧ (finishOccupant o uva uvc v s).shuttle = s.shuttle ∧ (finishOccupant o uva uvc v s).chamber =
    s.chamber ∧ (finishOccupant o uva uvc v s).link = s.link ∧ (finishOccupant o uva uvc v s).safety = s.safety
    ∧ (finishOccupant o uva uvc v s).cal = s.cal ∧ (finishOccupant o uva uvc v s).bus.capture = s.bus.capture ∧
    (finishOccupant o uva uvc v s).bus.hold = s.bus.hold ∧ (finishOccupant o uva uvc v s).bus.dataOut =
    s.bus.dataOut ∧ (finishOccupant o uva uvc v s).bus.resetSource = s.bus.resetSource ∧ (finishOccupant o uva
    uvc v s).bus.protect = s.bus.protect ∧ (finishOccupant o uva uvc v s).bus.latched = s.bus.latched ∧
    (finishOccupant o uva uvc v s).bus.mask = s.bus.mask ∧ (finishOccupant o uva uvc v s).bus.attn = s.bus.attn
    ∧ (finishOccupant o uva uvc v s).bus.holdOff = s.bus.holdOff ∧ (finishOccupant o uva uvc v s).bus.interval =
    s.bus.interval ∧ (finishOccupant o uva uvc v s).bus.hbTimeout = s.bus.hbTimeout ∧ (finishOccupant o uva uvc
    v s).bus.hbTimer = s.bus.hbTimer ∧ (finishOccupant o uva uvc v s).tracker.train = s.tracker.train ∧
    (finishOccupant o uva uvc v s).tracker.strayPending = s.tracker.strayPending := by
  and_intros <;> (unfold finishOccupant; (repeat' split) <;> simp)

@[simp] theorem enterReady_frame (s : State) :
    (enterReady s).pending = s.pending ∧ (enterReady s).freeCount = s.freeCount ∧ (enterReady s).now = s.now ∧
    (enterReady s).pins = s.pins ∧ (enterReady s).bus = s.bus ∧ (enterReady s).intake = s.intake ∧ (enterReady
    s).supervisor = s.supervisor ∧ (enterReady s).admission = s.admission ∧ (enterReady s).tracker = s.tracker ∧
    (enterReady s).transport = s.transport ∧ (enterReady s).banks = s.banks ∧ (enterReady s).claimLead =
    s.claimLead ∧ (enterReady s).wash = s.wash ∧ (enterReady s).drying = s.drying ∧ (enterReady s).shuttle =
    s.shuttle ∧ (enterReady s).link = s.link ∧ (enterReady s).safety = s.safety ∧ (enterReady s).cal = s.cal := by
  and_intros <;> (simp [enterReady])

@[simp] theorem unloadNext_frame (s : State) :
    (unloadNext s).pending = s.pending ∧ (unloadNext s).freeCount = s.freeCount ∧ (unloadNext s).now = s.now ∧
    (unloadNext s).pins = s.pins ∧ (unloadNext s).bus = s.bus ∧ (unloadNext s).intake = s.intake ∧ (unloadNext
    s).supervisor = s.supervisor ∧ (unloadNext s).admission = s.admission ∧ (unloadNext s).tracker = s.tracker ∧
    (unloadNext s).transport = s.transport ∧ (unloadNext s).banks = s.banks ∧ (unloadNext s).claimLead =
    s.claimLead ∧ (unloadNext s).wash = s.wash ∧ (unloadNext s).drying = s.drying ∧ (unloadNext s).shuttle =
    s.shuttle ∧ (unloadNext s).link = s.link ∧ (unloadNext s).safety = s.safety ∧ (unloadNext s).cal = s.cal := by
  and_intros <;> (unfold unloadNext; (try dsimp only); (repeat' split) <;> simp)

@[simp] theorem endBatch_frame (v : Verdict) (s : State) :
    (endBatch v s).pending = s.pending ∧ (endBatch v s).freeCount = s.freeCount ∧ (endBatch v s).now = s.now ∧
    (endBatch v s).pins = s.pins ∧ (endBatch v s).intake = s.intake ∧ (endBatch v s).supervisor = s.supervisor ∧
    (endBatch v s).admission = s.admission ∧ (endBatch v s).transport = s.transport ∧ (endBatch v s).banks =
    s.banks ∧ (endBatch v s).claimLead = s.claimLead ∧ (endBatch v s).wash = s.wash ∧ (endBatch v s).drying =
    s.drying ∧ (endBatch v s).shuttle = s.shuttle ∧ (endBatch v s).link = s.link ∧ (endBatch v s).safety =
    s.safety ∧ (endBatch v s).cal = s.cal ∧ (endBatch v s).bus.capture = s.bus.capture ∧ (endBatch v s).bus.hold
    = s.bus.hold ∧ (endBatch v s).bus.dataOut = s.bus.dataOut ∧ (endBatch v s).bus.resetSource =
    s.bus.resetSource ∧ (endBatch v s).bus.protect = s.bus.protect ∧ (endBatch v s).bus.latched = s.bus.latched
    ∧ (endBatch v s).bus.mask = s.bus.mask ∧ (endBatch v s).bus.attn = s.bus.attn ∧ (endBatch v s).bus.holdOff =
    s.bus.holdOff ∧ (endBatch v s).bus.interval = s.bus.interval ∧ (endBatch v s).bus.hbTimeout =
    s.bus.hbTimeout ∧ (endBatch v s).bus.hbTimer = s.bus.hbTimer ∧ (endBatch v s).tracker.train =
    s.tracker.train ∧ (endBatch v s).tracker.strayPending = s.tracker.strayPending := by
  and_intros <;> (simp [endBatch])

@[simp] theorem enterExposing_frame (s : State) :
    (enterExposing s).pending = s.pending ∧ (enterExposing s).freeCount = s.freeCount ∧ (enterExposing s).now =
    s.now ∧ (enterExposing s).pins = s.pins ∧ (enterExposing s).intake = s.intake ∧ (enterExposing s).supervisor
    = s.supervisor ∧ (enterExposing s).admission = s.admission ∧ (enterExposing s).transport = s.transport ∧
    (enterExposing s).banks = s.banks ∧ (enterExposing s).claimLead = s.claimLead ∧ (enterExposing s).wash =
    s.wash ∧ (enterExposing s).drying = s.drying ∧ (enterExposing s).shuttle = s.shuttle ∧ (enterExposing
    s).link = s.link ∧ (enterExposing s).safety = s.safety ∧ (enterExposing s).cal = s.cal ∧ (enterExposing
    s).bus.capture = s.bus.capture ∧ (enterExposing s).bus.hold = s.bus.hold ∧ (enterExposing s).bus.dataOut =
    s.bus.dataOut ∧ (enterExposing s).bus.resetSource = s.bus.resetSource ∧ (enterExposing s).bus.protect =
    s.bus.protect ∧ (enterExposing s).bus.latched = s.bus.latched ∧ (enterExposing s).bus.mask = s.bus.mask ∧
    (enterExposing s).bus.attn = s.bus.attn ∧ (enterExposing s).bus.holdOff = s.bus.holdOff ∧ (enterExposing
    s).bus.interval = s.bus.interval ∧ (enterExposing s).bus.hbTimeout = s.bus.hbTimeout ∧ (enterExposing
    s).bus.hbTimer = s.bus.hbTimer ∧ (enterExposing s).tracker.train = s.tracker.train ∧ (enterExposing
    s).tracker.strayPending = s.tracker.strayPending := by
  and_intros <;> (unfold enterExposing; (try dsimp only); (repeat' split) <;> simp)

@[simp] theorem startExposure_frame (s : State) :
    (startExposure s).pending = s.pending ∧ (startExposure s).freeCount = s.freeCount ∧ (startExposure s).now =
    s.now ∧ (startExposure s).pins = s.pins ∧ (startExposure s).intake = s.intake ∧ (startExposure s).supervisor
    = s.supervisor ∧ (startExposure s).admission = s.admission ∧ (startExposure s).transport = s.transport ∧
    (startExposure s).banks = s.banks ∧ (startExposure s).claimLead = s.claimLead ∧ (startExposure s).wash =
    s.wash ∧ (startExposure s).drying = s.drying ∧ (startExposure s).shuttle = s.shuttle ∧ (startExposure
    s).link = s.link ∧ (startExposure s).safety = s.safety ∧ (startExposure s).cal = s.cal ∧ (startExposure
    s).bus.capture = s.bus.capture ∧ (startExposure s).bus.hold = s.bus.hold ∧ (startExposure s).bus.dataOut =
    s.bus.dataOut ∧ (startExposure s).bus.resetSource = s.bus.resetSource ∧ (startExposure s).bus.protect =
    s.bus.protect ∧ (startExposure s).bus.latched = s.bus.latched ∧ (startExposure s).bus.mask = s.bus.mask ∧
    (startExposure s).bus.attn = s.bus.attn ∧ (startExposure s).bus.holdOff = s.bus.holdOff ∧ (startExposure
    s).bus.interval = s.bus.interval ∧ (startExposure s).bus.hbTimeout = s.bus.hbTimeout ∧ (startExposure
    s).bus.hbTimer = s.bus.hbTimer ∧ (startExposure s).tracker.train = s.tracker.train ∧ (startExposure
    s).tracker.strayPending = s.tracker.strayPending := by
  and_intros <;> (unfold startExposure; (try dsimp only); (repeat' split) <;> simp)

@[simp] theorem suspendBatch_frame (s : State) :
    (suspendBatch s).pending = s.pending ∧ (suspendBatch s).freeCount = s.freeCount ∧ (suspendBatch s).now =
    s.now ∧ (suspendBatch s).pins = s.pins ∧ (suspendBatch s).bus = s.bus ∧ (suspendBatch s).intake = s.intake ∧
    (suspendBatch s).supervisor = s.supervisor ∧ (suspendBatch s).admission = s.admission ∧ (suspendBatch
    s).tracker = s.tracker ∧ (suspendBatch s).transport = s.transport ∧ (suspendBatch s).banks = s.banks ∧
    (suspendBatch s).claimLead = s.claimLead ∧ (suspendBatch s).wash = s.wash ∧ (suspendBatch s).drying =
    s.drying ∧ (suspendBatch s).shuttle = s.shuttle ∧ (suspendBatch s).link = s.link ∧ (suspendBatch s).safety =
    s.safety ∧ (suspendBatch s).cal = s.cal := by
  and_intros <;> (unfold suspendBatch; (try dsimp only); (repeat' split) <;> simp)

@[simp] theorem resumeBatch_frame (s : State) :
    (resumeBatch s).pending = s.pending ∧ (resumeBatch s).freeCount = s.freeCount ∧ (resumeBatch s).now = s.now
    ∧ (resumeBatch s).pins = s.pins ∧ (resumeBatch s).intake = s.intake ∧ (resumeBatch s).supervisor =
    s.supervisor ∧ (resumeBatch s).admission = s.admission ∧ (resumeBatch s).transport = s.transport ∧
    (resumeBatch s).banks = s.banks ∧ (resumeBatch s).claimLead = s.claimLead ∧ (resumeBatch s).wash = s.wash ∧
    (resumeBatch s).drying = s.drying ∧ (resumeBatch s).shuttle = s.shuttle ∧ (resumeBatch s).link = s.link ∧
    (resumeBatch s).safety = s.safety ∧ (resumeBatch s).cal = s.cal ∧ (resumeBatch s).bus.capture =
    s.bus.capture ∧ (resumeBatch s).bus.hold = s.bus.hold ∧ (resumeBatch s).bus.dataOut = s.bus.dataOut ∧
    (resumeBatch s).bus.resetSource = s.bus.resetSource ∧ (resumeBatch s).bus.protect = s.bus.protect ∧
    (resumeBatch s).bus.latched = s.bus.latched ∧ (resumeBatch s).bus.mask = s.bus.mask ∧ (resumeBatch
    s).bus.attn = s.bus.attn ∧ (resumeBatch s).bus.holdOff = s.bus.holdOff ∧ (resumeBatch s).bus.interval =
    s.bus.interval ∧ (resumeBatch s).bus.hbTimeout = s.bus.hbTimeout ∧ (resumeBatch s).bus.hbTimer =
    s.bus.hbTimer ∧ (resumeBatch s).tracker.train = s.tracker.train ∧ (resumeBatch s).tracker.strayPending =
    s.tracker.strayPending := by
  and_intros <;> (unfold resumeBatch; (repeat' split) <;> simp)

@[simp] theorem spoilOccupant_frame (o : Option (PlateId × Mark)) (uva uvc : Nat) (s : State) :
    (spoilOccupant o uva uvc s).pending = s.pending ∧ (spoilOccupant o uva uvc s).freeCount = s.freeCount ∧
    (spoilOccupant o uva uvc s).now = s.now ∧ (spoilOccupant o uva uvc s).pins = s.pins ∧ (spoilOccupant o uva
    uvc s).intake = s.intake ∧ (spoilOccupant o uva uvc s).supervisor = s.supervisor ∧ (spoilOccupant o uva uvc
    s).admission = s.admission ∧ (spoilOccupant o uva uvc s).transport = s.transport ∧ (spoilOccupant o uva uvc
    s).banks = s.banks ∧ (spoilOccupant o uva uvc s).claimLead = s.claimLead ∧ (spoilOccupant o uva uvc s).wash
    = s.wash ∧ (spoilOccupant o uva uvc s).drying = s.drying ∧ (spoilOccupant o uva uvc s).shuttle = s.shuttle ∧
    (spoilOccupant o uva uvc s).chamber = s.chamber ∧ (spoilOccupant o uva uvc s).link = s.link ∧ (spoilOccupant
    o uva uvc s).safety = s.safety ∧ (spoilOccupant o uva uvc s).cal = s.cal ∧ (spoilOccupant o uva uvc
    s).bus.capture = s.bus.capture ∧ (spoilOccupant o uva uvc s).bus.hold = s.bus.hold ∧ (spoilOccupant o uva
    uvc s).bus.dataOut = s.bus.dataOut ∧ (spoilOccupant o uva uvc s).bus.resetSource = s.bus.resetSource ∧
    (spoilOccupant o uva uvc s).bus.protect = s.bus.protect ∧ (spoilOccupant o uva uvc s).bus.latched =
    s.bus.latched ∧ (spoilOccupant o uva uvc s).bus.mask = s.bus.mask ∧ (spoilOccupant o uva uvc s).bus.attn =
    s.bus.attn ∧ (spoilOccupant o uva uvc s).bus.holdOff = s.bus.holdOff ∧ (spoilOccupant o uva uvc
    s).bus.interval = s.bus.interval ∧ (spoilOccupant o uva uvc s).bus.hbTimeout = s.bus.hbTimeout ∧
    (spoilOccupant o uva uvc s).bus.hbTimer = s.bus.hbTimer ∧ (spoilOccupant o uva uvc s).tracker.train =
    s.tracker.train ∧ (spoilOccupant o uva uvc s).tracker.strayPending = s.tracker.strayPending := by
  and_intros <;> (unfold spoilOccupant; (repeat' split) <;> simp)

@[simp] theorem chamberFault_frame (s : State) :
    (chamberFault s).pending = s.pending ∧ (chamberFault s).freeCount = s.freeCount ∧ (chamberFault s).now =
    s.now ∧ (chamberFault s).pins = s.pins ∧ (chamberFault s).intake = s.intake ∧ (chamberFault s).supervisor =
    s.supervisor ∧ (chamberFault s).admission = s.admission ∧ (chamberFault s).transport = s.transport ∧
    (chamberFault s).banks = s.banks ∧ (chamberFault s).claimLead = s.claimLead ∧ (chamberFault s).wash = s.wash
    ∧ (chamberFault s).drying = s.drying ∧ (chamberFault s).shuttle = s.shuttle ∧ (chamberFault s).link = s.link
    ∧ (chamberFault s).safety = s.safety ∧ (chamberFault s).cal = s.cal ∧ (chamberFault s).bus.capture =
    s.bus.capture ∧ (chamberFault s).bus.hold = s.bus.hold ∧ (chamberFault s).bus.dataOut = s.bus.dataOut ∧
    (chamberFault s).bus.resetSource = s.bus.resetSource ∧ (chamberFault s).bus.protect = s.bus.protect ∧
    (chamberFault s).bus.mask = s.bus.mask ∧ (chamberFault s).bus.interval = s.bus.interval ∧ (chamberFault
    s).bus.hbTimeout = s.bus.hbTimeout ∧ (chamberFault s).bus.hbTimer = s.bus.hbTimer ∧ (chamberFault
    s).tracker.train = s.tracker.train ∧ (chamberFault s).tracker.strayPending = s.tracker.strayPending := by
  and_intros <;> (simp [chamberFault])

@[simp] theorem putDrawerSlot_frame (d : Fin 6) (m : Fin 4) (p : Option PlateId) (s : State) :
    (putDrawerSlot d m p s).pending = s.pending ∧ (putDrawerSlot d m p s).freeCount = s.freeCount ∧
    (putDrawerSlot d m p s).now = s.now ∧ (putDrawerSlot d m p s).pins = s.pins ∧ (putDrawerSlot d m p s).bus =
    s.bus ∧ (putDrawerSlot d m p s).intake = s.intake ∧ (putDrawerSlot d m p s).supervisor = s.supervisor ∧
    (putDrawerSlot d m p s).admission = s.admission ∧ (putDrawerSlot d m p s).tracker = s.tracker ∧
    (putDrawerSlot d m p s).transport = s.transport ∧ (putDrawerSlot d m p s).banks = s.banks ∧ (putDrawerSlot d
    m p s).claimLead = s.claimLead ∧ (putDrawerSlot d m p s).wash = s.wash ∧ (putDrawerSlot d m p s).shuttle =
    s.shuttle ∧ (putDrawerSlot d m p s).chamber = s.chamber ∧ (putDrawerSlot d m p s).link = s.link ∧
    (putDrawerSlot d m p s).safety = s.safety ∧ (putDrawerSlot d m p s).cal = s.cal ∧ (putDrawerSlot d m p
    s).drying.rack = s.drying.rack ∧ (putDrawerSlot d m p s).drying.dryList = s.drying.dryList := by
  and_intros <;> (simp [putDrawerSlot])

@[simp] theorem board_frame (kind : MoveKind) (p : PlateId) (src dst : Place) (spoiled : Bool) (s : State) :
    (board kind p src dst spoiled s).pending = s.pending ∧ (board kind p src dst spoiled s).freeCount =
    s.freeCount ∧ (board kind p src dst spoiled s).now = s.now ∧ (board kind p src dst spoiled s).pins = s.pins
    ∧ (board kind p src dst spoiled s).intake = s.intake ∧ (board kind p src dst spoiled s).supervisor =
    s.supervisor ∧ (board kind p src dst spoiled s).admission = s.admission ∧ (board kind p src dst spoiled
    s).transport = s.transport ∧ (board kind p src dst spoiled s).banks = s.banks ∧ (board kind p src dst
    spoiled s).claimLead = s.claimLead ∧ (board kind p src dst spoiled s).wash = s.wash ∧ (board kind p src dst
    spoiled s).drying = s.drying ∧ (board kind p src dst spoiled s).chamber = s.chamber ∧ (board kind p src dst
    spoiled s).safety = s.safety ∧ (board kind p src dst spoiled s).cal = s.cal ∧ (board kind p src dst spoiled
    s).bus.capture = s.bus.capture ∧ (board kind p src dst spoiled s).bus.hold = s.bus.hold ∧ (board kind p src
    dst spoiled s).bus.dataOut = s.bus.dataOut ∧ (board kind p src dst spoiled s).bus.resetSource =
    s.bus.resetSource ∧ (board kind p src dst spoiled s).bus.protect = s.bus.protect ∧ (board kind p src dst
    spoiled s).bus.latched = s.bus.latched ∧ (board kind p src dst spoiled s).bus.mask = s.bus.mask ∧ (board
    kind p src dst spoiled s).bus.attn = s.bus.attn ∧ (board kind p src dst spoiled s).bus.holdOff =
    s.bus.holdOff ∧ (board kind p src dst spoiled s).bus.interval = s.bus.interval ∧ (board kind p src dst
    spoiled s).bus.hbTimeout = s.bus.hbTimeout ∧ (board kind p src dst spoiled s).bus.hbTimer = s.bus.hbTimer ∧
    (board kind p src dst spoiled s).tracker.train = s.tracker.train ∧ (board kind p src dst spoiled
    s).tracker.strayPending = s.tracker.strayPending ∧ (board kind p src dst spoiled s).link.mode = s.link.mode
    ∧ (board kind p src dst spoiled s).link.phase = s.link.phase ∧ (board kind p src dst spoiled
    s).link.lastNode = s.link.lastNode ∧ (board kind p src dst spoiled s).link.assign = s.link.assign := by
  and_intros <;> (simp [board])

@[simp] theorem loadGranted_frame (pos : ChamberPos) (p : PlateId) (s : State) :
    (loadGranted pos p s).pending = s.pending ∧ (loadGranted pos p s).freeCount = s.freeCount ∧ (loadGranted pos
    p s).now = s.now ∧ (loadGranted pos p s).pins = s.pins ∧ (loadGranted pos p s).bus = s.bus ∧ (loadGranted
    pos p s).intake = s.intake ∧ (loadGranted pos p s).supervisor = s.supervisor ∧ (loadGranted pos p
    s).admission = s.admission ∧ (loadGranted pos p s).tracker = s.tracker ∧ (loadGranted pos p s).transport =
    s.transport ∧ (loadGranted pos p s).banks = s.banks ∧ (loadGranted pos p s).claimLead = s.claimLead ∧
    (loadGranted pos p s).wash = s.wash ∧ (loadGranted pos p s).drying = s.drying ∧ (loadGranted pos p
    s).shuttle = s.shuttle ∧ (loadGranted pos p s).link = s.link ∧ (loadGranted pos p s).safety = s.safety ∧
    (loadGranted pos p s).cal = s.cal := by
  and_intros <;> (unfold loadGranted; (try dsimp only); (repeat' split) <;> simp)

@[simp] theorem takeFromDrawer_frame (p : PlateId) (r : Plate) (d : Fin 6) (m : Fin 4) (s : State) :
    (takeFromDrawer p r d m s).pending = s.pending ∧ (takeFromDrawer p r d m s).freeCount = s.freeCount ∧
    (takeFromDrawer p r d m s).now = s.now ∧ (takeFromDrawer p r d m s).pins = s.pins ∧ (takeFromDrawer p r d m
    s).intake = s.intake ∧ (takeFromDrawer p r d m s).supervisor = s.supervisor ∧ (takeFromDrawer p r d m
    s).transport = s.transport ∧ (takeFromDrawer p r d m s).banks = s.banks ∧ (takeFromDrawer p r d m
    s).claimLead = s.claimLead ∧ (takeFromDrawer p r d m s).wash = s.wash ∧ (takeFromDrawer p r d m s).shuttle =
    s.shuttle ∧ (takeFromDrawer p r d m s).chamber = s.chamber ∧ (takeFromDrawer p r d m s).link = s.link ∧
    (takeFromDrawer p r d m s).safety = s.safety ∧ (takeFromDrawer p r d m s).cal = s.cal ∧ (takeFromDrawer p r
    d m s).bus.capture = s.bus.capture ∧ (takeFromDrawer p r d m s).bus.hold = s.bus.hold ∧ (takeFromDrawer p r
    d m s).bus.dataOut = s.bus.dataOut ∧ (takeFromDrawer p r d m s).bus.resetSource = s.bus.resetSource ∧
    (takeFromDrawer p r d m s).bus.protect = s.bus.protect ∧ (takeFromDrawer p r d m s).bus.latched =
    s.bus.latched ∧ (takeFromDrawer p r d m s).bus.mask = s.bus.mask ∧ (takeFromDrawer p r d m s).bus.attn =
    s.bus.attn ∧ (takeFromDrawer p r d m s).bus.holdOff = s.bus.holdOff ∧ (takeFromDrawer p r d m
    s).bus.interval = s.bus.interval ∧ (takeFromDrawer p r d m s).bus.hbTimeout = s.bus.hbTimeout ∧
    (takeFromDrawer p r d m s).bus.hbTimer = s.bus.hbTimer ∧ (takeFromDrawer p r d m s).admission.queue =
    s.admission.queue ∧ (takeFromDrawer p r d m s).admission.holdReason = s.admission.holdReason ∧
    (takeFromDrawer p r d m s).admission.epochNo = s.admission.epochNo ∧ (takeFromDrawer p r d m
    s).admission.epochSpeed = s.admission.epochSpeed ∧ (takeFromDrawer p r d m s).admission.epochCurrent =
    s.admission.epochCurrent ∧ (takeFromDrawer p r d m s).admission.misfeedHold = s.admission.misfeedHold ∧
    (takeFromDrawer p r d m s).admission.gateOpen = s.admission.gateOpen ∧ (takeFromDrawer p r d m
    s).admission.mark = s.admission.mark ∧ (takeFromDrawer p r d m s).tracker.train = s.tracker.train ∧
    (takeFromDrawer p r d m s).tracker.strayPending = s.tracker.strayPending ∧ (takeFromDrawer p r d m
    s).drying.rack = s.drying.rack := by
  and_intros <;> (simp [takeFromDrawer])

theorem grantStore_some (s t : State) (h : grantStore s = some t) : ∃ p rest dm, t = board .store p .rack (.slot dm.1 dm.2) false { s with drying.rack := rest } ∧ s.drying.rack = .plate p :: rest ∧ storeDest s = some dm := by
  unfold grantStore at h
  split at h
  · simp only [Option.map_eq_some_iff] at h; obtain ⟨dm, h1, h2⟩ := h; rename_i p rest hr; exact ⟨p, rest, dm, h2.symm, hr, h1⟩
  · simp at h
  · simp at h
theorem grantUnload_some (s t : State) (h : grantUnload s = some t) : ∃ p pos sp, t = board .unload p (.chamber pos) .output sp { s with chamber := { clearPos pos s.chamber with ask := .none } } ∧ s.chamber.ask = .unload p pos sp ∧ s.shuttle.stackFull = false := by
  unfold grantUnload at h
  split at h
  · split at h
    · simp at h
    · rename_i hs; simp at h hs; exact ⟨_, _, _, h.symm, by assumption, hs⟩
  · simp at h
  · simp at h
theorem grantLoad_some (s t : State) (h : grantLoad s = some t) : ∃ pos cls p r d m, t = board .load p (.slot d m) (.chamber pos) false (loadGranted pos p (takeFromDrawer p r d m s)) ∧ s.chamber.ask = .load pos cls ∧ loadCandidate s cls = some p ∧ plateOf s p = some r ∧ r.drawerSlot = some (d, m) := by
  unfold grantLoad at h
  repeat' split at h
  all_goals simp at h
  exact ⟨_, _, _, _, _, _, h.symm, by assumption, by assumption, by assumption, by assumption⟩
theorem grant_keeps {α : Type} (f : State → α) (s : State)
    (hs : ∀ p rest (dm : Fin 6 × Fin 4), f (board .store p .rack (.slot dm.1 dm.2) false { s with drying.rack := rest }) = f s)
    (hu : ∀ p pos sp, f (board .unload p (.chamber pos) .output sp { s with chamber := { clearPos pos s.chamber with ask := .none } }) = f s)
    (hl : ∀ pos p r d m, f (board .load p (.slot d m) (.chamber pos) false (loadGranted pos p (takeFromDrawer p r d m s))) = f s) :
    f (grant s) = f s := by
  unfold grant
  repeat' split
  · obtain ⟨p, rest, dm, h, -⟩ := grantStore_some _ _ (by assumption); rw [h]; exact hs ..
  · obtain ⟨p, pos, sp, h, -⟩ := grantUnload_some _ _ (by assumption); rw [h]; exact hu ..
  · obtain ⟨pos, cls, p, r, d, m, h, -⟩ := grantLoad_some _ _ (by assumption); rw [h]; exact hl ..
  · rfl
  · rfl
@[simp] theorem grant_frame (s : State) :
    (grant s).pending = s.pending ∧ (grant s).freeCount = s.freeCount ∧ (grant s).now = s.now ∧ (grant s).pins =
    s.pins ∧ (grant s).intake = s.intake ∧ (grant s).supervisor = s.supervisor ∧ (grant s).transport =
    s.transport ∧ (grant s).banks = s.banks ∧ (grant s).claimLead = s.claimLead ∧ (grant s).wash = s.wash ∧
    (grant s).safety = s.safety ∧ (grant s).cal = s.cal ∧ (grant s).bus.capture = s.bus.capture ∧ (grant
    s).bus.hold = s.bus.hold ∧ (grant s).bus.dataOut = s.bus.dataOut ∧ (grant s).bus.resetSource =
    s.bus.resetSource ∧ (grant s).bus.protect = s.bus.protect ∧ (grant s).bus.latched = s.bus.latched ∧ (grant
    s).bus.mask = s.bus.mask ∧ (grant s).bus.attn = s.bus.attn ∧ (grant s).bus.holdOff = s.bus.holdOff ∧ (grant
    s).bus.interval = s.bus.interval ∧ (grant s).bus.hbTimeout = s.bus.hbTimeout ∧ (grant s).bus.hbTimer =
    s.bus.hbTimer ∧ (grant s).admission.queue = s.admission.queue ∧ (grant s).admission.holdReason =
    s.admission.holdReason ∧ (grant s).admission.epochNo = s.admission.epochNo ∧ (grant s).admission.epochSpeed
    = s.admission.epochSpeed ∧ (grant s).admission.epochCurrent = s.admission.epochCurrent ∧ (grant
    s).admission.misfeedHold = s.admission.misfeedHold ∧ (grant s).admission.gateOpen = s.admission.gateOpen ∧
    (grant s).admission.mark = s.admission.mark ∧ (grant s).tracker.train = s.tracker.train ∧ (grant
    s).tracker.strayPending = s.tracker.strayPending ∧ (grant s).link.mode = s.link.mode ∧ (grant s).link.phase
    = s.link.phase ∧ (grant s).link.lastNode = s.link.lastNode ∧ (grant s).link.assign = s.link.assign := 
  ⟨by refine grant_keeps (fun t : State => t.pending) s ?_ ?_ ?_ <;> intros <;> simp,
   by refine grant_keeps (fun t : State => t.freeCount) s ?_ ?_ ?_ <;> intros <;> simp,
   by refine grant_keeps (fun t : State => t.now) s ?_ ?_ ?_ <;> intros <;> simp,
   by refine grant_keeps (fun t : State => t.pins) s ?_ ?_ ?_ <;> intros <;> simp,
   by refine grant_keeps (fun t : State => t.intake) s ?_ ?_ ?_ <;> intros <;> simp,
   by refine grant_keeps (fun t : State => t.supervisor) s ?_ ?_ ?_ <;> intros <;> simp,
   by refine grant_keeps (fun t : State => t.transport) s ?_ ?_ ?_ <;> intros <;> simp,
   by refine grant_keeps (fun t : State => t.banks) s ?_ ?_ ?_ <;> intros <;> simp,
   by refine grant_keeps (fun t : State => t.claimLead) s ?_ ?_ ?_ <;> intros <;> simp,
   by refine grant_keeps (fun t : State => t.wash) s ?_ ?_ ?_ <;> intros <;> simp,
   by refine grant_keeps (fun t : State => t.safety) s ?_ ?_ ?_ <;> intros <;> simp,
   by refine grant_keeps (fun t : State => t.cal) s ?_ ?_ ?_ <;> intros <;> simp,
   by refine grant_keeps (fun t : State => t.bus.capture) s ?_ ?_ ?_ <;> intros <;> simp,
   by refine grant_keeps (fun t : State => t.bus.hold) s ?_ ?_ ?_ <;> intros <;> simp,
   by refine grant_keeps (fun t : State => t.bus.dataOut) s ?_ ?_ ?_ <;> intros <;> simp,
   by refine grant_keeps (fun t : State => t.bus.resetSource) s ?_ ?_ ?_ <;> intros <;> simp,
   by refine grant_keeps (fun t : State => t.bus.protect) s ?_ ?_ ?_ <;> intros <;> simp,
   by refine grant_keeps (fun t : State => t.bus.latched) s ?_ ?_ ?_ <;> intros <;> simp,
   by refine grant_keeps (fun t : State => t.bus.mask) s ?_ ?_ ?_ <;> intros <;> simp,
   by refine grant_keeps (fun t : State => t.bus.attn) s ?_ ?_ ?_ <;> intros <;> simp,
   by refine grant_keeps (fun t : State => t.bus.holdOff) s ?_ ?_ ?_ <;> intros <;> simp,
   by refine grant_keeps (fun t : State => t.bus.interval) s ?_ ?_ ?_ <;> intros <;> simp,
   by refine grant_keeps (fun t : State => t.bus.hbTimeout) s ?_ ?_ ?_ <;> intros <;> simp,
   by refine grant_keeps (fun t : State => t.bus.hbTimer) s ?_ ?_ ?_ <;> intros <;> simp,
   by refine grant_keeps (fun t : State => t.admission.queue) s ?_ ?_ ?_ <;> intros <;> simp,
   by refine grant_keeps (fun t : State => t.admission.holdReason) s ?_ ?_ ?_ <;> intros <;> simp,
   by refine grant_keeps (fun t : State => t.admission.epochNo) s ?_ ?_ ?_ <;> intros <;> simp,
   by refine grant_keeps (fun t : State => t.admission.epochSpeed) s ?_ ?_ ?_ <;> intros <;> simp,
   by refine grant_keeps (fun t : State => t.admission.epochCurrent) s ?_ ?_ ?_ <;> intros <;> simp,
   by refine grant_keeps (fun t : State => t.admission.misfeedHold) s ?_ ?_ ?_ <;> intros <;> simp,
   by refine grant_keeps (fun t : State => t.admission.gateOpen) s ?_ ?_ ?_ <;> intros <;> simp,
   by refine grant_keeps (fun t : State => t.admission.mark) s ?_ ?_ ?_ <;> intros <;> simp,
   by refine grant_keeps (fun t : State => t.tracker.train) s ?_ ?_ ?_ <;> intros <;> simp,
   by refine grant_keeps (fun t : State => t.tracker.strayPending) s ?_ ?_ ?_ <;> intros <;> simp,
   by refine grant_keeps (fun t : State => t.link.mode) s ?_ ?_ ?_ <;> intros <;> simp,
   by refine grant_keeps (fun t : State => t.link.phase) s ?_ ?_ ?_ <;> intros <;> simp,
   by refine grant_keeps (fun t : State => t.link.lastNode) s ?_ ?_ ?_ <;> intros <;> simp,
   by refine grant_keeps (fun t : State => t.link.assign) s ?_ ?_ ?_ <;> intros <;> simp⟩

@[simp] theorem withdrawSecondAsk_frame (s : State) :
    (withdrawSecondAsk s).pending = s.pending ∧ (withdrawSecondAsk s).freeCount = s.freeCount ∧
    (withdrawSecondAsk s).now = s.now ∧ (withdrawSecondAsk s).pins = s.pins ∧ (withdrawSecondAsk s).intake =
    s.intake ∧ (withdrawSecondAsk s).supervisor = s.supervisor ∧ (withdrawSecondAsk s).admission = s.admission ∧
    (withdrawSecondAsk s).transport = s.transport ∧ (withdrawSecondAsk s).banks = s.banks ∧ (withdrawSecondAsk
    s).claimLead = s.claimLead ∧ (withdrawSecondAsk s).wash = s.wash ∧ (withdrawSecondAsk s).drying = s.drying ∧
    (withdrawSecondAsk s).shuttle = s.shuttle ∧ (withdrawSecondAsk s).link = s.link ∧ (withdrawSecondAsk
    s).safety = s.safety ∧ (withdrawSecondAsk s).cal = s.cal ∧ (withdrawSecondAsk s).bus.capture = s.bus.capture
    ∧ (withdrawSecondAsk s).bus.hold = s.bus.hold ∧ (withdrawSecondAsk s).bus.dataOut = s.bus.dataOut ∧
    (withdrawSecondAsk s).bus.resetSource = s.bus.resetSource ∧ (withdrawSecondAsk s).bus.protect =
    s.bus.protect ∧ (withdrawSecondAsk s).bus.latched = s.bus.latched ∧ (withdrawSecondAsk s).bus.mask =
    s.bus.mask ∧ (withdrawSecondAsk s).bus.attn = s.bus.attn ∧ (withdrawSecondAsk s).bus.holdOff = s.bus.holdOff
    ∧ (withdrawSecondAsk s).bus.interval = s.bus.interval ∧ (withdrawSecondAsk s).bus.hbTimeout =
    s.bus.hbTimeout ∧ (withdrawSecondAsk s).bus.hbTimer = s.bus.hbTimer ∧ (withdrawSecondAsk s).tracker.train =
    s.tracker.train ∧ (withdrawSecondAsk s).tracker.strayPending = s.tracker.strayPending := by
  and_intros <;> (unfold withdrawSecondAsk; (repeat' split) <;> simp)

@[simp] theorem lightTubes_frame (s : State) :
    (lightTubes s).pending = s.pending ∧ (lightTubes s).freeCount = s.freeCount ∧ (lightTubes s).now = s.now ∧
    (lightTubes s).pins = s.pins ∧ (lightTubes s).bus = s.bus ∧ (lightTubes s).intake = s.intake ∧ (lightTubes
    s).supervisor = s.supervisor ∧ (lightTubes s).admission = s.admission ∧ (lightTubes s).tracker = s.tracker ∧
    (lightTubes s).transport = s.transport ∧ (lightTubes s).banks = s.banks ∧ (lightTubes s).claimLead =
    s.claimLead ∧ (lightTubes s).wash = s.wash ∧ (lightTubes s).drying = s.drying ∧ (lightTubes s).shuttle =
    s.shuttle ∧ (lightTubes s).safety = s.safety ∧ (lightTubes s).cal = s.cal ∧ (lightTubes s).link.mode =
    s.link.mode ∧ (lightTubes s).link.phase = s.link.phase ∧ (lightTubes s).link.lastNode = s.link.lastNode ∧
    (lightTubes s).link.assign = s.link.assign := by
  and_intros <;> (unfold lightTubes; (try dsimp only); (repeat' split) <;> simp)

@[simp] theorem handlingTests_frame (s : State) :
    (handlingTests s).pending = s.pending ∧ (handlingTests s).freeCount = s.freeCount ∧ (handlingTests s).now =
    s.now ∧ (handlingTests s).pins = s.pins ∧ (handlingTests s).intake = s.intake ∧ (handlingTests s).supervisor
    = s.supervisor ∧ (handlingTests s).transport = s.transport ∧ (handlingTests s).banks = s.banks ∧
    (handlingTests s).claimLead = s.claimLead ∧ (handlingTests s).wash = s.wash ∧ (handlingTests s).safety =
    s.safety ∧ (handlingTests s).cal = s.cal ∧ (handlingTests s).bus.capture = s.bus.capture ∧ (handlingTests
    s).bus.hold = s.bus.hold ∧ (handlingTests s).bus.dataOut = s.bus.dataOut ∧ (handlingTests s).bus.resetSource
    = s.bus.resetSource ∧ (handlingTests s).bus.protect = s.bus.protect ∧ (handlingTests s).bus.latched =
    s.bus.latched ∧ (handlingTests s).bus.mask = s.bus.mask ∧ (handlingTests s).bus.attn = s.bus.attn ∧
    (handlingTests s).bus.holdOff = s.bus.holdOff ∧ (handlingTests s).bus.interval = s.bus.interval ∧
    (handlingTests s).bus.hbTimeout = s.bus.hbTimeout ∧ (handlingTests s).bus.hbTimer = s.bus.hbTimer ∧
    (handlingTests s).admission.queue = s.admission.queue ∧ (handlingTests s).admission.holdReason =
    s.admission.holdReason ∧ (handlingTests s).admission.epochNo = s.admission.epochNo ∧ (handlingTests
    s).admission.epochSpeed = s.admission.epochSpeed ∧ (handlingTests s).admission.epochCurrent =
    s.admission.epochCurrent ∧ (handlingTests s).admission.misfeedHold = s.admission.misfeedHold ∧
    (handlingTests s).admission.gateOpen = s.admission.gateOpen ∧ (handlingTests s).admission.mark =
    s.admission.mark ∧ (handlingTests s).tracker.train = s.tracker.train ∧ (handlingTests
    s).tracker.strayPending = s.tracker.strayPending ∧ (handlingTests s).link.mode = s.link.mode ∧
    (handlingTests s).link.phase = s.link.phase ∧ (handlingTests s).link.lastNode = s.link.lastNode ∧
    (handlingTests s).link.assign = s.link.assign := by
  and_intros <;> (simp [handlingTests])

@[simp] theorem evalShuttle_frame (s : State) :
    (evalShuttle s).pending = s.pending ∧ (evalShuttle s).freeCount = s.freeCount ∧ (evalShuttle s).now = s.now
    ∧ (evalShuttle s).pins = s.pins ∧ (evalShuttle s).bus = s.bus ∧ (evalShuttle s).intake = s.intake ∧
    (evalShuttle s).supervisor = s.supervisor ∧ (evalShuttle s).admission = s.admission ∧ (evalShuttle
    s).tracker = s.tracker ∧ (evalShuttle s).transport = s.transport ∧ (evalShuttle s).banks = s.banks ∧
    (evalShuttle s).claimLead = s.claimLead ∧ (evalShuttle s).wash = s.wash ∧ (evalShuttle s).drying = s.drying
    ∧ (evalShuttle s).chamber = s.chamber ∧ (evalShuttle s).link = s.link ∧ (evalShuttle s).safety = s.safety ∧
    (evalShuttle s).cal = s.cal ∧ (evalShuttle s).shuttle.move = s.shuttle.move := by
  and_intros <;> (unfold evalShuttle; (try dsimp only); (repeat' split) <;> simp)

@[simp] theorem loadCompleted_frame (pos : ChamberPos) (p : PlateId) (s : State) :
    (loadCompleted pos p s).pending = s.pending ∧ (loadCompleted pos p s).freeCount = s.freeCount ∧
    (loadCompleted pos p s).now = s.now ∧ (loadCompleted pos p s).pins = s.pins ∧ (loadCompleted pos p s).intake
    = s.intake ∧ (loadCompleted pos p s).supervisor = s.supervisor ∧ (loadCompleted pos p s).admission =
    s.admission ∧ (loadCompleted pos p s).transport = s.transport ∧ (loadCompleted pos p s).banks = s.banks ∧
    (loadCompleted pos p s).claimLead = s.claimLead ∧ (loadCompleted pos p s).wash = s.wash ∧ (loadCompleted pos
    p s).drying = s.drying ∧ (loadCompleted pos p s).shuttle = s.shuttle ∧ (loadCompleted pos p s).link = s.link
    ∧ (loadCompleted pos p s).safety = s.safety ∧ (loadCompleted pos p s).cal = s.cal ∧ (loadCompleted pos p
    s).bus.capture = s.bus.capture ∧ (loadCompleted pos p s).bus.hold = s.bus.hold ∧ (loadCompleted pos p
    s).bus.dataOut = s.bus.dataOut ∧ (loadCompleted pos p s).bus.resetSource = s.bus.resetSource ∧
    (loadCompleted pos p s).bus.protect = s.bus.protect ∧ (loadCompleted pos p s).bus.latched = s.bus.latched ∧
    (loadCompleted pos p s).bus.mask = s.bus.mask ∧ (loadCompleted pos p s).bus.attn = s.bus.attn ∧
    (loadCompleted pos p s).bus.holdOff = s.bus.holdOff ∧ (loadCompleted pos p s).bus.interval = s.bus.interval
    ∧ (loadCompleted pos p s).bus.hbTimeout = s.bus.hbTimeout ∧ (loadCompleted pos p s).bus.hbTimer =
    s.bus.hbTimer ∧ (loadCompleted pos p s).tracker.train = s.tracker.train ∧ (loadCompleted pos p
    s).tracker.strayPending = s.tracker.strayPending := by
  and_intros <;> (unfold loadCompleted; (try dsimp only); (repeat' split) <;> simp)

@[simp] theorem loadFailed_frame (pos : ChamberPos) (s : State) :
    (loadFailed pos s).pending = s.pending ∧ (loadFailed pos s).freeCount = s.freeCount ∧ (loadFailed pos s).now
    = s.now ∧ (loadFailed pos s).pins = s.pins ∧ (loadFailed pos s).intake = s.intake ∧ (loadFailed pos
    s).supervisor = s.supervisor ∧ (loadFailed pos s).admission = s.admission ∧ (loadFailed pos s).transport =
    s.transport ∧ (loadFailed pos s).banks = s.banks ∧ (loadFailed pos s).claimLead = s.claimLead ∧ (loadFailed
    pos s).wash = s.wash ∧ (loadFailed pos s).drying = s.drying ∧ (loadFailed pos s).shuttle = s.shuttle ∧
    (loadFailed pos s).link = s.link ∧ (loadFailed pos s).safety = s.safety ∧ (loadFailed pos s).cal = s.cal ∧
    (loadFailed pos s).bus.capture = s.bus.capture ∧ (loadFailed pos s).bus.hold = s.bus.hold ∧ (loadFailed pos
    s).bus.dataOut = s.bus.dataOut ∧ (loadFailed pos s).bus.resetSource = s.bus.resetSource ∧ (loadFailed pos
    s).bus.protect = s.bus.protect ∧ (loadFailed pos s).bus.latched = s.bus.latched ∧ (loadFailed pos
    s).bus.mask = s.bus.mask ∧ (loadFailed pos s).bus.attn = s.bus.attn ∧ (loadFailed pos s).bus.holdOff =
    s.bus.holdOff ∧ (loadFailed pos s).bus.interval = s.bus.interval ∧ (loadFailed pos s).bus.hbTimeout =
    s.bus.hbTimeout ∧ (loadFailed pos s).bus.hbTimer = s.bus.hbTimer ∧ (loadFailed pos s).tracker.train =
    s.tracker.train ∧ (loadFailed pos s).tracker.strayPending = s.tracker.strayPending := by
  and_intros <;> (unfold loadFailed; (try dsimp only); (repeat' split) <;> simp)

@[simp] theorem storeCompleted_frame (p : PlateId) (dest : Place) (s : State) :
    (storeCompleted p dest s).pending = s.pending ∧ (storeCompleted p dest s).freeCount = s.freeCount ∧
    (storeCompleted p dest s).now = s.now ∧ (storeCompleted p dest s).pins = s.pins ∧ (storeCompleted p dest
    s).intake = s.intake ∧ (storeCompleted p dest s).supervisor = s.supervisor ∧ (storeCompleted p dest
    s).admission = s.admission ∧ (storeCompleted p dest s).transport = s.transport ∧ (storeCompleted p dest
    s).banks = s.banks ∧ (storeCompleted p dest s).claimLead = s.claimLead ∧ (storeCompleted p dest s).wash =
    s.wash ∧ (storeCompleted p dest s).shuttle = s.shuttle ∧ (storeCompleted p dest s).chamber = s.chamber ∧
    (storeCompleted p dest s).link = s.link ∧ (storeCompleted p dest s).safety = s.safety ∧ (storeCompleted p
    dest s).cal = s.cal ∧ (storeCompleted p dest s).bus.capture = s.bus.capture ∧ (storeCompleted p dest
    s).bus.hold = s.bus.hold ∧ (storeCompleted p dest s).bus.dataOut = s.bus.dataOut ∧ (storeCompleted p dest
    s).bus.resetSource = s.bus.resetSource ∧ (storeCompleted p dest s).bus.protect = s.bus.protect ∧
    (storeCompleted p dest s).bus.latched = s.bus.latched ∧ (storeCompleted p dest s).bus.mask = s.bus.mask ∧
    (storeCompleted p dest s).bus.attn = s.bus.attn ∧ (storeCompleted p dest s).bus.holdOff = s.bus.holdOff ∧
    (storeCompleted p dest s).bus.interval = s.bus.interval ∧ (storeCompleted p dest s).bus.hbTimeout =
    s.bus.hbTimeout ∧ (storeCompleted p dest s).bus.hbTimer = s.bus.hbTimer ∧ (storeCompleted p dest
    s).tracker.train = s.tracker.train ∧ (storeCompleted p dest s).tracker.strayPending = s.tracker.strayPending
    ∧ (storeCompleted p dest s).drying.rack = s.drying.rack ∧ (storeCompleted p dest s).drying.dryList =
    s.drying.dryList := by
  and_intros <;> (unfold storeCompleted; (repeat' split) <;> simp)

@[simp] theorem completeMove_frame (m : Move) (s : State) :
    (completeMove m s).pending = s.pending ∧ (completeMove m s).freeCount = s.freeCount ∧ (completeMove m s).now
    = s.now ∧ (completeMove m s).pins = s.pins ∧ (completeMove m s).intake = s.intake ∧ (completeMove m
    s).supervisor = s.supervisor ∧ (completeMove m s).admission = s.admission ∧ (completeMove m s).transport =
    s.transport ∧ (completeMove m s).banks = s.banks ∧ (completeMove m s).claimLead = s.claimLead ∧
    (completeMove m s).wash = s.wash ∧ (completeMove m s).link = s.link ∧ (completeMove m s).safety = s.safety ∧
    (completeMove m s).cal = s.cal ∧ (completeMove m s).bus.capture = s.bus.capture ∧ (completeMove m
    s).bus.hold = s.bus.hold ∧ (completeMove m s).bus.dataOut = s.bus.dataOut ∧ (completeMove m
    s).bus.resetSource = s.bus.resetSource ∧ (completeMove m s).bus.protect = s.bus.protect ∧ (completeMove m
    s).bus.mask = s.bus.mask ∧ (completeMove m s).bus.interval = s.bus.interval ∧ (completeMove m
    s).bus.hbTimeout = s.bus.hbTimeout ∧ (completeMove m s).bus.hbTimer = s.bus.hbTimer ∧ (completeMove m
    s).tracker.train = s.tracker.train ∧ (completeMove m s).tracker.strayPending = s.tracker.strayPending ∧
    (completeMove m s).drying.rack = s.drying.rack ∧ (completeMove m s).drying.dryList = s.drying.dryList := by
  and_intros <;> (unfold completeMove; (try dsimp only); (repeat' split) <;> simp)

@[simp] theorem failMove_frame (m : Move) (s : State) :
    (failMove m s).pending = s.pending ∧ (failMove m s).freeCount = s.freeCount ∧ (failMove m s).now = s.now ∧
    (failMove m s).pins = s.pins ∧ (failMove m s).intake = s.intake ∧ (failMove m s).supervisor = s.supervisor ∧
    (failMove m s).transport = s.transport ∧ (failMove m s).banks = s.banks ∧ (failMove m s).claimLead =
    s.claimLead ∧ (failMove m s).wash = s.wash ∧ (failMove m s).drying = s.drying ∧ (failMove m s).link = s.link
    ∧ (failMove m s).safety = s.safety ∧ (failMove m s).cal = s.cal ∧ (failMove m s).bus.capture = s.bus.capture
    ∧ (failMove m s).bus.hold = s.bus.hold ∧ (failMove m s).bus.dataOut = s.bus.dataOut ∧ (failMove m
    s).bus.resetSource = s.bus.resetSource ∧ (failMove m s).bus.protect = s.bus.protect ∧ (failMove m
    s).bus.mask = s.bus.mask ∧ (failMove m s).bus.interval = s.bus.interval ∧ (failMove m s).bus.hbTimeout =
    s.bus.hbTimeout ∧ (failMove m s).bus.hbTimer = s.bus.hbTimer ∧ (failMove m s).admission.queue =
    s.admission.queue ∧ (failMove m s).admission.holdReason = s.admission.holdReason ∧ (failMove m
    s).admission.epochNo = s.admission.epochNo ∧ (failMove m s).admission.epochSpeed = s.admission.epochSpeed ∧
    (failMove m s).admission.epochCurrent = s.admission.epochCurrent ∧ (failMove m s).admission.misfeedHold =
    s.admission.misfeedHold ∧ (failMove m s).admission.gateOpen = s.admission.gateOpen ∧ (failMove m
    s).admission.mark = s.admission.mark ∧ (failMove m s).tracker.train = s.tracker.train ∧ (failMove m
    s).tracker.strayPending = s.tracker.strayPending := by
  and_intros <;> (unfold failMove; (try dsimp only); (repeat' split) <;> simp)

@[simp] theorem failCurrentMove_frame (s : State) :
    (failCurrentMove s).pending = s.pending ∧ (failCurrentMove s).freeCount = s.freeCount ∧ (failCurrentMove
    s).now = s.now ∧ (failCurrentMove s).pins = s.pins ∧ (failCurrentMove s).intake = s.intake ∧
    (failCurrentMove s).supervisor = s.supervisor ∧ (failCurrentMove s).transport = s.transport ∧
    (failCurrentMove s).banks = s.banks ∧ (failCurrentMove s).claimLead = s.claimLead ∧ (failCurrentMove s).wash
    = s.wash ∧ (failCurrentMove s).drying = s.drying ∧ (failCurrentMove s).link = s.link ∧ (failCurrentMove
    s).safety = s.safety ∧ (failCurrentMove s).cal = s.cal ∧ (failCurrentMove s).bus.capture = s.bus.capture ∧
    (failCurrentMove s).bus.hold = s.bus.hold ∧ (failCurrentMove s).bus.dataOut = s.bus.dataOut ∧
    (failCurrentMove s).bus.resetSource = s.bus.resetSource ∧ (failCurrentMove s).bus.protect = s.bus.protect ∧
    (failCurrentMove s).bus.mask = s.bus.mask ∧ (failCurrentMove s).bus.interval = s.bus.interval ∧
    (failCurrentMove s).bus.hbTimeout = s.bus.hbTimeout ∧ (failCurrentMove s).bus.hbTimer = s.bus.hbTimer ∧
    (failCurrentMove s).admission.queue = s.admission.queue ∧ (failCurrentMove s).admission.holdReason =
    s.admission.holdReason ∧ (failCurrentMove s).admission.epochNo = s.admission.epochNo ∧ (failCurrentMove
    s).admission.epochSpeed = s.admission.epochSpeed ∧ (failCurrentMove s).admission.epochCurrent =
    s.admission.epochCurrent ∧ (failCurrentMove s).admission.misfeedHold = s.admission.misfeedHold ∧
    (failCurrentMove s).admission.gateOpen = s.admission.gateOpen ∧ (failCurrentMove s).admission.mark =
    s.admission.mark ∧ (failCurrentMove s).tracker.train = s.tracker.train ∧ (failCurrentMove
    s).tracker.strayPending = s.tracker.strayPending := by
  and_intros <;> (unfold failCurrentMove; (repeat' split) <;> simp)

@[simp] theorem testMove_frame (echo : Nat) (result : OrderResult) (s : State) :
    (testMove echo result s).pending = s.pending ∧ (testMove echo result s).freeCount = s.freeCount ∧ (testMove
    echo result s).now = s.now ∧ (testMove echo result s).pins = s.pins ∧ (testMove echo result s).intake =
    s.intake ∧ (testMove echo result s).supervisor = s.supervisor ∧ (testMove echo result s).transport =
    s.transport ∧ (testMove echo result s).banks = s.banks ∧ (testMove echo result s).claimLead = s.claimLead ∧
    (testMove echo result s).wash = s.wash ∧ (testMove echo result s).link = s.link ∧ (testMove echo result
    s).safety = s.safety ∧ (testMove echo result s).cal = s.cal ∧ (testMove echo result s).bus.capture =
    s.bus.capture ∧ (testMove echo result s).bus.hold = s.bus.hold ∧ (testMove echo result s).bus.dataOut =
    s.bus.dataOut ∧ (testMove echo result s).bus.resetSource = s.bus.resetSource ∧ (testMove echo result
    s).bus.protect = s.bus.protect ∧ (testMove echo result s).bus.mask = s.bus.mask ∧ (testMove echo result
    s).bus.interval = s.bus.interval ∧ (testMove echo result s).bus.hbTimeout = s.bus.hbTimeout ∧ (testMove echo
    result s).bus.hbTimer = s.bus.hbTimer ∧ (testMove echo result s).admission.queue = s.admission.queue ∧
    (testMove echo result s).admission.holdReason = s.admission.holdReason ∧ (testMove echo result
    s).admission.epochNo = s.admission.epochNo ∧ (testMove echo result s).admission.epochSpeed =
    s.admission.epochSpeed ∧ (testMove echo result s).admission.epochCurrent = s.admission.epochCurrent ∧
    (testMove echo result s).admission.misfeedHold = s.admission.misfeedHold ∧ (testMove echo result
    s).admission.gateOpen = s.admission.gateOpen ∧ (testMove echo result s).admission.mark = s.admission.mark ∧
    (testMove echo result s).tracker.train = s.tracker.train ∧ (testMove echo result s).tracker.strayPending =
    s.tracker.strayPending ∧ (testMove echo result s).drying.rack = s.drying.rack ∧ (testMove echo result
    s).drying.dryList = s.drying.dryList := by
  and_intros <;> (unfold testMove; (repeat' split) <;> simp)

@[simp] theorem endShuttleReset_frame (carriedReset ready fault : Bool) (s : State) :
    (endShuttleReset carriedReset ready fault s).pending = s.pending ∧ (endShuttleReset carriedReset ready fault
    s).freeCount = s.freeCount ∧ (endShuttleReset carriedReset ready fault s).now = s.now ∧ (endShuttleReset
    carriedReset ready fault s).pins = s.pins ∧ (endShuttleReset carriedReset ready fault s).bus = s.bus ∧
    (endShuttleReset carriedReset ready fault s).intake = s.intake ∧ (endShuttleReset carriedReset ready fault
    s).supervisor = s.supervisor ∧ (endShuttleReset carriedReset ready fault s).admission = s.admission ∧
    (endShuttleReset carriedReset ready fault s).tracker = s.tracker ∧ (endShuttleReset carriedReset ready fault
    s).transport = s.transport ∧ (endShuttleReset carriedReset ready fault s).banks = s.banks ∧ (endShuttleReset
    carriedReset ready fault s).claimLead = s.claimLead ∧ (endShuttleReset carriedReset ready fault s).wash =
    s.wash ∧ (endShuttleReset carriedReset ready fault s).drying = s.drying ∧ (endShuttleReset carriedReset
    ready fault s).chamber = s.chamber ∧ (endShuttleReset carriedReset ready fault s).link = s.link ∧
    (endShuttleReset carriedReset ready fault s).safety = s.safety ∧ (endShuttleReset carriedReset ready fault
    s).cal = s.cal ∧ (endShuttleReset carriedReset ready fault s).shuttle.move = s.shuttle.move := by
  and_intros <;> (unfold endShuttleReset; (try dsimp only); (repeat' split) <;> simp)

@[simp] theorem recordShuttle_frame (ready fault : Bool) (result : OrderResult) (d : Vector Byte 6) (s : State) :
    (recordShuttle ready fault result d s).pending = s.pending ∧ (recordShuttle ready fault result d
    s).freeCount = s.freeCount ∧ (recordShuttle ready fault result d s).now = s.now ∧ (recordShuttle ready fault
    result d s).pins = s.pins ∧ (recordShuttle ready fault result d s).bus = s.bus ∧ (recordShuttle ready fault
    result d s).intake = s.intake ∧ (recordShuttle ready fault result d s).supervisor = s.supervisor ∧
    (recordShuttle ready fault result d s).admission = s.admission ∧ (recordShuttle ready fault result d
    s).tracker = s.tracker ∧ (recordShuttle ready fault result d s).transport = s.transport ∧ (recordShuttle
    ready fault result d s).banks = s.banks ∧ (recordShuttle ready fault result d s).claimLead = s.claimLead ∧
    (recordShuttle ready fault result d s).wash = s.wash ∧ (recordShuttle ready fault result d s).drying =
    s.drying ∧ (recordShuttle ready fault result d s).chamber = s.chamber ∧ (recordShuttle ready fault result d
    s).link = s.link ∧ (recordShuttle ready fault result d s).safety = s.safety ∧ (recordShuttle ready fault
    result d s).cal = s.cal ∧ (recordShuttle ready fault result d s).shuttle.state = s.shuttle.state ∧
    (recordShuttle ready fault result d s).shuttle.move = s.shuttle.move ∧ (recordShuttle ready fault result d
    s).shuttle.timer = s.shuttle.timer ∧ (recordShuttle ready fault result d s).shuttle.resetRequested =
    s.shuttle.resetRequested := by
  and_intros <;> (simp [recordShuttle])

@[simp] theorem testUnload_frame (before : Bool) (s : State) :
    (testUnload before s).pending = s.pending ∧ (testUnload before s).freeCount = s.freeCount ∧ (testUnload
    before s).now = s.now ∧ (testUnload before s).pins = s.pins ∧ (testUnload before s).intake = s.intake ∧
    (testUnload before s).supervisor = s.supervisor ∧ (testUnload before s).transport = s.transport ∧
    (testUnload before s).banks = s.banks ∧ (testUnload before s).claimLead = s.claimLead ∧ (testUnload before
    s).wash = s.wash ∧ (testUnload before s).safety = s.safety ∧ (testUnload before s).cal = s.cal ∧ (testUnload
    before s).bus.capture = s.bus.capture ∧ (testUnload before s).bus.hold = s.bus.hold ∧ (testUnload before
    s).bus.dataOut = s.bus.dataOut ∧ (testUnload before s).bus.resetSource = s.bus.resetSource ∧ (testUnload
    before s).bus.protect = s.bus.protect ∧ (testUnload before s).bus.latched = s.bus.latched ∧ (testUnload
    before s).bus.mask = s.bus.mask ∧ (testUnload before s).bus.attn = s.bus.attn ∧ (testUnload before
    s).bus.holdOff = s.bus.holdOff ∧ (testUnload before s).bus.interval = s.bus.interval ∧ (testUnload before
    s).bus.hbTimeout = s.bus.hbTimeout ∧ (testUnload before s).bus.hbTimer = s.bus.hbTimer ∧ (testUnload before
    s).admission.queue = s.admission.queue ∧ (testUnload before s).admission.holdReason = s.admission.holdReason
    ∧ (testUnload before s).admission.epochNo = s.admission.epochNo ∧ (testUnload before s).admission.epochSpeed
    = s.admission.epochSpeed ∧ (testUnload before s).admission.epochCurrent = s.admission.epochCurrent ∧
    (testUnload before s).admission.misfeedHold = s.admission.misfeedHold ∧ (testUnload before
    s).admission.gateOpen = s.admission.gateOpen ∧ (testUnload before s).admission.mark = s.admission.mark ∧
    (testUnload before s).tracker.train = s.tracker.train ∧ (testUnload before s).tracker.strayPending =
    s.tracker.strayPending ∧ (testUnload before s).link.mode = s.link.mode ∧ (testUnload before s).link.phase =
    s.link.phase ∧ (testUnload before s).link.lastNode = s.link.lastNode ∧ (testUnload before s).link.assign =
    s.link.assign := by
  and_intros <;> (unfold testUnload; split <;> simp)

@[simp] theorem takeShuttleReport_frame (carriedReset ready fault : Bool) (result : OrderResult) (d : Vector Byte 6) (s : State) :
    (takeShuttleReport carriedReset ready fault result d s).pending = s.pending ∧ (takeShuttleReport
    carriedReset ready fault result d s).freeCount = s.freeCount ∧ (takeShuttleReport carriedReset ready fault
    result d s).now = s.now ∧ (takeShuttleReport carriedReset ready fault result d s).pins = s.pins ∧
    (takeShuttleReport carriedReset ready fault result d s).intake = s.intake ∧ (takeShuttleReport carriedReset
    ready fault result d s).supervisor = s.supervisor ∧ (takeShuttleReport carriedReset ready fault result d
    s).transport = s.transport ∧ (takeShuttleReport carriedReset ready fault result d s).banks = s.banks ∧
    (takeShuttleReport carriedReset ready fault result d s).claimLead = s.claimLead ∧ (takeShuttleReport
    carriedReset ready fault result d s).wash = s.wash ∧ (takeShuttleReport carriedReset ready fault result d
    s).safety = s.safety ∧ (takeShuttleReport carriedReset ready fault result d s).cal = s.cal ∧
    (takeShuttleReport carriedReset ready fault result d s).bus.capture = s.bus.capture ∧ (takeShuttleReport
    carriedReset ready fault result d s).bus.hold = s.bus.hold ∧ (takeShuttleReport carriedReset ready fault
    result d s).bus.dataOut = s.bus.dataOut ∧ (takeShuttleReport carriedReset ready fault result d
    s).bus.resetSource = s.bus.resetSource ∧ (takeShuttleReport carriedReset ready fault result d s).bus.protect
    = s.bus.protect ∧ (takeShuttleReport carriedReset ready fault result d s).bus.mask = s.bus.mask ∧
    (takeShuttleReport carriedReset ready fault result d s).bus.interval = s.bus.interval ∧ (takeShuttleReport
    carriedReset ready fault result d s).bus.hbTimeout = s.bus.hbTimeout ∧ (takeShuttleReport carriedReset ready
    fault result d s).bus.hbTimer = s.bus.hbTimer ∧ (takeShuttleReport carriedReset ready fault result d
    s).admission.queue = s.admission.queue ∧ (takeShuttleReport carriedReset ready fault result d
    s).admission.holdReason = s.admission.holdReason ∧ (takeShuttleReport carriedReset ready fault result d
    s).admission.epochNo = s.admission.epochNo ∧ (takeShuttleReport carriedReset ready fault result d
    s).admission.epochSpeed = s.admission.epochSpeed ∧ (takeShuttleReport carriedReset ready fault result d
    s).admission.epochCurrent = s.admission.epochCurrent ∧ (takeShuttleReport carriedReset ready fault result d
    s).admission.misfeedHold = s.admission.misfeedHold ∧ (takeShuttleReport carriedReset ready fault result d
    s).admission.gateOpen = s.admission.gateOpen ∧ (takeShuttleReport carriedReset ready fault result d
    s).admission.mark = s.admission.mark ∧ (takeShuttleReport carriedReset ready fault result d s).tracker.train
    = s.tracker.train ∧ (takeShuttleReport carriedReset ready fault result d s).tracker.strayPending =
    s.tracker.strayPending ∧ (takeShuttleReport carriedReset ready fault result d s).link.mode = s.link.mode ∧
    (takeShuttleReport carriedReset ready fault result d s).link.phase = s.link.phase ∧ (takeShuttleReport
    carriedReset ready fault result d s).link.lastNode = s.link.lastNode ∧ (takeShuttleReport carriedReset ready
    fault result d s).link.assign = s.link.assign := by
  and_intros <;> (simp [takeShuttleReport])

@[simp] theorem putDrawer_frame (d : Fin 6) (w : Drawer) (s : State) :
    (putDrawer d w s).pending = s.pending ∧ (putDrawer d w s).freeCount = s.freeCount ∧ (putDrawer d w s).now =
    s.now ∧ (putDrawer d w s).pins = s.pins ∧ (putDrawer d w s).bus = s.bus ∧ (putDrawer d w s).intake =
    s.intake ∧ (putDrawer d w s).supervisor = s.supervisor ∧ (putDrawer d w s).admission = s.admission ∧
    (putDrawer d w s).tracker = s.tracker ∧ (putDrawer d w s).transport = s.transport ∧ (putDrawer d w s).banks
    = s.banks ∧ (putDrawer d w s).claimLead = s.claimLead ∧ (putDrawer d w s).wash = s.wash ∧ (putDrawer d w
    s).shuttle = s.shuttle ∧ (putDrawer d w s).chamber = s.chamber ∧ (putDrawer d w s).link = s.link ∧
    (putDrawer d w s).safety = s.safety ∧ (putDrawer d w s).cal = s.cal ∧ (putDrawer d w s).drying.rack =
    s.drying.rack ∧ (putDrawer d w s).drying.dryList = s.drying.dryList := by
  and_intros <;> (simp [putDrawer])

@[simp] theorem drawerNodeChanged_frame (d : Fin 6) (s : State) :
    (drawerNodeChanged d s).pending = s.pending ∧ (drawerNodeChanged d s).freeCount = s.freeCount ∧
    (drawerNodeChanged d s).now = s.now ∧ (drawerNodeChanged d s).pins = s.pins ∧ (drawerNodeChanged d s).bus =
    s.bus ∧ (drawerNodeChanged d s).intake = s.intake ∧ (drawerNodeChanged d s).supervisor = s.supervisor ∧
    (drawerNodeChanged d s).admission = s.admission ∧ (drawerNodeChanged d s).tracker = s.tracker ∧
    (drawerNodeChanged d s).transport = s.transport ∧ (drawerNodeChanged d s).banks = s.banks ∧
    (drawerNodeChanged d s).claimLead = s.claimLead ∧ (drawerNodeChanged d s).wash = s.wash ∧ (drawerNodeChanged
    d s).shuttle = s.shuttle ∧ (drawerNodeChanged d s).chamber = s.chamber ∧ (drawerNodeChanged d s).link =
    s.link ∧ (drawerNodeChanged d s).safety = s.safety ∧ (drawerNodeChanged d s).cal = s.cal ∧
    (drawerNodeChanged d s).drying.rack = s.drying.rack ∧ (drawerNodeChanged d s).drying.dryList =
    s.drying.dryList := by
  and_intros <;> (simp [drawerNodeChanged])

@[simp] theorem dryResident_frame (delta : Nat) (p : PlateId) (s : State) :
    (dryResident delta p s).pending = s.pending ∧ (dryResident delta p s).freeCount = s.freeCount ∧ (dryResident
    delta p s).now = s.now ∧ (dryResident delta p s).pins = s.pins ∧ (dryResident delta p s).intake = s.intake ∧
    (dryResident delta p s).supervisor = s.supervisor ∧ (dryResident delta p s).admission = s.admission ∧
    (dryResident delta p s).transport = s.transport ∧ (dryResident delta p s).banks = s.banks ∧ (dryResident
    delta p s).claimLead = s.claimLead ∧ (dryResident delta p s).wash = s.wash ∧ (dryResident delta p s).shuttle
    = s.shuttle ∧ (dryResident delta p s).chamber = s.chamber ∧ (dryResident delta p s).link = s.link ∧
    (dryResident delta p s).safety = s.safety ∧ (dryResident delta p s).cal = s.cal ∧ (dryResident delta p
    s).bus.capture = s.bus.capture ∧ (dryResident delta p s).bus.hold = s.bus.hold ∧ (dryResident delta p
    s).bus.dataOut = s.bus.dataOut ∧ (dryResident delta p s).bus.resetSource = s.bus.resetSource ∧ (dryResident
    delta p s).bus.protect = s.bus.protect ∧ (dryResident delta p s).bus.latched = s.bus.latched ∧ (dryResident
    delta p s).bus.mask = s.bus.mask ∧ (dryResident delta p s).bus.attn = s.bus.attn ∧ (dryResident delta p
    s).bus.holdOff = s.bus.holdOff ∧ (dryResident delta p s).bus.interval = s.bus.interval ∧ (dryResident delta
    p s).bus.hbTimeout = s.bus.hbTimeout ∧ (dryResident delta p s).bus.hbTimer = s.bus.hbTimer ∧ (dryResident
    delta p s).tracker.train = s.tracker.train ∧ (dryResident delta p s).tracker.strayPending =
    s.tracker.strayPending ∧ (dryResident delta p s).drying.rack = s.drying.rack ∧ (dryResident delta p
    s).drying.drawers = s.drying.drawers := by
  and_intros <;> (unfold dryResident; (try dsimp only); (repeat' split) <;> simp)

@[simp] theorem dryClockStep_frame (d : Fin 6) (delta : Nat) (s : State) :
    (dryClockStep d delta s).pending = s.pending ∧ (dryClockStep d delta s).freeCount = s.freeCount ∧
    (dryClockStep d delta s).now = s.now ∧ (dryClockStep d delta s).pins = s.pins ∧ (dryClockStep d delta
    s).intake = s.intake ∧ (dryClockStep d delta s).supervisor = s.supervisor ∧ (dryClockStep d delta
    s).admission = s.admission ∧ (dryClockStep d delta s).transport = s.transport ∧ (dryClockStep d delta
    s).banks = s.banks ∧ (dryClockStep d delta s).claimLead = s.claimLead ∧ (dryClockStep d delta s).wash =
    s.wash ∧ (dryClockStep d delta s).shuttle = s.shuttle ∧ (dryClockStep d delta s).chamber = s.chamber ∧
    (dryClockStep d delta s).link = s.link ∧ (dryClockStep d delta s).safety = s.safety ∧ (dryClockStep d delta
    s).cal = s.cal ∧ (dryClockStep d delta s).bus.capture = s.bus.capture ∧ (dryClockStep d delta s).bus.hold =
    s.bus.hold ∧ (dryClockStep d delta s).bus.dataOut = s.bus.dataOut ∧ (dryClockStep d delta s).bus.resetSource
    = s.bus.resetSource ∧ (dryClockStep d delta s).bus.protect = s.bus.protect ∧ (dryClockStep d delta
    s).bus.latched = s.bus.latched ∧ (dryClockStep d delta s).bus.mask = s.bus.mask ∧ (dryClockStep d delta
    s).bus.attn = s.bus.attn ∧ (dryClockStep d delta s).bus.holdOff = s.bus.holdOff ∧ (dryClockStep d delta
    s).bus.interval = s.bus.interval ∧ (dryClockStep d delta s).bus.hbTimeout = s.bus.hbTimeout ∧ (dryClockStep
    d delta s).bus.hbTimer = s.bus.hbTimer ∧ (dryClockStep d delta s).tracker.train = s.tracker.train ∧
    (dryClockStep d delta s).tracker.strayPending = s.tracker.strayPending ∧ (dryClockStep d delta
    s).drying.rack = s.drying.rack ∧ (dryClockStep d delta s).drying.drawers = s.drying.drawers := 
  ⟨by unfold dryClockStep; exact foldl_keeps (fun t : State => t.pending) _ (fun t a => by (repeat' split) <;> simp) _ _,
   by unfold dryClockStep; exact foldl_keeps (fun t : State => t.freeCount) _ (fun t a => by (repeat' split) <;> simp) _ _,
   by unfold dryClockStep; exact foldl_keeps (fun t : State => t.now) _ (fun t a => by (repeat' split) <;> simp) _ _,
   by unfold dryClockStep; exact foldl_keeps (fun t : State => t.pins) _ (fun t a => by (repeat' split) <;> simp) _ _,
   by unfold dryClockStep; exact foldl_keeps (fun t : State => t.intake) _ (fun t a => by (repeat' split) <;> simp) _ _,
   by unfold dryClockStep; exact foldl_keeps (fun t : State => t.supervisor) _ (fun t a => by (repeat' split) <;> simp) _ _,
   by unfold dryClockStep; exact foldl_keeps (fun t : State => t.admission) _ (fun t a => by (repeat' split) <;> simp) _ _,
   by unfold dryClockStep; exact foldl_keeps (fun t : State => t.transport) _ (fun t a => by (repeat' split) <;> simp) _ _,
   by unfold dryClockStep; exact foldl_keeps (fun t : State => t.banks) _ (fun t a => by (repeat' split) <;> simp) _ _,
   by unfold dryClockStep; exact foldl_keeps (fun t : State => t.claimLead) _ (fun t a => by (repeat' split) <;> simp) _ _,
   by unfold dryClockStep; exact foldl_keeps (fun t : State => t.wash) _ (fun t a => by (repeat' split) <;> simp) _ _,
   by unfold dryClockStep; exact foldl_keeps (fun t : State => t.shuttle) _ (fun t a => by (repeat' split) <;> simp) _ _,
   by unfold dryClockStep; exact foldl_keeps (fun t : State => t.chamber) _ (fun t a => by (repeat' split) <;> simp) _ _,
   by unfold dryClockStep; exact foldl_keeps (fun t : State => t.link) _ (fun t a => by (repeat' split) <;> simp) _ _,
   by unfold dryClockStep; exact foldl_keeps (fun t : State => t.safety) _ (fun t a => by (repeat' split) <;> simp) _ _,
   by unfold dryClockStep; exact foldl_keeps (fun t : State => t.cal) _ (fun t a => by (repeat' split) <;> simp) _ _,
   by unfold dryClockStep; exact foldl_keeps (fun t : State => t.bus.capture) _ (fun t a => by (repeat' split) <;> simp) _ _,
   by unfold dryClockStep; exact foldl_keeps (fun t : State => t.bus.hold) _ (fun t a => by (repeat' split) <;> simp) _ _,
   by unfold dryClockStep; exact foldl_keeps (fun t : State => t.bus.dataOut) _ (fun t a => by (repeat' split) <;> simp) _ _,
   by unfold dryClockStep; exact foldl_keeps (fun t : State => t.bus.resetSource) _ (fun t a => by (repeat' split) <;> simp) _ _,
   by unfold dryClockStep; exact foldl_keeps (fun t : State => t.bus.protect) _ (fun t a => by (repeat' split) <;> simp) _ _,
   by unfold dryClockStep; exact foldl_keeps (fun t : State => t.bus.latched) _ (fun t a => by (repeat' split) <;> simp) _ _,
   by unfold dryClockStep; exact foldl_keeps (fun t : State => t.bus.mask) _ (fun t a => by (repeat' split) <;> simp) _ _,
   by unfold dryClockStep; exact foldl_keeps (fun t : State => t.bus.attn) _ (fun t a => by (repeat' split) <;> simp) _ _,
   by unfold dryClockStep; exact foldl_keeps (fun t : State => t.bus.holdOff) _ (fun t a => by (repeat' split) <;> simp) _ _,
   by unfold dryClockStep; exact foldl_keeps (fun t : State => t.bus.interval) _ (fun t a => by (repeat' split) <;> simp) _ _,
   by unfold dryClockStep; exact foldl_keeps (fun t : State => t.bus.hbTimeout) _ (fun t a => by (repeat' split) <;> simp) _ _,
   by unfold dryClockStep; exact foldl_keeps (fun t : State => t.bus.hbTimer) _ (fun t a => by (repeat' split) <;> simp) _ _,
   by unfold dryClockStep; exact foldl_keeps (fun t : State => t.tracker.train) _ (fun t a => by (repeat' split) <;> simp) _ _,
   by unfold dryClockStep; exact foldl_keeps (fun t : State => t.tracker.strayPending) _ (fun t a => by (repeat' split) <;> simp) _ _,
   by unfold dryClockStep; exact foldl_keeps (fun t : State => t.drying.rack) _ (fun t a => by (repeat' split) <;> simp) _ _,
   by unfold dryClockStep; exact foldl_keeps (fun t : State => t.drying.drawers) _ (fun t a => by (repeat' split) <;> simp) _ _⟩

@[simp] theorem takeDrawerReport_frame (d : Fin 6) (b : Vector Byte 6) (s : State) :
    (takeDrawerReport d b s).pending = s.pending ∧ (takeDrawerReport d b s).freeCount = s.freeCount ∧
    (takeDrawerReport d b s).now = s.now ∧ (takeDrawerReport d b s).pins = s.pins ∧ (takeDrawerReport d b
    s).intake = s.intake ∧ (takeDrawerReport d b s).supervisor = s.supervisor ∧ (takeDrawerReport d b
    s).transport = s.transport ∧ (takeDrawerReport d b s).banks = s.banks ∧ (takeDrawerReport d b s).claimLead =
    s.claimLead ∧ (takeDrawerReport d b s).wash = s.wash ∧ (takeDrawerReport d b s).safety = s.safety ∧
    (takeDrawerReport d b s).cal = s.cal ∧ (takeDrawerReport d b s).bus.capture = s.bus.capture ∧
    (takeDrawerReport d b s).bus.hold = s.bus.hold ∧ (takeDrawerReport d b s).bus.dataOut = s.bus.dataOut ∧
    (takeDrawerReport d b s).bus.resetSource = s.bus.resetSource ∧ (takeDrawerReport d b s).bus.protect =
    s.bus.protect ∧ (takeDrawerReport d b s).bus.latched = s.bus.latched ∧ (takeDrawerReport d b s).bus.mask =
    s.bus.mask ∧ (takeDrawerReport d b s).bus.attn = s.bus.attn ∧ (takeDrawerReport d b s).bus.holdOff =
    s.bus.holdOff ∧ (takeDrawerReport d b s).bus.interval = s.bus.interval ∧ (takeDrawerReport d b
    s).bus.hbTimeout = s.bus.hbTimeout ∧ (takeDrawerReport d b s).bus.hbTimer = s.bus.hbTimer ∧
    (takeDrawerReport d b s).admission.queue = s.admission.queue ∧ (takeDrawerReport d b s).admission.holdReason
    = s.admission.holdReason ∧ (takeDrawerReport d b s).admission.epochNo = s.admission.epochNo ∧
    (takeDrawerReport d b s).admission.epochSpeed = s.admission.epochSpeed ∧ (takeDrawerReport d b
    s).admission.epochCurrent = s.admission.epochCurrent ∧ (takeDrawerReport d b s).admission.misfeedHold =
    s.admission.misfeedHold ∧ (takeDrawerReport d b s).admission.gateOpen = s.admission.gateOpen ∧
    (takeDrawerReport d b s).admission.mark = s.admission.mark ∧ (takeDrawerReport d b s).tracker.train =
    s.tracker.train ∧ (takeDrawerReport d b s).tracker.strayPending = s.tracker.strayPending ∧ (takeDrawerReport
    d b s).link.mode = s.link.mode ∧ (takeDrawerReport d b s).link.phase = s.link.phase ∧ (takeDrawerReport d b
    s).link.lastNode = s.link.lastNode ∧ (takeDrawerReport d b s).link.assign = s.link.assign := by
  and_intros <;> (unfold takeDrawerReport; (try dsimp only); (repeat' split) <;> simp)

@[simp] theorem creditGroups_frame (dt : Nat) (s : State) :
    (creditGroups dt s).pending = s.pending ∧ (creditGroups dt s).freeCount = s.freeCount ∧ (creditGroups dt
    s).now = s.now ∧ (creditGroups dt s).pins = s.pins ∧ (creditGroups dt s).intake = s.intake ∧ (creditGroups
    dt s).supervisor = s.supervisor ∧ (creditGroups dt s).admission = s.admission ∧ (creditGroups dt
    s).transport = s.transport ∧ (creditGroups dt s).banks = s.banks ∧ (creditGroups dt s).claimLead =
    s.claimLead ∧ (creditGroups dt s).wash = s.wash ∧ (creditGroups dt s).drying = s.drying ∧ (creditGroups dt
    s).shuttle = s.shuttle ∧ (creditGroups dt s).link = s.link ∧ (creditGroups dt s).safety = s.safety ∧
    (creditGroups dt s).cal = s.cal ∧ (creditGroups dt s).bus.capture = s.bus.capture ∧ (creditGroups dt
    s).bus.hold = s.bus.hold ∧ (creditGroups dt s).bus.dataOut = s.bus.dataOut ∧ (creditGroups dt
    s).bus.resetSource = s.bus.resetSource ∧ (creditGroups dt s).bus.protect = s.bus.protect ∧ (creditGroups dt
    s).bus.latched = s.bus.latched ∧ (creditGroups dt s).bus.mask = s.bus.mask ∧ (creditGroups dt s).bus.attn =
    s.bus.attn ∧ (creditGroups dt s).bus.holdOff = s.bus.holdOff ∧ (creditGroups dt s).bus.interval =
    s.bus.interval ∧ (creditGroups dt s).bus.hbTimeout = s.bus.hbTimeout ∧ (creditGroups dt s).bus.hbTimer =
    s.bus.hbTimer ∧ (creditGroups dt s).tracker.train = s.tracker.train ∧ (creditGroups dt
    s).tracker.strayPending = s.tracker.strayPending := by
  and_intros <;> (unfold creditGroups; (try dsimp only); (repeat' split) <;> simp)

@[simp] theorem testTubes_frame (s : State) :
    (testTubes s).pending = s.pending ∧ (testTubes s).freeCount = s.freeCount ∧ (testTubes s).now = s.now ∧
    (testTubes s).pins = s.pins ∧ (testTubes s).intake = s.intake ∧ (testTubes s).supervisor = s.supervisor ∧
    (testTubes s).admission = s.admission ∧ (testTubes s).transport = s.transport ∧ (testTubes s).banks =
    s.banks ∧ (testTubes s).claimLead = s.claimLead ∧ (testTubes s).wash = s.wash ∧ (testTubes s).drying =
    s.drying ∧ (testTubes s).shuttle = s.shuttle ∧ (testTubes s).link = s.link ∧ (testTubes s).safety = s.safety
    ∧ (testTubes s).cal = s.cal ∧ (testTubes s).bus.capture = s.bus.capture ∧ (testTubes s).bus.hold =
    s.bus.hold ∧ (testTubes s).bus.dataOut = s.bus.dataOut ∧ (testTubes s).bus.resetSource = s.bus.resetSource ∧
    (testTubes s).bus.protect = s.bus.protect ∧ (testTubes s).bus.mask = s.bus.mask ∧ (testTubes s).bus.interval
    = s.bus.interval ∧ (testTubes s).bus.hbTimeout = s.bus.hbTimeout ∧ (testTubes s).bus.hbTimer = s.bus.hbTimer
    ∧ (testTubes s).tracker.train = s.tracker.train ∧ (testTubes s).tracker.strayPending =
    s.tracker.strayPending := by
  and_intros <;> (unfold testTubes; (try dsimp only); (repeat' split) <;> simp)

@[simp] theorem testDoor_frame (s : State) :
    (testDoor s).pending = s.pending ∧ (testDoor s).freeCount = s.freeCount ∧ (testDoor s).now = s.now ∧
    (testDoor s).pins = s.pins ∧ (testDoor s).intake = s.intake ∧ (testDoor s).supervisor = s.supervisor ∧
    (testDoor s).admission = s.admission ∧ (testDoor s).transport = s.transport ∧ (testDoor s).banks = s.banks ∧
    (testDoor s).claimLead = s.claimLead ∧ (testDoor s).wash = s.wash ∧ (testDoor s).drying = s.drying ∧
    (testDoor s).shuttle = s.shuttle ∧ (testDoor s).link = s.link ∧ (testDoor s).safety = s.safety ∧ (testDoor
    s).cal = s.cal ∧ (testDoor s).bus.capture = s.bus.capture ∧ (testDoor s).bus.hold = s.bus.hold ∧ (testDoor
    s).bus.dataOut = s.bus.dataOut ∧ (testDoor s).bus.resetSource = s.bus.resetSource ∧ (testDoor s).bus.protect
    = s.bus.protect ∧ (testDoor s).bus.latched = s.bus.latched ∧ (testDoor s).bus.mask = s.bus.mask ∧ (testDoor
    s).bus.attn = s.bus.attn ∧ (testDoor s).bus.holdOff = s.bus.holdOff ∧ (testDoor s).bus.interval =
    s.bus.interval ∧ (testDoor s).bus.hbTimeout = s.bus.hbTimeout ∧ (testDoor s).bus.hbTimer = s.bus.hbTimer ∧
    (testDoor s).tracker.train = s.tracker.train ∧ (testDoor s).tracker.strayPending = s.tracker.strayPending := by
  and_intros <;> (unfold testDoor; (repeat' split) <;> simp)

@[simp] theorem takeFinisherReport_frame (d : Vector Byte 6) (s : State) :
    (takeFinisherReport d s).pending = s.pending ∧ (takeFinisherReport d s).freeCount = s.freeCount ∧
    (takeFinisherReport d s).now = s.now ∧ (takeFinisherReport d s).pins = s.pins ∧ (takeFinisherReport d
    s).intake = s.intake ∧ (takeFinisherReport d s).supervisor = s.supervisor ∧ (takeFinisherReport d
    s).transport = s.transport ∧ (takeFinisherReport d s).banks = s.banks ∧ (takeFinisherReport d s).claimLead =
    s.claimLead ∧ (takeFinisherReport d s).wash = s.wash ∧ (takeFinisherReport d s).safety = s.safety ∧
    (takeFinisherReport d s).cal = s.cal ∧ (takeFinisherReport d s).bus.capture = s.bus.capture ∧
    (takeFinisherReport d s).bus.hold = s.bus.hold ∧ (takeFinisherReport d s).bus.dataOut = s.bus.dataOut ∧
    (takeFinisherReport d s).bus.resetSource = s.bus.resetSource ∧ (takeFinisherReport d s).bus.protect =
    s.bus.protect ∧ (takeFinisherReport d s).bus.mask = s.bus.mask ∧ (takeFinisherReport d s).bus.interval =
    s.bus.interval ∧ (takeFinisherReport d s).bus.hbTimeout = s.bus.hbTimeout ∧ (takeFinisherReport d
    s).bus.hbTimer = s.bus.hbTimer ∧ (takeFinisherReport d s).admission.queue = s.admission.queue ∧
    (takeFinisherReport d s).admission.holdReason = s.admission.holdReason ∧ (takeFinisherReport d
    s).admission.epochNo = s.admission.epochNo ∧ (takeFinisherReport d s).admission.epochSpeed =
    s.admission.epochSpeed ∧ (takeFinisherReport d s).admission.epochCurrent = s.admission.epochCurrent ∧
    (takeFinisherReport d s).admission.misfeedHold = s.admission.misfeedHold ∧ (takeFinisherReport d
    s).admission.gateOpen = s.admission.gateOpen ∧ (takeFinisherReport d s).admission.mark = s.admission.mark ∧
    (takeFinisherReport d s).tracker.train = s.tracker.train ∧ (takeFinisherReport d s).tracker.strayPending =
    s.tracker.strayPending ∧ (takeFinisherReport d s).link.mode = s.link.mode ∧ (takeFinisherReport d
    s).link.phase = s.link.phase ∧ (takeFinisherReport d s).link.lastNode = s.link.lastNode ∧
    (takeFinisherReport d s).link.assign = s.link.assign := by
  and_intros <;> (simp [takeFinisherReport])

/-- All that `testUnload` can do. -/
theorem testUnload_cases (before : Bool) (s : State) :
    (s.shuttle.stackFull = before ∧ testUnload before s = s) ∨
    (s.shuttle.stackFull ≠ before ∧ testUnload before s = grant s) := by
  unfold testUnload; split <;> simp_all

/-- A shuttle that is not READY is granted nothing. -/
theorem grant_of_not_ready (s : State) (h : s.shuttle.state ≠ .ready) : grant s = s := by
  simp [grant, h]

end Sys2Proof.Machine
end

