-- ==== Sys2Proof/Laws/FrameLinkScan.lean ====
section
/-! SUPPORT. What the operations of Machine/LinkScan.lean leave unchanged: one frame lemma for each, which
`simp` takes part by part, and what the end of a pass can do. -/

namespace Sys2Proof.Machine

@[simp] theorem toldLeft_frame (st : Station) (s : State) :
    (toldLeft st s).pending = s.pending ∧ (toldLeft st s).freeCount = s.freeCount ∧ (toldLeft st s).now = s.now
    ∧ (toldLeft st s).pins = s.pins ∧ (toldLeft st s).bus = s.bus ∧ (toldLeft st s).intake = s.intake ∧
    (toldLeft st s).supervisor = s.supervisor ∧ (toldLeft st s).admission = s.admission ∧ (toldLeft st
    s).tracker = s.tracker ∧ (toldLeft st s).banks = s.banks ∧ (toldLeft st s).claimLead = s.claimLead ∧
    (toldLeft st s).wash = s.wash ∧ (toldLeft st s).chamber = s.chamber ∧ (toldLeft st s).link = s.link ∧
    (toldLeft st s).safety = s.safety ∧ (toldLeft st s).cal = s.cal ∧ (toldLeft st s).drying.rack =
    s.drying.rack ∧ (toldLeft st s).drying.dryList = s.drying.dryList ∧ (toldLeft st s).shuttle.move =
    s.shuttle.move := by
  and_intros <;> (unfold toldLeft; (repeat' split) <;> simp)

@[simp] theorem takeAssignment_frame (s : State) :
    (takeAssignment s).pending = s.pending ∧ (takeAssignment s).freeCount = s.freeCount ∧ (takeAssignment s).now
    = s.now ∧ (takeAssignment s).pins = s.pins ∧ (takeAssignment s).intake = s.intake ∧ (takeAssignment
    s).supervisor = s.supervisor ∧ (takeAssignment s).banks = s.banks ∧ (takeAssignment s).claimLead =
    s.claimLead ∧ (takeAssignment s).wash = s.wash ∧ (takeAssignment s).safety = s.safety ∧ (takeAssignment
    s).cal = s.cal ∧ (takeAssignment s).bus.capture = s.bus.capture ∧ (takeAssignment s).bus.hold = s.bus.hold ∧
    (takeAssignment s).bus.dataOut = s.bus.dataOut ∧ (takeAssignment s).bus.resetSource = s.bus.resetSource ∧
    (takeAssignment s).bus.protect = s.bus.protect ∧ (takeAssignment s).bus.latched = s.bus.latched ∧
    (takeAssignment s).bus.mask = s.bus.mask ∧ (takeAssignment s).bus.attn = s.bus.attn ∧ (takeAssignment
    s).bus.holdOff = s.bus.holdOff ∧ (takeAssignment s).bus.interval = s.bus.interval ∧ (takeAssignment
    s).bus.hbTimeout = s.bus.hbTimeout ∧ (takeAssignment s).bus.hbTimer = s.bus.hbTimer ∧ (takeAssignment
    s).admission.queue = s.admission.queue ∧ (takeAssignment s).admission.holdReason = s.admission.holdReason ∧
    (takeAssignment s).admission.epochNo = s.admission.epochNo ∧ (takeAssignment s).admission.epochSpeed =
    s.admission.epochSpeed ∧ (takeAssignment s).admission.epochCurrent = s.admission.epochCurrent ∧
    (takeAssignment s).admission.misfeedHold = s.admission.misfeedHold ∧ (takeAssignment s).admission.gateOpen =
    s.admission.gateOpen ∧ (takeAssignment s).admission.mark = s.admission.mark ∧ (takeAssignment
    s).tracker.train = s.tracker.train ∧ (takeAssignment s).tracker.strayPending = s.tracker.strayPending ∧
    (takeAssignment s).link.mode = s.link.mode ∧ (takeAssignment s).link.phase = s.link.phase ∧ (takeAssignment
    s).link.lastNode = s.link.lastNode ∧ (takeAssignment s).link.assign = s.link.assign := 
  ⟨by unfold takeAssignment; (try dsimp only); (try simp); exact foldl_keeps (fun t : State => t.pending) _ (fun t a => by (repeat' split) <;> simp) _ _,
   by unfold takeAssignment; (try dsimp only); (try simp); exact foldl_keeps (fun t : State => t.freeCount) _ (fun t a => by (repeat' split) <;> simp) _ _,
   by unfold takeAssignment; (try dsimp only); (try simp); exact foldl_keeps (fun t : State => t.now) _ (fun t a => by (repeat' split) <;> simp) _ _,
   by unfold takeAssignment; (try dsimp only); (try simp); exact foldl_keeps (fun t : State => t.pins) _ (fun t a => by (repeat' split) <;> simp) _ _,
   by unfold takeAssignment; (try dsimp only); (try simp); exact foldl_keeps (fun t : State => t.intake) _ (fun t a => by (repeat' split) <;> simp) _ _,
   by unfold takeAssignment; (try dsimp only); (try simp); exact foldl_keeps (fun t : State => t.supervisor) _ (fun t a => by (repeat' split) <;> simp) _ _,
   by unfold takeAssignment; (try dsimp only); (try simp); exact foldl_keeps (fun t : State => t.banks) _ (fun t a => by (repeat' split) <;> simp) _ _,
   by unfold takeAssignment; (try dsimp only); (try simp); exact foldl_keeps (fun t : State => t.claimLead) _ (fun t a => by (repeat' split) <;> simp) _ _,
   by unfold takeAssignment; (try dsimp only); (try simp); exact foldl_keeps (fun t : State => t.wash) _ (fun t a => by (repeat' split) <;> simp) _ _,
   by unfold takeAssignment; (try dsimp only); (try simp); exact foldl_keeps (fun t : State => t.safety) _ (fun t a => by (repeat' split) <;> simp) _ _,
   by unfold takeAssignment; (try dsimp only); (try simp); exact foldl_keeps (fun t : State => t.cal) _ (fun t a => by (repeat' split) <;> simp) _ _,
   by unfold takeAssignment; (try dsimp only); (try simp); exact foldl_keeps (fun t : State => t.bus.capture) _ (fun t a => by (repeat' split) <;> simp) _ _,
   by unfold takeAssignment; (try dsimp only); (try simp); exact foldl_keeps (fun t : State => t.bus.hold) _ (fun t a => by (repeat' split) <;> simp) _ _,
   by unfold takeAssignment; (try dsimp only); (try simp); exact foldl_keeps (fun t : State => t.bus.dataOut) _ (fun t a => by (repeat' split) <;> simp) _ _,
   by unfold takeAssignment; (try dsimp only); (try simp); exact foldl_keeps (fun t : State => t.bus.resetSource) _ (fun t a => by (repeat' split) <;> simp) _ _,
   by unfold takeAssignment; (try dsimp only); (try simp); exact foldl_keeps (fun t : State => t.bus.protect) _ (fun t a => by (repeat' split) <;> simp) _ _,
   by unfold takeAssignment; (try dsimp only); (try simp); exact foldl_keeps (fun t : State => t.bus.latched) _ (fun t a => by (repeat' split) <;> simp) _ _,
   by unfold takeAssignment; (try dsimp only); (try simp); exact foldl_keeps (fun t : State => t.bus.mask) _ (fun t a => by (repeat' split) <;> simp) _ _,
   by unfold takeAssignment; (try dsimp only); (try simp); exact foldl_keeps (fun t : State => t.bus.attn) _ (fun t a => by (repeat' split) <;> simp) _ _,
   by unfold takeAssignment; (try dsimp only); (try simp); exact foldl_keeps (fun t : State => t.bus.holdOff) _ (fun t a => by (repeat' split) <;> simp) _ _,
   by unfold takeAssignment; (try dsimp only); (try simp); exact foldl_keeps (fun t : State => t.bus.interval) _ (fun t a => by (repeat' split) <;> simp) _ _,
   by unfold takeAssignment; (try dsimp only); (try simp); exact foldl_keeps (fun t : State => t.bus.hbTimeout) _ (fun t a => by (repeat' split) <;> simp) _ _,
   by unfold takeAssignment; (try dsimp only); (try simp); exact foldl_keeps (fun t : State => t.bus.hbTimer) _ (fun t a => by (repeat' split) <;> simp) _ _,
   by unfold takeAssignment; (try dsimp only); (try simp); exact foldl_keeps (fun t : State => t.admission.queue) _ (fun t a => by (repeat' split) <;> simp) _ _,
   by unfold takeAssignment; (try dsimp only); (try simp); exact foldl_keeps (fun t : State => t.admission.holdReason) _ (fun t a => by (repeat' split) <;> simp) _ _,
   by unfold takeAssignment; (try dsimp only); (try simp); exact foldl_keeps (fun t : State => t.admission.epochNo) _ (fun t a => by (repeat' split) <;> simp) _ _,
   by unfold takeAssignment; (try dsimp only); (try simp); exact foldl_keeps (fun t : State => t.admission.epochSpeed) _ (fun t a => by (repeat' split) <;> simp) _ _,
   by unfold takeAssignment; (try dsimp only); (try simp); exact foldl_keeps (fun t : State => t.admission.epochCurrent) _ (fun t a => by (repeat' split) <;> simp) _ _,
   by unfold takeAssignment; (try dsimp only); (try simp); exact foldl_keeps (fun t : State => t.admission.misfeedHold) _ (fun t a => by (repeat' split) <;> simp) _ _,
   by unfold takeAssignment; (try dsimp only); (try simp); exact foldl_keeps (fun t : State => t.admission.gateOpen) _ (fun t a => by (repeat' split) <;> simp) _ _,
   by unfold takeAssignment; (try dsimp only); (try simp); exact foldl_keeps (fun t : State => t.admission.mark) _ (fun t a => by (repeat' split) <;> simp) _ _,
   by unfold takeAssignment; (try dsimp only); (try simp); exact foldl_keeps (fun t : State => t.tracker.train) _ (fun t a => by (repeat' split) <;> simp) _ _,
   by unfold takeAssignment; (try dsimp only); (try simp); exact foldl_keeps (fun t : State => t.tracker.strayPending) _ (fun t a => by (repeat' split) <;> simp) _ _,
   by unfold takeAssignment; (try dsimp only); (try simp); exact foldl_keeps (fun t : State => t.link.mode) _ (fun t a => by (repeat' split) <;> simp) _ _,
   by unfold takeAssignment; (try dsimp only); (try simp); exact foldl_keeps (fun t : State => t.link.phase) _ (fun t a => by (repeat' split) <;> simp) _ _,
   by unfold takeAssignment; (try dsimp only); (try simp); exact foldl_keeps (fun t : State => t.link.lastNode) _ (fun t a => by (repeat' split) <;> simp) _ _,
   by unfold takeAssignment; (try dsimp only); (try simp); exact foldl_keeps (fun t : State => t.link.assign) _ (fun t a => by (repeat' split) <;> simp) _ _⟩

@[simp] theorem startPass_frame (s : State) :
    (startPass s).pending = s.pending ∧ (startPass s).freeCount = s.freeCount ∧ (startPass s).now = s.now ∧
    (startPass s).pins = s.pins ∧ (startPass s).intake = s.intake ∧ (startPass s).supervisor = s.supervisor ∧
    (startPass s).banks = s.banks ∧ (startPass s).claimLead = s.claimLead ∧ (startPass s).wash = s.wash ∧
    (startPass s).safety = s.safety ∧ (startPass s).cal = s.cal ∧ (startPass s).bus.capture = s.bus.capture ∧
    (startPass s).bus.hold = s.bus.hold ∧ (startPass s).bus.dataOut = s.bus.dataOut ∧ (startPass
    s).bus.resetSource = s.bus.resetSource ∧ (startPass s).bus.protect = s.bus.protect ∧ (startPass
    s).bus.latched = s.bus.latched ∧ (startPass s).bus.mask = s.bus.mask ∧ (startPass s).bus.attn = s.bus.attn ∧
    (startPass s).bus.holdOff = s.bus.holdOff ∧ (startPass s).bus.interval = s.bus.interval ∧ (startPass
    s).bus.hbTimeout = s.bus.hbTimeout ∧ (startPass s).bus.hbTimer = s.bus.hbTimer ∧ (startPass
    s).admission.queue = s.admission.queue ∧ (startPass s).admission.holdReason = s.admission.holdReason ∧
    (startPass s).admission.epochNo = s.admission.epochNo ∧ (startPass s).admission.epochSpeed =
    s.admission.epochSpeed ∧ (startPass s).admission.epochCurrent = s.admission.epochCurrent ∧ (startPass
    s).admission.misfeedHold = s.admission.misfeedHold ∧ (startPass s).admission.gateOpen = s.admission.gateOpen
    ∧ (startPass s).admission.mark = s.admission.mark ∧ (startPass s).tracker.train = s.tracker.train ∧
    (startPass s).tracker.strayPending = s.tracker.strayPending := by
  and_intros <;> (unfold startPass; (try dsimp only); (repeat' split) <;> simp)

@[simp] theorem endPass_frame (s : State) :
    (endPass s).pending = s.pending ∧ (endPass s).freeCount = s.freeCount ∧ (endPass s).now = s.now ∧ (endPass
    s).pins = s.pins ∧ (endPass s).intake = s.intake ∧ (endPass s).supervisor = s.supervisor ∧ (endPass s).banks
    = s.banks ∧ (endPass s).claimLead = s.claimLead ∧ (endPass s).wash = s.wash ∧ (endPass s).safety = s.safety
    ∧ (endPass s).cal = s.cal ∧ (endPass s).bus.capture = s.bus.capture ∧ (endPass s).bus.hold = s.bus.hold ∧
    (endPass s).bus.dataOut = s.bus.dataOut ∧ (endPass s).bus.resetSource = s.bus.resetSource ∧ (endPass
    s).bus.protect = s.bus.protect ∧ (endPass s).bus.latched = s.bus.latched ∧ (endPass s).bus.mask = s.bus.mask
    ∧ (endPass s).bus.attn = s.bus.attn ∧ (endPass s).bus.holdOff = s.bus.holdOff ∧ (endPass s).bus.interval =
    s.bus.interval ∧ (endPass s).bus.hbTimeout = s.bus.hbTimeout ∧ (endPass s).bus.hbTimer = s.bus.hbTimer ∧
    (endPass s).admission.queue = s.admission.queue ∧ (endPass s).admission.holdReason = s.admission.holdReason
    ∧ (endPass s).admission.epochNo = s.admission.epochNo ∧ (endPass s).admission.epochSpeed =
    s.admission.epochSpeed ∧ (endPass s).admission.epochCurrent = s.admission.epochCurrent ∧ (endPass
    s).admission.misfeedHold = s.admission.misfeedHold ∧ (endPass s).admission.gateOpen = s.admission.gateOpen ∧
    (endPass s).admission.mark = s.admission.mark ∧ (endPass s).tracker.train = s.tracker.train ∧ (endPass
    s).tracker.strayPending = s.tracker.strayPending := by
  and_intros <;> (unfold endPass; (try dsimp only); (repeat' split) <;> simp)

@[simp] theorem linkContinuous_frame (s : State) :
    (linkContinuous s).pending = s.pending ∧ (linkContinuous s).freeCount = s.freeCount ∧ (linkContinuous s).now
    = s.now ∧ (linkContinuous s).pins = s.pins ∧ (linkContinuous s).intake = s.intake ∧ (linkContinuous
    s).supervisor = s.supervisor ∧ (linkContinuous s).banks = s.banks ∧ (linkContinuous s).claimLead =
    s.claimLead ∧ (linkContinuous s).wash = s.wash ∧ (linkContinuous s).safety = s.safety ∧ (linkContinuous
    s).cal = s.cal ∧ (linkContinuous s).bus.capture = s.bus.capture ∧ (linkContinuous s).bus.hold = s.bus.hold ∧
    (linkContinuous s).bus.dataOut = s.bus.dataOut ∧ (linkContinuous s).bus.resetSource = s.bus.resetSource ∧
    (linkContinuous s).bus.protect = s.bus.protect ∧ (linkContinuous s).bus.latched = s.bus.latched ∧
    (linkContinuous s).bus.mask = s.bus.mask ∧ (linkContinuous s).bus.attn = s.bus.attn ∧ (linkContinuous
    s).bus.holdOff = s.bus.holdOff ∧ (linkContinuous s).bus.interval = s.bus.interval ∧ (linkContinuous
    s).bus.hbTimeout = s.bus.hbTimeout ∧ (linkContinuous s).bus.hbTimer = s.bus.hbTimer ∧ (linkContinuous
    s).admission.queue = s.admission.queue ∧ (linkContinuous s).admission.holdReason = s.admission.holdReason ∧
    (linkContinuous s).admission.epochNo = s.admission.epochNo ∧ (linkContinuous s).admission.epochSpeed =
    s.admission.epochSpeed ∧ (linkContinuous s).admission.epochCurrent = s.admission.epochCurrent ∧
    (linkContinuous s).admission.misfeedHold = s.admission.misfeedHold ∧ (linkContinuous s).admission.gateOpen =
    s.admission.gateOpen ∧ (linkContinuous s).admission.mark = s.admission.mark ∧ (linkContinuous
    s).tracker.train = s.tracker.train ∧ (linkContinuous s).tracker.strayPending = s.tracker.strayPending := by
  and_intros <;> (unfold linkContinuous; (try dsimp only); (repeat' split) <;> simp)

@[simp] theorem linkSingle_frame (s : State) :
    (linkSingle s).pending = s.pending ∧ (linkSingle s).freeCount = s.freeCount ∧ (linkSingle s).now = s.now ∧
    (linkSingle s).pins = s.pins ∧ (linkSingle s).intake = s.intake ∧ (linkSingle s).supervisor = s.supervisor ∧
    (linkSingle s).banks = s.banks ∧ (linkSingle s).claimLead = s.claimLead ∧ (linkSingle s).wash = s.wash ∧
    (linkSingle s).safety = s.safety ∧ (linkSingle s).cal = s.cal ∧ (linkSingle s).bus.capture = s.bus.capture ∧
    (linkSingle s).bus.hold = s.bus.hold ∧ (linkSingle s).bus.dataOut = s.bus.dataOut ∧ (linkSingle
    s).bus.resetSource = s.bus.resetSource ∧ (linkSingle s).bus.protect = s.bus.protect ∧ (linkSingle
    s).bus.latched = s.bus.latched ∧ (linkSingle s).bus.mask = s.bus.mask ∧ (linkSingle s).bus.attn = s.bus.attn
    ∧ (linkSingle s).bus.holdOff = s.bus.holdOff ∧ (linkSingle s).bus.interval = s.bus.interval ∧ (linkSingle
    s).bus.hbTimeout = s.bus.hbTimeout ∧ (linkSingle s).bus.hbTimer = s.bus.hbTimer ∧ (linkSingle
    s).admission.queue = s.admission.queue ∧ (linkSingle s).admission.holdReason = s.admission.holdReason ∧
    (linkSingle s).admission.epochNo = s.admission.epochNo ∧ (linkSingle s).admission.epochSpeed =
    s.admission.epochSpeed ∧ (linkSingle s).admission.epochCurrent = s.admission.epochCurrent ∧ (linkSingle
    s).admission.misfeedHold = s.admission.misfeedHold ∧ (linkSingle s).admission.gateOpen =
    s.admission.gateOpen ∧ (linkSingle s).admission.mark = s.admission.mark ∧ (linkSingle s).tracker.train =
    s.tracker.train ∧ (linkSingle s).tracker.strayPending = s.tracker.strayPending := by
  and_intros <;> (unfold linkSingle; (try dsimp only); (repeat' split) <;> simp)

/-! ## What the end of a pass can do (R173, R174) -/

/-- With no pass to follow the scan is STOPPED. -/
theorem endPass_of_none_follows {s : State} (h : passFollows s.link = false) :
    endPass s = { s with link := { s.link with mode := .stopped, phase := .between, passTimer := none } } := by
  simp [endPass, h]

/-- While the pass timer runs the scan stands between passes. -/
theorem endPass_of_timer {s : State} {d : Nat} (h : passFollows s.link = true) (t : s.link.passTimer = some d) :
    endPass s = { s with link.phase := .between } := by
  simp [endPass, h, t]

/-- With the pass timer expired the pass that follows starts. -/
theorem endPass_of_expired {s : State} (h : passFollows s.link = true) (t : s.link.passTimer = none) :
    endPass s = startPass s := by
  simp [endPass, h, t]

end Sys2Proof.Machine
end

