-- ==== Sys2Proof/Laws/FrameLine.lean ====
section
/-! SUPPORT. What the operations of Machine/Line.lean leave unchanged: one frame lemma for each, which
`simp` takes part by part. -/

namespace Sys2Proof.Machine

@[simp] theorem endEpoch_frame (s : State) :
    (endEpoch s).pending = s.pending ∧ (endEpoch s).freeCount = s.freeCount ∧ (endEpoch s).now = s.now ∧
    (endEpoch s).pins = s.pins ∧ (endEpoch s).bus = s.bus ∧ (endEpoch s).intake = s.intake ∧ (endEpoch
    s).supervisor = s.supervisor ∧ (endEpoch s).tracker = s.tracker ∧ (endEpoch s).banks = s.banks ∧ (endEpoch
    s).claimLead = s.claimLead ∧ (endEpoch s).wash = s.wash ∧ (endEpoch s).drying = s.drying ∧ (endEpoch
    s).shuttle = s.shuttle ∧ (endEpoch s).chamber = s.chamber ∧ (endEpoch s).link = s.link ∧ (endEpoch s).safety
    = s.safety ∧ (endEpoch s).cal = s.cal ∧ (endEpoch s).admission.queue = s.admission.queue ∧ (endEpoch
    s).admission.holdReason = s.admission.holdReason ∧ (endEpoch s).admission.commitments =
    s.admission.commitments ∧ (endEpoch s).admission.epochNo = s.admission.epochNo ∧ (endEpoch
    s).admission.epochSpeed = s.admission.epochSpeed ∧ (endEpoch s).admission.misfeedHold =
    s.admission.misfeedHold ∧ (endEpoch s).admission.gateOpen = s.admission.gateOpen ∧ (endEpoch
    s).admission.mark = s.admission.mark := by
  and_intros <;> (simp [endEpoch])

@[simp] theorem setLine_frame (l : LineState) (s : State) :
    (setLine l s).pending = s.pending ∧ (setLine l s).freeCount = s.freeCount ∧ (setLine l s).now = s.now ∧
    (setLine l s).pins = s.pins ∧ (setLine l s).bus = s.bus ∧ (setLine l s).intake = s.intake ∧ (setLine l
    s).admission = s.admission ∧ (setLine l s).tracker = s.tracker ∧ (setLine l s).transport = s.transport ∧
    (setLine l s).claimLead = s.claimLead ∧ (setLine l s).wash = s.wash ∧ (setLine l s).drying = s.drying ∧
    (setLine l s).shuttle = s.shuttle ∧ (setLine l s).chamber = s.chamber ∧ (setLine l s).link = s.link ∧
    (setLine l s).safety = s.safety ∧ (setLine l s).cal = s.cal ∧ (setLine l s).supervisor.cause =
    s.supervisor.cause ∧ (setLine l s).supervisor.lineTime = s.supervisor.lineTime ∧ (setLine l
    s).supervisor.outcome = s.supervisor.outcome ∧ (setLine l s).supervisor.timer = s.supervisor.timer := by
  and_intros <;> (simp [setLine])

@[simp] theorem drainedToIdle_frame (s : State) :
    (drainedToIdle s).pending = s.pending ∧ (drainedToIdle s).freeCount = s.freeCount ∧ (drainedToIdle s).now =
    s.now ∧ (drainedToIdle s).pins = s.pins ∧ (drainedToIdle s).bus = s.bus ∧ (drainedToIdle s).intake =
    s.intake ∧ (drainedToIdle s).tracker = s.tracker ∧ (drainedToIdle s).claimLead = s.claimLead ∧
    (drainedToIdle s).wash = s.wash ∧ (drainedToIdle s).drying = s.drying ∧ (drainedToIdle s).shuttle =
    s.shuttle ∧ (drainedToIdle s).chamber = s.chamber ∧ (drainedToIdle s).link = s.link ∧ (drainedToIdle
    s).safety = s.safety ∧ (drainedToIdle s).cal = s.cal ∧ (drainedToIdle s).supervisor.cause =
    s.supervisor.cause ∧ (drainedToIdle s).supervisor.lineTime = s.supervisor.lineTime ∧ (drainedToIdle
    s).supervisor.outcome = s.supervisor.outcome ∧ (drainedToIdle s).supervisor.timer = s.supervisor.timer ∧
    (drainedToIdle s).admission.queue = s.admission.queue ∧ (drainedToIdle s).admission.holdReason =
    s.admission.holdReason ∧ (drainedToIdle s).admission.commitments = s.admission.commitments ∧ (drainedToIdle
    s).admission.epochNo = s.admission.epochNo ∧ (drainedToIdle s).admission.epochSpeed = s.admission.epochSpeed
    ∧ (drainedToIdle s).admission.misfeedHold = s.admission.misfeedHold ∧ (drainedToIdle s).admission.gateOpen =
    s.admission.gateOpen ∧ (drainedToIdle s).admission.mark = s.admission.mark := by
  and_intros <;> (simp [drainedToIdle])

@[simp] theorem idleIfDrained_frame (s : State) :
    (idleIfDrained s).pending = s.pending ∧ (idleIfDrained s).freeCount = s.freeCount ∧ (idleIfDrained s).now =
    s.now ∧ (idleIfDrained s).pins = s.pins ∧ (idleIfDrained s).bus = s.bus ∧ (idleIfDrained s).intake =
    s.intake ∧ (idleIfDrained s).tracker = s.tracker ∧ (idleIfDrained s).claimLead = s.claimLead ∧
    (idleIfDrained s).wash = s.wash ∧ (idleIfDrained s).drying = s.drying ∧ (idleIfDrained s).shuttle =
    s.shuttle ∧ (idleIfDrained s).chamber = s.chamber ∧ (idleIfDrained s).link = s.link ∧ (idleIfDrained
    s).safety = s.safety ∧ (idleIfDrained s).cal = s.cal ∧ (idleIfDrained s).supervisor.cause =
    s.supervisor.cause ∧ (idleIfDrained s).supervisor.lineTime = s.supervisor.lineTime ∧ (idleIfDrained
    s).supervisor.outcome = s.supervisor.outcome ∧ (idleIfDrained s).supervisor.timer = s.supervisor.timer ∧
    (idleIfDrained s).admission.queue = s.admission.queue ∧ (idleIfDrained s).admission.holdReason =
    s.admission.holdReason ∧ (idleIfDrained s).admission.commitments = s.admission.commitments ∧ (idleIfDrained
    s).admission.epochNo = s.admission.epochNo ∧ (idleIfDrained s).admission.epochSpeed = s.admission.epochSpeed
    ∧ (idleIfDrained s).admission.misfeedHold = s.admission.misfeedHold ∧ (idleIfDrained s).admission.gateOpen =
    s.admission.gateOpen ∧ (idleIfDrained s).admission.mark = s.admission.mark := by
  and_intros <;> (unfold idleIfDrained; (repeat' split) <;> simp)

@[simp] theorem closeGate_frame (s : State) :
    (closeGate s).pending = s.pending ∧ (closeGate s).freeCount = s.freeCount ∧ (closeGate s).now = s.now ∧
    (closeGate s).pins = s.pins ∧ (closeGate s).bus = s.bus ∧ (closeGate s).intake = s.intake ∧ (closeGate
    s).supervisor = s.supervisor ∧ (closeGate s).tracker = s.tracker ∧ (closeGate s).transport = s.transport ∧
    (closeGate s).banks = s.banks ∧ (closeGate s).claimLead = s.claimLead ∧ (closeGate s).wash = s.wash ∧
    (closeGate s).drying = s.drying ∧ (closeGate s).shuttle = s.shuttle ∧ (closeGate s).chamber = s.chamber ∧
    (closeGate s).link = s.link ∧ (closeGate s).safety = s.safety ∧ (closeGate s).cal = s.cal ∧ (closeGate
    s).admission.queue = s.admission.queue ∧ (closeGate s).admission.holdReason = s.admission.holdReason ∧
    (closeGate s).admission.commitments = s.admission.commitments ∧ (closeGate s).admission.epochNo =
    s.admission.epochNo ∧ (closeGate s).admission.epochSpeed = s.admission.epochSpeed ∧ (closeGate
    s).admission.epochCurrent = s.admission.epochCurrent ∧ (closeGate s).admission.misfeedHold =
    s.admission.misfeedHold ∧ (closeGate s).admission.mark = s.admission.mark := by
  and_intros <;> (simp [closeGate])

@[simp] theorem spoilTrain_frame (s : State) :
    (spoilTrain s).pending = s.pending ∧ (spoilTrain s).freeCount = s.freeCount ∧ (spoilTrain s).now = s.now ∧
    (spoilTrain s).pins = s.pins ∧ (spoilTrain s).intake = s.intake ∧ (spoilTrain s).supervisor = s.supervisor ∧
    (spoilTrain s).transport = s.transport ∧ (spoilTrain s).claimLead = s.claimLead ∧ (spoilTrain s).drying =
    s.drying ∧ (spoilTrain s).shuttle = s.shuttle ∧ (spoilTrain s).chamber = s.chamber ∧ (spoilTrain s).safety =
    s.safety ∧ (spoilTrain s).cal = s.cal ∧ (spoilTrain s).bus.capture = s.bus.capture ∧ (spoilTrain s).bus.hold
    = s.bus.hold ∧ (spoilTrain s).bus.dataOut = s.bus.dataOut ∧ (spoilTrain s).bus.resetSource =
    s.bus.resetSource ∧ (spoilTrain s).bus.protect = s.bus.protect ∧ (spoilTrain s).bus.mask = s.bus.mask ∧
    (spoilTrain s).bus.interval = s.bus.interval ∧ (spoilTrain s).bus.hbTimeout = s.bus.hbTimeout ∧ (spoilTrain
    s).bus.hbTimer = s.bus.hbTimer ∧ (spoilTrain s).admission.queue = s.admission.queue ∧ (spoilTrain
    s).admission.holdReason = s.admission.holdReason ∧ (spoilTrain s).admission.epochNo = s.admission.epochNo ∧
    (spoilTrain s).admission.epochSpeed = s.admission.epochSpeed ∧ (spoilTrain s).admission.epochCurrent =
    s.admission.epochCurrent ∧ (spoilTrain s).admission.misfeedHold = s.admission.misfeedHold ∧ (spoilTrain
    s).admission.gateOpen = s.admission.gateOpen ∧ (spoilTrain s).admission.mark = s.admission.mark ∧
    (spoilTrain s).tracker.strayPending = s.tracker.strayPending ∧ (spoilTrain s).link.mode = s.link.mode ∧
    (spoilTrain s).link.phase = s.link.phase ∧ (spoilTrain s).link.lastNode = s.link.lastNode ∧ (spoilTrain
    s).link.assign = s.link.assign := by
  unfold spoilTrain
  generalize s.tracker.train = l
  induction l generalizing s with
  | nil => simp
  | cons x xs ih => simp [ih]

@[simp] theorem stopLine_frame (cause : HaltCause) (attn : Attn) (l : LineState) (s : State) :
    (stopLine cause attn l s).pending = s.pending ∧ (stopLine cause attn l s).freeCount = s.freeCount ∧
    (stopLine cause attn l s).now = s.now ∧ (stopLine cause attn l s).pins = s.pins ∧ (stopLine cause attn l
    s).intake = s.intake ∧ (stopLine cause attn l s).claimLead = s.claimLead ∧ (stopLine cause attn l s).drying
    = s.drying ∧ (stopLine cause attn l s).shuttle = s.shuttle ∧ (stopLine cause attn l s).chamber = s.chamber ∧
    (stopLine cause attn l s).safety = s.safety ∧ (stopLine cause attn l s).cal = s.cal ∧ (stopLine cause attn l
    s).bus.capture = s.bus.capture ∧ (stopLine cause attn l s).bus.hold = s.bus.hold ∧ (stopLine cause attn l
    s).bus.dataOut = s.bus.dataOut ∧ (stopLine cause attn l s).bus.resetSource = s.bus.resetSource ∧ (stopLine
    cause attn l s).bus.protect = s.bus.protect ∧ (stopLine cause attn l s).bus.mask = s.bus.mask ∧ (stopLine
    cause attn l s).bus.interval = s.bus.interval ∧ (stopLine cause attn l s).bus.hbTimeout = s.bus.hbTimeout ∧
    (stopLine cause attn l s).bus.hbTimer = s.bus.hbTimer ∧ (stopLine cause attn l s).supervisor.lineTime =
    s.supervisor.lineTime ∧ (stopLine cause attn l s).supervisor.outcome = s.supervisor.outcome ∧ (stopLine
    cause attn l s).supervisor.timer = s.supervisor.timer ∧ (stopLine cause attn l s).admission.queue =
    s.admission.queue ∧ (stopLine cause attn l s).admission.holdReason = s.admission.holdReason ∧ (stopLine
    cause attn l s).admission.epochNo = s.admission.epochNo ∧ (stopLine cause attn l s).admission.epochSpeed =
    s.admission.epochSpeed ∧ (stopLine cause attn l s).admission.misfeedHold = s.admission.misfeedHold ∧
    (stopLine cause attn l s).admission.mark = s.admission.mark ∧ (stopLine cause attn l s).tracker.strayPending
    = s.tracker.strayPending ∧ (stopLine cause attn l s).link.mode = s.link.mode ∧ (stopLine cause attn l
    s).link.phase = s.link.phase ∧ (stopLine cause attn l s).link.lastNode = s.link.lastNode ∧ (stopLine cause
    attn l s).link.assign = s.link.assign := by
  and_intros <;> (simp [stopLine])

@[simp] theorem raiseHalt_frame (cause : HaltCause) (s : State) :
    (raiseHalt cause s).pending = s.pending ∧ (raiseHalt cause s).freeCount = s.freeCount ∧ (raiseHalt cause
    s).now = s.now ∧ (raiseHalt cause s).pins = s.pins ∧ (raiseHalt cause s).intake = s.intake ∧ (raiseHalt
    cause s).claimLead = s.claimLead ∧ (raiseHalt cause s).drying = s.drying ∧ (raiseHalt cause s).shuttle =
    s.shuttle ∧ (raiseHalt cause s).chamber = s.chamber ∧ (raiseHalt cause s).safety = s.safety ∧ (raiseHalt
    cause s).cal = s.cal ∧ (raiseHalt cause s).bus.capture = s.bus.capture ∧ (raiseHalt cause s).bus.hold =
    s.bus.hold ∧ (raiseHalt cause s).bus.dataOut = s.bus.dataOut ∧ (raiseHalt cause s).bus.resetSource =
    s.bus.resetSource ∧ (raiseHalt cause s).bus.protect = s.bus.protect ∧ (raiseHalt cause s).bus.mask =
    s.bus.mask ∧ (raiseHalt cause s).bus.interval = s.bus.interval ∧ (raiseHalt cause s).bus.hbTimeout =
    s.bus.hbTimeout ∧ (raiseHalt cause s).bus.hbTimer = s.bus.hbTimer ∧ (raiseHalt cause s).supervisor.lineTime
    = s.supervisor.lineTime ∧ (raiseHalt cause s).supervisor.outcome = s.supervisor.outcome ∧ (raiseHalt cause
    s).supervisor.timer = s.supervisor.timer ∧ (raiseHalt cause s).admission.queue = s.admission.queue ∧
    (raiseHalt cause s).admission.holdReason = s.admission.holdReason ∧ (raiseHalt cause s).admission.epochNo =
    s.admission.epochNo ∧ (raiseHalt cause s).admission.epochSpeed = s.admission.epochSpeed ∧ (raiseHalt cause
    s).admission.misfeedHold = s.admission.misfeedHold ∧ (raiseHalt cause s).admission.mark = s.admission.mark ∧
    (raiseHalt cause s).tracker.strayPending = s.tracker.strayPending ∧ (raiseHalt cause s).link.mode =
    s.link.mode ∧ (raiseHalt cause s).link.phase = s.link.phase ∧ (raiseHalt cause s).link.lastNode =
    s.link.lastNode ∧ (raiseHalt cause s).link.assign = s.link.assign := by
  and_intros <;> (unfold raiseHalt; (repeat' split) <;> simp)

@[simp] theorem safeShuttle_frame (s : State) :
    (safeShuttle s).pending = s.pending ∧ (safeShuttle s).freeCount = s.freeCount ∧ (safeShuttle s).now = s.now
    ∧ (safeShuttle s).pins = s.pins ∧ (safeShuttle s).bus = s.bus ∧ (safeShuttle s).intake = s.intake ∧
    (safeShuttle s).supervisor = s.supervisor ∧ (safeShuttle s).admission = s.admission ∧ (safeShuttle
    s).tracker = s.tracker ∧ (safeShuttle s).transport = s.transport ∧ (safeShuttle s).banks = s.banks ∧
    (safeShuttle s).claimLead = s.claimLead ∧ (safeShuttle s).wash = s.wash ∧ (safeShuttle s).drying = s.drying
    ∧ (safeShuttle s).chamber = s.chamber ∧ (safeShuttle s).link = s.link ∧ (safeShuttle s).safety = s.safety ∧
    (safeShuttle s).cal = s.cal ∧ (safeShuttle s).shuttle.move = s.shuttle.move := by
  and_intros <;> (unfold safeShuttle; (try dsimp only); (repeat' split) <;> simp)

@[simp] theorem safeStations_frame (s : State) :
    (safeStations s).pending = s.pending ∧ (safeStations s).freeCount = s.freeCount ∧ (safeStations s).now =
    s.now ∧ (safeStations s).pins = s.pins ∧ (safeStations s).intake = s.intake ∧ (safeStations s).supervisor =
    s.supervisor ∧ (safeStations s).banks = s.banks ∧ (safeStations s).claimLead = s.claimLead ∧ (safeStations
    s).cal = s.cal ∧ (safeStations s).bus.capture = s.bus.capture ∧ (safeStations s).bus.hold = s.bus.hold ∧
    (safeStations s).bus.dataOut = s.bus.dataOut ∧ (safeStations s).bus.resetSource = s.bus.resetSource ∧
    (safeStations s).bus.protect = s.bus.protect ∧ (safeStations s).bus.latched = s.bus.latched ∧ (safeStations
    s).bus.mask = s.bus.mask ∧ (safeStations s).bus.attn = s.bus.attn ∧ (safeStations s).bus.holdOff =
    s.bus.holdOff ∧ (safeStations s).bus.interval = s.bus.interval ∧ (safeStations s).bus.hbTimeout =
    s.bus.hbTimeout ∧ (safeStations s).bus.hbTimer = s.bus.hbTimer ∧ (safeStations s).admission.queue =
    s.admission.queue ∧ (safeStations s).admission.holdReason = s.admission.holdReason ∧ (safeStations
    s).admission.epochNo = s.admission.epochNo ∧ (safeStations s).admission.epochSpeed = s.admission.epochSpeed
    ∧ (safeStations s).admission.epochCurrent = s.admission.epochCurrent ∧ (safeStations
    s).admission.misfeedHold = s.admission.misfeedHold ∧ (safeStations s).admission.gateOpen =
    s.admission.gateOpen ∧ (safeStations s).admission.mark = s.admission.mark ∧ (safeStations s).tracker.train =
    s.tracker.train ∧ (safeStations s).tracker.strayPending = s.tracker.strayPending ∧ (safeStations
    s).safety.estop = s.safety.estop ∧ (safeStations s).safety.coverClosed = s.safety.coverClosed ∧
    (safeStations s).wash.load = s.wash.load ∧ (safeStations s).wash.hold = s.wash.hold := by
  and_intros <;> (simp [safeStations])

@[simp] theorem enterSafe_frame (cause : HaltCause) (s : State) :
    (enterSafe cause s).pending = s.pending ∧ (enterSafe cause s).freeCount = s.freeCount ∧ (enterSafe cause
    s).now = s.now ∧ (enterSafe cause s).pins = s.pins ∧ (enterSafe cause s).intake = s.intake ∧ (enterSafe
    cause s).claimLead = s.claimLead ∧ (enterSafe cause s).cal = s.cal ∧ (enterSafe cause s).bus.capture =
    s.bus.capture ∧ (enterSafe cause s).bus.hold = s.bus.hold ∧ (enterSafe cause s).bus.dataOut = s.bus.dataOut
    ∧ (enterSafe cause s).bus.resetSource = s.bus.resetSource ∧ (enterSafe cause s).bus.protect = s.bus.protect
    ∧ (enterSafe cause s).bus.mask = s.bus.mask ∧ (enterSafe cause s).bus.interval = s.bus.interval ∧ (enterSafe
    cause s).bus.hbTimeout = s.bus.hbTimeout ∧ (enterSafe cause s).bus.hbTimer = s.bus.hbTimer ∧ (enterSafe
    cause s).supervisor.lineTime = s.supervisor.lineTime ∧ (enterSafe cause s).supervisor.outcome =
    s.supervisor.outcome ∧ (enterSafe cause s).supervisor.timer = s.supervisor.timer ∧ (enterSafe cause
    s).admission.queue = s.admission.queue ∧ (enterSafe cause s).admission.holdReason = s.admission.holdReason ∧
    (enterSafe cause s).admission.epochNo = s.admission.epochNo ∧ (enterSafe cause s).admission.epochSpeed =
    s.admission.epochSpeed ∧ (enterSafe cause s).admission.misfeedHold = s.admission.misfeedHold ∧ (enterSafe
    cause s).admission.mark = s.admission.mark ∧ (enterSafe cause s).tracker.strayPending =
    s.tracker.strayPending ∧ (enterSafe cause s).safety.estop = s.safety.estop ∧ (enterSafe cause
    s).safety.coverClosed = s.safety.coverClosed := by
  and_intros <;> (unfold enterSafe; (try dsimp only); (repeat' split) <;> simp)

@[simp] theorem setOutcome_frame (o : CmdOutcome) (s : State) :
    (setOutcome o s).pending = s.pending ∧ (setOutcome o s).freeCount = s.freeCount ∧ (setOutcome o s).now =
    s.now ∧ (setOutcome o s).pins = s.pins ∧ (setOutcome o s).bus = s.bus ∧ (setOutcome o s).intake = s.intake ∧
    (setOutcome o s).admission = s.admission ∧ (setOutcome o s).tracker = s.tracker ∧ (setOutcome o s).transport
    = s.transport ∧ (setOutcome o s).banks = s.banks ∧ (setOutcome o s).claimLead = s.claimLead ∧ (setOutcome o
    s).wash = s.wash ∧ (setOutcome o s).drying = s.drying ∧ (setOutcome o s).shuttle = s.shuttle ∧ (setOutcome o
    s).chamber = s.chamber ∧ (setOutcome o s).link = s.link ∧ (setOutcome o s).safety = s.safety ∧ (setOutcome o
    s).cal = s.cal ∧ (setOutcome o s).supervisor.line = s.supervisor.line ∧ (setOutcome o s).supervisor.cause =
    s.supervisor.cause ∧ (setOutcome o s).supervisor.lineTime = s.supervisor.lineTime ∧ (setOutcome o
    s).supervisor.timer = s.supervisor.timer := by
  and_intros <;> (simp [setOutcome])

@[simp] theorem startDraining_frame (s : State) :
    (startDraining s).pending = s.pending ∧ (startDraining s).freeCount = s.freeCount ∧ (startDraining s).now =
    s.now ∧ (startDraining s).pins = s.pins ∧ (startDraining s).bus = s.bus ∧ (startDraining s).intake =
    s.intake ∧ (startDraining s).tracker = s.tracker ∧ (startDraining s).claimLead = s.claimLead ∧
    (startDraining s).wash = s.wash ∧ (startDraining s).drying = s.drying ∧ (startDraining s).shuttle =
    s.shuttle ∧ (startDraining s).chamber = s.chamber ∧ (startDraining s).link = s.link ∧ (startDraining
    s).safety = s.safety ∧ (startDraining s).cal = s.cal ∧ (startDraining s).supervisor.cause =
    s.supervisor.cause ∧ (startDraining s).supervisor.lineTime = s.supervisor.lineTime ∧ (startDraining
    s).supervisor.outcome = s.supervisor.outcome ∧ (startDraining s).supervisor.timer = s.supervisor.timer ∧
    (startDraining s).admission.queue = s.admission.queue ∧ (startDraining s).admission.holdReason =
    s.admission.holdReason ∧ (startDraining s).admission.commitments = s.admission.commitments ∧ (startDraining
    s).admission.epochNo = s.admission.epochNo ∧ (startDraining s).admission.epochSpeed = s.admission.epochSpeed
    ∧ (startDraining s).admission.misfeedHold = s.admission.misfeedHold ∧ (startDraining s).admission.gateOpen =
    s.admission.gateOpen ∧ (startDraining s).admission.mark = s.admission.mark := by
  and_intros <;> (simp [startDraining])

end Sys2Proof.Machine
end

