-- ==== Sys2Proof/Laws/FrameAdmit.lean ====
section
/-! SUPPORT. What the operations of Machine/Admit.lean leave unchanged: one frame lemma for each, which
`simp` takes part by part. -/

namespace Sys2Proof.Machine

@[simp] theorem setQueue_frame (q : List PlateId) (s : State) :
    (setQueue q s).pending = s.pending ∧ (setQueue q s).freeCount = s.freeCount ∧ (setQueue q s).now = s.now ∧
    (setQueue q s).pins = s.pins ∧ (setQueue q s).intake = s.intake ∧ (setQueue q s).supervisor = s.supervisor ∧
    (setQueue q s).tracker = s.tracker ∧ (setQueue q s).transport = s.transport ∧ (setQueue q s).banks = s.banks
    ∧ (setQueue q s).claimLead = s.claimLead ∧ (setQueue q s).wash = s.wash ∧ (setQueue q s).drying = s.drying ∧
    (setQueue q s).shuttle = s.shuttle ∧ (setQueue q s).chamber = s.chamber ∧ (setQueue q s).link = s.link ∧
    (setQueue q s).safety = s.safety ∧ (setQueue q s).cal = s.cal ∧ (setQueue q s).bus.ram = s.bus.ram ∧
    (setQueue q s).bus.capture = s.bus.capture ∧ (setQueue q s).bus.hold = s.bus.hold ∧ (setQueue q
    s).bus.dataOut = s.bus.dataOut ∧ (setQueue q s).bus.resetSource = s.bus.resetSource ∧ (setQueue q
    s).bus.protect = s.bus.protect ∧ (setQueue q s).bus.mask = s.bus.mask ∧ (setQueue q s).bus.interval =
    s.bus.interval ∧ (setQueue q s).bus.hbTimeout = s.bus.hbTimeout ∧ (setQueue q s).bus.hbTimer = s.bus.hbTimer
    ∧ (setQueue q s).admission.holdReason = s.admission.holdReason ∧ (setQueue q s).admission.commitments =
    s.admission.commitments ∧ (setQueue q s).admission.epochNo = s.admission.epochNo ∧ (setQueue q
    s).admission.epochSpeed = s.admission.epochSpeed ∧ (setQueue q s).admission.epochCurrent =
    s.admission.epochCurrent ∧ (setQueue q s).admission.misfeedHold = s.admission.misfeedHold ∧ (setQueue q
    s).admission.gateOpen = s.admission.gateOpen ∧ (setQueue q s).admission.mark = s.admission.mark := by
  and_intros <;> (simp [setQueue])

@[simp] theorem joinQueue_frame (p : PlateId) (s : State) :
    (joinQueue p s).pending = s.pending ∧ (joinQueue p s).freeCount = s.freeCount ∧ (joinQueue p s).now = s.now
    ∧ (joinQueue p s).pins = s.pins ∧ (joinQueue p s).intake = s.intake ∧ (joinQueue p s).supervisor =
    s.supervisor ∧ (joinQueue p s).tracker = s.tracker ∧ (joinQueue p s).transport = s.transport ∧ (joinQueue p
    s).banks = s.banks ∧ (joinQueue p s).claimLead = s.claimLead ∧ (joinQueue p s).wash = s.wash ∧ (joinQueue p
    s).drying = s.drying ∧ (joinQueue p s).shuttle = s.shuttle ∧ (joinQueue p s).chamber = s.chamber ∧
    (joinQueue p s).link = s.link ∧ (joinQueue p s).safety = s.safety ∧ (joinQueue p s).cal = s.cal ∧ (joinQueue
    p s).bus.ram = s.bus.ram ∧ (joinQueue p s).bus.capture = s.bus.capture ∧ (joinQueue p s).bus.hold =
    s.bus.hold ∧ (joinQueue p s).bus.dataOut = s.bus.dataOut ∧ (joinQueue p s).bus.resetSource =
    s.bus.resetSource ∧ (joinQueue p s).bus.protect = s.bus.protect ∧ (joinQueue p s).bus.mask = s.bus.mask ∧
    (joinQueue p s).bus.interval = s.bus.interval ∧ (joinQueue p s).bus.hbTimeout = s.bus.hbTimeout ∧ (joinQueue
    p s).bus.hbTimer = s.bus.hbTimer ∧ (joinQueue p s).admission.holdReason = s.admission.holdReason ∧
    (joinQueue p s).admission.commitments = s.admission.commitments ∧ (joinQueue p s).admission.epochNo =
    s.admission.epochNo ∧ (joinQueue p s).admission.epochSpeed = s.admission.epochSpeed ∧ (joinQueue p
    s).admission.epochCurrent = s.admission.epochCurrent ∧ (joinQueue p s).admission.misfeedHold =
    s.admission.misfeedHold ∧ (joinQueue p s).admission.gateOpen = s.admission.gateOpen ∧ (joinQueue p
    s).admission.mark = s.admission.mark := by
  and_intros <;> (simp [joinQueue])

@[simp] theorem rejoinQueue_frame (p : PlateId) (s : State) :
    (rejoinQueue p s).pending = s.pending ∧ (rejoinQueue p s).freeCount = s.freeCount ∧ (rejoinQueue p s).now =
    s.now ∧ (rejoinQueue p s).pins = s.pins ∧ (rejoinQueue p s).intake = s.intake ∧ (rejoinQueue p s).supervisor
    = s.supervisor ∧ (rejoinQueue p s).tracker = s.tracker ∧ (rejoinQueue p s).transport = s.transport ∧
    (rejoinQueue p s).banks = s.banks ∧ (rejoinQueue p s).claimLead = s.claimLead ∧ (rejoinQueue p s).wash =
    s.wash ∧ (rejoinQueue p s).drying = s.drying ∧ (rejoinQueue p s).shuttle = s.shuttle ∧ (rejoinQueue p
    s).chamber = s.chamber ∧ (rejoinQueue p s).link = s.link ∧ (rejoinQueue p s).safety = s.safety ∧
    (rejoinQueue p s).cal = s.cal ∧ (rejoinQueue p s).bus.ram = s.bus.ram ∧ (rejoinQueue p s).bus.capture =
    s.bus.capture ∧ (rejoinQueue p s).bus.hold = s.bus.hold ∧ (rejoinQueue p s).bus.dataOut = s.bus.dataOut ∧
    (rejoinQueue p s).bus.resetSource = s.bus.resetSource ∧ (rejoinQueue p s).bus.protect = s.bus.protect ∧
    (rejoinQueue p s).bus.mask = s.bus.mask ∧ (rejoinQueue p s).bus.interval = s.bus.interval ∧ (rejoinQueue p
    s).bus.hbTimeout = s.bus.hbTimeout ∧ (rejoinQueue p s).bus.hbTimer = s.bus.hbTimer ∧ (rejoinQueue p
    s).admission.holdReason = s.admission.holdReason ∧ (rejoinQueue p s).admission.commitments =
    s.admission.commitments ∧ (rejoinQueue p s).admission.epochNo = s.admission.epochNo ∧ (rejoinQueue p
    s).admission.epochSpeed = s.admission.epochSpeed ∧ (rejoinQueue p s).admission.epochCurrent =
    s.admission.epochCurrent ∧ (rejoinQueue p s).admission.misfeedHold = s.admission.misfeedHold ∧ (rejoinQueue
    p s).admission.gateOpen = s.admission.gateOpen ∧ (rejoinQueue p s).admission.mark = s.admission.mark := by
  and_intros <;> (simp [rejoinQueue])

@[simp] theorem showHold_frame (p : PlateId) (s : State) :
    (showHold p s).pending = s.pending ∧ (showHold p s).freeCount = s.freeCount ∧ (showHold p s).now = s.now ∧
    (showHold p s).pins = s.pins ∧ (showHold p s).intake = s.intake ∧ (showHold p s).supervisor = s.supervisor ∧
    (showHold p s).admission = s.admission ∧ (showHold p s).tracker = s.tracker ∧ (showHold p s).transport =
    s.transport ∧ (showHold p s).banks = s.banks ∧ (showHold p s).claimLead = s.claimLead ∧ (showHold p s).wash
    = s.wash ∧ (showHold p s).drying = s.drying ∧ (showHold p s).shuttle = s.shuttle ∧ (showHold p s).chamber =
    s.chamber ∧ (showHold p s).link = s.link ∧ (showHold p s).safety = s.safety ∧ (showHold p s).cal = s.cal ∧
    (showHold p s).bus.capture = s.bus.capture ∧ (showHold p s).bus.hold = s.bus.hold ∧ (showHold p
    s).bus.dataOut = s.bus.dataOut ∧ (showHold p s).bus.resetSource = s.bus.resetSource ∧ (showHold p
    s).bus.protect = s.bus.protect ∧ (showHold p s).bus.latched = s.bus.latched ∧ (showHold p s).bus.mask =
    s.bus.mask ∧ (showHold p s).bus.attn = s.bus.attn ∧ (showHold p s).bus.holdOff = s.bus.holdOff ∧ (showHold p
    s).bus.interval = s.bus.interval ∧ (showHold p s).bus.hbTimeout = s.bus.hbTimeout ∧ (showHold p
    s).bus.hbTimer = s.bus.hbTimer := by
  and_intros <;> (simp [showHold])

@[simp] theorem setHold_frame (h : HoldReason) (s : State) :
    (setHold h s).pending = s.pending ∧ (setHold h s).freeCount = s.freeCount ∧ (setHold h s).now = s.now ∧
    (setHold h s).pins = s.pins ∧ (setHold h s).intake = s.intake ∧ (setHold h s).supervisor = s.supervisor ∧
    (setHold h s).tracker = s.tracker ∧ (setHold h s).transport = s.transport ∧ (setHold h s).banks = s.banks ∧
    (setHold h s).claimLead = s.claimLead ∧ (setHold h s).wash = s.wash ∧ (setHold h s).drying = s.drying ∧
    (setHold h s).shuttle = s.shuttle ∧ (setHold h s).chamber = s.chamber ∧ (setHold h s).link = s.link ∧
    (setHold h s).safety = s.safety ∧ (setHold h s).cal = s.cal ∧ (setHold h s).bus.capture = s.bus.capture ∧
    (setHold h s).bus.hold = s.bus.hold ∧ (setHold h s).bus.dataOut = s.bus.dataOut ∧ (setHold h
    s).bus.resetSource = s.bus.resetSource ∧ (setHold h s).bus.protect = s.bus.protect ∧ (setHold h s).bus.mask
    = s.bus.mask ∧ (setHold h s).bus.interval = s.bus.interval ∧ (setHold h s).bus.hbTimeout = s.bus.hbTimeout ∧
    (setHold h s).bus.hbTimer = s.bus.hbTimer ∧ (setHold h s).admission.queue = s.admission.queue ∧ (setHold h
    s).admission.commitments = s.admission.commitments ∧ (setHold h s).admission.epochNo = s.admission.epochNo ∧
    (setHold h s).admission.epochSpeed = s.admission.epochSpeed ∧ (setHold h s).admission.epochCurrent =
    s.admission.epochCurrent ∧ (setHold h s).admission.misfeedHold = s.admission.misfeedHold ∧ (setHold h
    s).admission.gateOpen = s.admission.gateOpen ∧ (setHold h s).admission.mark = s.admission.mark := 
  ⟨by unfold setHold; (try dsimp only); (repeat' split) <;> (try simp); exact foldl_keeps (fun t : State => t.pending) _ (fun t a => by simp) _ _,
   by unfold setHold; (try dsimp only); (repeat' split) <;> (try simp); exact foldl_keeps (fun t : State => t.freeCount) _ (fun t a => by simp) _ _,
   by unfold setHold; (try dsimp only); (repeat' split) <;> (try simp); exact foldl_keeps (fun t : State => t.now) _ (fun t a => by simp) _ _,
   by unfold setHold; (try dsimp only); (repeat' split) <;> (try simp); exact foldl_keeps (fun t : State => t.pins) _ (fun t a => by simp) _ _,
   by unfold setHold; (try dsimp only); (repeat' split) <;> (try simp); exact foldl_keeps (fun t : State => t.intake) _ (fun t a => by simp) _ _,
   by unfold setHold; (try dsimp only); (repeat' split) <;> (try simp); exact foldl_keeps (fun t : State => t.supervisor) _ (fun t a => by simp) _ _,
   by unfold setHold; (try dsimp only); (repeat' split) <;> (try simp); exact foldl_keeps (fun t : State => t.tracker) _ (fun t a => by simp) _ _,
   by unfold setHold; (try dsimp only); (repeat' split) <;> (try simp); exact foldl_keeps (fun t : State => t.transport) _ (fun t a => by simp) _ _,
   by unfold setHold; (try dsimp only); (repeat' split) <;> (try simp); exact foldl_keeps (fun t : State => t.banks) _ (fun t a => by simp) _ _,
   by unfold setHold; (try dsimp only); (repeat' split) <;> (try simp); exact foldl_keeps (fun t : State => t.claimLead) _ (fun t a => by simp) _ _,
   by unfold setHold; (try dsimp only); (repeat' split) <;> (try simp); exact foldl_keeps (fun t : State => t.wash) _ (fun t a => by simp) _ _,
   by unfold setHold; (try dsimp only); (repeat' split) <;> (try simp); exact foldl_keeps (fun t : State => t.drying) _ (fun t a => by simp) _ _,
   by unfold setHold; (try dsimp only); (repeat' split) <;> (try simp); exact foldl_keeps (fun t : State => t.shuttle) _ (fun t a => by simp) _ _,
   by unfold setHold; (try dsimp only); (repeat' split) <;> (try simp); exact foldl_keeps (fun t : State => t.chamber) _ (fun t a => by simp) _ _,
   by unfold setHold; (try dsimp only); (repeat' split) <;> (try simp); exact foldl_keeps (fun t : State => t.link) _ (fun t a => by simp) _ _,
   by unfold setHold; (try dsimp only); (repeat' split) <;> (try simp); exact foldl_keeps (fun t : State => t.safety) _ (fun t a => by simp) _ _,
   by unfold setHold; (try dsimp only); (repeat' split) <;> (try simp); exact foldl_keeps (fun t : State => t.cal) _ (fun t a => by simp) _ _,
   by unfold setHold; (try dsimp only); (repeat' split) <;> (try simp); exact foldl_keeps (fun t : State => t.bus.capture) _ (fun t a => by simp) _ _,
   by unfold setHold; (try dsimp only); (repeat' split) <;> (try simp); exact foldl_keeps (fun t : State => t.bus.hold) _ (fun t a => by simp) _ _,
   by unfold setHold; (try dsimp only); (repeat' split) <;> (try simp); exact foldl_keeps (fun t : State => t.bus.dataOut) _ (fun t a => by simp) _ _,
   by unfold setHold; (try dsimp only); (repeat' split) <;> (try simp); exact foldl_keeps (fun t : State => t.bus.resetSource) _ (fun t a => by simp) _ _,
   by unfold setHold; (try dsimp only); (repeat' split) <;> (try simp); exact foldl_keeps (fun t : State => t.bus.protect) _ (fun t a => by simp) _ _,
   by unfold setHold; (try dsimp only); (repeat' split) <;> (try simp); exact foldl_keeps (fun t : State => t.bus.mask) _ (fun t a => by simp) _ _,
   by unfold setHold; (try dsimp only); (repeat' split) <;> (try simp); exact foldl_keeps (fun t : State => t.bus.interval) _ (fun t a => by simp) _ _,
   by unfold setHold; (try dsimp only); (repeat' split) <;> (try simp); exact foldl_keeps (fun t : State => t.bus.hbTimeout) _ (fun t a => by simp) _ _,
   by unfold setHold; (try dsimp only); (repeat' split) <;> (try simp); exact foldl_keeps (fun t : State => t.bus.hbTimer) _ (fun t a => by simp) _ _,
   by unfold setHold; (try dsimp only); (repeat' split) <;> (try simp); exact foldl_keeps (fun t : State => t.admission.queue) _ (fun t a => by simp) _ _,
   by unfold setHold; (try dsimp only); (repeat' split) <;> (try simp); exact foldl_keeps (fun t : State => t.admission.commitments) _ (fun t a => by simp) _ _,
   by unfold setHold; (try dsimp only); (repeat' split) <;> (try simp); exact foldl_keeps (fun t : State => t.admission.epochNo) _ (fun t a => by simp) _ _,
   by unfold setHold; (try dsimp only); (repeat' split) <;> (try simp); exact foldl_keeps (fun t : State => t.admission.epochSpeed) _ (fun t a => by simp) _ _,
   by unfold setHold; (try dsimp only); (repeat' split) <;> (try simp); exact foldl_keeps (fun t : State => t.admission.epochCurrent) _ (fun t a => by simp) _ _,
   by unfold setHold; (try dsimp only); (repeat' split) <;> (try simp); exact foldl_keeps (fun t : State => t.admission.misfeedHold) _ (fun t a => by simp) _ _,
   by unfold setHold; (try dsimp only); (repeat' split) <;> (try simp); exact foldl_keeps (fun t : State => t.admission.gateOpen) _ (fun t a => by simp) _ _,
   by unfold setHold; (try dsimp only); (repeat' split) <;> (try simp); exact foldl_keeps (fun t : State => t.admission.mark) _ (fun t a => by simp) _ _⟩

@[simp] theorem holdIfEmpty_frame (s : State) :
    (holdIfEmpty s).pending = s.pending ∧ (holdIfEmpty s).freeCount = s.freeCount ∧ (holdIfEmpty s).now = s.now
    ∧ (holdIfEmpty s).pins = s.pins ∧ (holdIfEmpty s).intake = s.intake ∧ (holdIfEmpty s).supervisor =
    s.supervisor ∧ (holdIfEmpty s).tracker = s.tracker ∧ (holdIfEmpty s).transport = s.transport ∧ (holdIfEmpty
    s).banks = s.banks ∧ (holdIfEmpty s).claimLead = s.claimLead ∧ (holdIfEmpty s).wash = s.wash ∧ (holdIfEmpty
    s).drying = s.drying ∧ (holdIfEmpty s).shuttle = s.shuttle ∧ (holdIfEmpty s).chamber = s.chamber ∧
    (holdIfEmpty s).link = s.link ∧ (holdIfEmpty s).safety = s.safety ∧ (holdIfEmpty s).cal = s.cal ∧
    (holdIfEmpty s).bus.capture = s.bus.capture ∧ (holdIfEmpty s).bus.hold = s.bus.hold ∧ (holdIfEmpty
    s).bus.dataOut = s.bus.dataOut ∧ (holdIfEmpty s).bus.resetSource = s.bus.resetSource ∧ (holdIfEmpty
    s).bus.protect = s.bus.protect ∧ (holdIfEmpty s).bus.mask = s.bus.mask ∧ (holdIfEmpty s).bus.interval =
    s.bus.interval ∧ (holdIfEmpty s).bus.hbTimeout = s.bus.hbTimeout ∧ (holdIfEmpty s).bus.hbTimer =
    s.bus.hbTimer ∧ (holdIfEmpty s).admission.queue = s.admission.queue ∧ (holdIfEmpty s).admission.commitments
    = s.admission.commitments ∧ (holdIfEmpty s).admission.epochNo = s.admission.epochNo ∧ (holdIfEmpty
    s).admission.epochSpeed = s.admission.epochSpeed ∧ (holdIfEmpty s).admission.epochCurrent =
    s.admission.epochCurrent ∧ (holdIfEmpty s).admission.misfeedHold = s.admission.misfeedHold ∧ (holdIfEmpty
    s).admission.gateOpen = s.admission.gateOpen ∧ (holdIfEmpty s).admission.mark = s.admission.mark := by
  and_intros <;> (unfold holdIfEmpty; (repeat' split) <;> simp)

@[simp] theorem beginEpoch_frame (v : Nat) (s : State) :
    (beginEpoch v s).pending = s.pending ∧ (beginEpoch v s).freeCount = s.freeCount ∧ (beginEpoch v s).now =
    s.now ∧ (beginEpoch v s).pins = s.pins ∧ (beginEpoch v s).bus = s.bus ∧ (beginEpoch v s).intake = s.intake ∧
    (beginEpoch v s).supervisor = s.supervisor ∧ (beginEpoch v s).tracker = s.tracker ∧ (beginEpoch v s).banks =
    s.banks ∧ (beginEpoch v s).claimLead = s.claimLead ∧ (beginEpoch v s).wash = s.wash ∧ (beginEpoch v
    s).drying = s.drying ∧ (beginEpoch v s).shuttle = s.shuttle ∧ (beginEpoch v s).chamber = s.chamber ∧
    (beginEpoch v s).link = s.link ∧ (beginEpoch v s).safety = s.safety ∧ (beginEpoch v s).cal = s.cal ∧
    (beginEpoch v s).admission.queue = s.admission.queue ∧ (beginEpoch v s).admission.holdReason =
    s.admission.holdReason ∧ (beginEpoch v s).admission.commitments = s.admission.commitments ∧ (beginEpoch v
    s).admission.misfeedHold = s.admission.misfeedHold ∧ (beginEpoch v s).admission.gateOpen =
    s.admission.gateOpen ∧ (beginEpoch v s).admission.mark = s.admission.mark := by
  and_intros <;> (simp [beginEpoch])

@[simp] theorem epochRules_frame (s : State) :
    (epochRules s).pending = s.pending ∧ (epochRules s).freeCount = s.freeCount ∧ (epochRules s).now = s.now ∧
    (epochRules s).pins = s.pins ∧ (epochRules s).bus = s.bus ∧ (epochRules s).intake = s.intake ∧ (epochRules
    s).supervisor = s.supervisor ∧ (epochRules s).tracker = s.tracker ∧ (epochRules s).banks = s.banks ∧
    (epochRules s).claimLead = s.claimLead ∧ (epochRules s).wash = s.wash ∧ (epochRules s).drying = s.drying ∧
    (epochRules s).shuttle = s.shuttle ∧ (epochRules s).chamber = s.chamber ∧ (epochRules s).link = s.link ∧
    (epochRules s).safety = s.safety ∧ (epochRules s).cal = s.cal ∧ (epochRules s).admission.queue =
    s.admission.queue ∧ (epochRules s).admission.holdReason = s.admission.holdReason ∧ (epochRules
    s).admission.commitments = s.admission.commitments ∧ (epochRules s).admission.misfeedHold =
    s.admission.misfeedHold ∧ (epochRules s).admission.gateOpen = s.admission.gateOpen ∧ (epochRules
    s).admission.mark = s.admission.mark := by
  and_intros <;> (unfold epochRules; (repeat' split) <;> simp)

@[simp] theorem release_frame (p : PlateId) (s : State) :
    (release p s).pending = s.pending ∧ (release p s).freeCount = s.freeCount ∧ (release p s).now = s.now ∧
    (release p s).pins = s.pins ∧ (release p s).intake = s.intake ∧ (release p s).supervisor = s.supervisor ∧
    (release p s).transport = s.transport ∧ (release p s).banks = s.banks ∧ (release p s).claimLead =
    s.claimLead ∧ (release p s).wash = s.wash ∧ (release p s).drying = s.drying ∧ (release p s).shuttle =
    s.shuttle ∧ (release p s).chamber = s.chamber ∧ (release p s).link = s.link ∧ (release p s).safety =
    s.safety ∧ (release p s).cal = s.cal ∧ (release p s).bus.capture = s.bus.capture ∧ (release p s).bus.hold =
    s.bus.hold ∧ (release p s).bus.dataOut = s.bus.dataOut ∧ (release p s).bus.resetSource = s.bus.resetSource ∧
    (release p s).bus.protect = s.bus.protect ∧ (release p s).bus.mask = s.bus.mask ∧ (release p s).bus.interval
    = s.bus.interval ∧ (release p s).bus.hbTimeout = s.bus.hbTimeout ∧ (release p s).bus.hbTimer = s.bus.hbTimer
    ∧ (release p s).admission.epochNo = s.admission.epochNo ∧ (release p s).admission.epochSpeed =
    s.admission.epochSpeed ∧ (release p s).admission.epochCurrent = s.admission.epochCurrent ∧ (release p
    s).admission.misfeedHold = s.admission.misfeedHold ∧ (release p s).admission.mark = s.admission.mark ∧
    (release p s).tracker.strayPending = s.tracker.strayPending := by
  and_intros <;> (simp [release])

@[simp] theorem misfeedSteps_frame (s : State) :
    (misfeedSteps s).pending = s.pending ∧ (misfeedSteps s).freeCount = s.freeCount ∧ (misfeedSteps s).now =
    s.now ∧ (misfeedSteps s).pins = s.pins ∧ (misfeedSteps s).bus = s.bus ∧ (misfeedSteps s).intake = s.intake ∧
    (misfeedSteps s).supervisor = s.supervisor ∧ (misfeedSteps s).tracker = s.tracker ∧ (misfeedSteps
    s).transport = s.transport ∧ (misfeedSteps s).banks = s.banks ∧ (misfeedSteps s).claimLead = s.claimLead ∧
    (misfeedSteps s).wash = s.wash ∧ (misfeedSteps s).drying = s.drying ∧ (misfeedSteps s).shuttle = s.shuttle ∧
    (misfeedSteps s).chamber = s.chamber ∧ (misfeedSteps s).link = s.link ∧ (misfeedSteps s).safety = s.safety ∧
    (misfeedSteps s).cal = s.cal ∧ (misfeedSteps s).admission.queue = s.admission.queue ∧ (misfeedSteps
    s).admission.holdReason = s.admission.holdReason ∧ (misfeedSteps s).admission.commitments =
    s.admission.commitments ∧ (misfeedSteps s).admission.epochNo = s.admission.epochNo ∧ (misfeedSteps
    s).admission.epochSpeed = s.admission.epochSpeed ∧ (misfeedSteps s).admission.epochCurrent =
    s.admission.epochCurrent ∧ (misfeedSteps s).admission.gateOpen = s.admission.gateOpen ∧ (misfeedSteps
    s).admission.mark = s.admission.mark := by
  and_intros <;> (unfold misfeedSteps; (try dsimp only); (repeat' split) <;> simp)

@[simp] theorem evaluate_frame (s : State) :
    (evaluate s).pending = s.pending ∧ (evaluate s).freeCount = s.freeCount ∧ (evaluate s).now = s.now ∧
    (evaluate s).pins = s.pins ∧ (evaluate s).intake = s.intake ∧ (evaluate s).supervisor = s.supervisor ∧
    (evaluate s).banks = s.banks ∧ (evaluate s).claimLead = s.claimLead ∧ (evaluate s).wash = s.wash ∧ (evaluate
    s).drying = s.drying ∧ (evaluate s).shuttle = s.shuttle ∧ (evaluate s).chamber = s.chamber ∧ (evaluate
    s).link = s.link ∧ (evaluate s).safety = s.safety ∧ (evaluate s).cal = s.cal ∧ (evaluate s).bus.capture =
    s.bus.capture ∧ (evaluate s).bus.hold = s.bus.hold ∧ (evaluate s).bus.dataOut = s.bus.dataOut ∧ (evaluate
    s).bus.resetSource = s.bus.resetSource ∧ (evaluate s).bus.protect = s.bus.protect ∧ (evaluate s).bus.mask =
    s.bus.mask ∧ (evaluate s).bus.interval = s.bus.interval ∧ (evaluate s).bus.hbTimeout = s.bus.hbTimeout ∧
    (evaluate s).bus.hbTimer = s.bus.hbTimer ∧ (evaluate s).admission.mark = s.admission.mark ∧ (evaluate
    s).tracker.strayPending = s.tracker.strayPending := by
  and_intros <;> (unfold evaluate; (try dsimp only); (repeat' split) <;> simp)

@[simp] theorem misfeedReturn_frame (p : PlateId) (s : State) :
    (misfeedReturn p s).pending = s.pending ∧ (misfeedReturn p s).freeCount = s.freeCount ∧ (misfeedReturn p
    s).now = s.now ∧ (misfeedReturn p s).pins = s.pins ∧ (misfeedReturn p s).intake = s.intake ∧ (misfeedReturn
    p s).claimLead = s.claimLead ∧ (misfeedReturn p s).drying = s.drying ∧ (misfeedReturn p s).shuttle =
    s.shuttle ∧ (misfeedReturn p s).chamber = s.chamber ∧ (misfeedReturn p s).safety = s.safety ∧ (misfeedReturn
    p s).cal = s.cal ∧ (misfeedReturn p s).bus.capture = s.bus.capture ∧ (misfeedReturn p s).bus.hold =
    s.bus.hold ∧ (misfeedReturn p s).bus.dataOut = s.bus.dataOut ∧ (misfeedReturn p s).bus.resetSource =
    s.bus.resetSource ∧ (misfeedReturn p s).bus.protect = s.bus.protect ∧ (misfeedReturn p s).bus.mask =
    s.bus.mask ∧ (misfeedReturn p s).bus.interval = s.bus.interval ∧ (misfeedReturn p s).bus.hbTimeout =
    s.bus.hbTimeout ∧ (misfeedReturn p s).bus.hbTimer = s.bus.hbTimer ∧ (misfeedReturn p s).supervisor.cause =
    s.supervisor.cause ∧ (misfeedReturn p s).supervisor.lineTime = s.supervisor.lineTime ∧ (misfeedReturn p
    s).supervisor.outcome = s.supervisor.outcome ∧ (misfeedReturn p s).supervisor.timer = s.supervisor.timer ∧
    (misfeedReturn p s).admission.holdReason = s.admission.holdReason ∧ (misfeedReturn p s).admission.epochNo =
    s.admission.epochNo ∧ (misfeedReturn p s).admission.epochSpeed = s.admission.epochSpeed ∧ (misfeedReturn p
    s).admission.mark = s.admission.mark ∧ (misfeedReturn p s).tracker.strayPending = s.tracker.strayPending ∧
    (misfeedReturn p s).link.mode = s.link.mode ∧ (misfeedReturn p s).link.phase = s.link.phase ∧ (misfeedReturn
    p s).link.lastNode = s.link.lastNode ∧ (misfeedReturn p s).link.assign = s.link.assign := by
  and_intros <;> (simp [misfeedReturn])

@[simp] theorem misfeed_frame (s : State) :
    (misfeed s).pending = s.pending ∧ (misfeed s).freeCount = s.freeCount ∧ (misfeed s).now = s.now ∧ (misfeed
    s).pins = s.pins ∧ (misfeed s).intake = s.intake ∧ (misfeed s).claimLead = s.claimLead ∧ (misfeed s).drying
    = s.drying ∧ (misfeed s).shuttle = s.shuttle ∧ (misfeed s).chamber = s.chamber ∧ (misfeed s).safety =
    s.safety ∧ (misfeed s).cal = s.cal ∧ (misfeed s).bus.capture = s.bus.capture ∧ (misfeed s).bus.hold =
    s.bus.hold ∧ (misfeed s).bus.dataOut = s.bus.dataOut ∧ (misfeed s).bus.resetSource = s.bus.resetSource ∧
    (misfeed s).bus.protect = s.bus.protect ∧ (misfeed s).bus.mask = s.bus.mask ∧ (misfeed s).bus.interval =
    s.bus.interval ∧ (misfeed s).bus.hbTimeout = s.bus.hbTimeout ∧ (misfeed s).bus.hbTimer = s.bus.hbTimer ∧
    (misfeed s).supervisor.cause = s.supervisor.cause ∧ (misfeed s).supervisor.lineTime = s.supervisor.lineTime
    ∧ (misfeed s).supervisor.outcome = s.supervisor.outcome ∧ (misfeed s).supervisor.timer = s.supervisor.timer
    ∧ (misfeed s).admission.holdReason = s.admission.holdReason ∧ (misfeed s).admission.epochNo =
    s.admission.epochNo ∧ (misfeed s).admission.epochSpeed = s.admission.epochSpeed ∧ (misfeed s).admission.mark
    = s.admission.mark ∧ (misfeed s).tracker.strayPending = s.tracker.strayPending ∧ (misfeed s).link.mode =
    s.link.mode ∧ (misfeed s).link.phase = s.link.phase ∧ (misfeed s).link.lastNode = s.link.lastNode ∧ (misfeed
    s).link.assign = s.link.assign := by
  and_intros <;> (unfold misfeed; (try dsimp only); (repeat' split) <;> simp)

end Sys2Proof.Machine
end

