-- ==== Sys2Proof/Laws/FrameSample.lean ====
section
/-! SUPPORT. What the operations of Machine/Sample.lean leave unchanged: one frame lemma for each, which
`simp` takes part by part. -/

namespace Sys2Proof.Machine

@[simp] theorem testConditions_frame (s : State) :
    (testConditions s).pending = s.pending ∧ (testConditions s).freeCount = s.freeCount ∧ (testConditions s).now
    = s.now ∧ (testConditions s).pins = s.pins ∧ (testConditions s).intake = s.intake ∧ (testConditions
    s).claimLead = s.claimLead ∧ (testConditions s).drying = s.drying ∧ (testConditions s).shuttle = s.shuttle ∧
    (testConditions s).chamber = s.chamber ∧ (testConditions s).safety = s.safety ∧ (testConditions s).cal =
    s.cal ∧ (testConditions s).bus.capture = s.bus.capture ∧ (testConditions s).bus.hold = s.bus.hold ∧
    (testConditions s).bus.dataOut = s.bus.dataOut ∧ (testConditions s).bus.resetSource = s.bus.resetSource ∧
    (testConditions s).bus.protect = s.bus.protect ∧ (testConditions s).bus.mask = s.bus.mask ∧ (testConditions
    s).bus.interval = s.bus.interval ∧ (testConditions s).bus.hbTimeout = s.bus.hbTimeout ∧ (testConditions
    s).bus.hbTimer = s.bus.hbTimer ∧ (testConditions s).supervisor.lineTime = s.supervisor.lineTime ∧
    (testConditions s).supervisor.outcome = s.supervisor.outcome ∧ (testConditions s).supervisor.timer =
    s.supervisor.timer ∧ (testConditions s).admission.queue = s.admission.queue ∧ (testConditions
    s).admission.holdReason = s.admission.holdReason ∧ (testConditions s).admission.epochNo =
    s.admission.epochNo ∧ (testConditions s).admission.epochSpeed = s.admission.epochSpeed ∧ (testConditions
    s).admission.misfeedHold = s.admission.misfeedHold ∧ (testConditions s).admission.mark = s.admission.mark ∧
    (testConditions s).tracker.strayPending = s.tracker.strayPending ∧ (testConditions s).link.mode =
    s.link.mode ∧ (testConditions s).link.phase = s.link.phase ∧ (testConditions s).link.lastNode =
    s.link.lastNode ∧ (testConditions s).link.assign = s.link.assign := by
  and_intros <;> (unfold testConditions; (try dsimp only); (repeat' split) <;> simp)

@[simp] theorem goodSample_frame (pos : Nat) (s : State) :
    (goodSample pos s).pending = s.pending ∧ (goodSample pos s).freeCount = s.freeCount ∧ (goodSample pos s).now
    = s.now ∧ (goodSample pos s).pins = s.pins ∧ (goodSample pos s).intake = s.intake ∧ (goodSample pos
    s).claimLead = s.claimLead ∧ (goodSample pos s).drying = s.drying ∧ (goodSample pos s).shuttle = s.shuttle ∧
    (goodSample pos s).chamber = s.chamber ∧ (goodSample pos s).safety = s.safety ∧ (goodSample pos s).cal =
    s.cal ∧ (goodSample pos s).bus.capture = s.bus.capture ∧ (goodSample pos s).bus.hold = s.bus.hold ∧
    (goodSample pos s).bus.dataOut = s.bus.dataOut ∧ (goodSample pos s).bus.resetSource = s.bus.resetSource ∧
    (goodSample pos s).bus.protect = s.bus.protect ∧ (goodSample pos s).bus.mask = s.bus.mask ∧ (goodSample pos
    s).bus.interval = s.bus.interval ∧ (goodSample pos s).bus.hbTimeout = s.bus.hbTimeout ∧ (goodSample pos
    s).bus.hbTimer = s.bus.hbTimer ∧ (goodSample pos s).supervisor.lineTime = s.supervisor.lineTime ∧
    (goodSample pos s).supervisor.outcome = s.supervisor.outcome ∧ (goodSample pos s).supervisor.timer =
    s.supervisor.timer ∧ (goodSample pos s).admission.queue = s.admission.queue ∧ (goodSample pos
    s).admission.holdReason = s.admission.holdReason ∧ (goodSample pos s).admission.epochNo =
    s.admission.epochNo ∧ (goodSample pos s).admission.epochSpeed = s.admission.epochSpeed ∧ (goodSample pos
    s).admission.misfeedHold = s.admission.misfeedHold ∧ (goodSample pos s).admission.mark = s.admission.mark ∧
    (goodSample pos s).tracker.strayPending = s.tracker.strayPending ∧ (goodSample pos s).link.mode =
    s.link.mode ∧ (goodSample pos s).link.phase = s.link.phase ∧ (goodSample pos s).link.lastNode =
    s.link.lastNode ∧ (goodSample pos s).link.assign = s.link.assign := by
  and_intros <;> (simp [goodSample])

@[simp] theorem vernierFault_frame (s : State) :
    (vernierFault s).pending = s.pending ∧ (vernierFault s).freeCount = s.freeCount ∧ (vernierFault s).now =
    s.now ∧ (vernierFault s).pins = s.pins ∧ (vernierFault s).intake = s.intake ∧ (vernierFault s).claimLead =
    s.claimLead ∧ (vernierFault s).drying = s.drying ∧ (vernierFault s).shuttle = s.shuttle ∧ (vernierFault
    s).chamber = s.chamber ∧ (vernierFault s).safety = s.safety ∧ (vernierFault s).cal = s.cal ∧ (vernierFault
    s).bus.capture = s.bus.capture ∧ (vernierFault s).bus.hold = s.bus.hold ∧ (vernierFault s).bus.dataOut =
    s.bus.dataOut ∧ (vernierFault s).bus.resetSource = s.bus.resetSource ∧ (vernierFault s).bus.protect =
    s.bus.protect ∧ (vernierFault s).bus.mask = s.bus.mask ∧ (vernierFault s).bus.interval = s.bus.interval ∧
    (vernierFault s).bus.hbTimeout = s.bus.hbTimeout ∧ (vernierFault s).bus.hbTimer = s.bus.hbTimer ∧
    (vernierFault s).supervisor.lineTime = s.supervisor.lineTime ∧ (vernierFault s).supervisor.outcome =
    s.supervisor.outcome ∧ (vernierFault s).supervisor.timer = s.supervisor.timer ∧ (vernierFault
    s).admission.queue = s.admission.queue ∧ (vernierFault s).admission.holdReason = s.admission.holdReason ∧
    (vernierFault s).admission.epochNo = s.admission.epochNo ∧ (vernierFault s).admission.epochSpeed =
    s.admission.epochSpeed ∧ (vernierFault s).admission.misfeedHold = s.admission.misfeedHold ∧ (vernierFault
    s).admission.mark = s.admission.mark ∧ (vernierFault s).tracker.strayPending = s.tracker.strayPending ∧
    (vernierFault s).link.mode = s.link.mode ∧ (vernierFault s).link.phase = s.link.phase ∧ (vernierFault
    s).link.lastNode = s.link.lastNode ∧ (vernierFault s).link.assign = s.link.assign := by
  and_intros <;> (unfold vernierFault; (try dsimp only); (repeat' split) <;> simp)

@[simp] theorem missingTest_frame (s : State) :
    (missingTest s).pending = s.pending ∧ (missingTest s).freeCount = s.freeCount ∧ (missingTest s).now = s.now
    ∧ (missingTest s).pins = s.pins ∧ (missingTest s).intake = s.intake ∧ (missingTest s).claimLead =
    s.claimLead ∧ (missingTest s).drying = s.drying ∧ (missingTest s).shuttle = s.shuttle ∧ (missingTest
    s).chamber = s.chamber ∧ (missingTest s).safety = s.safety ∧ (missingTest s).cal = s.cal ∧ (missingTest
    s).bus.capture = s.bus.capture ∧ (missingTest s).bus.hold = s.bus.hold ∧ (missingTest s).bus.dataOut =
    s.bus.dataOut ∧ (missingTest s).bus.resetSource = s.bus.resetSource ∧ (missingTest s).bus.protect =
    s.bus.protect ∧ (missingTest s).bus.mask = s.bus.mask ∧ (missingTest s).bus.interval = s.bus.interval ∧
    (missingTest s).bus.hbTimeout = s.bus.hbTimeout ∧ (missingTest s).bus.hbTimer = s.bus.hbTimer ∧ (missingTest
    s).supervisor.cause = s.supervisor.cause ∧ (missingTest s).supervisor.lineTime = s.supervisor.lineTime ∧
    (missingTest s).supervisor.outcome = s.supervisor.outcome ∧ (missingTest s).supervisor.timer =
    s.supervisor.timer ∧ (missingTest s).admission.queue = s.admission.queue ∧ (missingTest
    s).admission.holdReason = s.admission.holdReason ∧ (missingTest s).admission.epochNo = s.admission.epochNo ∧
    (missingTest s).admission.epochSpeed = s.admission.epochSpeed ∧ (missingTest s).admission.misfeedHold =
    s.admission.misfeedHold ∧ (missingTest s).admission.gateOpen = s.admission.gateOpen ∧ (missingTest
    s).admission.mark = s.admission.mark ∧ (missingTest s).tracker.strayPending = s.tracker.strayPending ∧
    (missingTest s).link.mode = s.link.mode ∧ (missingTest s).link.phase = s.link.phase ∧ (missingTest
    s).link.lastNode = s.link.lastNode ∧ (missingTest s).link.assign = s.link.assign := by
  and_intros <;> (unfold missingTest; (repeat' split) <;> simp)

@[simp] theorem handOn_frame (s : State) :
    (handOn s).pending = s.pending ∧ (handOn s).freeCount = s.freeCount ∧ (handOn s).now = s.now ∧ (handOn
    s).pins = s.pins ∧ (handOn s).intake = s.intake ∧ (handOn s).claimLead = s.claimLead ∧ (handOn s).drying =
    s.drying ∧ (handOn s).shuttle = s.shuttle ∧ (handOn s).chamber = s.chamber ∧ (handOn s).safety = s.safety ∧
    (handOn s).cal = s.cal ∧ (handOn s).bus.capture = s.bus.capture ∧ (handOn s).bus.hold = s.bus.hold ∧ (handOn
    s).bus.dataOut = s.bus.dataOut ∧ (handOn s).bus.resetSource = s.bus.resetSource ∧ (handOn s).bus.protect =
    s.bus.protect ∧ (handOn s).bus.mask = s.bus.mask ∧ (handOn s).bus.interval = s.bus.interval ∧ (handOn
    s).bus.hbTimeout = s.bus.hbTimeout ∧ (handOn s).bus.hbTimer = s.bus.hbTimer ∧ (handOn s).supervisor.cause =
    s.supervisor.cause ∧ (handOn s).supervisor.lineTime = s.supervisor.lineTime ∧ (handOn s).supervisor.outcome
    = s.supervisor.outcome ∧ (handOn s).supervisor.timer = s.supervisor.timer ∧ (handOn s).admission.mark =
    s.admission.mark ∧ (handOn s).tracker.strayPending = s.tracker.strayPending ∧ (handOn s).link.mode =
    s.link.mode ∧ (handOn s).link.phase = s.link.phase ∧ (handOn s).link.lastNode = s.link.lastNode ∧ (handOn
    s).link.assign = s.link.assign := by
  and_intros <;> (simp [handOn])

@[simp] theorem openRuns_frame (before : Nat) (s : State) :
    (openRuns before s).pending = s.pending ∧ (openRuns before s).freeCount = s.freeCount ∧ (openRuns before
    s).now = s.now ∧ (openRuns before s).pins = s.pins ∧ (openRuns before s).bus = s.bus ∧ (openRuns before
    s).intake = s.intake ∧ (openRuns before s).supervisor = s.supervisor ∧ (openRuns before s).admission =
    s.admission ∧ (openRuns before s).tracker = s.tracker ∧ (openRuns before s).banks = s.banks ∧ (openRuns
    before s).claimLead = s.claimLead ∧ (openRuns before s).wash = s.wash ∧ (openRuns before s).drying =
    s.drying ∧ (openRuns before s).shuttle = s.shuttle ∧ (openRuns before s).chamber = s.chamber ∧ (openRuns
    before s).link = s.link ∧ (openRuns before s).safety = s.safety ∧ (openRuns before s).cal = s.cal ∧
    (openRuns before s).transport.position = s.transport.position ∧ (openRuns before s).transport.faults =
    s.transport.faults ∧ (openRuns before s).transport.history = s.transport.history ∧ (openRuns before
    s).transport.estimate = s.transport.estimate ∧ (openRuns before s).transport.beltState =
    s.transport.beltState ∧ (openRuns before s).transport.demand = s.transport.demand ∧ (openRuns before
    s).transport.speedFlag = s.transport.speedFlag ∧ (openRuns before s).transport.deviationRun =
    s.transport.deviationRun := by
  and_intros <;> (unfold openRuns; (repeat' split) <;> simp)

@[simp] theorem takeGoodSample_frame (pos : Nat) (s : State) :
    (takeGoodSample pos s).pending = s.pending ∧ (takeGoodSample pos s).freeCount = s.freeCount ∧
    (takeGoodSample pos s).now = s.now ∧ (takeGoodSample pos s).pins = s.pins ∧ (takeGoodSample pos s).intake =
    s.intake ∧ (takeGoodSample pos s).claimLead = s.claimLead ∧ (takeGoodSample pos s).drying = s.drying ∧
    (takeGoodSample pos s).shuttle = s.shuttle ∧ (takeGoodSample pos s).chamber = s.chamber ∧ (takeGoodSample
    pos s).safety = s.safety ∧ (takeGoodSample pos s).cal = s.cal ∧ (takeGoodSample pos s).bus.capture =
    s.bus.capture ∧ (takeGoodSample pos s).bus.hold = s.bus.hold ∧ (takeGoodSample pos s).bus.dataOut =
    s.bus.dataOut ∧ (takeGoodSample pos s).bus.resetSource = s.bus.resetSource ∧ (takeGoodSample pos
    s).bus.protect = s.bus.protect ∧ (takeGoodSample pos s).bus.mask = s.bus.mask ∧ (takeGoodSample pos
    s).bus.interval = s.bus.interval ∧ (takeGoodSample pos s).bus.hbTimeout = s.bus.hbTimeout ∧ (takeGoodSample
    pos s).bus.hbTimer = s.bus.hbTimer ∧ (takeGoodSample pos s).supervisor.lineTime = s.supervisor.lineTime ∧
    (takeGoodSample pos s).supervisor.outcome = s.supervisor.outcome ∧ (takeGoodSample pos s).supervisor.timer =
    s.supervisor.timer ∧ (takeGoodSample pos s).admission.mark = s.admission.mark ∧ (takeGoodSample pos
    s).tracker.strayPending = s.tracker.strayPending ∧ (takeGoodSample pos s).link.mode = s.link.mode ∧
    (takeGoodSample pos s).link.phase = s.link.phase ∧ (takeGoodSample pos s).link.lastNode = s.link.lastNode ∧
    (takeGoodSample pos s).link.assign = s.link.assign := by
  and_intros <;> (simp [takeGoodSample])

@[simp] theorem positionSample_frame (readings : Option (Word × Word)) (s : State) :
    (positionSample readings s).pending = s.pending ∧ (positionSample readings s).freeCount = s.freeCount ∧
    (positionSample readings s).now = s.now ∧ (positionSample readings s).pins = s.pins ∧ (positionSample
    readings s).intake = s.intake ∧ (positionSample readings s).claimLead = s.claimLead ∧ (positionSample
    readings s).drying = s.drying ∧ (positionSample readings s).shuttle = s.shuttle ∧ (positionSample readings
    s).chamber = s.chamber ∧ (positionSample readings s).safety = s.safety ∧ (positionSample readings s).cal =
    s.cal ∧ (positionSample readings s).bus.capture = s.bus.capture ∧ (positionSample readings s).bus.hold =
    s.bus.hold ∧ (positionSample readings s).bus.dataOut = s.bus.dataOut ∧ (positionSample readings
    s).bus.resetSource = s.bus.resetSource ∧ (positionSample readings s).bus.protect = s.bus.protect ∧
    (positionSample readings s).bus.mask = s.bus.mask ∧ (positionSample readings s).bus.interval =
    s.bus.interval ∧ (positionSample readings s).bus.hbTimeout = s.bus.hbTimeout ∧ (positionSample readings
    s).bus.hbTimer = s.bus.hbTimer ∧ (positionSample readings s).supervisor.lineTime = s.supervisor.lineTime ∧
    (positionSample readings s).supervisor.outcome = s.supervisor.outcome ∧ (positionSample readings
    s).supervisor.timer = s.supervisor.timer ∧ (positionSample readings s).admission.mark = s.admission.mark ∧
    (positionSample readings s).tracker.strayPending = s.tracker.strayPending ∧ (positionSample readings
    s).link.mode = s.link.mode ∧ (positionSample readings s).link.phase = s.link.phase ∧ (positionSample
    readings s).link.lastNode = s.link.lastNode ∧ (positionSample readings s).link.assign = s.link.assign := by
  and_intros <;> (unfold positionSample; (try dsimp only); (repeat' split) <;> simp)

@[simp] theorem takeScaleWord_frame (reader : Reader) (w : Word) (s : State) :
    (takeScaleWord reader w s).pending = s.pending ∧ (takeScaleWord reader w s).freeCount = s.freeCount ∧
    (takeScaleWord reader w s).now = s.now ∧ (takeScaleWord reader w s).pins = s.pins ∧ (takeScaleWord reader w
    s).intake = s.intake ∧ (takeScaleWord reader w s).claimLead = s.claimLead ∧ (takeScaleWord reader w
    s).drying = s.drying ∧ (takeScaleWord reader w s).shuttle = s.shuttle ∧ (takeScaleWord reader w s).chamber =
    s.chamber ∧ (takeScaleWord reader w s).safety = s.safety ∧ (takeScaleWord reader w s).cal = s.cal ∧
    (takeScaleWord reader w s).bus.capture = s.bus.capture ∧ (takeScaleWord reader w s).bus.hold = s.bus.hold ∧
    (takeScaleWord reader w s).bus.dataOut = s.bus.dataOut ∧ (takeScaleWord reader w s).bus.resetSource =
    s.bus.resetSource ∧ (takeScaleWord reader w s).bus.protect = s.bus.protect ∧ (takeScaleWord reader w
    s).bus.mask = s.bus.mask ∧ (takeScaleWord reader w s).bus.interval = s.bus.interval ∧ (takeScaleWord reader
    w s).bus.hbTimeout = s.bus.hbTimeout ∧ (takeScaleWord reader w s).bus.hbTimer = s.bus.hbTimer ∧
    (takeScaleWord reader w s).supervisor.lineTime = s.supervisor.lineTime ∧ (takeScaleWord reader w
    s).supervisor.outcome = s.supervisor.outcome ∧ (takeScaleWord reader w s).supervisor.timer =
    s.supervisor.timer ∧ (takeScaleWord reader w s).admission.mark = s.admission.mark ∧ (takeScaleWord reader w
    s).tracker.strayPending = s.tracker.strayPending ∧ (takeScaleWord reader w s).link.mode = s.link.mode ∧
    (takeScaleWord reader w s).link.phase = s.link.phase ∧ (takeScaleWord reader w s).link.lastNode =
    s.link.lastNode ∧ (takeScaleWord reader w s).link.assign = s.link.assign := by
  and_intros <;> (unfold takeScaleWord; (try dsimp only); (repeat' split) <;> simp)

@[simp] theorem putSensorPin_frame (k : Sensor) (v : Bool) (s : State) :
    (putSensorPin k v s).pending = s.pending ∧ (putSensorPin k v s).freeCount = s.freeCount ∧ (putSensorPin k v
    s).now = s.now ∧ (putSensorPin k v s).bus = s.bus ∧ (putSensorPin k v s).intake = s.intake ∧ (putSensorPin k
    v s).supervisor = s.supervisor ∧ (putSensorPin k v s).admission = s.admission ∧ (putSensorPin k v s).tracker
    = s.tracker ∧ (putSensorPin k v s).transport = s.transport ∧ (putSensorPin k v s).banks = s.banks ∧
    (putSensorPin k v s).claimLead = s.claimLead ∧ (putSensorPin k v s).wash = s.wash ∧ (putSensorPin k v
    s).drying = s.drying ∧ (putSensorPin k v s).shuttle = s.shuttle ∧ (putSensorPin k v s).chamber = s.chamber ∧
    (putSensorPin k v s).link = s.link ∧ (putSensorPin k v s).safety = s.safety ∧ (putSensorPin k v s).cal =
    s.cal := by
  and_intros <;> (unfold putSensorPin; (try dsimp only); (repeat' split) <;> simp)

@[simp] theorem putSensorUnit_frame (k : Sensor) (u : SensorUnit) (s : State) :
    (putSensorUnit k u s).pending = s.pending ∧ (putSensorUnit k u s).freeCount = s.freeCount ∧ (putSensorUnit k
    u s).now = s.now ∧ (putSensorUnit k u s).pins = s.pins ∧ (putSensorUnit k u s).bus = s.bus ∧ (putSensorUnit
    k u s).intake = s.intake ∧ (putSensorUnit k u s).supervisor = s.supervisor ∧ (putSensorUnit k u s).admission
    = s.admission ∧ (putSensorUnit k u s).tracker = s.tracker ∧ (putSensorUnit k u s).banks = s.banks ∧
    (putSensorUnit k u s).claimLead = s.claimLead ∧ (putSensorUnit k u s).wash = s.wash ∧ (putSensorUnit k u
    s).drying = s.drying ∧ (putSensorUnit k u s).shuttle = s.shuttle ∧ (putSensorUnit k u s).chamber = s.chamber
    ∧ (putSensorUnit k u s).link = s.link ∧ (putSensorUnit k u s).safety = s.safety ∧ (putSensorUnit k u s).cal
    = s.cal ∧ (putSensorUnit k u s).transport.position = s.transport.position ∧ (putSensorUnit k u
    s).transport.demand = s.transport.demand ∧ (putSensorUnit k u s).transport.faults = s.transport.faults ∧
    (putSensorUnit k u s).transport.beltState = s.transport.beltState ∧ (putSensorUnit k u s).transport.watchdog
    = s.transport.watchdog ∧ (putSensorUnit k u s).transport.history = s.transport.history ∧ (putSensorUnit k u
    s).transport.estimate = s.transport.estimate := by
  and_intros <;> (unfold putSensorUnit; (try dsimp only); (repeat' split) <;> simp)

@[simp] theorem sensorChange_frame (k : Sensor) (level : Bool) (s : State) :
    (sensorChange k level s).pending = s.pending ∧ (sensorChange k level s).freeCount = s.freeCount ∧
    (sensorChange k level s).now = s.now ∧ (sensorChange k level s).bus = s.bus ∧ (sensorChange k level
    s).intake = s.intake ∧ (sensorChange k level s).supervisor = s.supervisor ∧ (sensorChange k level
    s).admission = s.admission ∧ (sensorChange k level s).tracker = s.tracker ∧ (sensorChange k level s).banks =
    s.banks ∧ (sensorChange k level s).claimLead = s.claimLead ∧ (sensorChange k level s).wash = s.wash ∧
    (sensorChange k level s).drying = s.drying ∧ (sensorChange k level s).shuttle = s.shuttle ∧ (sensorChange k
    level s).chamber = s.chamber ∧ (sensorChange k level s).link = s.link ∧ (sensorChange k level s).safety =
    s.safety ∧ (sensorChange k level s).cal = s.cal ∧ (sensorChange k level s).transport.position =
    s.transport.position ∧ (sensorChange k level s).transport.demand = s.transport.demand ∧ (sensorChange k
    level s).transport.faults = s.transport.faults ∧ (sensorChange k level s).transport.beltState =
    s.transport.beltState ∧ (sensorChange k level s).transport.watchdog = s.transport.watchdog ∧ (sensorChange k
    level s).transport.history = s.transport.history ∧ (sensorChange k level s).transport.estimate =
    s.transport.estimate := by
  and_intros <;> (unfold sensorChange; (try dsimp only); (repeat' split) <;> simp)

@[simp] theorem infeedHead_frame (latched : Nat) (s : State) :
    (infeedHead latched s).pending = s.pending ∧ (infeedHead latched s).freeCount = s.freeCount ∧ (infeedHead
    latched s).now = s.now ∧ (infeedHead latched s).pins = s.pins ∧ (infeedHead latched s).intake = s.intake ∧
    (infeedHead latched s).supervisor = s.supervisor ∧ (infeedHead latched s).transport = s.transport ∧
    (infeedHead latched s).banks = s.banks ∧ (infeedHead latched s).claimLead = s.claimLead ∧ (infeedHead
    latched s).wash = s.wash ∧ (infeedHead latched s).drying = s.drying ∧ (infeedHead latched s).shuttle =
    s.shuttle ∧ (infeedHead latched s).chamber = s.chamber ∧ (infeedHead latched s).link = s.link ∧ (infeedHead
    latched s).safety = s.safety ∧ (infeedHead latched s).cal = s.cal ∧ (infeedHead latched s).bus.capture =
    s.bus.capture ∧ (infeedHead latched s).bus.hold = s.bus.hold ∧ (infeedHead latched s).bus.dataOut =
    s.bus.dataOut ∧ (infeedHead latched s).bus.resetSource = s.bus.resetSource ∧ (infeedHead latched
    s).bus.protect = s.bus.protect ∧ (infeedHead latched s).bus.latched = s.bus.latched ∧ (infeedHead latched
    s).bus.mask = s.bus.mask ∧ (infeedHead latched s).bus.attn = s.bus.attn ∧ (infeedHead latched s).bus.holdOff
    = s.bus.holdOff ∧ (infeedHead latched s).bus.interval = s.bus.interval ∧ (infeedHead latched
    s).bus.hbTimeout = s.bus.hbTimeout ∧ (infeedHead latched s).bus.hbTimer = s.bus.hbTimer ∧ (infeedHead
    latched s).admission.queue = s.admission.queue ∧ (infeedHead latched s).admission.holdReason =
    s.admission.holdReason ∧ (infeedHead latched s).admission.commitments = s.admission.commitments ∧
    (infeedHead latched s).admission.epochNo = s.admission.epochNo ∧ (infeedHead latched s).admission.epochSpeed
    = s.admission.epochSpeed ∧ (infeedHead latched s).admission.epochCurrent = s.admission.epochCurrent ∧
    (infeedHead latched s).admission.misfeedHold = s.admission.misfeedHold ∧ (infeedHead latched
    s).admission.mark = s.admission.mark ∧ (infeedHead latched s).tracker.train = s.tracker.train ∧ (infeedHead
    latched s).tracker.strayPending = s.tracker.strayPending := by
  and_intros <;> (unfold infeedHead; (repeat' split) <;> simp)

@[simp] theorem infeedTail_frame (latched : Nat) (s : State) :
    (infeedTail latched s).pending = s.pending ∧ (infeedTail latched s).freeCount = s.freeCount ∧ (infeedTail
    latched s).now = s.now ∧ (infeedTail latched s).pins = s.pins ∧ (infeedTail latched s).intake = s.intake ∧
    (infeedTail latched s).supervisor = s.supervisor ∧ (infeedTail latched s).admission = s.admission ∧
    (infeedTail latched s).transport = s.transport ∧ (infeedTail latched s).banks = s.banks ∧ (infeedTail
    latched s).claimLead = s.claimLead ∧ (infeedTail latched s).wash = s.wash ∧ (infeedTail latched s).drying =
    s.drying ∧ (infeedTail latched s).shuttle = s.shuttle ∧ (infeedTail latched s).chamber = s.chamber ∧
    (infeedTail latched s).link = s.link ∧ (infeedTail latched s).safety = s.safety ∧ (infeedTail latched s).cal
    = s.cal ∧ (infeedTail latched s).bus.capture = s.bus.capture ∧ (infeedTail latched s).bus.hold = s.bus.hold
    ∧ (infeedTail latched s).bus.dataOut = s.bus.dataOut ∧ (infeedTail latched s).bus.resetSource =
    s.bus.resetSource ∧ (infeedTail latched s).bus.protect = s.bus.protect ∧ (infeedTail latched s).bus.latched
    = s.bus.latched ∧ (infeedTail latched s).bus.mask = s.bus.mask ∧ (infeedTail latched s).bus.attn =
    s.bus.attn ∧ (infeedTail latched s).bus.holdOff = s.bus.holdOff ∧ (infeedTail latched s).bus.interval =
    s.bus.interval ∧ (infeedTail latched s).bus.hbTimeout = s.bus.hbTimeout ∧ (infeedTail latched s).bus.hbTimer
    = s.bus.hbTimer ∧ (infeedTail latched s).tracker.train = s.tracker.train ∧ (infeedTail latched
    s).tracker.strayPending = s.tracker.strayPending := by
  and_intros <;> (unfold infeedTail; (try dsimp only); (repeat' split) <;> simp)

@[simp] theorem exitHead_frame (latched : Nat) (s : State) :
    (exitHead latched s).pending = s.pending ∧ (exitHead latched s).freeCount = s.freeCount ∧ (exitHead latched
    s).now = s.now ∧ (exitHead latched s).pins = s.pins ∧ (exitHead latched s).bus = s.bus ∧ (exitHead latched
    s).intake = s.intake ∧ (exitHead latched s).supervisor = s.supervisor ∧ (exitHead latched s).admission =
    s.admission ∧ (exitHead latched s).transport = s.transport ∧ (exitHead latched s).banks = s.banks ∧
    (exitHead latched s).claimLead = s.claimLead ∧ (exitHead latched s).wash = s.wash ∧ (exitHead latched
    s).drying = s.drying ∧ (exitHead latched s).shuttle = s.shuttle ∧ (exitHead latched s).chamber = s.chamber ∧
    (exitHead latched s).link = s.link ∧ (exitHead latched s).safety = s.safety ∧ (exitHead latched s).cal =
    s.cal ∧ (exitHead latched s).tracker.train = s.tracker.train := by
  and_intros <;> (unfold exitHead; (try dsimp only); (repeat' split) <;> simp)

@[simp] theorem rackPlate_frame (p : PlateId) (s : State) :
    (rackPlate p s).pending = s.pending ∧ (rackPlate p s).freeCount = s.freeCount ∧ (rackPlate p s).now = s.now
    ∧ (rackPlate p s).pins = s.pins ∧ (rackPlate p s).intake = s.intake ∧ (rackPlate p s).claimLead =
    s.claimLead ∧ (rackPlate p s).shuttle = s.shuttle ∧ (rackPlate p s).chamber = s.chamber ∧ (rackPlate p
    s).safety = s.safety ∧ (rackPlate p s).cal = s.cal ∧ (rackPlate p s).bus.capture = s.bus.capture ∧
    (rackPlate p s).bus.hold = s.bus.hold ∧ (rackPlate p s).bus.dataOut = s.bus.dataOut ∧ (rackPlate p
    s).bus.resetSource = s.bus.resetSource ∧ (rackPlate p s).bus.protect = s.bus.protect ∧ (rackPlate p
    s).bus.mask = s.bus.mask ∧ (rackPlate p s).bus.interval = s.bus.interval ∧ (rackPlate p s).bus.hbTimeout =
    s.bus.hbTimeout ∧ (rackPlate p s).bus.hbTimer = s.bus.hbTimer ∧ (rackPlate p s).supervisor.cause =
    s.supervisor.cause ∧ (rackPlate p s).supervisor.lineTime = s.supervisor.lineTime ∧ (rackPlate p
    s).supervisor.outcome = s.supervisor.outcome ∧ (rackPlate p s).supervisor.timer = s.supervisor.timer ∧
    (rackPlate p s).admission.queue = s.admission.queue ∧ (rackPlate p s).admission.holdReason =
    s.admission.holdReason ∧ (rackPlate p s).admission.commitments = s.admission.commitments ∧ (rackPlate p
    s).admission.epochNo = s.admission.epochNo ∧ (rackPlate p s).admission.epochSpeed = s.admission.epochSpeed ∧
    (rackPlate p s).admission.misfeedHold = s.admission.misfeedHold ∧ (rackPlate p s).admission.gateOpen =
    s.admission.gateOpen ∧ (rackPlate p s).admission.mark = s.admission.mark ∧ (rackPlate p
    s).tracker.strayPending = s.tracker.strayPending ∧ (rackPlate p s).link.mode = s.link.mode ∧ (rackPlate p
    s).link.phase = s.link.phase ∧ (rackPlate p s).link.lastNode = s.link.lastNode ∧ (rackPlate p s).link.assign
    = s.link.assign ∧ (rackPlate p s).drying.drawers = s.drying.drawers ∧ (rackPlate p s).drying.dryList =
    s.drying.dryList := by
  and_intros <;> (simp [rackPlate])

@[simp] theorem strayTail_frame (s : State) :
    (strayTail s).pending = s.pending ∧ (strayTail s).freeCount = s.freeCount ∧ (strayTail s).now = s.now ∧
    (strayTail s).pins = s.pins ∧ (strayTail s).intake = s.intake ∧ (strayTail s).claimLead = s.claimLead ∧
    (strayTail s).shuttle = s.shuttle ∧ (strayTail s).chamber = s.chamber ∧ (strayTail s).safety = s.safety ∧
    (strayTail s).cal = s.cal ∧ (strayTail s).bus.capture = s.bus.capture ∧ (strayTail s).bus.hold = s.bus.hold
    ∧ (strayTail s).bus.dataOut = s.bus.dataOut ∧ (strayTail s).bus.resetSource = s.bus.resetSource ∧ (strayTail
    s).bus.protect = s.bus.protect ∧ (strayTail s).bus.mask = s.bus.mask ∧ (strayTail s).bus.interval =
    s.bus.interval ∧ (strayTail s).bus.hbTimeout = s.bus.hbTimeout ∧ (strayTail s).bus.hbTimer = s.bus.hbTimer ∧
    (strayTail s).supervisor.lineTime = s.supervisor.lineTime ∧ (strayTail s).supervisor.outcome =
    s.supervisor.outcome ∧ (strayTail s).supervisor.timer = s.supervisor.timer ∧ (strayTail s).admission.queue =
    s.admission.queue ∧ (strayTail s).admission.holdReason = s.admission.holdReason ∧ (strayTail
    s).admission.epochNo = s.admission.epochNo ∧ (strayTail s).admission.epochSpeed = s.admission.epochSpeed ∧
    (strayTail s).admission.misfeedHold = s.admission.misfeedHold ∧ (strayTail s).admission.mark =
    s.admission.mark ∧ (strayTail s).link.mode = s.link.mode ∧ (strayTail s).link.phase = s.link.phase ∧
    (strayTail s).link.lastNode = s.link.lastNode ∧ (strayTail s).link.assign = s.link.assign ∧ (strayTail
    s).drying.drawers = s.drying.drawers ∧ (strayTail s).drying.dryList = s.drying.dryList := by
  and_intros <;> (unfold strayTail; (try dsimp only); (repeat' split) <;> simp)

@[simp] theorem exitTail_frame (s : State) :
    (exitTail s).pending = s.pending ∧ (exitTail s).freeCount = s.freeCount ∧ (exitTail s).now = s.now ∧
    (exitTail s).pins = s.pins ∧ (exitTail s).intake = s.intake ∧ (exitTail s).claimLead = s.claimLead ∧
    (exitTail s).shuttle = s.shuttle ∧ (exitTail s).chamber = s.chamber ∧ (exitTail s).safety = s.safety ∧
    (exitTail s).cal = s.cal ∧ (exitTail s).bus.capture = s.bus.capture ∧ (exitTail s).bus.hold = s.bus.hold ∧
    (exitTail s).bus.dataOut = s.bus.dataOut ∧ (exitTail s).bus.resetSource = s.bus.resetSource ∧ (exitTail
    s).bus.protect = s.bus.protect ∧ (exitTail s).bus.mask = s.bus.mask ∧ (exitTail s).bus.interval =
    s.bus.interval ∧ (exitTail s).bus.hbTimeout = s.bus.hbTimeout ∧ (exitTail s).bus.hbTimer = s.bus.hbTimer ∧
    (exitTail s).supervisor.lineTime = s.supervisor.lineTime ∧ (exitTail s).supervisor.outcome =
    s.supervisor.outcome ∧ (exitTail s).supervisor.timer = s.supervisor.timer ∧ (exitTail s).admission.queue =
    s.admission.queue ∧ (exitTail s).admission.holdReason = s.admission.holdReason ∧ (exitTail
    s).admission.epochNo = s.admission.epochNo ∧ (exitTail s).admission.epochSpeed = s.admission.epochSpeed ∧
    (exitTail s).admission.misfeedHold = s.admission.misfeedHold ∧ (exitTail s).admission.mark =
    s.admission.mark ∧ (exitTail s).link.mode = s.link.mode ∧ (exitTail s).link.phase = s.link.phase ∧ (exitTail
    s).link.lastNode = s.link.lastNode ∧ (exitTail s).link.assign = s.link.assign ∧ (exitTail s).drying.drawers
    = s.drying.drawers ∧ (exitTail s).drying.dryList = s.drying.dryList := by
  and_intros <;> (unfold exitTail; (repeat' split) <;> simp)

@[simp] theorem deliverEdge_frame (k : Sensor) (present : Bool) (latched : Nat) (s : State) :
    (deliverEdge k present latched s).pending = s.pending ∧ (deliverEdge k present latched s).freeCount =
    s.freeCount ∧ (deliverEdge k present latched s).now = s.now ∧ (deliverEdge k present latched s).pins =
    s.pins ∧ (deliverEdge k present latched s).intake = s.intake ∧ (deliverEdge k present latched s).claimLead =
    s.claimLead ∧ (deliverEdge k present latched s).safety = s.safety ∧ (deliverEdge k present latched s).cal =
    s.cal ∧ (deliverEdge k present latched s).bus.capture = s.bus.capture ∧ (deliverEdge k present latched
    s).bus.hold = s.bus.hold ∧ (deliverEdge k present latched s).bus.dataOut = s.bus.dataOut ∧ (deliverEdge k
    present latched s).bus.resetSource = s.bus.resetSource ∧ (deliverEdge k present latched s).bus.protect =
    s.bus.protect ∧ (deliverEdge k present latched s).bus.mask = s.bus.mask ∧ (deliverEdge k present latched
    s).bus.interval = s.bus.interval ∧ (deliverEdge k present latched s).bus.hbTimeout = s.bus.hbTimeout ∧
    (deliverEdge k present latched s).bus.hbTimer = s.bus.hbTimer ∧ (deliverEdge k present latched
    s).supervisor.lineTime = s.supervisor.lineTime ∧ (deliverEdge k present latched s).supervisor.outcome =
    s.supervisor.outcome ∧ (deliverEdge k present latched s).supervisor.timer = s.supervisor.timer ∧
    (deliverEdge k present latched s).admission.queue = s.admission.queue ∧ (deliverEdge k present latched
    s).admission.holdReason = s.admission.holdReason ∧ (deliverEdge k present latched s).admission.epochNo =
    s.admission.epochNo ∧ (deliverEdge k present latched s).admission.epochSpeed = s.admission.epochSpeed ∧
    (deliverEdge k present latched s).admission.misfeedHold = s.admission.misfeedHold ∧ (deliverEdge k present
    latched s).admission.mark = s.admission.mark ∧ (deliverEdge k present latched s).link.mode = s.link.mode ∧
    (deliverEdge k present latched s).link.phase = s.link.phase ∧ (deliverEdge k present latched
    s).link.lastNode = s.link.lastNode ∧ (deliverEdge k present latched s).link.assign = s.link.assign := by
  and_intros <;> (unfold deliverEdge; (repeat' split) <;> simp)

@[simp] theorem settleSensor_frame (k : Sensor) (s : State) :
    (settleSensor k s).pending = s.pending ∧ (settleSensor k s).freeCount = s.freeCount ∧ (settleSensor k s).now
    = s.now ∧ (settleSensor k s).pins = s.pins ∧ (settleSensor k s).intake = s.intake ∧ (settleSensor k
    s).claimLead = s.claimLead ∧ (settleSensor k s).safety = s.safety ∧ (settleSensor k s).cal = s.cal ∧
    (settleSensor k s).bus.capture = s.bus.capture ∧ (settleSensor k s).bus.hold = s.bus.hold ∧ (settleSensor k
    s).bus.dataOut = s.bus.dataOut ∧ (settleSensor k s).bus.resetSource = s.bus.resetSource ∧ (settleSensor k
    s).bus.protect = s.bus.protect ∧ (settleSensor k s).bus.mask = s.bus.mask ∧ (settleSensor k s).bus.interval
    = s.bus.interval ∧ (settleSensor k s).bus.hbTimeout = s.bus.hbTimeout ∧ (settleSensor k s).bus.hbTimer =
    s.bus.hbTimer ∧ (settleSensor k s).supervisor.lineTime = s.supervisor.lineTime ∧ (settleSensor k
    s).supervisor.outcome = s.supervisor.outcome ∧ (settleSensor k s).supervisor.timer = s.supervisor.timer ∧
    (settleSensor k s).admission.queue = s.admission.queue ∧ (settleSensor k s).admission.holdReason =
    s.admission.holdReason ∧ (settleSensor k s).admission.epochNo = s.admission.epochNo ∧ (settleSensor k
    s).admission.epochSpeed = s.admission.epochSpeed ∧ (settleSensor k s).admission.misfeedHold =
    s.admission.misfeedHold ∧ (settleSensor k s).admission.mark = s.admission.mark ∧ (settleSensor k
    s).link.mode = s.link.mode ∧ (settleSensor k s).link.phase = s.link.phase ∧ (settleSensor k s).link.lastNode
    = s.link.lastNode ∧ (settleSensor k s).link.assign = s.link.assign := by
  and_intros <;> (unfold settleSensor; (try dsimp only); (repeat' split) <;> simp)

/-- All that `openRuns` can do. -/
theorem openRuns_cases (before : Nat) (s : State) :
    (s.transport.demand = before ∧ openRuns before s = s) ∨
    (s.transport.demand ≠ before ∧ openRuns before s = { s with transport := { s.transport with
      settleRun := runAfter s.now (settlingBand s.transport) none
      stallRun := runAfter s.now (stallCondition s.transport) none } }) := by
  unfold openRuns; split <;> simp_all

end Sys2Proof.Machine
end

