-- ==== Sys2Proof/Laws/FrameIntake.lean ====
section
/-! SUPPORT. What the operations of Machine/Intake.lean leave unchanged: one frame lemma for each, which
`simp` takes part by part. -/

namespace Sys2Proof.Machine

@[simp] theorem acceptTicket_frame (i : PlateId) (t : TicketWords) (r : RecipeWords) (s : State) :
    (acceptTicket i t r s).pending = s.pending ∧ (acceptTicket i t r s).freeCount = s.freeCount ∧ (acceptTicket
    i t r s).now = s.now ∧ (acceptTicket i t r s).pins = s.pins ∧ (acceptTicket i t r s).supervisor =
    s.supervisor ∧ (acceptTicket i t r s).transport = s.transport ∧ (acceptTicket i t r s).banks = s.banks ∧
    (acceptTicket i t r s).claimLead = s.claimLead ∧ (acceptTicket i t r s).wash = s.wash ∧ (acceptTicket i t r
    s).drying = s.drying ∧ (acceptTicket i t r s).shuttle = s.shuttle ∧ (acceptTicket i t r s).chamber =
    s.chamber ∧ (acceptTicket i t r s).link = s.link ∧ (acceptTicket i t r s).safety = s.safety ∧ (acceptTicket
    i t r s).cal = s.cal ∧ (acceptTicket i t r s).bus.capture = s.bus.capture ∧ (acceptTicket i t r s).bus.hold
    = s.bus.hold ∧ (acceptTicket i t r s).bus.dataOut = s.bus.dataOut ∧ (acceptTicket i t r s).bus.resetSource =
    s.bus.resetSource ∧ (acceptTicket i t r s).bus.protect = s.bus.protect ∧ (acceptTicket i t r s).bus.mask =
    s.bus.mask ∧ (acceptTicket i t r s).bus.interval = s.bus.interval ∧ (acceptTicket i t r s).bus.hbTimeout =
    s.bus.hbTimeout ∧ (acceptTicket i t r s).bus.hbTimer = s.bus.hbTimer ∧ (acceptTicket i t r
    s).admission.holdReason = s.admission.holdReason ∧ (acceptTicket i t r s).admission.commitments =
    s.admission.commitments ∧ (acceptTicket i t r s).admission.epochNo = s.admission.epochNo ∧ (acceptTicket i t
    r s).admission.epochSpeed = s.admission.epochSpeed ∧ (acceptTicket i t r s).admission.epochCurrent =
    s.admission.epochCurrent ∧ (acceptTicket i t r s).admission.misfeedHold = s.admission.misfeedHold ∧
    (acceptTicket i t r s).admission.gateOpen = s.admission.gateOpen ∧ (acceptTicket i t r s).admission.mark =
    s.admission.mark ∧ (acceptTicket i t r s).tracker.train = s.tracker.train ∧ (acceptTicket i t r
    s).tracker.strayPending = s.tracker.strayPending ∧ (acceptTicket i t r s).intake.sweep = s.intake.sweep ∧
    (acceptTicket i t r s).intake.lastSeen = s.intake.lastSeen := by
  and_intros <;> (simp [acceptTicket])

@[simp] theorem refuseTicket_frame (i : PlateId) (why : Reason) (s : State) :
    (refuseTicket i why s).pending = s.pending ∧ (refuseTicket i why s).freeCount = s.freeCount ∧ (refuseTicket
    i why s).now = s.now ∧ (refuseTicket i why s).pins = s.pins ∧ (refuseTicket i why s).intake = s.intake ∧
    (refuseTicket i why s).supervisor = s.supervisor ∧ (refuseTicket i why s).admission = s.admission ∧
    (refuseTicket i why s).tracker = s.tracker ∧ (refuseTicket i why s).transport = s.transport ∧ (refuseTicket
    i why s).banks = s.banks ∧ (refuseTicket i why s).claimLead = s.claimLead ∧ (refuseTicket i why s).wash =
    s.wash ∧ (refuseTicket i why s).drying = s.drying ∧ (refuseTicket i why s).shuttle = s.shuttle ∧
    (refuseTicket i why s).chamber = s.chamber ∧ (refuseTicket i why s).link = s.link ∧ (refuseTicket i why
    s).safety = s.safety ∧ (refuseTicket i why s).cal = s.cal ∧ (refuseTicket i why s).bus.capture =
    s.bus.capture ∧ (refuseTicket i why s).bus.hold = s.bus.hold ∧ (refuseTicket i why s).bus.dataOut =
    s.bus.dataOut ∧ (refuseTicket i why s).bus.resetSource = s.bus.resetSource ∧ (refuseTicket i why
    s).bus.protect = s.bus.protect ∧ (refuseTicket i why s).bus.mask = s.bus.mask ∧ (refuseTicket i why
    s).bus.interval = s.bus.interval ∧ (refuseTicket i why s).bus.hbTimeout = s.bus.hbTimeout ∧ (refuseTicket i
    why s).bus.hbTimer = s.bus.hbTimer := by
  and_intros <;> (simp [refuseTicket])

@[simp] theorem postTicket_frame (i : PlateId) (s : State) :
    (postTicket i s).pending = s.pending ∧ (postTicket i s).freeCount = s.freeCount ∧ (postTicket i s).now =
    s.now ∧ (postTicket i s).pins = s.pins ∧ (postTicket i s).supervisor = s.supervisor ∧ (postTicket i
    s).transport = s.transport ∧ (postTicket i s).banks = s.banks ∧ (postTicket i s).claimLead = s.claimLead ∧
    (postTicket i s).wash = s.wash ∧ (postTicket i s).drying = s.drying ∧ (postTicket i s).shuttle = s.shuttle ∧
    (postTicket i s).chamber = s.chamber ∧ (postTicket i s).link = s.link ∧ (postTicket i s).safety = s.safety ∧
    (postTicket i s).cal = s.cal ∧ (postTicket i s).bus.capture = s.bus.capture ∧ (postTicket i s).bus.hold =
    s.bus.hold ∧ (postTicket i s).bus.dataOut = s.bus.dataOut ∧ (postTicket i s).bus.resetSource =
    s.bus.resetSource ∧ (postTicket i s).bus.protect = s.bus.protect ∧ (postTicket i s).bus.mask = s.bus.mask ∧
    (postTicket i s).bus.interval = s.bus.interval ∧ (postTicket i s).bus.hbTimeout = s.bus.hbTimeout ∧
    (postTicket i s).bus.hbTimer = s.bus.hbTimer ∧ (postTicket i s).admission.holdReason =
    s.admission.holdReason ∧ (postTicket i s).admission.commitments = s.admission.commitments ∧ (postTicket i
    s).admission.epochNo = s.admission.epochNo ∧ (postTicket i s).admission.epochSpeed = s.admission.epochSpeed
    ∧ (postTicket i s).admission.epochCurrent = s.admission.epochCurrent ∧ (postTicket i
    s).admission.misfeedHold = s.admission.misfeedHold ∧ (postTicket i s).admission.gateOpen =
    s.admission.gateOpen ∧ (postTicket i s).admission.mark = s.admission.mark ∧ (postTicket i s).tracker.train =
    s.tracker.train ∧ (postTicket i s).tracker.strayPending = s.tracker.strayPending ∧ (postTicket i
    s).intake.sweep = s.intake.sweep ∧ (postTicket i s).intake.lastSeen = s.intake.lastSeen := by
  and_intros <;> (unfold postTicket; (try dsimp only); (repeat' split) <;> simp)

@[simp] theorem resolveQueued_frame (i : PlateId) (why : Reason) (s : State) :
    (resolveQueued i why s).pending = s.pending ∧ (resolveQueued i why s).freeCount = s.freeCount ∧
    (resolveQueued i why s).now = s.now ∧ (resolveQueued i why s).pins = s.pins ∧ (resolveQueued i why s).intake
    = s.intake ∧ (resolveQueued i why s).supervisor = s.supervisor ∧ (resolveQueued i why s).admission =
    s.admission ∧ (resolveQueued i why s).transport = s.transport ∧ (resolveQueued i why s).banks = s.banks ∧
    (resolveQueued i why s).claimLead = s.claimLead ∧ (resolveQueued i why s).wash = s.wash ∧ (resolveQueued i
    why s).drying = s.drying ∧ (resolveQueued i why s).shuttle = s.shuttle ∧ (resolveQueued i why s).chamber =
    s.chamber ∧ (resolveQueued i why s).link = s.link ∧ (resolveQueued i why s).safety = s.safety ∧
    (resolveQueued i why s).cal = s.cal ∧ (resolveQueued i why s).bus.capture = s.bus.capture ∧ (resolveQueued i
    why s).bus.hold = s.bus.hold ∧ (resolveQueued i why s).bus.dataOut = s.bus.dataOut ∧ (resolveQueued i why
    s).bus.resetSource = s.bus.resetSource ∧ (resolveQueued i why s).bus.protect = s.bus.protect ∧
    (resolveQueued i why s).bus.latched = s.bus.latched ∧ (resolveQueued i why s).bus.mask = s.bus.mask ∧
    (resolveQueued i why s).bus.attn = s.bus.attn ∧ (resolveQueued i why s).bus.holdOff = s.bus.holdOff ∧
    (resolveQueued i why s).bus.interval = s.bus.interval ∧ (resolveQueued i why s).bus.hbTimeout =
    s.bus.hbTimeout ∧ (resolveQueued i why s).bus.hbTimer = s.bus.hbTimer ∧ (resolveQueued i why
    s).tracker.train = s.tracker.train ∧ (resolveQueued i why s).tracker.strayPending = s.tracker.strayPending := by
  and_intros <;> (simp [resolveQueued])

@[simp] theorem withdrawTicket_frame (i : PlateId) (s : State) :
    (withdrawTicket i s).pending = s.pending ∧ (withdrawTicket i s).freeCount = s.freeCount ∧ (withdrawTicket i
    s).now = s.now ∧ (withdrawTicket i s).pins = s.pins ∧ (withdrawTicket i s).intake = s.intake ∧
    (withdrawTicket i s).supervisor = s.supervisor ∧ (withdrawTicket i s).transport = s.transport ∧
    (withdrawTicket i s).banks = s.banks ∧ (withdrawTicket i s).claimLead = s.claimLead ∧ (withdrawTicket i
    s).wash = s.wash ∧ (withdrawTicket i s).drying = s.drying ∧ (withdrawTicket i s).shuttle = s.shuttle ∧
    (withdrawTicket i s).chamber = s.chamber ∧ (withdrawTicket i s).link = s.link ∧ (withdrawTicket i s).safety
    = s.safety ∧ (withdrawTicket i s).cal = s.cal ∧ (withdrawTicket i s).bus.capture = s.bus.capture ∧
    (withdrawTicket i s).bus.hold = s.bus.hold ∧ (withdrawTicket i s).bus.dataOut = s.bus.dataOut ∧
    (withdrawTicket i s).bus.resetSource = s.bus.resetSource ∧ (withdrawTicket i s).bus.protect = s.bus.protect
    ∧ (withdrawTicket i s).bus.mask = s.bus.mask ∧ (withdrawTicket i s).bus.interval = s.bus.interval ∧
    (withdrawTicket i s).bus.hbTimeout = s.bus.hbTimeout ∧ (withdrawTicket i s).bus.hbTimer = s.bus.hbTimer ∧
    (withdrawTicket i s).admission.commitments = s.admission.commitments ∧ (withdrawTicket i
    s).admission.epochNo = s.admission.epochNo ∧ (withdrawTicket i s).admission.epochSpeed =
    s.admission.epochSpeed ∧ (withdrawTicket i s).admission.epochCurrent = s.admission.epochCurrent ∧
    (withdrawTicket i s).admission.misfeedHold = s.admission.misfeedHold ∧ (withdrawTicket i
    s).admission.gateOpen = s.admission.gateOpen ∧ (withdrawTicket i s).admission.mark = s.admission.mark ∧
    (withdrawTicket i s).tracker.train = s.tracker.train ∧ (withdrawTicket i s).tracker.strayPending =
    s.tracker.strayPending := by
  and_intros <;> (simp [withdrawTicket])

@[simp] theorem withdrawLate_frame (i : PlateId) (s : State) :
    (withdrawLate i s).pending = s.pending ∧ (withdrawLate i s).freeCount = s.freeCount ∧ (withdrawLate i s).now
    = s.now ∧ (withdrawLate i s).pins = s.pins ∧ (withdrawLate i s).intake = s.intake ∧ (withdrawLate i
    s).supervisor = s.supervisor ∧ (withdrawLate i s).admission = s.admission ∧ (withdrawLate i s).transport =
    s.transport ∧ (withdrawLate i s).banks = s.banks ∧ (withdrawLate i s).claimLead = s.claimLead ∧
    (withdrawLate i s).wash = s.wash ∧ (withdrawLate i s).drying = s.drying ∧ (withdrawLate i s).shuttle =
    s.shuttle ∧ (withdrawLate i s).chamber = s.chamber ∧ (withdrawLate i s).link = s.link ∧ (withdrawLate i
    s).safety = s.safety ∧ (withdrawLate i s).cal = s.cal ∧ (withdrawLate i s).bus.capture = s.bus.capture ∧
    (withdrawLate i s).bus.hold = s.bus.hold ∧ (withdrawLate i s).bus.dataOut = s.bus.dataOut ∧ (withdrawLate i
    s).bus.resetSource = s.bus.resetSource ∧ (withdrawLate i s).bus.protect = s.bus.protect ∧ (withdrawLate i
    s).bus.latched = s.bus.latched ∧ (withdrawLate i s).bus.mask = s.bus.mask ∧ (withdrawLate i s).bus.attn =
    s.bus.attn ∧ (withdrawLate i s).bus.holdOff = s.bus.holdOff ∧ (withdrawLate i s).bus.interval =
    s.bus.interval ∧ (withdrawLate i s).bus.hbTimeout = s.bus.hbTimeout ∧ (withdrawLate i s).bus.hbTimer =
    s.bus.hbTimer ∧ (withdrawLate i s).tracker.train = s.tracker.train ∧ (withdrawLate i s).tracker.strayPending
    = s.tracker.strayPending := by
  and_intros <;> (simp [withdrawLate])

/-- Writing words of a slot leaves all but the exchange memory. -/
theorem putSlots_frame (i : PlateId) (w : Word) (l : List Nat) (s : State) :
    (l.foldl (fun t o => putSlot i o w t) s).pending = s.pending ∧ (l.foldl (fun t o => putSlot i o w t)
    s).freeCount = s.freeCount ∧ (l.foldl (fun t o => putSlot i o w t) s).now = s.now ∧ (l.foldl (fun t o =>
    putSlot i o w t) s).pins = s.pins ∧ (l.foldl (fun t o => putSlot i o w t) s).intake = s.intake ∧ (l.foldl
    (fun t o => putSlot i o w t) s).supervisor = s.supervisor ∧ (l.foldl (fun t o => putSlot i o w t)
    s).admission = s.admission ∧ (l.foldl (fun t o => putSlot i o w t) s).transport = s.transport ∧ (l.foldl
    (fun t o => putSlot i o w t) s).banks = s.banks ∧ (l.foldl (fun t o => putSlot i o w t) s).claimLead =
    s.claimLead ∧ (l.foldl (fun t o => putSlot i o w t) s).wash = s.wash ∧ (l.foldl (fun t o => putSlot i o w t)
    s).drying = s.drying ∧ (l.foldl (fun t o => putSlot i o w t) s).shuttle = s.shuttle ∧ (l.foldl (fun t o =>
    putSlot i o w t) s).chamber = s.chamber ∧ (l.foldl (fun t o => putSlot i o w t) s).link = s.link ∧ (l.foldl
    (fun t o => putSlot i o w t) s).safety = s.safety ∧ (l.foldl (fun t o => putSlot i o w t) s).cal = s.cal ∧
    (l.foldl (fun t o => putSlot i o w t) s).bus.capture = s.bus.capture ∧ (l.foldl (fun t o => putSlot i o w t)
    s).bus.hold = s.bus.hold ∧ (l.foldl (fun t o => putSlot i o w t) s).bus.dataOut = s.bus.dataOut ∧ (l.foldl
    (fun t o => putSlot i o w t) s).bus.resetSource = s.bus.resetSource ∧ (l.foldl (fun t o => putSlot i o w t)
    s).bus.protect = s.bus.protect ∧ (l.foldl (fun t o => putSlot i o w t) s).bus.latched = s.bus.latched ∧
    (l.foldl (fun t o => putSlot i o w t) s).bus.mask = s.bus.mask ∧ (l.foldl (fun t o => putSlot i o w t)
    s).bus.attn = s.bus.attn ∧ (l.foldl (fun t o => putSlot i o w t) s).bus.holdOff = s.bus.holdOff ∧ (l.foldl
    (fun t o => putSlot i o w t) s).bus.interval = s.bus.interval ∧ (l.foldl (fun t o => putSlot i o w t)
    s).bus.hbTimeout = s.bus.hbTimeout ∧ (l.foldl (fun t o => putSlot i o w t) s).bus.hbTimer = s.bus.hbTimer ∧
    (l.foldl (fun t o => putSlot i o w t) s).tracker.train = s.tracker.train ∧ (l.foldl (fun t o => putSlot i o
    w t) s).tracker.strayPending = s.tracker.strayPending := by
  induction l generalizing s with
  | nil => simp
  | cons x xs ih => simp [ih]

@[simp] theorem returnSlot_frame (i : PlateId) (s : State) :
    (returnSlot i s).pending = s.pending ∧ (returnSlot i s).freeCount = s.freeCount ∧ (returnSlot i s).now =
    s.now ∧ (returnSlot i s).pins = s.pins ∧ (returnSlot i s).intake = s.intake ∧ (returnSlot i s).supervisor =
    s.supervisor ∧ (returnSlot i s).admission = s.admission ∧ (returnSlot i s).transport = s.transport ∧
    (returnSlot i s).banks = s.banks ∧ (returnSlot i s).claimLead = s.claimLead ∧ (returnSlot i s).wash = s.wash
    ∧ (returnSlot i s).drying = s.drying ∧ (returnSlot i s).shuttle = s.shuttle ∧ (returnSlot i s).chamber =
    s.chamber ∧ (returnSlot i s).link = s.link ∧ (returnSlot i s).safety = s.safety ∧ (returnSlot i s).cal =
    s.cal ∧ (returnSlot i s).bus.capture = s.bus.capture ∧ (returnSlot i s).bus.hold = s.bus.hold ∧ (returnSlot
    i s).bus.dataOut = s.bus.dataOut ∧ (returnSlot i s).bus.resetSource = s.bus.resetSource ∧ (returnSlot i
    s).bus.protect = s.bus.protect ∧ (returnSlot i s).bus.latched = s.bus.latched ∧ (returnSlot i s).bus.mask =
    s.bus.mask ∧ (returnSlot i s).bus.attn = s.bus.attn ∧ (returnSlot i s).bus.holdOff = s.bus.holdOff ∧
    (returnSlot i s).bus.interval = s.bus.interval ∧ (returnSlot i s).bus.hbTimeout = s.bus.hbTimeout ∧
    (returnSlot i s).bus.hbTimer = s.bus.hbTimer ∧ (returnSlot i s).tracker.train = s.tracker.train ∧
    (returnSlot i s).tracker.strayPending = s.tracker.strayPending := by
  unfold returnSlot
  have h := putSlots_frame i 0 reportOffsets s
  generalize reportOffsets.foldl (fun t o => putSlot i o 0 t) s = t at h ⊢
  simpa using h

/-- What acting on a request is: one of the five actions. -/
theorem actOnRequest_cases (i : PlateId) (code : Nat) (s : State) :
    actOnRequest i code s = postTicket i s ∨ actOnRequest i code s = withdrawTicket i s ∨
      actOnRequest i code s = withdrawLate i s ∨ actOnRequest i code s = returnSlot i s ∨
      actOnRequest i code s = countDiscard s := by
  unfold actOnRequest
  split <;> simp

@[simp] theorem actOnRequest_frame (i : PlateId) (code : Nat) (s : State) :
    (actOnRequest i code s).pending = s.pending ∧ (actOnRequest i code s).freeCount = s.freeCount ∧
    (actOnRequest i code s).now = s.now ∧ (actOnRequest i code s).pins = s.pins ∧ (actOnRequest i code
    s).supervisor = s.supervisor ∧ (actOnRequest i code s).transport = s.transport ∧ (actOnRequest i code
    s).banks = s.banks ∧ (actOnRequest i code s).claimLead = s.claimLead ∧ (actOnRequest i code s).wash = s.wash
    ∧ (actOnRequest i code s).drying = s.drying ∧ (actOnRequest i code s).shuttle = s.shuttle ∧ (actOnRequest i
    code s).chamber = s.chamber ∧ (actOnRequest i code s).link = s.link ∧ (actOnRequest i code s).safety =
    s.safety ∧ (actOnRequest i code s).cal = s.cal ∧ (actOnRequest i code s).bus.capture = s.bus.capture ∧
    (actOnRequest i code s).bus.hold = s.bus.hold ∧ (actOnRequest i code s).bus.dataOut = s.bus.dataOut ∧
    (actOnRequest i code s).bus.resetSource = s.bus.resetSource ∧ (actOnRequest i code s).bus.mask = s.bus.mask
    ∧ (actOnRequest i code s).bus.interval = s.bus.interval ∧ (actOnRequest i code s).bus.hbTimeout =
    s.bus.hbTimeout ∧ (actOnRequest i code s).bus.hbTimer = s.bus.hbTimer ∧ (actOnRequest i code
    s).admission.commitments = s.admission.commitments ∧ (actOnRequest i code s).admission.epochNo =
    s.admission.epochNo ∧ (actOnRequest i code s).admission.epochSpeed = s.admission.epochSpeed ∧ (actOnRequest
    i code s).admission.epochCurrent = s.admission.epochCurrent ∧ (actOnRequest i code s).admission.misfeedHold
    = s.admission.misfeedHold ∧ (actOnRequest i code s).admission.gateOpen = s.admission.gateOpen ∧
    (actOnRequest i code s).admission.mark = s.admission.mark ∧ (actOnRequest i code s).tracker.train =
    s.tracker.train ∧ (actOnRequest i code s).tracker.strayPending = s.tracker.strayPending ∧ (actOnRequest i
    code s).intake.sweep = s.intake.sweep ∧ (actOnRequest i code s).intake.lastSeen = s.intake.lastSeen := by
  and_intros <;> (rcases actOnRequest_cases i code s with h | h | h | h | h <;> simp [h])

@[simp] theorem visitSlot_frame (i : PlateId) (s : State) :
    (visitSlot i s).pending = s.pending ∧ (visitSlot i s).freeCount = s.freeCount ∧ (visitSlot i s).now = s.now
    ∧ (visitSlot i s).pins = s.pins ∧ (visitSlot i s).supervisor = s.supervisor ∧ (visitSlot i s).transport =
    s.transport ∧ (visitSlot i s).banks = s.banks ∧ (visitSlot i s).claimLead = s.claimLead ∧ (visitSlot i
    s).wash = s.wash ∧ (visitSlot i s).drying = s.drying ∧ (visitSlot i s).shuttle = s.shuttle ∧ (visitSlot i
    s).chamber = s.chamber ∧ (visitSlot i s).link = s.link ∧ (visitSlot i s).safety = s.safety ∧ (visitSlot i
    s).cal = s.cal ∧ (visitSlot i s).bus.capture = s.bus.capture ∧ (visitSlot i s).bus.hold = s.bus.hold ∧
    (visitSlot i s).bus.dataOut = s.bus.dataOut ∧ (visitSlot i s).bus.resetSource = s.bus.resetSource ∧
    (visitSlot i s).bus.mask = s.bus.mask ∧ (visitSlot i s).bus.interval = s.bus.interval ∧ (visitSlot i
    s).bus.hbTimeout = s.bus.hbTimeout ∧ (visitSlot i s).bus.hbTimer = s.bus.hbTimer ∧ (visitSlot i
    s).admission.commitments = s.admission.commitments ∧ (visitSlot i s).admission.epochNo = s.admission.epochNo
    ∧ (visitSlot i s).admission.epochSpeed = s.admission.epochSpeed ∧ (visitSlot i s).admission.epochCurrent =
    s.admission.epochCurrent ∧ (visitSlot i s).admission.misfeedHold = s.admission.misfeedHold ∧ (visitSlot i
    s).admission.gateOpen = s.admission.gateOpen ∧ (visitSlot i s).admission.mark = s.admission.mark ∧
    (visitSlot i s).tracker.train = s.tracker.train ∧ (visitSlot i s).tracker.strayPending =
    s.tracker.strayPending ∧ (visitSlot i s).intake.sweep = s.intake.sweep ∧ (visitSlot i s).intake.lastSeen =
    s.intake.lastSeen := by
  and_intros <;> (unfold visitSlot; (try dsimp only); (repeat' split) <;> simp)

@[simp] theorem callSweep_frame (s : State) :
    (callSweep s).pending = s.pending ∧ (callSweep s).freeCount = s.freeCount ∧ (callSweep s).now = s.now ∧
    (callSweep s).pins = s.pins ∧ (callSweep s).bus = s.bus ∧ (callSweep s).supervisor = s.supervisor ∧
    (callSweep s).admission = s.admission ∧ (callSweep s).tracker = s.tracker ∧ (callSweep s).transport =
    s.transport ∧ (callSweep s).banks = s.banks ∧ (callSweep s).claimLead = s.claimLead ∧ (callSweep s).wash =
    s.wash ∧ (callSweep s).drying = s.drying ∧ (callSweep s).shuttle = s.shuttle ∧ (callSweep s).chamber =
    s.chamber ∧ (callSweep s).link = s.link ∧ (callSweep s).safety = s.safety ∧ (callSweep s).cal = s.cal ∧
    (callSweep s).intake.order = s.intake.order ∧ (callSweep s).intake.lastSeen = s.intake.lastSeen := by
  and_intros <;> (unfold callSweep; (try dsimp only); (repeat' split) <;> simp)

@[simp] theorem nextSlot_frame (i : PlateId) (s : State) :
    (nextSlot i s).pending = s.pending ∧ (nextSlot i s).freeCount = s.freeCount ∧ (nextSlot i s).now = s.now ∧
    (nextSlot i s).pins = s.pins ∧ (nextSlot i s).bus = s.bus ∧ (nextSlot i s).supervisor = s.supervisor ∧
    (nextSlot i s).admission = s.admission ∧ (nextSlot i s).tracker = s.tracker ∧ (nextSlot i s).transport =
    s.transport ∧ (nextSlot i s).banks = s.banks ∧ (nextSlot i s).claimLead = s.claimLead ∧ (nextSlot i s).wash
    = s.wash ∧ (nextSlot i s).drying = s.drying ∧ (nextSlot i s).shuttle = s.shuttle ∧ (nextSlot i s).chamber =
    s.chamber ∧ (nextSlot i s).link = s.link ∧ (nextSlot i s).safety = s.safety ∧ (nextSlot i s).cal = s.cal ∧
    (nextSlot i s).intake.order = s.intake.order ∧ (nextSlot i s).intake.lastSeen = s.intake.lastSeen := by
  and_intros <;> (unfold nextSlot; (try dsimp only); (repeat' split) <;> simp)

@[simp] theorem sweepStep_frame (s : State) :
    (sweepStep s).pending = s.pending ∧ (sweepStep s).freeCount = s.freeCount ∧ (sweepStep s).now = s.now ∧
    (sweepStep s).pins = s.pins ∧ (sweepStep s).supervisor = s.supervisor ∧ (sweepStep s).transport =
    s.transport ∧ (sweepStep s).banks = s.banks ∧ (sweepStep s).claimLead = s.claimLead ∧ (sweepStep s).wash =
    s.wash ∧ (sweepStep s).drying = s.drying ∧ (sweepStep s).shuttle = s.shuttle ∧ (sweepStep s).chamber =
    s.chamber ∧ (sweepStep s).link = s.link ∧ (sweepStep s).safety = s.safety ∧ (sweepStep s).cal = s.cal ∧
    (sweepStep s).bus.capture = s.bus.capture ∧ (sweepStep s).bus.hold = s.bus.hold ∧ (sweepStep s).bus.dataOut
    = s.bus.dataOut ∧ (sweepStep s).bus.resetSource = s.bus.resetSource ∧ (sweepStep s).bus.mask = s.bus.mask ∧
    (sweepStep s).bus.interval = s.bus.interval ∧ (sweepStep s).bus.hbTimeout = s.bus.hbTimeout ∧ (sweepStep
    s).bus.hbTimer = s.bus.hbTimer ∧ (sweepStep s).admission.commitments = s.admission.commitments ∧ (sweepStep
    s).admission.epochNo = s.admission.epochNo ∧ (sweepStep s).admission.epochSpeed = s.admission.epochSpeed ∧
    (sweepStep s).admission.epochCurrent = s.admission.epochCurrent ∧ (sweepStep s).admission.misfeedHold =
    s.admission.misfeedHold ∧ (sweepStep s).admission.gateOpen = s.admission.gateOpen ∧ (sweepStep
    s).admission.mark = s.admission.mark ∧ (sweepStep s).tracker.train = s.tracker.train ∧ (sweepStep
    s).tracker.strayPending = s.tracker.strayPending ∧ (sweepStep s).intake.lastSeen = s.intake.lastSeen := by
  and_intros <;> (unfold sweepStep; (repeat' split) <;> simp)

@[simp] theorem seePostingCount_frame (v : Word) (s : State) :
    (seePostingCount v s).pending = s.pending ∧ (seePostingCount v s).freeCount = s.freeCount ∧ (seePostingCount
    v s).now = s.now ∧ (seePostingCount v s).pins = s.pins ∧ (seePostingCount v s).bus = s.bus ∧
    (seePostingCount v s).supervisor = s.supervisor ∧ (seePostingCount v s).admission = s.admission ∧
    (seePostingCount v s).tracker = s.tracker ∧ (seePostingCount v s).transport = s.transport ∧ (seePostingCount
    v s).banks = s.banks ∧ (seePostingCount v s).claimLead = s.claimLead ∧ (seePostingCount v s).wash = s.wash ∧
    (seePostingCount v s).drying = s.drying ∧ (seePostingCount v s).shuttle = s.shuttle ∧ (seePostingCount v
    s).chamber = s.chamber ∧ (seePostingCount v s).link = s.link ∧ (seePostingCount v s).safety = s.safety ∧
    (seePostingCount v s).cal = s.cal ∧ (seePostingCount v s).intake.order = s.intake.order := by
  and_intros <;> (unfold seePostingCount; (try dsimp only); (repeat' split) <;> simp)

end Sys2Proof.Machine
end

