-- ==== Sys2Proof/Laws/FrameLinkVisit.lean ====
section
/-! SUPPORT. What the operations of Machine/LinkVisit.lean leave unchanged: one frame lemma for each, which
`simp` takes part by part. -/

namespace Sys2Proof.Machine

@[simp] theorem openVisit_frame (n : Fin 15) (isRevisit : Bool) (s : State) :
    (openVisit n isRevisit s).pending = s.pending ∧ (openVisit n isRevisit s).freeCount = s.freeCount ∧
    (openVisit n isRevisit s).now = s.now ∧ (openVisit n isRevisit s).pins = s.pins ∧ (openVisit n isRevisit
    s).bus = s.bus ∧ (openVisit n isRevisit s).intake = s.intake ∧ (openVisit n isRevisit s).supervisor =
    s.supervisor ∧ (openVisit n isRevisit s).admission = s.admission ∧ (openVisit n isRevisit s).tracker =
    s.tracker ∧ (openVisit n isRevisit s).transport = s.transport ∧ (openVisit n isRevisit s).banks = s.banks ∧
    (openVisit n isRevisit s).claimLead = s.claimLead ∧ (openVisit n isRevisit s).wash = s.wash ∧ (openVisit n
    isRevisit s).drying = s.drying ∧ (openVisit n isRevisit s).shuttle = s.shuttle ∧ (openVisit n isRevisit
    s).chamber = s.chamber ∧ (openVisit n isRevisit s).safety = s.safety ∧ (openVisit n isRevisit s).cal = s.cal := by
  and_intros <;> (simp [openVisit, openWindow, sendFrame])

/-- What a visit does to the link master: the node's sequence, the frame, LINK_DE released, the window open. -/
theorem openVisit_link (n : Fin 15) (isRevisit : Bool) (s : State) :
    (openVisit n isRevisit s).link =
      let r : NodeRec := s.link.nodes[n]
      let seq := (r.seq + 1) % 16
      let d := ownerDemand s r.station
      { s.link with
        nodes := s.link.nodes.set n { r with seq := seq }
        txFrame := commandFrame (addrByte n seq) d r.issued
        driveEnable := false, revisit := none, phase := .window n isRevisit (addrByte n seq) d.cmd } := rfl

@[simp] theorem nextVisit_frame (s : State) :
    (nextVisit s).pending = s.pending ∧ (nextVisit s).freeCount = s.freeCount ∧ (nextVisit s).now = s.now ∧
    (nextVisit s).pins = s.pins ∧ (nextVisit s).bus = s.bus ∧ (nextVisit s).intake = s.intake ∧ (nextVisit
    s).supervisor = s.supervisor ∧ (nextVisit s).admission = s.admission ∧ (nextVisit s).tracker = s.tracker ∧
    (nextVisit s).transport = s.transport ∧ (nextVisit s).banks = s.banks ∧ (nextVisit s).claimLead =
    s.claimLead ∧ (nextVisit s).wash = s.wash ∧ (nextVisit s).drying = s.drying ∧ (nextVisit s).shuttle =
    s.shuttle ∧ (nextVisit s).chamber = s.chamber ∧ (nextVisit s).safety = s.safety ∧ (nextVisit s).cal = s.cal := by
  and_intros <;> (unfold nextVisit; (repeat' split) <;> simp)

@[simp] theorem toldPresent_frame (st : Station) (s : State) :
    (toldPresent st s).pending = s.pending ∧ (toldPresent st s).freeCount = s.freeCount ∧ (toldPresent st s).now
    = s.now ∧ (toldPresent st s).pins = s.pins ∧ (toldPresent st s).intake = s.intake ∧ (toldPresent st
    s).supervisor = s.supervisor ∧ (toldPresent st s).transport = s.transport ∧ (toldPresent st s).banks =
    s.banks ∧ (toldPresent st s).claimLead = s.claimLead ∧ (toldPresent st s).safety = s.safety ∧ (toldPresent
    st s).cal = s.cal ∧ (toldPresent st s).bus.capture = s.bus.capture ∧ (toldPresent st s).bus.hold =
    s.bus.hold ∧ (toldPresent st s).bus.dataOut = s.bus.dataOut ∧ (toldPresent st s).bus.resetSource =
    s.bus.resetSource ∧ (toldPresent st s).bus.protect = s.bus.protect ∧ (toldPresent st s).bus.mask =
    s.bus.mask ∧ (toldPresent st s).bus.interval = s.bus.interval ∧ (toldPresent st s).bus.hbTimeout =
    s.bus.hbTimeout ∧ (toldPresent st s).bus.hbTimer = s.bus.hbTimer ∧ (toldPresent st s).admission.queue =
    s.admission.queue ∧ (toldPresent st s).admission.holdReason = s.admission.holdReason ∧ (toldPresent st
    s).admission.epochNo = s.admission.epochNo ∧ (toldPresent st s).admission.epochSpeed =
    s.admission.epochSpeed ∧ (toldPresent st s).admission.epochCurrent = s.admission.epochCurrent ∧ (toldPresent
    st s).admission.misfeedHold = s.admission.misfeedHold ∧ (toldPresent st s).admission.gateOpen =
    s.admission.gateOpen ∧ (toldPresent st s).admission.mark = s.admission.mark ∧ (toldPresent st
    s).tracker.train = s.tracker.train ∧ (toldPresent st s).tracker.strayPending = s.tracker.strayPending ∧
    (toldPresent st s).link.mode = s.link.mode ∧ (toldPresent st s).link.phase = s.link.phase ∧ (toldPresent st
    s).link.lastNode = s.link.lastNode ∧ (toldPresent st s).link.assign = s.link.assign ∧ (toldPresent st
    s).wash.load = s.wash.load ∧ (toldPresent st s).wash.hold = s.wash.hold := by
  and_intros <;> (unfold toldPresent; (repeat' split) <;> simp)

@[simp] theorem finisherLost_frame (s : State) :
    (finisherLost s).pending = s.pending ∧ (finisherLost s).freeCount = s.freeCount ∧ (finisherLost s).now =
    s.now ∧ (finisherLost s).pins = s.pins ∧ (finisherLost s).intake = s.intake ∧ (finisherLost s).supervisor =
    s.supervisor ∧ (finisherLost s).admission = s.admission ∧ (finisherLost s).transport = s.transport ∧
    (finisherLost s).banks = s.banks ∧ (finisherLost s).claimLead = s.claimLead ∧ (finisherLost s).wash = s.wash
    ∧ (finisherLost s).drying = s.drying ∧ (finisherLost s).shuttle = s.shuttle ∧ (finisherLost s).link = s.link
    ∧ (finisherLost s).safety = s.safety ∧ (finisherLost s).cal = s.cal ∧ (finisherLost s).bus.capture =
    s.bus.capture ∧ (finisherLost s).bus.hold = s.bus.hold ∧ (finisherLost s).bus.dataOut = s.bus.dataOut ∧
    (finisherLost s).bus.resetSource = s.bus.resetSource ∧ (finisherLost s).bus.protect = s.bus.protect ∧
    (finisherLost s).bus.mask = s.bus.mask ∧ (finisherLost s).bus.interval = s.bus.interval ∧ (finisherLost
    s).bus.hbTimeout = s.bus.hbTimeout ∧ (finisherLost s).bus.hbTimer = s.bus.hbTimer ∧ (finisherLost
    s).tracker.train = s.tracker.train ∧ (finisherLost s).tracker.strayPending = s.tracker.strayPending := by
  and_intros <;> (unfold finisherLost; (repeat' split) <;> simp)

@[simp] theorem toldLost_frame (st : Station) (s : State) :
    (toldLost st s).pending = s.pending ∧ (toldLost st s).freeCount = s.freeCount ∧ (toldLost st s).now = s.now
    ∧ (toldLost st s).pins = s.pins ∧ (toldLost st s).intake = s.intake ∧ (toldLost st s).claimLead =
    s.claimLead ∧ (toldLost st s).safety = s.safety ∧ (toldLost st s).cal = s.cal ∧ (toldLost st s).bus.capture
    = s.bus.capture ∧ (toldLost st s).bus.hold = s.bus.hold ∧ (toldLost st s).bus.dataOut = s.bus.dataOut ∧
    (toldLost st s).bus.resetSource = s.bus.resetSource ∧ (toldLost st s).bus.protect = s.bus.protect ∧
    (toldLost st s).bus.mask = s.bus.mask ∧ (toldLost st s).bus.interval = s.bus.interval ∧ (toldLost st
    s).bus.hbTimeout = s.bus.hbTimeout ∧ (toldLost st s).bus.hbTimer = s.bus.hbTimer ∧ (toldLost st
    s).supervisor.lineTime = s.supervisor.lineTime ∧ (toldLost st s).supervisor.outcome = s.supervisor.outcome ∧
    (toldLost st s).supervisor.timer = s.supervisor.timer ∧ (toldLost st s).admission.queue = s.admission.queue
    ∧ (toldLost st s).admission.holdReason = s.admission.holdReason ∧ (toldLost st s).admission.epochNo =
    s.admission.epochNo ∧ (toldLost st s).admission.epochSpeed = s.admission.epochSpeed ∧ (toldLost st
    s).admission.misfeedHold = s.admission.misfeedHold ∧ (toldLost st s).admission.mark = s.admission.mark ∧
    (toldLost st s).tracker.strayPending = s.tracker.strayPending ∧ (toldLost st s).link.mode = s.link.mode ∧
    (toldLost st s).link.phase = s.link.phase ∧ (toldLost st s).link.lastNode = s.link.lastNode ∧ (toldLost st
    s).link.assign = s.link.assign := by
  and_intros <;> (unfold toldLost; (repeat' split) <;> simp)

@[simp] theorem notGood_frame (n : Fin 15) (isCheck : Bool) (s : State) :
    (notGood n isCheck s).pending = s.pending ∧ (notGood n isCheck s).freeCount = s.freeCount ∧ (notGood n
    isCheck s).now = s.now ∧ (notGood n isCheck s).pins = s.pins ∧ (notGood n isCheck s).intake = s.intake ∧
    (notGood n isCheck s).claimLead = s.claimLead ∧ (notGood n isCheck s).safety = s.safety ∧ (notGood n isCheck
    s).cal = s.cal ∧ (notGood n isCheck s).bus.capture = s.bus.capture ∧ (notGood n isCheck s).bus.hold =
    s.bus.hold ∧ (notGood n isCheck s).bus.dataOut = s.bus.dataOut ∧ (notGood n isCheck s).bus.resetSource =
    s.bus.resetSource ∧ (notGood n isCheck s).bus.protect = s.bus.protect ∧ (notGood n isCheck s).bus.mask =
    s.bus.mask ∧ (notGood n isCheck s).bus.interval = s.bus.interval ∧ (notGood n isCheck s).bus.hbTimeout =
    s.bus.hbTimeout ∧ (notGood n isCheck s).bus.hbTimer = s.bus.hbTimer ∧ (notGood n isCheck
    s).supervisor.lineTime = s.supervisor.lineTime ∧ (notGood n isCheck s).supervisor.outcome =
    s.supervisor.outcome ∧ (notGood n isCheck s).supervisor.timer = s.supervisor.timer ∧ (notGood n isCheck
    s).admission.queue = s.admission.queue ∧ (notGood n isCheck s).admission.holdReason = s.admission.holdReason
    ∧ (notGood n isCheck s).admission.epochNo = s.admission.epochNo ∧ (notGood n isCheck s).admission.epochSpeed
    = s.admission.epochSpeed ∧ (notGood n isCheck s).admission.misfeedHold = s.admission.misfeedHold ∧ (notGood
    n isCheck s).admission.mark = s.admission.mark ∧ (notGood n isCheck s).tracker.strayPending =
    s.tracker.strayPending ∧ (notGood n isCheck s).link.mode = s.link.mode ∧ (notGood n isCheck s).link.phase =
    s.link.phase ∧ (notGood n isCheck s).link.lastNode = s.link.lastNode ∧ (notGood n isCheck s).link.assign =
    s.link.assign := by
  and_intros <;> (unfold notGood; (try dsimp only); (repeat' split) <;> simp)

@[simp] theorem deliver_frame (st : Station) (carriedReset : Bool) (stat : Byte) (d : Vector Byte 6) (s : State) :
    (deliver st carriedReset stat d s).pending = s.pending ∧ (deliver st carriedReset stat d s).now = s.now ∧
    (deliver st carriedReset stat d s).pins = s.pins ∧ (deliver st carriedReset stat d s).intake = s.intake ∧
    (deliver st carriedReset stat d s).supervisor = s.supervisor ∧ (deliver st carriedReset stat d s).banks =
    s.banks ∧ (deliver st carriedReset stat d s).claimLead = s.claimLead ∧ (deliver st carriedReset stat d
    s).safety = s.safety ∧ (deliver st carriedReset stat d s).cal = s.cal ∧ (deliver st carriedReset stat d
    s).bus.capture = s.bus.capture ∧ (deliver st carriedReset stat d s).bus.hold = s.bus.hold ∧ (deliver st
    carriedReset stat d s).bus.dataOut = s.bus.dataOut ∧ (deliver st carriedReset stat d s).bus.resetSource =
    s.bus.resetSource ∧ (deliver st carriedReset stat d s).bus.protect = s.bus.protect ∧ (deliver st
    carriedReset stat d s).bus.mask = s.bus.mask ∧ (deliver st carriedReset stat d s).bus.interval =
    s.bus.interval ∧ (deliver st carriedReset stat d s).bus.hbTimeout = s.bus.hbTimeout ∧ (deliver st
    carriedReset stat d s).bus.hbTimer = s.bus.hbTimer ∧ (deliver st carriedReset stat d s).admission.queue =
    s.admission.queue ∧ (deliver st carriedReset stat d s).admission.holdReason = s.admission.holdReason ∧
    (deliver st carriedReset stat d s).admission.epochNo = s.admission.epochNo ∧ (deliver st carriedReset stat d
    s).admission.epochSpeed = s.admission.epochSpeed ∧ (deliver st carriedReset stat d s).admission.epochCurrent
    = s.admission.epochCurrent ∧ (deliver st carriedReset stat d s).admission.misfeedHold =
    s.admission.misfeedHold ∧ (deliver st carriedReset stat d s).admission.gateOpen = s.admission.gateOpen ∧
    (deliver st carriedReset stat d s).admission.mark = s.admission.mark ∧ (deliver st carriedReset stat d
    s).tracker.train = s.tracker.train ∧ (deliver st carriedReset stat d s).tracker.strayPending =
    s.tracker.strayPending ∧ (deliver st carriedReset stat d s).link.mode = s.link.mode ∧ (deliver st
    carriedReset stat d s).link.phase = s.link.phase ∧ (deliver st carriedReset stat d s).link.lastNode =
    s.link.lastNode ∧ (deliver st carriedReset stat d s).link.assign = s.link.assign := by
  and_intros <;> (unfold deliver; (try dsimp only); (repeat' split) <;> simp)

@[simp] theorem goodOutcome_frame (n : Fin 15) (isRevisit : Bool) (cmd : NodeCmd) (stat : Byte) (d : Vector Byte 6) (s : State) :
    (goodOutcome n isRevisit cmd stat d s).pending = s.pending ∧ (goodOutcome n isRevisit cmd stat d s).now =
    s.now ∧ (goodOutcome n isRevisit cmd stat d s).pins = s.pins ∧ (goodOutcome n isRevisit cmd stat d s).intake
    = s.intake ∧ (goodOutcome n isRevisit cmd stat d s).supervisor = s.supervisor ∧ (goodOutcome n isRevisit cmd
    stat d s).banks = s.banks ∧ (goodOutcome n isRevisit cmd stat d s).claimLead = s.claimLead ∧ (goodOutcome n
    isRevisit cmd stat d s).safety = s.safety ∧ (goodOutcome n isRevisit cmd stat d s).cal = s.cal ∧
    (goodOutcome n isRevisit cmd stat d s).bus.capture = s.bus.capture ∧ (goodOutcome n isRevisit cmd stat d
    s).bus.hold = s.bus.hold ∧ (goodOutcome n isRevisit cmd stat d s).bus.dataOut = s.bus.dataOut ∧ (goodOutcome
    n isRevisit cmd stat d s).bus.resetSource = s.bus.resetSource ∧ (goodOutcome n isRevisit cmd stat d
    s).bus.protect = s.bus.protect ∧ (goodOutcome n isRevisit cmd stat d s).bus.mask = s.bus.mask ∧ (goodOutcome
    n isRevisit cmd stat d s).bus.interval = s.bus.interval ∧ (goodOutcome n isRevisit cmd stat d
    s).bus.hbTimeout = s.bus.hbTimeout ∧ (goodOutcome n isRevisit cmd stat d s).bus.hbTimer = s.bus.hbTimer ∧
    (goodOutcome n isRevisit cmd stat d s).admission.queue = s.admission.queue ∧ (goodOutcome n isRevisit cmd
    stat d s).admission.holdReason = s.admission.holdReason ∧ (goodOutcome n isRevisit cmd stat d
    s).admission.epochNo = s.admission.epochNo ∧ (goodOutcome n isRevisit cmd stat d s).admission.epochSpeed =
    s.admission.epochSpeed ∧ (goodOutcome n isRevisit cmd stat d s).admission.epochCurrent =
    s.admission.epochCurrent ∧ (goodOutcome n isRevisit cmd stat d s).admission.misfeedHold =
    s.admission.misfeedHold ∧ (goodOutcome n isRevisit cmd stat d s).admission.gateOpen = s.admission.gateOpen ∧
    (goodOutcome n isRevisit cmd stat d s).admission.mark = s.admission.mark ∧ (goodOutcome n isRevisit cmd stat
    d s).tracker.train = s.tracker.train ∧ (goodOutcome n isRevisit cmd stat d s).tracker.strayPending =
    s.tracker.strayPending ∧ (goodOutcome n isRevisit cmd stat d s).link.mode = s.link.mode ∧ (goodOutcome n
    isRevisit cmd stat d s).link.phase = s.link.phase ∧ (goodOutcome n isRevisit cmd stat d s).link.lastNode =
    s.link.lastNode ∧ (goodOutcome n isRevisit cmd stat d s).link.assign = s.link.assign := by
  and_intros <;> (unfold goodOutcome; (try dsimp only); (repeat' split) <;> simp)

@[simp] theorem endVisit_frame (n : Fin 15) (s : State) :
    (endVisit n s).pending = s.pending ∧ (endVisit n s).freeCount = s.freeCount ∧ (endVisit n s).now = s.now ∧
    (endVisit n s).pins = s.pins ∧ (endVisit n s).intake = s.intake ∧ (endVisit n s).supervisor = s.supervisor ∧
    (endVisit n s).banks = s.banks ∧ (endVisit n s).claimLead = s.claimLead ∧ (endVisit n s).wash = s.wash ∧
    (endVisit n s).safety = s.safety ∧ (endVisit n s).cal = s.cal ∧ (endVisit n s).bus.capture = s.bus.capture ∧
    (endVisit n s).bus.hold = s.bus.hold ∧ (endVisit n s).bus.dataOut = s.bus.dataOut ∧ (endVisit n
    s).bus.resetSource = s.bus.resetSource ∧ (endVisit n s).bus.protect = s.bus.protect ∧ (endVisit n
    s).bus.latched = s.bus.latched ∧ (endVisit n s).bus.mask = s.bus.mask ∧ (endVisit n s).bus.attn = s.bus.attn
    ∧ (endVisit n s).bus.holdOff = s.bus.holdOff ∧ (endVisit n s).bus.interval = s.bus.interval ∧ (endVisit n
    s).bus.hbTimeout = s.bus.hbTimeout ∧ (endVisit n s).bus.hbTimer = s.bus.hbTimer ∧ (endVisit n
    s).admission.queue = s.admission.queue ∧ (endVisit n s).admission.holdReason = s.admission.holdReason ∧
    (endVisit n s).admission.epochNo = s.admission.epochNo ∧ (endVisit n s).admission.epochSpeed =
    s.admission.epochSpeed ∧ (endVisit n s).admission.epochCurrent = s.admission.epochCurrent ∧ (endVisit n
    s).admission.misfeedHold = s.admission.misfeedHold ∧ (endVisit n s).admission.gateOpen =
    s.admission.gateOpen ∧ (endVisit n s).admission.mark = s.admission.mark ∧ (endVisit n s).tracker.train =
    s.tracker.train ∧ (endVisit n s).tracker.strayPending = s.tracker.strayPending := by
  and_intros <;> (unfold endVisit; (try dsimp only); (repeat' split) <;> simp)

@[simp] theorem visitOutcome_frame (judged : Byte → Judged) (s : State) :
    (visitOutcome judged s).pending = s.pending ∧ (visitOutcome judged s).now = s.now ∧ (visitOutcome judged
    s).pins = s.pins ∧ (visitOutcome judged s).intake = s.intake ∧ (visitOutcome judged s).claimLead =
    s.claimLead ∧ (visitOutcome judged s).safety = s.safety ∧ (visitOutcome judged s).cal = s.cal ∧
    (visitOutcome judged s).bus.capture = s.bus.capture ∧ (visitOutcome judged s).bus.hold = s.bus.hold ∧
    (visitOutcome judged s).bus.dataOut = s.bus.dataOut ∧ (visitOutcome judged s).bus.resetSource =
    s.bus.resetSource ∧ (visitOutcome judged s).bus.protect = s.bus.protect ∧ (visitOutcome judged s).bus.mask =
    s.bus.mask ∧ (visitOutcome judged s).bus.interval = s.bus.interval ∧ (visitOutcome judged s).bus.hbTimeout =
    s.bus.hbTimeout ∧ (visitOutcome judged s).bus.hbTimer = s.bus.hbTimer ∧ (visitOutcome judged
    s).supervisor.lineTime = s.supervisor.lineTime ∧ (visitOutcome judged s).supervisor.outcome =
    s.supervisor.outcome ∧ (visitOutcome judged s).supervisor.timer = s.supervisor.timer ∧ (visitOutcome judged
    s).admission.queue = s.admission.queue ∧ (visitOutcome judged s).admission.holdReason =
    s.admission.holdReason ∧ (visitOutcome judged s).admission.epochNo = s.admission.epochNo ∧ (visitOutcome
    judged s).admission.epochSpeed = s.admission.epochSpeed ∧ (visitOutcome judged s).admission.misfeedHold =
    s.admission.misfeedHold ∧ (visitOutcome judged s).admission.mark = s.admission.mark ∧ (visitOutcome judged
    s).tracker.strayPending = s.tracker.strayPending := by
  and_intros <;> (unfold visitOutcome; (repeat' split) <;> simp)

@[simp] theorem passTimerExpired_frame (s : State) :
    (passTimerExpired s).pending = s.pending ∧ (passTimerExpired s).freeCount = s.freeCount ∧ (passTimerExpired
    s).now = s.now ∧ (passTimerExpired s).pins = s.pins ∧ (passTimerExpired s).intake = s.intake ∧
    (passTimerExpired s).supervisor = s.supervisor ∧ (passTimerExpired s).banks = s.banks ∧ (passTimerExpired
    s).claimLead = s.claimLead ∧ (passTimerExpired s).wash = s.wash ∧ (passTimerExpired s).safety = s.safety ∧
    (passTimerExpired s).cal = s.cal ∧ (passTimerExpired s).bus.capture = s.bus.capture ∧ (passTimerExpired
    s).bus.hold = s.bus.hold ∧ (passTimerExpired s).bus.dataOut = s.bus.dataOut ∧ (passTimerExpired
    s).bus.resetSource = s.bus.resetSource ∧ (passTimerExpired s).bus.protect = s.bus.protect ∧
    (passTimerExpired s).bus.latched = s.bus.latched ∧ (passTimerExpired s).bus.mask = s.bus.mask ∧
    (passTimerExpired s).bus.attn = s.bus.attn ∧ (passTimerExpired s).bus.holdOff = s.bus.holdOff ∧
    (passTimerExpired s).bus.interval = s.bus.interval ∧ (passTimerExpired s).bus.hbTimeout = s.bus.hbTimeout ∧
    (passTimerExpired s).bus.hbTimer = s.bus.hbTimer ∧ (passTimerExpired s).admission.queue = s.admission.queue
    ∧ (passTimerExpired s).admission.holdReason = s.admission.holdReason ∧ (passTimerExpired
    s).admission.epochNo = s.admission.epochNo ∧ (passTimerExpired s).admission.epochSpeed =
    s.admission.epochSpeed ∧ (passTimerExpired s).admission.epochCurrent = s.admission.epochCurrent ∧
    (passTimerExpired s).admission.misfeedHold = s.admission.misfeedHold ∧ (passTimerExpired
    s).admission.gateOpen = s.admission.gateOpen ∧ (passTimerExpired s).admission.mark = s.admission.mark ∧
    (passTimerExpired s).tracker.train = s.tracker.train ∧ (passTimerExpired s).tracker.strayPending =
    s.tracker.strayPending := by
  and_intros <;> (unfold passTimerExpired; (try dsimp only); (repeat' split) <;> simp)

end Sys2Proof.Machine
end

