-- ==== Sys2Proof/Laws/FrameCalibration.lean ====
section
/-! SUPPORT. What the operations of Machine/Calibration.lean leave unchanged: one frame lemma for each, which
`simp` takes part by part. -/

namespace Sys2Proof.Machine

@[simp] theorem liveOthers_frame (take : Nat → Option Word) (s : State) :
    (liveOthers take s).pending = s.pending ∧ (liveOthers take s).freeCount = s.freeCount ∧ (liveOthers take
    s).now = s.now ∧ (liveOthers take s).pins = s.pins ∧ (liveOthers take s).bus = s.bus ∧ (liveOthers take
    s).intake = s.intake ∧ (liveOthers take s).supervisor = s.supervisor ∧ (liveOthers take s).tracker =
    s.tracker ∧ (liveOthers take s).transport = s.transport ∧ (liveOthers take s).banks = s.banks ∧ (liveOthers
    take s).shuttle = s.shuttle ∧ (liveOthers take s).chamber = s.chamber ∧ (liveOthers take s).safety =
    s.safety ∧ (liveOthers take s).cal = s.cal ∧ (liveOthers take s).admission.queue = s.admission.queue ∧
    (liveOthers take s).admission.holdReason = s.admission.holdReason ∧ (liveOthers take
    s).admission.commitments = s.admission.commitments ∧ (liveOthers take s).admission.epochNo =
    s.admission.epochNo ∧ (liveOthers take s).admission.epochSpeed = s.admission.epochSpeed ∧ (liveOthers take
    s).admission.epochCurrent = s.admission.epochCurrent ∧ (liveOthers take s).admission.misfeedHold =
    s.admission.misfeedHold ∧ (liveOthers take s).admission.gateOpen = s.admission.gateOpen ∧ (liveOthers take
    s).admission.mark = s.admission.mark ∧ (liveOthers take s).link.mode = s.link.mode ∧ (liveOthers take
    s).link.phase = s.link.phase ∧ (liveOthers take s).link.nodes = s.link.nodes ∧ (liveOthers take s).wash.load
    = s.wash.load ∧ (liveOthers take s).wash.hold = s.wash.hold ∧ (liveOthers take s).wash.replenish =
    s.wash.replenish ∧ (liveOthers take s).drying.rack = s.drying.rack ∧ (liveOthers take s).drying.drawers =
    s.drying.drawers ∧ (liveOthers take s).drying.dryList = s.drying.dryList := by
  and_intros <;> (simp [liveOthers])

@[simp] theorem takeLive_frame (take : Nat → Option Word) (s : State) :
    (takeLive take s).pending = s.pending ∧ (takeLive take s).freeCount = s.freeCount ∧ (takeLive take s).now =
    s.now ∧ (takeLive take s).pins = s.pins ∧ (takeLive take s).intake = s.intake ∧ (takeLive take s).supervisor
    = s.supervisor ∧ (takeLive take s).tracker = s.tracker ∧ (takeLive take s).transport = s.transport ∧
    (takeLive take s).shuttle = s.shuttle ∧ (takeLive take s).chamber = s.chamber ∧ (takeLive take s).safety =
    s.safety ∧ (takeLive take s).cal = s.cal ∧ (takeLive take s).bus.ram = s.bus.ram ∧ (takeLive take
    s).bus.capture = s.bus.capture ∧ (takeLive take s).bus.hold = s.bus.hold ∧ (takeLive take s).bus.dataOut =
    s.bus.dataOut ∧ (takeLive take s).bus.resetSource = s.bus.resetSource ∧ (takeLive take s).bus.protect =
    s.bus.protect ∧ (takeLive take s).bus.mask = s.bus.mask ∧ (takeLive take s).bus.interval = s.bus.interval ∧
    (takeLive take s).bus.hbTimeout = s.bus.hbTimeout ∧ (takeLive take s).bus.hbTimer = s.bus.hbTimer ∧
    (takeLive take s).admission.queue = s.admission.queue ∧ (takeLive take s).admission.holdReason =
    s.admission.holdReason ∧ (takeLive take s).admission.commitments = s.admission.commitments ∧ (takeLive take
    s).admission.epochNo = s.admission.epochNo ∧ (takeLive take s).admission.epochSpeed = s.admission.epochSpeed
    ∧ (takeLive take s).admission.epochCurrent = s.admission.epochCurrent ∧ (takeLive take
    s).admission.misfeedHold = s.admission.misfeedHold ∧ (takeLive take s).admission.gateOpen =
    s.admission.gateOpen ∧ (takeLive take s).admission.mark = s.admission.mark ∧ (takeLive take s).link.mode =
    s.link.mode ∧ (takeLive take s).link.phase = s.link.phase ∧ (takeLive take s).wash.load = s.wash.load ∧
    (takeLive take s).drying.rack = s.drying.rack ∧ (takeLive take s).drying.drawers = s.drying.drawers ∧
    (takeLive take s).drying.dryList = s.drying.dryList := by
  and_intros <;> (simp [takeLive])

@[simp] theorem finishOp_frame (r : OpResult) (s : State) :
    (finishOp r s).pending = s.pending ∧ (finishOp r s).freeCount = s.freeCount ∧ (finishOp r s).now = s.now ∧
    (finishOp r s).pins = s.pins ∧ (finishOp r s).intake = s.intake ∧ (finishOp r s).supervisor = s.supervisor ∧
    (finishOp r s).admission = s.admission ∧ (finishOp r s).tracker = s.tracker ∧ (finishOp r s).transport =
    s.transport ∧ (finishOp r s).banks = s.banks ∧ (finishOp r s).claimLead = s.claimLead ∧ (finishOp r s).wash
    = s.wash ∧ (finishOp r s).drying = s.drying ∧ (finishOp r s).shuttle = s.shuttle ∧ (finishOp r s).chamber =
    s.chamber ∧ (finishOp r s).link = s.link ∧ (finishOp r s).safety = s.safety ∧ (finishOp r s).bus.ram =
    s.bus.ram ∧ (finishOp r s).bus.capture = s.bus.capture ∧ (finishOp r s).bus.hold = s.bus.hold ∧ (finishOp r
    s).bus.dataOut = s.bus.dataOut ∧ (finishOp r s).bus.resetSource = s.bus.resetSource ∧ (finishOp r
    s).bus.protect = s.bus.protect ∧ (finishOp r s).bus.mask = s.bus.mask ∧ (finishOp r s).bus.interval =
    s.bus.interval ∧ (finishOp r s).bus.hbTimeout = s.bus.hbTimeout ∧ (finishOp r s).bus.hbTimer = s.bus.hbTimer := by
  and_intros <;> (simp [finishOp])

@[simp] theorem beginOp_frame (op : CalOp) (ms : Nat) (s : State) :
    (beginOp op ms s).pending = s.pending ∧ (beginOp op ms s).freeCount = s.freeCount ∧ (beginOp op ms s).now =
    s.now ∧ (beginOp op ms s).pins = s.pins ∧ (beginOp op ms s).bus = s.bus ∧ (beginOp op ms s).intake =
    s.intake ∧ (beginOp op ms s).supervisor = s.supervisor ∧ (beginOp op ms s).admission = s.admission ∧
    (beginOp op ms s).tracker = s.tracker ∧ (beginOp op ms s).transport = s.transport ∧ (beginOp op ms s).banks
    = s.banks ∧ (beginOp op ms s).claimLead = s.claimLead ∧ (beginOp op ms s).wash = s.wash ∧ (beginOp op ms
    s).drying = s.drying ∧ (beginOp op ms s).shuttle = s.shuttle ∧ (beginOp op ms s).chamber = s.chamber ∧
    (beginOp op ms s).link = s.link ∧ (beginOp op ms s).safety = s.safety := by
  and_intros <;> (simp [beginOp])

@[simp] theorem opRead_frame (a : Nat) (s : State) :
    (opRead a s).pending = s.pending ∧ (opRead a s).freeCount = s.freeCount ∧ (opRead a s).now = s.now ∧ (opRead
    a s).pins = s.pins ∧ (opRead a s).intake = s.intake ∧ (opRead a s).supervisor = s.supervisor ∧ (opRead a
    s).admission = s.admission ∧ (opRead a s).tracker = s.tracker ∧ (opRead a s).transport = s.transport ∧
    (opRead a s).banks = s.banks ∧ (opRead a s).claimLead = s.claimLead ∧ (opRead a s).wash = s.wash ∧ (opRead a
    s).drying = s.drying ∧ (opRead a s).shuttle = s.shuttle ∧ (opRead a s).chamber = s.chamber ∧ (opRead a
    s).link = s.link ∧ (opRead a s).safety = s.safety ∧ (opRead a s).bus.ram = s.bus.ram ∧ (opRead a
    s).bus.capture = s.bus.capture ∧ (opRead a s).bus.hold = s.bus.hold ∧ (opRead a s).bus.dataOut =
    s.bus.dataOut ∧ (opRead a s).bus.resetSource = s.bus.resetSource ∧ (opRead a s).bus.protect = s.bus.protect
    ∧ (opRead a s).bus.mask = s.bus.mask ∧ (opRead a s).bus.interval = s.bus.interval ∧ (opRead a
    s).bus.hbTimeout = s.bus.hbTimeout ∧ (opRead a s).bus.hbTimer = s.bus.hbTimer := by
  and_intros <;> (simp [opRead])

@[simp] theorem opLoadLive_frame (s : State) :
    (opLoadLive s).pending = s.pending ∧ (opLoadLive s).freeCount = s.freeCount ∧ (opLoadLive s).now = s.now ∧
    (opLoadLive s).pins = s.pins ∧ (opLoadLive s).intake = s.intake ∧ (opLoadLive s).supervisor = s.supervisor ∧
    (opLoadLive s).tracker = s.tracker ∧ (opLoadLive s).transport = s.transport ∧ (opLoadLive s).shuttle =
    s.shuttle ∧ (opLoadLive s).chamber = s.chamber ∧ (opLoadLive s).safety = s.safety ∧ (opLoadLive s).bus.ram =
    s.bus.ram ∧ (opLoadLive s).bus.capture = s.bus.capture ∧ (opLoadLive s).bus.hold = s.bus.hold ∧ (opLoadLive
    s).bus.dataOut = s.bus.dataOut ∧ (opLoadLive s).bus.resetSource = s.bus.resetSource ∧ (opLoadLive
    s).bus.protect = s.bus.protect ∧ (opLoadLive s).bus.mask = s.bus.mask ∧ (opLoadLive s).bus.interval =
    s.bus.interval ∧ (opLoadLive s).bus.hbTimeout = s.bus.hbTimeout ∧ (opLoadLive s).bus.hbTimer = s.bus.hbTimer
    ∧ (opLoadLive s).admission.queue = s.admission.queue ∧ (opLoadLive s).admission.holdReason =
    s.admission.holdReason ∧ (opLoadLive s).admission.commitments = s.admission.commitments ∧ (opLoadLive
    s).admission.epochNo = s.admission.epochNo ∧ (opLoadLive s).admission.epochSpeed = s.admission.epochSpeed ∧
    (opLoadLive s).admission.epochCurrent = s.admission.epochCurrent ∧ (opLoadLive s).admission.misfeedHold =
    s.admission.misfeedHold ∧ (opLoadLive s).admission.gateOpen = s.admission.gateOpen ∧ (opLoadLive
    s).admission.mark = s.admission.mark ∧ (opLoadLive s).link.mode = s.link.mode ∧ (opLoadLive s).link.phase =
    s.link.phase ∧ (opLoadLive s).wash.load = s.wash.load ∧ (opLoadLive s).drying.rack = s.drying.rack ∧
    (opLoadLive s).drying.drawers = s.drying.drawers ∧ (opLoadLive s).drying.dryList = s.drying.dryList := by
  and_intros <;> (unfold opLoadLive; (try dsimp only); (repeat' split) <;> simp)

@[simp] theorem saveOffsetWords_frame (old : PerBank Int) (s : State) :
    (saveOffsetWords old s).pending = s.pending ∧ (saveOffsetWords old s).now = s.now ∧ (saveOffsetWords old
    s).pins = s.pins ∧ (saveOffsetWords old s).bus = s.bus ∧ (saveOffsetWords old s).intake = s.intake ∧
    (saveOffsetWords old s).supervisor = s.supervisor ∧ (saveOffsetWords old s).admission = s.admission ∧
    (saveOffsetWords old s).tracker = s.tracker ∧ (saveOffsetWords old s).transport = s.transport ∧
    (saveOffsetWords old s).banks = s.banks ∧ (saveOffsetWords old s).claimLead = s.claimLead ∧ (saveOffsetWords
    old s).wash = s.wash ∧ (saveOffsetWords old s).drying = s.drying ∧ (saveOffsetWords old s).shuttle =
    s.shuttle ∧ (saveOffsetWords old s).chamber = s.chamber ∧ (saveOffsetWords old s).link = s.link ∧
    (saveOffsetWords old s).safety = s.safety ∧ (saveOffsetWords old s).cal.state = s.cal.state ∧
    (saveOffsetWords old s).cal.opState = s.cal.opState := by
  and_intros <;> (simp [saveOffsetWords])

@[simp] theorem completeWrite_frame (s : State) :
    (completeWrite s).pending = s.pending ∧ (completeWrite s).freeCount = s.freeCount ∧ (completeWrite s).pins =
    s.pins ∧ (completeWrite s).intake = s.intake ∧ (completeWrite s).supervisor = s.supervisor ∧ (completeWrite
    s).admission = s.admission ∧ (completeWrite s).tracker = s.tracker ∧ (completeWrite s).transport =
    s.transport ∧ (completeWrite s).claimLead = s.claimLead ∧ (completeWrite s).wash = s.wash ∧ (completeWrite
    s).drying = s.drying ∧ (completeWrite s).shuttle = s.shuttle ∧ (completeWrite s).chamber = s.chamber ∧
    (completeWrite s).link = s.link ∧ (completeWrite s).safety = s.safety ∧ (completeWrite s).bus.ram =
    s.bus.ram ∧ (completeWrite s).bus.capture = s.bus.capture ∧ (completeWrite s).bus.hold = s.bus.hold ∧
    (completeWrite s).bus.dataOut = s.bus.dataOut ∧ (completeWrite s).bus.resetSource = s.bus.resetSource ∧
    (completeWrite s).bus.protect = s.bus.protect ∧ (completeWrite s).bus.mask = s.bus.mask ∧ (completeWrite
    s).bus.interval = s.bus.interval ∧ (completeWrite s).bus.hbTimeout = s.bus.hbTimeout ∧ (completeWrite
    s).bus.hbTimer = s.bus.hbTimer := by
  and_intros <;> (unfold completeWrite; (repeat' split) <;> simp)

@[simp] theorem completeErase_frame (s : State) :
    (completeErase s).pending = s.pending ∧ (completeErase s).freeCount = s.freeCount ∧ (completeErase s).pins =
    s.pins ∧ (completeErase s).intake = s.intake ∧ (completeErase s).supervisor = s.supervisor ∧ (completeErase
    s).admission = s.admission ∧ (completeErase s).tracker = s.tracker ∧ (completeErase s).transport =
    s.transport ∧ (completeErase s).claimLead = s.claimLead ∧ (completeErase s).wash = s.wash ∧ (completeErase
    s).drying = s.drying ∧ (completeErase s).shuttle = s.shuttle ∧ (completeErase s).chamber = s.chamber ∧
    (completeErase s).link = s.link ∧ (completeErase s).safety = s.safety ∧ (completeErase s).bus.ram =
    s.bus.ram ∧ (completeErase s).bus.capture = s.bus.capture ∧ (completeErase s).bus.hold = s.bus.hold ∧
    (completeErase s).bus.dataOut = s.bus.dataOut ∧ (completeErase s).bus.resetSource = s.bus.resetSource ∧
    (completeErase s).bus.protect = s.bus.protect ∧ (completeErase s).bus.mask = s.bus.mask ∧ (completeErase
    s).bus.interval = s.bus.interval ∧ (completeErase s).bus.hbTimeout = s.bus.hbTimeout ∧ (completeErase
    s).bus.hbTimer = s.bus.hbTimer := by
  and_intros <;> (unfold completeErase; (repeat' split) <;> simp)

@[simp] theorem completeSave_frame (s : State) :
    (completeSave s).pending = s.pending ∧ (completeSave s).pins = s.pins ∧ (completeSave s).intake = s.intake ∧
    (completeSave s).supervisor = s.supervisor ∧ (completeSave s).admission = s.admission ∧ (completeSave
    s).tracker = s.tracker ∧ (completeSave s).transport = s.transport ∧ (completeSave s).claimLead = s.claimLead
    ∧ (completeSave s).wash = s.wash ∧ (completeSave s).drying = s.drying ∧ (completeSave s).shuttle = s.shuttle
    ∧ (completeSave s).chamber = s.chamber ∧ (completeSave s).link = s.link ∧ (completeSave s).safety = s.safety
    ∧ (completeSave s).bus.ram = s.bus.ram ∧ (completeSave s).bus.capture = s.bus.capture ∧ (completeSave
    s).bus.hold = s.bus.hold ∧ (completeSave s).bus.dataOut = s.bus.dataOut ∧ (completeSave s).bus.resetSource =
    s.bus.resetSource ∧ (completeSave s).bus.protect = s.bus.protect ∧ (completeSave s).bus.mask = s.bus.mask ∧
    (completeSave s).bus.interval = s.bus.interval ∧ (completeSave s).bus.hbTimeout = s.bus.hbTimeout ∧
    (completeSave s).bus.hbTimer = s.bus.hbTimer := by
  and_intros <;> (unfold completeSave; (repeat' split) <;> simp)

@[simp] theorem cutWord_frame (place a : Nat) (new : Word) (s : State) :
    (cutWord place a new s).pending = s.pending ∧ (cutWord place a new s).freeCount = s.freeCount ∧ (cutWord
    place a new s).now = s.now ∧ (cutWord place a new s).pins = s.pins ∧ (cutWord place a new s).bus = s.bus ∧
    (cutWord place a new s).intake = s.intake ∧ (cutWord place a new s).supervisor = s.supervisor ∧ (cutWord
    place a new s).admission = s.admission ∧ (cutWord place a new s).tracker = s.tracker ∧ (cutWord place a new
    s).transport = s.transport ∧ (cutWord place a new s).banks = s.banks ∧ (cutWord place a new s).claimLead =
    s.claimLead ∧ (cutWord place a new s).wash = s.wash ∧ (cutWord place a new s).drying = s.drying ∧ (cutWord
    place a new s).shuttle = s.shuttle ∧ (cutWord place a new s).chamber = s.chamber ∧ (cutWord place a new
    s).link = s.link ∧ (cutWord place a new s).safety = s.safety ∧ (cutWord place a new s).cal.state =
    s.cal.state ∧ (cutWord place a new s).cal.opState = s.cal.opState := by
  and_intros <;> (unfold cutWord; (repeat' split) <;> simp)

@[simp] theorem cutStore_frame (s : State) :
    (cutStore s).pending = s.pending ∧ (cutStore s).freeCount = s.freeCount ∧ (cutStore s).now = s.now ∧
    (cutStore s).pins = s.pins ∧ (cutStore s).bus = s.bus ∧ (cutStore s).intake = s.intake ∧ (cutStore
    s).supervisor = s.supervisor ∧ (cutStore s).admission = s.admission ∧ (cutStore s).tracker = s.tracker ∧
    (cutStore s).transport = s.transport ∧ (cutStore s).banks = s.banks ∧ (cutStore s).claimLead = s.claimLead ∧
    (cutStore s).wash = s.wash ∧ (cutStore s).drying = s.drying ∧ (cutStore s).shuttle = s.shuttle ∧ (cutStore
    s).chamber = s.chamber ∧ (cutStore s).link = s.link ∧ (cutStore s).safety = s.safety ∧ (cutStore
    s).cal.state = s.cal.state ∧ (cutStore s).cal.opState = s.cal.opState := by
  and_intros <;> (unfold cutStore; (try dsimp only); (repeat' split) <;> simp)

end Sys2Proof.Machine
end

