-- ==== Sys2Proof/Laws/FrameCommand.lean ====
section
/-! SUPPORT. What the operations of Machine/Command.lean leave unchanged: one frame lemma for each, which
`simp` takes part by part. -/

namespace Sys2Proof.Machine

@[simp] theorem cmdStart_frame (s : State) :
    (cmdStart s).pending = s.pending ∧ (cmdStart s).freeCount = s.freeCount ∧ (cmdStart s).now = s.now ∧
    (cmdStart s).pins = s.pins ∧ (cmdStart s).intake = s.intake ∧ (cmdStart s).claimLead = s.claimLead ∧
    (cmdStart s).wash = s.wash ∧ (cmdStart s).safety = s.safety ∧ (cmdStart s).cal = s.cal ∧ (cmdStart
    s).bus.capture = s.bus.capture ∧ (cmdStart s).bus.hold = s.bus.hold ∧ (cmdStart s).bus.dataOut =
    s.bus.dataOut ∧ (cmdStart s).bus.resetSource = s.bus.resetSource ∧ (cmdStart s).bus.protect = s.bus.protect
    ∧ (cmdStart s).bus.latched = s.bus.latched ∧ (cmdStart s).bus.mask = s.bus.mask ∧ (cmdStart s).bus.attn =
    s.bus.attn ∧ (cmdStart s).bus.holdOff = s.bus.holdOff ∧ (cmdStart s).bus.interval = s.bus.interval ∧
    (cmdStart s).bus.hbTimeout = s.bus.hbTimeout ∧ (cmdStart s).bus.hbTimer = s.bus.hbTimer ∧ (cmdStart
    s).supervisor.cause = s.supervisor.cause ∧ (cmdStart s).supervisor.lineTime = s.supervisor.lineTime ∧
    (cmdStart s).supervisor.timer = s.supervisor.timer ∧ (cmdStart s).admission.queue = s.admission.queue ∧
    (cmdStart s).admission.holdReason = s.admission.holdReason ∧ (cmdStart s).admission.epochNo =
    s.admission.epochNo ∧ (cmdStart s).admission.epochSpeed = s.admission.epochSpeed ∧ (cmdStart
    s).admission.misfeedHold = s.admission.misfeedHold ∧ (cmdStart s).admission.gateOpen = s.admission.gateOpen
    ∧ (cmdStart s).admission.mark = s.admission.mark ∧ (cmdStart s).tracker.train = s.tracker.train ∧ (cmdStart
    s).tracker.strayPending = s.tracker.strayPending := by
  and_intros <;> (unfold cmdStart; (try dsimp only); (repeat' split) <;> simp)

@[simp] theorem cmdDrain_frame (s : State) :
    (cmdDrain s).pending = s.pending ∧ (cmdDrain s).freeCount = s.freeCount ∧ (cmdDrain s).now = s.now ∧
    (cmdDrain s).pins = s.pins ∧ (cmdDrain s).bus = s.bus ∧ (cmdDrain s).intake = s.intake ∧ (cmdDrain
    s).tracker = s.tracker ∧ (cmdDrain s).claimLead = s.claimLead ∧ (cmdDrain s).wash = s.wash ∧ (cmdDrain
    s).drying = s.drying ∧ (cmdDrain s).shuttle = s.shuttle ∧ (cmdDrain s).chamber = s.chamber ∧ (cmdDrain
    s).link = s.link ∧ (cmdDrain s).safety = s.safety ∧ (cmdDrain s).cal = s.cal ∧ (cmdDrain s).supervisor.cause
    = s.supervisor.cause ∧ (cmdDrain s).supervisor.lineTime = s.supervisor.lineTime ∧ (cmdDrain
    s).supervisor.timer = s.supervisor.timer ∧ (cmdDrain s).admission.queue = s.admission.queue ∧ (cmdDrain
    s).admission.holdReason = s.admission.holdReason ∧ (cmdDrain s).admission.commitments =
    s.admission.commitments ∧ (cmdDrain s).admission.epochNo = s.admission.epochNo ∧ (cmdDrain
    s).admission.epochSpeed = s.admission.epochSpeed ∧ (cmdDrain s).admission.misfeedHold =
    s.admission.misfeedHold ∧ (cmdDrain s).admission.gateOpen = s.admission.gateOpen ∧ (cmdDrain
    s).admission.mark = s.admission.mark := by
  and_intros <;> (unfold cmdDrain; (repeat' split) <;> simp)

@[simp] theorem cmdHalt_frame (s : State) :
    (cmdHalt s).pending = s.pending ∧ (cmdHalt s).freeCount = s.freeCount ∧ (cmdHalt s).now = s.now ∧ (cmdHalt
    s).pins = s.pins ∧ (cmdHalt s).intake = s.intake ∧ (cmdHalt s).claimLead = s.claimLead ∧ (cmdHalt s).drying
    = s.drying ∧ (cmdHalt s).shuttle = s.shuttle ∧ (cmdHalt s).chamber = s.chamber ∧ (cmdHalt s).safety =
    s.safety ∧ (cmdHalt s).cal = s.cal ∧ (cmdHalt s).bus.capture = s.bus.capture ∧ (cmdHalt s).bus.hold =
    s.bus.hold ∧ (cmdHalt s).bus.dataOut = s.bus.dataOut ∧ (cmdHalt s).bus.resetSource = s.bus.resetSource ∧
    (cmdHalt s).bus.protect = s.bus.protect ∧ (cmdHalt s).bus.mask = s.bus.mask ∧ (cmdHalt s).bus.interval =
    s.bus.interval ∧ (cmdHalt s).bus.hbTimeout = s.bus.hbTimeout ∧ (cmdHalt s).bus.hbTimer = s.bus.hbTimer ∧
    (cmdHalt s).supervisor.lineTime = s.supervisor.lineTime ∧ (cmdHalt s).supervisor.timer = s.supervisor.timer
    ∧ (cmdHalt s).admission.queue = s.admission.queue ∧ (cmdHalt s).admission.holdReason =
    s.admission.holdReason ∧ (cmdHalt s).admission.epochNo = s.admission.epochNo ∧ (cmdHalt
    s).admission.epochSpeed = s.admission.epochSpeed ∧ (cmdHalt s).admission.misfeedHold =
    s.admission.misfeedHold ∧ (cmdHalt s).admission.mark = s.admission.mark ∧ (cmdHalt s).tracker.strayPending =
    s.tracker.strayPending ∧ (cmdHalt s).link.mode = s.link.mode ∧ (cmdHalt s).link.phase = s.link.phase ∧
    (cmdHalt s).link.lastNode = s.link.lastNode ∧ (cmdHalt s).link.assign = s.link.assign := by
  and_intros <;> (unfold cmdHalt; (repeat' split) <;> simp)

@[simp] theorem cmdResume_frame (s : State) :
    (cmdResume s).pending = s.pending ∧ (cmdResume s).freeCount = s.freeCount ∧ (cmdResume s).now = s.now ∧
    (cmdResume s).pins = s.pins ∧ (cmdResume s).bus = s.bus ∧ (cmdResume s).intake = s.intake ∧ (cmdResume
    s).admission = s.admission ∧ (cmdResume s).tracker = s.tracker ∧ (cmdResume s).transport = s.transport ∧
    (cmdResume s).claimLead = s.claimLead ∧ (cmdResume s).wash = s.wash ∧ (cmdResume s).drying = s.drying ∧
    (cmdResume s).shuttle = s.shuttle ∧ (cmdResume s).chamber = s.chamber ∧ (cmdResume s).link = s.link ∧
    (cmdResume s).safety = s.safety ∧ (cmdResume s).cal = s.cal ∧ (cmdResume s).supervisor.lineTime =
    s.supervisor.lineTime ∧ (cmdResume s).supervisor.timer = s.supervisor.timer := by
  and_intros <;> (unfold cmdResume; (try dsimp only); (repeat' split) <;> simp)

@[simp] theorem leaveSafe_frame (s : State) :
    (leaveSafe s).pending = s.pending ∧ (leaveSafe s).freeCount = s.freeCount ∧ (leaveSafe s).now = s.now ∧
    (leaveSafe s).pins = s.pins ∧ (leaveSafe s).intake = s.intake ∧ (leaveSafe s).transport = s.transport ∧
    (leaveSafe s).claimLead = s.claimLead ∧ (leaveSafe s).cal = s.cal ∧ (leaveSafe s).bus.capture =
    s.bus.capture ∧ (leaveSafe s).bus.hold = s.bus.hold ∧ (leaveSafe s).bus.dataOut = s.bus.dataOut ∧ (leaveSafe
    s).bus.resetSource = s.bus.resetSource ∧ (leaveSafe s).bus.protect = s.bus.protect ∧ (leaveSafe s).bus.mask
    = s.bus.mask ∧ (leaveSafe s).bus.interval = s.bus.interval ∧ (leaveSafe s).bus.hbTimeout = s.bus.hbTimeout ∧
    (leaveSafe s).bus.hbTimer = s.bus.hbTimer ∧ (leaveSafe s).supervisor.cause = s.supervisor.cause ∧ (leaveSafe
    s).supervisor.lineTime = s.supervisor.lineTime ∧ (leaveSafe s).supervisor.outcome = s.supervisor.outcome ∧
    (leaveSafe s).supervisor.timer = s.supervisor.timer ∧ (leaveSafe s).admission.queue = s.admission.queue ∧
    (leaveSafe s).admission.holdReason = s.admission.holdReason ∧ (leaveSafe s).admission.epochNo =
    s.admission.epochNo ∧ (leaveSafe s).admission.epochSpeed = s.admission.epochSpeed ∧ (leaveSafe
    s).admission.epochCurrent = s.admission.epochCurrent ∧ (leaveSafe s).admission.misfeedHold =
    s.admission.misfeedHold ∧ (leaveSafe s).admission.gateOpen = s.admission.gateOpen ∧ (leaveSafe
    s).admission.mark = s.admission.mark ∧ (leaveSafe s).tracker.train = s.tracker.train ∧ (leaveSafe
    s).tracker.strayPending = s.tracker.strayPending ∧ (leaveSafe s).safety.estop = s.safety.estop ∧ (leaveSafe
    s).safety.coverClosed = s.safety.coverClosed ∧ (leaveSafe s).link.mode = s.link.mode ∧ (leaveSafe
    s).link.phase = s.link.phase ∧ (leaveSafe s).link.lastNode = s.link.lastNode ∧ (leaveSafe s).link.assign =
    s.link.assign ∧ (leaveSafe s).wash.load = s.wash.load ∧ (leaveSafe s).wash.hold = s.wash.hold := by
  and_intros <;> (simp [leaveSafe])

@[simp] theorem cmdSafeRelease_frame (s : State) :
    (cmdSafeRelease s).pending = s.pending ∧ (cmdSafeRelease s).freeCount = s.freeCount ∧ (cmdSafeRelease s).now
    = s.now ∧ (cmdSafeRelease s).pins = s.pins ∧ (cmdSafeRelease s).intake = s.intake ∧ (cmdSafeRelease
    s).transport = s.transport ∧ (cmdSafeRelease s).claimLead = s.claimLead ∧ (cmdSafeRelease s).cal = s.cal ∧
    (cmdSafeRelease s).bus.capture = s.bus.capture ∧ (cmdSafeRelease s).bus.hold = s.bus.hold ∧ (cmdSafeRelease
    s).bus.dataOut = s.bus.dataOut ∧ (cmdSafeRelease s).bus.resetSource = s.bus.resetSource ∧ (cmdSafeRelease
    s).bus.protect = s.bus.protect ∧ (cmdSafeRelease s).bus.mask = s.bus.mask ∧ (cmdSafeRelease s).bus.interval
    = s.bus.interval ∧ (cmdSafeRelease s).bus.hbTimeout = s.bus.hbTimeout ∧ (cmdSafeRelease s).bus.hbTimer =
    s.bus.hbTimer ∧ (cmdSafeRelease s).supervisor.cause = s.supervisor.cause ∧ (cmdSafeRelease
    s).supervisor.lineTime = s.supervisor.lineTime ∧ (cmdSafeRelease s).supervisor.timer = s.supervisor.timer ∧
    (cmdSafeRelease s).admission.queue = s.admission.queue ∧ (cmdSafeRelease s).admission.holdReason =
    s.admission.holdReason ∧ (cmdSafeRelease s).admission.epochNo = s.admission.epochNo ∧ (cmdSafeRelease
    s).admission.epochSpeed = s.admission.epochSpeed ∧ (cmdSafeRelease s).admission.epochCurrent =
    s.admission.epochCurrent ∧ (cmdSafeRelease s).admission.misfeedHold = s.admission.misfeedHold ∧
    (cmdSafeRelease s).admission.gateOpen = s.admission.gateOpen ∧ (cmdSafeRelease s).admission.mark =
    s.admission.mark ∧ (cmdSafeRelease s).tracker.train = s.tracker.train ∧ (cmdSafeRelease
    s).tracker.strayPending = s.tracker.strayPending ∧ (cmdSafeRelease s).safety.estop = s.safety.estop ∧
    (cmdSafeRelease s).safety.coverClosed = s.safety.coverClosed ∧ (cmdSafeRelease s).link.mode = s.link.mode ∧
    (cmdSafeRelease s).link.phase = s.link.phase ∧ (cmdSafeRelease s).link.lastNode = s.link.lastNode ∧
    (cmdSafeRelease s).link.assign = s.link.assign ∧ (cmdSafeRelease s).wash.load = s.wash.load ∧
    (cmdSafeRelease s).wash.hold = s.wash.hold := by
  and_intros <;> (unfold cmdSafeRelease; (repeat' split) <;> simp)

@[simp] theorem resolveQueuedSlots_frame (why : Reason) (s : State) :
    (resolveQueuedSlots why s).pending = s.pending ∧ (resolveQueuedSlots why s).freeCount = s.freeCount ∧
    (resolveQueuedSlots why s).now = s.now ∧ (resolveQueuedSlots why s).pins = s.pins ∧ (resolveQueuedSlots why
    s).intake = s.intake ∧ (resolveQueuedSlots why s).supervisor = s.supervisor ∧ (resolveQueuedSlots why
    s).admission = s.admission ∧ (resolveQueuedSlots why s).transport = s.transport ∧ (resolveQueuedSlots why
    s).banks = s.banks ∧ (resolveQueuedSlots why s).claimLead = s.claimLead ∧ (resolveQueuedSlots why s).wash =
    s.wash ∧ (resolveQueuedSlots why s).drying = s.drying ∧ (resolveQueuedSlots why s).shuttle = s.shuttle ∧
    (resolveQueuedSlots why s).chamber = s.chamber ∧ (resolveQueuedSlots why s).link = s.link ∧
    (resolveQueuedSlots why s).safety = s.safety ∧ (resolveQueuedSlots why s).cal = s.cal ∧ (resolveQueuedSlots
    why s).bus.capture = s.bus.capture ∧ (resolveQueuedSlots why s).bus.hold = s.bus.hold ∧ (resolveQueuedSlots
    why s).bus.dataOut = s.bus.dataOut ∧ (resolveQueuedSlots why s).bus.resetSource = s.bus.resetSource ∧
    (resolveQueuedSlots why s).bus.protect = s.bus.protect ∧ (resolveQueuedSlots why s).bus.mask = s.bus.mask ∧
    (resolveQueuedSlots why s).bus.interval = s.bus.interval ∧ (resolveQueuedSlots why s).bus.hbTimeout =
    s.bus.hbTimeout ∧ (resolveQueuedSlots why s).bus.hbTimer = s.bus.hbTimer ∧ (resolveQueuedSlots why
    s).tracker.train = s.tracker.train ∧ (resolveQueuedSlots why s).tracker.strayPending =
    s.tracker.strayPending := 
  ⟨by unfold resolveQueuedSlots; (try dsimp only); (try simp); exact foldl_keeps (fun t : State => t.pending) _ (fun t a => by simp) _ _,
   by unfold resolveQueuedSlots; (try dsimp only); (try simp); exact foldl_keeps (fun t : State => t.freeCount) _ (fun t a => by simp) _ _,
   by unfold resolveQueuedSlots; (try dsimp only); (try simp); exact foldl_keeps (fun t : State => t.now) _ (fun t a => by simp) _ _,
   by unfold resolveQueuedSlots; (try dsimp only); (try simp); exact foldl_keeps (fun t : State => t.pins) _ (fun t a => by simp) _ _,
   by unfold resolveQueuedSlots; (try dsimp only); (try simp); exact foldl_keeps (fun t : State => t.intake) _ (fun t a => by simp) _ _,
   by unfold resolveQueuedSlots; (try dsimp only); (try simp); exact foldl_keeps (fun t : State => t.supervisor) _ (fun t a => by simp) _ _,
   by unfold resolveQueuedSlots; (try dsimp only); (try simp); exact foldl_keeps (fun t : State => t.admission) _ (fun t a => by simp) _ _,
   by unfold resolveQueuedSlots; (try dsimp only); (try simp); exact foldl_keeps (fun t : State => t.transport) _ (fun t a => by simp) _ _,
   by unfold resolveQueuedSlots; (try dsimp only); (try simp); exact foldl_keeps (fun t : State => t.banks) _ (fun t a => by simp) _ _,
   by unfold resolveQueuedSlots; (try dsimp only); (try simp); exact foldl_keeps (fun t : State => t.claimLead) _ (fun t a => by simp) _ _,
   by unfold resolveQueuedSlots; (try dsimp only); (try simp); exact foldl_keeps (fun t : State => t.wash) _ (fun t a => by simp) _ _,
   by unfold resolveQueuedSlots; (try dsimp only); (try simp); exact foldl_keeps (fun t : State => t.drying) _ (fun t a => by simp) _ _,
   by unfold resolveQueuedSlots; (try dsimp only); (try simp); exact foldl_keeps (fun t : State => t.shuttle) _ (fun t a => by simp) _ _,
   by unfold resolveQueuedSlots; (try dsimp only); (try simp); exact foldl_keeps (fun t : State => t.chamber) _ (fun t a => by simp) _ _,
   by unfold resolveQueuedSlots; (try dsimp only); (try simp); exact foldl_keeps (fun t : State => t.link) _ (fun t a => by simp) _ _,
   by unfold resolveQueuedSlots; (try dsimp only); (try simp); exact foldl_keeps (fun t : State => t.safety) _ (fun t a => by simp) _ _,
   by unfold resolveQueuedSlots; (try dsimp only); (try simp); exact foldl_keeps (fun t : State => t.cal) _ (fun t a => by simp) _ _,
   by unfold resolveQueuedSlots; (try dsimp only); (try simp); exact foldl_keeps (fun t : State => t.bus.capture) _ (fun t a => by simp) _ _,
   by unfold resolveQueuedSlots; (try dsimp only); (try simp); exact foldl_keeps (fun t : State => t.bus.hold) _ (fun t a => by simp) _ _,
   by unfold resolveQueuedSlots; (try dsimp only); (try simp); exact foldl_keeps (fun t : State => t.bus.dataOut) _ (fun t a => by simp) _ _,
   by unfold resolveQueuedSlots; (try dsimp only); (try simp); exact foldl_keeps (fun t : State => t.bus.resetSource) _ (fun t a => by simp) _ _,
   by unfold resolveQueuedSlots; (try dsimp only); (try simp); exact foldl_keeps (fun t : State => t.bus.protect) _ (fun t a => by simp) _ _,
   by unfold resolveQueuedSlots; (try dsimp only); (try simp); exact foldl_keeps (fun t : State => t.bus.mask) _ (fun t a => by simp) _ _,
   by unfold resolveQueuedSlots; (try dsimp only); (try simp); exact foldl_keeps (fun t : State => t.bus.interval) _ (fun t a => by simp) _ _,
   by unfold resolveQueuedSlots; (try dsimp only); (try simp); exact foldl_keeps (fun t : State => t.bus.hbTimeout) _ (fun t a => by simp) _ _,
   by unfold resolveQueuedSlots; (try dsimp only); (try simp); exact foldl_keeps (fun t : State => t.bus.hbTimer) _ (fun t a => by simp) _ _,
   by unfold resolveQueuedSlots; (try dsimp only); (try simp); exact foldl_keeps (fun t : State => t.tracker.train) _ (fun t a => by simp) _ _,
   by unfold resolveQueuedSlots; (try dsimp only); (try simp); exact foldl_keeps (fun t : State => t.tracker.strayPending) _ (fun t a => by simp) _ _⟩

@[simp] theorem clearStrays_frame (s : State) :
    (clearStrays s).pending = s.pending ∧ (clearStrays s).freeCount = s.freeCount ∧ (clearStrays s).now = s.now
    ∧ (clearStrays s).pins = s.pins ∧ (clearStrays s).bus = s.bus ∧ (clearStrays s).intake = s.intake ∧
    (clearStrays s).supervisor = s.supervisor ∧ (clearStrays s).admission = s.admission ∧ (clearStrays
    s).tracker = s.tracker ∧ (clearStrays s).transport = s.transport ∧ (clearStrays s).banks = s.banks ∧
    (clearStrays s).claimLead = s.claimLead ∧ (clearStrays s).wash = s.wash ∧ (clearStrays s).shuttle =
    s.shuttle ∧ (clearStrays s).chamber = s.chamber ∧ (clearStrays s).link = s.link ∧ (clearStrays s).safety =
    s.safety ∧ (clearStrays s).cal = s.cal ∧ (clearStrays s).drying.drawers = s.drying.drawers ∧ (clearStrays
    s).drying.dryList = s.drying.dryList := by
  and_intros <;> (simp [clearStrays])

@[simp] theorem clearNodeCounts_frame (s : State) :
    (clearNodeCounts s).pending = s.pending ∧ (clearNodeCounts s).freeCount = s.freeCount ∧ (clearNodeCounts
    s).now = s.now ∧ (clearNodeCounts s).pins = s.pins ∧ (clearNodeCounts s).bus = s.bus ∧ (clearNodeCounts
    s).intake = s.intake ∧ (clearNodeCounts s).supervisor = s.supervisor ∧ (clearNodeCounts s).admission =
    s.admission ∧ (clearNodeCounts s).tracker = s.tracker ∧ (clearNodeCounts s).transport = s.transport ∧
    (clearNodeCounts s).banks = s.banks ∧ (clearNodeCounts s).claimLead = s.claimLead ∧ (clearNodeCounts s).wash
    = s.wash ∧ (clearNodeCounts s).drying = s.drying ∧ (clearNodeCounts s).shuttle = s.shuttle ∧
    (clearNodeCounts s).chamber = s.chamber ∧ (clearNodeCounts s).safety = s.safety ∧ (clearNodeCounts s).cal =
    s.cal ∧ (clearNodeCounts s).link.mode = s.link.mode ∧ (clearNodeCounts s).link.phase = s.link.phase ∧
    (clearNodeCounts s).link.lastNode = s.link.lastNode ∧ (clearNodeCounts s).link.assign = s.link.assign := by
  and_intros <;> (simp [clearNodeCounts])

@[simp] theorem lineReset_frame (s : State) :
    (lineReset s).pending = s.pending ∧ (lineReset s).freeCount = s.freeCount ∧ (lineReset s).now = s.now ∧
    (lineReset s).pins = s.pins ∧ (lineReset s).intake = s.intake ∧ (lineReset s).transport = s.transport ∧
    (lineReset s).claimLead = s.claimLead ∧ (lineReset s).wash = s.wash ∧ (lineReset s).safety = s.safety ∧
    (lineReset s).cal = s.cal ∧ (lineReset s).bus.capture = s.bus.capture ∧ (lineReset s).bus.hold = s.bus.hold
    ∧ (lineReset s).bus.dataOut = s.bus.dataOut ∧ (lineReset s).bus.resetSource = s.bus.resetSource ∧ (lineReset
    s).bus.protect = s.bus.protect ∧ (lineReset s).bus.mask = s.bus.mask ∧ (lineReset s).bus.interval =
    s.bus.interval ∧ (lineReset s).bus.hbTimeout = s.bus.hbTimeout ∧ (lineReset s).bus.hbTimer = s.bus.hbTimer ∧
    (lineReset s).supervisor.lineTime = s.supervisor.lineTime ∧ (lineReset s).supervisor.outcome =
    s.supervisor.outcome ∧ (lineReset s).supervisor.timer = s.supervisor.timer ∧ (lineReset s).admission.epochNo
    = s.admission.epochNo ∧ (lineReset s).admission.epochSpeed = s.admission.epochSpeed ∧ (lineReset
    s).admission.epochCurrent = s.admission.epochCurrent ∧ (lineReset s).admission.gateOpen =
    s.admission.gateOpen ∧ (lineReset s).admission.mark = s.admission.mark ∧ (lineReset s).tracker.train =
    s.tracker.train ∧ (lineReset s).tracker.strayPending = s.tracker.strayPending ∧ (lineReset s).link.mode =
    s.link.mode ∧ (lineReset s).link.phase = s.link.phase ∧ (lineReset s).link.lastNode = s.link.lastNode ∧
    (lineReset s).link.assign = s.link.assign := by
  and_intros <;> (simp [lineReset])

@[simp] theorem cmdResetLine_frame (s : State) :
    (cmdResetLine s).pending = s.pending ∧ (cmdResetLine s).freeCount = s.freeCount ∧ (cmdResetLine s).now =
    s.now ∧ (cmdResetLine s).pins = s.pins ∧ (cmdResetLine s).intake = s.intake ∧ (cmdResetLine s).transport =
    s.transport ∧ (cmdResetLine s).claimLead = s.claimLead ∧ (cmdResetLine s).wash = s.wash ∧ (cmdResetLine
    s).safety = s.safety ∧ (cmdResetLine s).cal = s.cal ∧ (cmdResetLine s).bus.capture = s.bus.capture ∧
    (cmdResetLine s).bus.hold = s.bus.hold ∧ (cmdResetLine s).bus.dataOut = s.bus.dataOut ∧ (cmdResetLine
    s).bus.resetSource = s.bus.resetSource ∧ (cmdResetLine s).bus.protect = s.bus.protect ∧ (cmdResetLine
    s).bus.mask = s.bus.mask ∧ (cmdResetLine s).bus.interval = s.bus.interval ∧ (cmdResetLine s).bus.hbTimeout =
    s.bus.hbTimeout ∧ (cmdResetLine s).bus.hbTimer = s.bus.hbTimer ∧ (cmdResetLine s).supervisor.lineTime =
    s.supervisor.lineTime ∧ (cmdResetLine s).supervisor.timer = s.supervisor.timer ∧ (cmdResetLine
    s).admission.epochNo = s.admission.epochNo ∧ (cmdResetLine s).admission.epochSpeed = s.admission.epochSpeed
    ∧ (cmdResetLine s).admission.epochCurrent = s.admission.epochCurrent ∧ (cmdResetLine s).admission.gateOpen =
    s.admission.gateOpen ∧ (cmdResetLine s).admission.mark = s.admission.mark ∧ (cmdResetLine s).tracker.train =
    s.tracker.train ∧ (cmdResetLine s).tracker.strayPending = s.tracker.strayPending ∧ (cmdResetLine
    s).link.mode = s.link.mode ∧ (cmdResetLine s).link.phase = s.link.phase ∧ (cmdResetLine s).link.lastNode =
    s.link.lastNode ∧ (cmdResetLine s).link.assign = s.link.assign := by
  and_intros <;> (unfold cmdResetLine; (repeat' split) <;> simp)

@[simp] theorem cmdLinkSingle_frame (s : State) :
    (cmdLinkSingle s).pending = s.pending ∧ (cmdLinkSingle s).freeCount = s.freeCount ∧ (cmdLinkSingle s).now =
    s.now ∧ (cmdLinkSingle s).pins = s.pins ∧ (cmdLinkSingle s).intake = s.intake ∧ (cmdLinkSingle s).banks =
    s.banks ∧ (cmdLinkSingle s).claimLead = s.claimLead ∧ (cmdLinkSingle s).wash = s.wash ∧ (cmdLinkSingle
    s).safety = s.safety ∧ (cmdLinkSingle s).cal = s.cal ∧ (cmdLinkSingle s).bus.capture = s.bus.capture ∧
    (cmdLinkSingle s).bus.hold = s.bus.hold ∧ (cmdLinkSingle s).bus.dataOut = s.bus.dataOut ∧ (cmdLinkSingle
    s).bus.resetSource = s.bus.resetSource ∧ (cmdLinkSingle s).bus.protect = s.bus.protect ∧ (cmdLinkSingle
    s).bus.latched = s.bus.latched ∧ (cmdLinkSingle s).bus.mask = s.bus.mask ∧ (cmdLinkSingle s).bus.attn =
    s.bus.attn ∧ (cmdLinkSingle s).bus.holdOff = s.bus.holdOff ∧ (cmdLinkSingle s).bus.interval = s.bus.interval
    ∧ (cmdLinkSingle s).bus.hbTimeout = s.bus.hbTimeout ∧ (cmdLinkSingle s).bus.hbTimer = s.bus.hbTimer ∧
    (cmdLinkSingle s).supervisor.line = s.supervisor.line ∧ (cmdLinkSingle s).supervisor.cause =
    s.supervisor.cause ∧ (cmdLinkSingle s).supervisor.lineTime = s.supervisor.lineTime ∧ (cmdLinkSingle
    s).supervisor.timer = s.supervisor.timer ∧ (cmdLinkSingle s).admission.queue = s.admission.queue ∧
    (cmdLinkSingle s).admission.holdReason = s.admission.holdReason ∧ (cmdLinkSingle s).admission.epochNo =
    s.admission.epochNo ∧ (cmdLinkSingle s).admission.epochSpeed = s.admission.epochSpeed ∧ (cmdLinkSingle
    s).admission.epochCurrent = s.admission.epochCurrent ∧ (cmdLinkSingle s).admission.misfeedHold =
    s.admission.misfeedHold ∧ (cmdLinkSingle s).admission.gateOpen = s.admission.gateOpen ∧ (cmdLinkSingle
    s).admission.mark = s.admission.mark ∧ (cmdLinkSingle s).tracker.train = s.tracker.train ∧ (cmdLinkSingle
    s).tracker.strayPending = s.tracker.strayPending := by
  and_intros <;> (unfold cmdLinkSingle; (repeat' split) <;> simp)

@[simp] theorem cmdLinkContinuous_frame (s : State) :
    (cmdLinkContinuous s).pending = s.pending ∧ (cmdLinkContinuous s).freeCount = s.freeCount ∧
    (cmdLinkContinuous s).now = s.now ∧ (cmdLinkContinuous s).pins = s.pins ∧ (cmdLinkContinuous s).intake =
    s.intake ∧ (cmdLinkContinuous s).banks = s.banks ∧ (cmdLinkContinuous s).claimLead = s.claimLead ∧
    (cmdLinkContinuous s).wash = s.wash ∧ (cmdLinkContinuous s).safety = s.safety ∧ (cmdLinkContinuous s).cal =
    s.cal ∧ (cmdLinkContinuous s).bus.capture = s.bus.capture ∧ (cmdLinkContinuous s).bus.hold = s.bus.hold ∧
    (cmdLinkContinuous s).bus.dataOut = s.bus.dataOut ∧ (cmdLinkContinuous s).bus.resetSource =
    s.bus.resetSource ∧ (cmdLinkContinuous s).bus.protect = s.bus.protect ∧ (cmdLinkContinuous s).bus.latched =
    s.bus.latched ∧ (cmdLinkContinuous s).bus.mask = s.bus.mask ∧ (cmdLinkContinuous s).bus.attn = s.bus.attn ∧
    (cmdLinkContinuous s).bus.holdOff = s.bus.holdOff ∧ (cmdLinkContinuous s).bus.interval = s.bus.interval ∧
    (cmdLinkContinuous s).bus.hbTimeout = s.bus.hbTimeout ∧ (cmdLinkContinuous s).bus.hbTimer = s.bus.hbTimer ∧
    (cmdLinkContinuous s).supervisor.line = s.supervisor.line ∧ (cmdLinkContinuous s).supervisor.cause =
    s.supervisor.cause ∧ (cmdLinkContinuous s).supervisor.lineTime = s.supervisor.lineTime ∧ (cmdLinkContinuous
    s).supervisor.timer = s.supervisor.timer ∧ (cmdLinkContinuous s).admission.queue = s.admission.queue ∧
    (cmdLinkContinuous s).admission.holdReason = s.admission.holdReason ∧ (cmdLinkContinuous
    s).admission.epochNo = s.admission.epochNo ∧ (cmdLinkContinuous s).admission.epochSpeed =
    s.admission.epochSpeed ∧ (cmdLinkContinuous s).admission.epochCurrent = s.admission.epochCurrent ∧
    (cmdLinkContinuous s).admission.misfeedHold = s.admission.misfeedHold ∧ (cmdLinkContinuous
    s).admission.gateOpen = s.admission.gateOpen ∧ (cmdLinkContinuous s).admission.mark = s.admission.mark ∧
    (cmdLinkContinuous s).tracker.train = s.tracker.train ∧ (cmdLinkContinuous s).tracker.strayPending =
    s.tracker.strayPending := by
  and_intros <;> (simp [cmdLinkContinuous])

@[simp] theorem cmdShuttleReset_frame (s : State) :
    (cmdShuttleReset s).pending = s.pending ∧ (cmdShuttleReset s).freeCount = s.freeCount ∧ (cmdShuttleReset
    s).now = s.now ∧ (cmdShuttleReset s).pins = s.pins ∧ (cmdShuttleReset s).bus = s.bus ∧ (cmdShuttleReset
    s).intake = s.intake ∧ (cmdShuttleReset s).admission = s.admission ∧ (cmdShuttleReset s).tracker = s.tracker
    ∧ (cmdShuttleReset s).transport = s.transport ∧ (cmdShuttleReset s).banks = s.banks ∧ (cmdShuttleReset
    s).claimLead = s.claimLead ∧ (cmdShuttleReset s).wash = s.wash ∧ (cmdShuttleReset s).drying = s.drying ∧
    (cmdShuttleReset s).chamber = s.chamber ∧ (cmdShuttleReset s).link = s.link ∧ (cmdShuttleReset s).safety =
    s.safety ∧ (cmdShuttleReset s).cal = s.cal ∧ (cmdShuttleReset s).supervisor.line = s.supervisor.line ∧
    (cmdShuttleReset s).supervisor.cause = s.supervisor.cause ∧ (cmdShuttleReset s).supervisor.lineTime =
    s.supervisor.lineTime ∧ (cmdShuttleReset s).supervisor.timer = s.supervisor.timer ∧ (cmdShuttleReset
    s).shuttle.state = s.shuttle.state ∧ (cmdShuttleReset s).shuttle.move = s.shuttle.move := by
  and_intros <;> (unfold cmdShuttleReset; (try dsimp only); (repeat' split) <;> simp)

@[simp] theorem cmdRackClear_frame (s : State) :
    (cmdRackClear s).pending = s.pending ∧ (cmdRackClear s).freeCount = s.freeCount ∧ (cmdRackClear s).now =
    s.now ∧ (cmdRackClear s).pins = s.pins ∧ (cmdRackClear s).intake = s.intake ∧ (cmdRackClear s).transport =
    s.transport ∧ (cmdRackClear s).banks = s.banks ∧ (cmdRackClear s).claimLead = s.claimLead ∧ (cmdRackClear
    s).wash = s.wash ∧ (cmdRackClear s).safety = s.safety ∧ (cmdRackClear s).cal = s.cal ∧ (cmdRackClear
    s).bus.capture = s.bus.capture ∧ (cmdRackClear s).bus.hold = s.bus.hold ∧ (cmdRackClear s).bus.dataOut =
    s.bus.dataOut ∧ (cmdRackClear s).bus.resetSource = s.bus.resetSource ∧ (cmdRackClear s).bus.protect =
    s.bus.protect ∧ (cmdRackClear s).bus.latched = s.bus.latched ∧ (cmdRackClear s).bus.mask = s.bus.mask ∧
    (cmdRackClear s).bus.attn = s.bus.attn ∧ (cmdRackClear s).bus.holdOff = s.bus.holdOff ∧ (cmdRackClear
    s).bus.interval = s.bus.interval ∧ (cmdRackClear s).bus.hbTimeout = s.bus.hbTimeout ∧ (cmdRackClear
    s).bus.hbTimer = s.bus.hbTimer ∧ (cmdRackClear s).supervisor.line = s.supervisor.line ∧ (cmdRackClear
    s).supervisor.cause = s.supervisor.cause ∧ (cmdRackClear s).supervisor.lineTime = s.supervisor.lineTime ∧
    (cmdRackClear s).supervisor.timer = s.supervisor.timer ∧ (cmdRackClear s).admission.queue =
    s.admission.queue ∧ (cmdRackClear s).admission.holdReason = s.admission.holdReason ∧ (cmdRackClear
    s).admission.epochNo = s.admission.epochNo ∧ (cmdRackClear s).admission.epochSpeed = s.admission.epochSpeed
    ∧ (cmdRackClear s).admission.epochCurrent = s.admission.epochCurrent ∧ (cmdRackClear
    s).admission.misfeedHold = s.admission.misfeedHold ∧ (cmdRackClear s).admission.gateOpen =
    s.admission.gateOpen ∧ (cmdRackClear s).admission.mark = s.admission.mark ∧ (cmdRackClear s).tracker.train =
    s.tracker.train ∧ (cmdRackClear s).tracker.strayPending = s.tracker.strayPending ∧ (cmdRackClear
    s).link.mode = s.link.mode ∧ (cmdRackClear s).link.phase = s.link.phase ∧ (cmdRackClear s).link.lastNode =
    s.link.lastNode ∧ (cmdRackClear s).link.assign = s.link.assign := by
  and_intros <;> (simp [cmdRackClear])

@[simp] theorem cmdChamberReset_frame (s : State) :
    (cmdChamberReset s).pending = s.pending ∧ (cmdChamberReset s).freeCount = s.freeCount ∧ (cmdChamberReset
    s).now = s.now ∧ (cmdChamberReset s).pins = s.pins ∧ (cmdChamberReset s).intake = s.intake ∧
    (cmdChamberReset s).transport = s.transport ∧ (cmdChamberReset s).banks = s.banks ∧ (cmdChamberReset
    s).claimLead = s.claimLead ∧ (cmdChamberReset s).wash = s.wash ∧ (cmdChamberReset s).safety = s.safety ∧
    (cmdChamberReset s).cal = s.cal ∧ (cmdChamberReset s).bus.capture = s.bus.capture ∧ (cmdChamberReset
    s).bus.hold = s.bus.hold ∧ (cmdChamberReset s).bus.dataOut = s.bus.dataOut ∧ (cmdChamberReset
    s).bus.resetSource = s.bus.resetSource ∧ (cmdChamberReset s).bus.protect = s.bus.protect ∧ (cmdChamberReset
    s).bus.latched = s.bus.latched ∧ (cmdChamberReset s).bus.mask = s.bus.mask ∧ (cmdChamberReset s).bus.attn =
    s.bus.attn ∧ (cmdChamberReset s).bus.holdOff = s.bus.holdOff ∧ (cmdChamberReset s).bus.interval =
    s.bus.interval ∧ (cmdChamberReset s).bus.hbTimeout = s.bus.hbTimeout ∧ (cmdChamberReset s).bus.hbTimer =
    s.bus.hbTimer ∧ (cmdChamberReset s).supervisor.line = s.supervisor.line ∧ (cmdChamberReset
    s).supervisor.cause = s.supervisor.cause ∧ (cmdChamberReset s).supervisor.lineTime = s.supervisor.lineTime ∧
    (cmdChamberReset s).supervisor.timer = s.supervisor.timer ∧ (cmdChamberReset s).admission.queue =
    s.admission.queue ∧ (cmdChamberReset s).admission.holdReason = s.admission.holdReason ∧ (cmdChamberReset
    s).admission.epochNo = s.admission.epochNo ∧ (cmdChamberReset s).admission.epochSpeed =
    s.admission.epochSpeed ∧ (cmdChamberReset s).admission.epochCurrent = s.admission.epochCurrent ∧
    (cmdChamberReset s).admission.misfeedHold = s.admission.misfeedHold ∧ (cmdChamberReset s).admission.gateOpen
    = s.admission.gateOpen ∧ (cmdChamberReset s).admission.mark = s.admission.mark ∧ (cmdChamberReset
    s).tracker.train = s.tracker.train ∧ (cmdChamberReset s).tracker.strayPending = s.tracker.strayPending ∧
    (cmdChamberReset s).link.mode = s.link.mode ∧ (cmdChamberReset s).link.phase = s.link.phase ∧
    (cmdChamberReset s).link.lastNode = s.link.lastNode ∧ (cmdChamberReset s).link.assign = s.link.assign := by
  and_intros <;> (unfold cmdChamberReset; (try dsimp only); (repeat' split) <;> simp)

/-- What a host write to LINE_CMD is: one of the commands. -/
theorem lineCommand_cases (code : Word) (s : State) :
    lineCommand code s ∈ [cmdStart s, cmdDrain s, cmdHalt s, cmdResume s, cmdSafeRelease s, cmdResetLine s,
      cmdLinkSingle s, cmdLinkContinuous s, cmdShuttleReset s, cmdRackClear s, cmdChamberReset s,
      setOutcome .unknown s] := by
  unfold lineCommand
  split <;> simp only [List.mem_cons, true_or, or_true]

@[simp] theorem lineCommand_frame (code : Word) (s : State) :
    (lineCommand code s).pending = s.pending ∧ (lineCommand code s).freeCount = s.freeCount ∧ (lineCommand code
    s).now = s.now ∧ (lineCommand code s).pins = s.pins ∧ (lineCommand code s).intake = s.intake ∧ (lineCommand
    code s).claimLead = s.claimLead ∧ (lineCommand code s).cal = s.cal ∧ (lineCommand code s).bus.capture =
    s.bus.capture ∧ (lineCommand code s).bus.hold = s.bus.hold ∧ (lineCommand code s).bus.dataOut =
    s.bus.dataOut ∧ (lineCommand code s).bus.resetSource = s.bus.resetSource ∧ (lineCommand code s).bus.protect
    = s.bus.protect ∧ (lineCommand code s).bus.mask = s.bus.mask ∧ (lineCommand code s).bus.interval =
    s.bus.interval ∧ (lineCommand code s).bus.hbTimeout = s.bus.hbTimeout ∧ (lineCommand code s).bus.hbTimer =
    s.bus.hbTimer ∧ (lineCommand code s).supervisor.lineTime = s.supervisor.lineTime ∧ (lineCommand code
    s).supervisor.timer = s.supervisor.timer ∧ (lineCommand code s).admission.epochNo = s.admission.epochNo ∧
    (lineCommand code s).admission.epochSpeed = s.admission.epochSpeed ∧ (lineCommand code s).admission.mark =
    s.admission.mark ∧ (lineCommand code s).tracker.strayPending = s.tracker.strayPending ∧ (lineCommand code
    s).safety.estop = s.safety.estop ∧ (lineCommand code s).safety.coverClosed = s.safety.coverClosed := by
  and_intros <;> (have h := lineCommand_cases code s; simp only [List.mem_cons, List.not_mem_nil, or_false] at h; rcases h with h | h | h | h | h | h | h | h | h | h | h | h <;> simp [h])

@[simp] theorem startHeartbeat_frame (timeout : Nat) (s : State) :
    (startHeartbeat timeout s).pending = s.pending ∧ (startHeartbeat timeout s).freeCount = s.freeCount ∧
    (startHeartbeat timeout s).now = s.now ∧ (startHeartbeat timeout s).pins = s.pins ∧ (startHeartbeat timeout
    s).intake = s.intake ∧ (startHeartbeat timeout s).supervisor = s.supervisor ∧ (startHeartbeat timeout
    s).admission = s.admission ∧ (startHeartbeat timeout s).tracker = s.tracker ∧ (startHeartbeat timeout
    s).transport = s.transport ∧ (startHeartbeat timeout s).banks = s.banks ∧ (startHeartbeat timeout
    s).claimLead = s.claimLead ∧ (startHeartbeat timeout s).wash = s.wash ∧ (startHeartbeat timeout s).drying =
    s.drying ∧ (startHeartbeat timeout s).shuttle = s.shuttle ∧ (startHeartbeat timeout s).chamber = s.chamber ∧
    (startHeartbeat timeout s).link = s.link ∧ (startHeartbeat timeout s).safety = s.safety ∧ (startHeartbeat
    timeout s).cal = s.cal ∧ (startHeartbeat timeout s).bus.ram = s.bus.ram ∧ (startHeartbeat timeout
    s).bus.capture = s.bus.capture ∧ (startHeartbeat timeout s).bus.hold = s.bus.hold ∧ (startHeartbeat timeout
    s).bus.dataOut = s.bus.dataOut ∧ (startHeartbeat timeout s).bus.resetSource = s.bus.resetSource ∧
    (startHeartbeat timeout s).bus.protect = s.bus.protect ∧ (startHeartbeat timeout s).bus.latched =
    s.bus.latched ∧ (startHeartbeat timeout s).bus.mask = s.bus.mask ∧ (startHeartbeat timeout s).bus.attn =
    s.bus.attn ∧ (startHeartbeat timeout s).bus.holdOff = s.bus.holdOff ∧ (startHeartbeat timeout
    s).bus.interval = s.bus.interval ∧ (startHeartbeat timeout s).bus.hbTimeout = s.bus.hbTimeout := by
  and_intros <;> (simp [startHeartbeat])

@[simp] theorem heartbeatLapse_frame (s : State) :
    (heartbeatLapse s).pending = s.pending ∧ (heartbeatLapse s).freeCount = s.freeCount ∧ (heartbeatLapse s).now
    = s.now ∧ (heartbeatLapse s).pins = s.pins ∧ (heartbeatLapse s).intake = s.intake ∧ (heartbeatLapse
    s).tracker = s.tracker ∧ (heartbeatLapse s).claimLead = s.claimLead ∧ (heartbeatLapse s).wash = s.wash ∧
    (heartbeatLapse s).drying = s.drying ∧ (heartbeatLapse s).shuttle = s.shuttle ∧ (heartbeatLapse s).chamber =
    s.chamber ∧ (heartbeatLapse s).link = s.link ∧ (heartbeatLapse s).safety = s.safety ∧ (heartbeatLapse s).cal
    = s.cal ∧ (heartbeatLapse s).bus.ram = s.bus.ram ∧ (heartbeatLapse s).bus.capture = s.bus.capture ∧
    (heartbeatLapse s).bus.hold = s.bus.hold ∧ (heartbeatLapse s).bus.dataOut = s.bus.dataOut ∧ (heartbeatLapse
    s).bus.resetSource = s.bus.resetSource ∧ (heartbeatLapse s).bus.protect = s.bus.protect ∧ (heartbeatLapse
    s).bus.mask = s.bus.mask ∧ (heartbeatLapse s).bus.interval = s.bus.interval ∧ (heartbeatLapse
    s).bus.hbTimeout = s.bus.hbTimeout ∧ (heartbeatLapse s).bus.hbTimer = s.bus.hbTimer ∧ (heartbeatLapse
    s).supervisor.cause = s.supervisor.cause ∧ (heartbeatLapse s).supervisor.lineTime = s.supervisor.lineTime ∧
    (heartbeatLapse s).supervisor.outcome = s.supervisor.outcome ∧ (heartbeatLapse s).supervisor.timer =
    s.supervisor.timer ∧ (heartbeatLapse s).admission.queue = s.admission.queue ∧ (heartbeatLapse
    s).admission.holdReason = s.admission.holdReason ∧ (heartbeatLapse s).admission.commitments =
    s.admission.commitments ∧ (heartbeatLapse s).admission.epochNo = s.admission.epochNo ∧ (heartbeatLapse
    s).admission.epochSpeed = s.admission.epochSpeed ∧ (heartbeatLapse s).admission.misfeedHold =
    s.admission.misfeedHold ∧ (heartbeatLapse s).admission.gateOpen = s.admission.gateOpen ∧ (heartbeatLapse
    s).admission.mark = s.admission.mark := by
  and_intros <;> (unfold heartbeatLapse; (repeat' split) <;> simp)

end Sys2Proof.Machine
end

