-- ==== Sys2Proof/Laws/FrameBus.lean ====
section
/-! SUPPORT. What the operations of Machine/Bus.lean leave unchanged: one frame lemma for each, which
`simp` takes part by part. -/

namespace Sys2Proof.Machine

@[simp] theorem readEffect_frame (a : Nat) (s : State) :
    (readEffect a s).pending = s.pending ∧ (readEffect a s).freeCount = s.freeCount ∧ (readEffect a s).now =
    s.now ∧ (readEffect a s).pins = s.pins ∧ (readEffect a s).intake = s.intake ∧ (readEffect a s).supervisor =
    s.supervisor ∧ (readEffect a s).admission = s.admission ∧ (readEffect a s).tracker = s.tracker ∧ (readEffect
    a s).transport = s.transport ∧ (readEffect a s).banks = s.banks ∧ (readEffect a s).claimLead = s.claimLead ∧
    (readEffect a s).wash = s.wash ∧ (readEffect a s).drying = s.drying ∧ (readEffect a s).shuttle = s.shuttle ∧
    (readEffect a s).chamber = s.chamber ∧ (readEffect a s).link = s.link ∧ (readEffect a s).safety = s.safety ∧
    (readEffect a s).cal = s.cal ∧ (readEffect a s).bus.ram = s.bus.ram ∧ (readEffect a s).bus.capture =
    s.bus.capture ∧ (readEffect a s).bus.hold = s.bus.hold ∧ (readEffect a s).bus.dataOut = s.bus.dataOut ∧
    (readEffect a s).bus.resetSource = s.bus.resetSource ∧ (readEffect a s).bus.protect = s.bus.protect ∧
    (readEffect a s).bus.mask = s.bus.mask ∧ (readEffect a s).bus.holdOff = s.bus.holdOff ∧ (readEffect a
    s).bus.interval = s.bus.interval ∧ (readEffect a s).bus.hbTimeout = s.bus.hbTimeout ∧ (readEffect a
    s).bus.hbTimer = s.bus.hbTimer := by
  and_intros <;> (unfold readEffect; (try dsimp only); (repeat' split) <;> simp)

@[simp] theorem busRead_frame (a : BusAddr) (s : State) :
    (busRead a s).pending = s.pending ∧ (busRead a s).freeCount = s.freeCount ∧ (busRead a s).now = s.now ∧
    (busRead a s).pins = s.pins ∧ (busRead a s).intake = s.intake ∧ (busRead a s).supervisor = s.supervisor ∧
    (busRead a s).admission = s.admission ∧ (busRead a s).tracker = s.tracker ∧ (busRead a s).transport =
    s.transport ∧ (busRead a s).banks = s.banks ∧ (busRead a s).claimLead = s.claimLead ∧ (busRead a s).wash =
    s.wash ∧ (busRead a s).drying = s.drying ∧ (busRead a s).shuttle = s.shuttle ∧ (busRead a s).chamber =
    s.chamber ∧ (busRead a s).link = s.link ∧ (busRead a s).safety = s.safety ∧ (busRead a s).cal = s.cal ∧
    (busRead a s).bus.ram = s.bus.ram ∧ (busRead a s).bus.hold = s.bus.hold ∧ (busRead a s).bus.resetSource =
    s.bus.resetSource ∧ (busRead a s).bus.protect = s.bus.protect ∧ (busRead a s).bus.mask = s.bus.mask ∧
    (busRead a s).bus.holdOff = s.bus.holdOff ∧ (busRead a s).bus.interval = s.bus.interval ∧ (busRead a
    s).bus.hbTimeout = s.bus.hbTimeout ∧ (busRead a s).bus.hbTimer = s.bus.hbTimer := by
  and_intros <;> (simp [busRead])

@[simp] theorem writeInterval_frame (v : Word) (s : State) :
    (writeInterval v s).pending = s.pending ∧ (writeInterval v s).freeCount = s.freeCount ∧ (writeInterval v
    s).now = s.now ∧ (writeInterval v s).pins = s.pins ∧ (writeInterval v s).intake = s.intake ∧ (writeInterval
    v s).supervisor = s.supervisor ∧ (writeInterval v s).admission = s.admission ∧ (writeInterval v s).tracker =
    s.tracker ∧ (writeInterval v s).transport = s.transport ∧ (writeInterval v s).banks = s.banks ∧
    (writeInterval v s).claimLead = s.claimLead ∧ (writeInterval v s).wash = s.wash ∧ (writeInterval v s).drying
    = s.drying ∧ (writeInterval v s).shuttle = s.shuttle ∧ (writeInterval v s).chamber = s.chamber ∧
    (writeInterval v s).link = s.link ∧ (writeInterval v s).safety = s.safety ∧ (writeInterval v s).cal = s.cal
    ∧ (writeInterval v s).bus.capture = s.bus.capture ∧ (writeInterval v s).bus.hold = s.bus.hold ∧
    (writeInterval v s).bus.dataOut = s.bus.dataOut ∧ (writeInterval v s).bus.resetSource = s.bus.resetSource ∧
    (writeInterval v s).bus.protect = s.bus.protect ∧ (writeInterval v s).bus.latched = s.bus.latched ∧
    (writeInterval v s).bus.mask = s.bus.mask ∧ (writeInterval v s).bus.attn = s.bus.attn ∧ (writeInterval v
    s).bus.holdOff = s.bus.holdOff ∧ (writeInterval v s).bus.hbTimeout = s.bus.hbTimeout ∧ (writeInterval v
    s).bus.hbTimer = s.bus.hbTimer := by
  and_intros <;> (simp [writeInterval])

@[simp] theorem writeMark_frame (v : Word) (s : State) :
    (writeMark v s).pending = s.pending ∧ (writeMark v s).freeCount = s.freeCount ∧ (writeMark v s).now = s.now
    ∧ (writeMark v s).pins = s.pins ∧ (writeMark v s).intake = s.intake ∧ (writeMark v s).supervisor =
    s.supervisor ∧ (writeMark v s).tracker = s.tracker ∧ (writeMark v s).transport = s.transport ∧ (writeMark v
    s).banks = s.banks ∧ (writeMark v s).claimLead = s.claimLead ∧ (writeMark v s).wash = s.wash ∧ (writeMark v
    s).drying = s.drying ∧ (writeMark v s).shuttle = s.shuttle ∧ (writeMark v s).chamber = s.chamber ∧
    (writeMark v s).link = s.link ∧ (writeMark v s).safety = s.safety ∧ (writeMark v s).cal = s.cal ∧ (writeMark
    v s).bus.capture = s.bus.capture ∧ (writeMark v s).bus.hold = s.bus.hold ∧ (writeMark v s).bus.dataOut =
    s.bus.dataOut ∧ (writeMark v s).bus.resetSource = s.bus.resetSource ∧ (writeMark v s).bus.protect =
    s.bus.protect ∧ (writeMark v s).bus.mask = s.bus.mask ∧ (writeMark v s).bus.interval = s.bus.interval ∧
    (writeMark v s).bus.hbTimeout = s.bus.hbTimeout ∧ (writeMark v s).bus.hbTimer = s.bus.hbTimer ∧ (writeMark v
    s).admission.queue = s.admission.queue ∧ (writeMark v s).admission.holdReason = s.admission.holdReason ∧
    (writeMark v s).admission.commitments = s.admission.commitments ∧ (writeMark v s).admission.epochNo =
    s.admission.epochNo ∧ (writeMark v s).admission.epochSpeed = s.admission.epochSpeed ∧ (writeMark v
    s).admission.epochCurrent = s.admission.epochCurrent ∧ (writeMark v s).admission.misfeedHold =
    s.admission.misfeedHold ∧ (writeMark v s).admission.gateOpen = s.admission.gateOpen := by
  and_intros <;> (simp [writeMark])

@[simp] theorem writeTimeout_frame (v : Word) (s : State) :
    (writeTimeout v s).pending = s.pending ∧ (writeTimeout v s).freeCount = s.freeCount ∧ (writeTimeout v s).now
    = s.now ∧ (writeTimeout v s).pins = s.pins ∧ (writeTimeout v s).intake = s.intake ∧ (writeTimeout v
    s).supervisor = s.supervisor ∧ (writeTimeout v s).admission = s.admission ∧ (writeTimeout v s).tracker =
    s.tracker ∧ (writeTimeout v s).transport = s.transport ∧ (writeTimeout v s).banks = s.banks ∧ (writeTimeout
    v s).claimLead = s.claimLead ∧ (writeTimeout v s).wash = s.wash ∧ (writeTimeout v s).drying = s.drying ∧
    (writeTimeout v s).shuttle = s.shuttle ∧ (writeTimeout v s).chamber = s.chamber ∧ (writeTimeout v s).link =
    s.link ∧ (writeTimeout v s).safety = s.safety ∧ (writeTimeout v s).cal = s.cal ∧ (writeTimeout v
    s).bus.capture = s.bus.capture ∧ (writeTimeout v s).bus.hold = s.bus.hold ∧ (writeTimeout v s).bus.dataOut =
    s.bus.dataOut ∧ (writeTimeout v s).bus.resetSource = s.bus.resetSource ∧ (writeTimeout v s).bus.protect =
    s.bus.protect ∧ (writeTimeout v s).bus.latched = s.bus.latched ∧ (writeTimeout v s).bus.mask = s.bus.mask ∧
    (writeTimeout v s).bus.attn = s.bus.attn ∧ (writeTimeout v s).bus.holdOff = s.bus.holdOff ∧ (writeTimeout v
    s).bus.interval = s.bus.interval := by
  and_intros <;> (simp [writeTimeout])

@[simp] theorem writeLoadEntry_frame (v : Word) (s : State) :
    (writeLoadEntry v s).pending = s.pending ∧ (writeLoadEntry v s).freeCount = s.freeCount ∧ (writeLoadEntry v
    s).now = s.now ∧ (writeLoadEntry v s).pins = s.pins ∧ (writeLoadEntry v s).intake = s.intake ∧
    (writeLoadEntry v s).supervisor = s.supervisor ∧ (writeLoadEntry v s).admission = s.admission ∧
    (writeLoadEntry v s).tracker = s.tracker ∧ (writeLoadEntry v s).transport = s.transport ∧ (writeLoadEntry v
    s).banks = s.banks ∧ (writeLoadEntry v s).claimLead = s.claimLead ∧ (writeLoadEntry v s).drying = s.drying ∧
    (writeLoadEntry v s).shuttle = s.shuttle ∧ (writeLoadEntry v s).chamber = s.chamber ∧ (writeLoadEntry v
    s).safety = s.safety ∧ (writeLoadEntry v s).cal = s.cal ∧ (writeLoadEntry v s).bus.capture = s.bus.capture ∧
    (writeLoadEntry v s).bus.hold = s.bus.hold ∧ (writeLoadEntry v s).bus.dataOut = s.bus.dataOut ∧
    (writeLoadEntry v s).bus.resetSource = s.bus.resetSource ∧ (writeLoadEntry v s).bus.mask = s.bus.mask ∧
    (writeLoadEntry v s).bus.interval = s.bus.interval ∧ (writeLoadEntry v s).bus.hbTimeout = s.bus.hbTimeout ∧
    (writeLoadEntry v s).bus.hbTimer = s.bus.hbTimer ∧ (writeLoadEntry v s).link.mode = s.link.mode ∧
    (writeLoadEntry v s).link.phase = s.link.phase ∧ (writeLoadEntry v s).link.lastNode = s.link.lastNode ∧
    (writeLoadEntry v s).link.assign = s.link.assign := by
  and_intros <;> (unfold writeLoadEntry; (repeat' split) <;> simp)

@[simp] theorem writeHeader_frame (a : Nat) (v : Word) (s : State) :
    (writeHeader a v s).pending = s.pending ∧ (writeHeader a v s).freeCount = s.freeCount ∧ (writeHeader a v
    s).now = s.now ∧ (writeHeader a v s).pins = s.pins ∧ (writeHeader a v s).supervisor = s.supervisor ∧
    (writeHeader a v s).tracker = s.tracker ∧ (writeHeader a v s).transport = s.transport ∧ (writeHeader a v
    s).banks = s.banks ∧ (writeHeader a v s).claimLead = s.claimLead ∧ (writeHeader a v s).drying = s.drying ∧
    (writeHeader a v s).shuttle = s.shuttle ∧ (writeHeader a v s).chamber = s.chamber ∧ (writeHeader a v
    s).safety = s.safety ∧ (writeHeader a v s).cal = s.cal ∧ (writeHeader a v s).bus.capture = s.bus.capture ∧
    (writeHeader a v s).bus.hold = s.bus.hold ∧ (writeHeader a v s).bus.dataOut = s.bus.dataOut ∧ (writeHeader a
    v s).bus.resetSource = s.bus.resetSource ∧ (writeHeader a v s).bus.mask = s.bus.mask ∧ (writeHeader a v
    s).admission.queue = s.admission.queue ∧ (writeHeader a v s).admission.holdReason = s.admission.holdReason ∧
    (writeHeader a v s).admission.commitments = s.admission.commitments ∧ (writeHeader a v s).admission.epochNo
    = s.admission.epochNo ∧ (writeHeader a v s).admission.epochSpeed = s.admission.epochSpeed ∧ (writeHeader a v
    s).admission.epochCurrent = s.admission.epochCurrent ∧ (writeHeader a v s).admission.misfeedHold =
    s.admission.misfeedHold ∧ (writeHeader a v s).admission.gateOpen = s.admission.gateOpen ∧ (writeHeader a v
    s).link.mode = s.link.mode ∧ (writeHeader a v s).link.phase = s.link.phase ∧ (writeHeader a v
    s).link.lastNode = s.link.lastNode ∧ (writeHeader a v s).link.assign = s.link.assign ∧ (writeHeader a v
    s).intake.order = s.intake.order := by
  and_intros <;> (unfold writeHeader; (try dsimp only); (repeat' split) <;> simp)

@[simp] theorem writeTicket_frame (a : Nat) (v : Word) (s : State) :
    (writeTicket a v s).pending = s.pending ∧ (writeTicket a v s).freeCount = s.freeCount ∧ (writeTicket a v
    s).now = s.now ∧ (writeTicket a v s).pins = s.pins ∧ (writeTicket a v s).intake = s.intake ∧ (writeTicket a
    v s).supervisor = s.supervisor ∧ (writeTicket a v s).admission = s.admission ∧ (writeTicket a v s).tracker =
    s.tracker ∧ (writeTicket a v s).transport = s.transport ∧ (writeTicket a v s).banks = s.banks ∧ (writeTicket
    a v s).claimLead = s.claimLead ∧ (writeTicket a v s).wash = s.wash ∧ (writeTicket a v s).drying = s.drying ∧
    (writeTicket a v s).shuttle = s.shuttle ∧ (writeTicket a v s).chamber = s.chamber ∧ (writeTicket a v s).link
    = s.link ∧ (writeTicket a v s).safety = s.safety ∧ (writeTicket a v s).cal = s.cal ∧ (writeTicket a v
    s).bus.capture = s.bus.capture ∧ (writeTicket a v s).bus.hold = s.bus.hold ∧ (writeTicket a v s).bus.dataOut
    = s.bus.dataOut ∧ (writeTicket a v s).bus.resetSource = s.bus.resetSource ∧ (writeTicket a v s).bus.mask =
    s.bus.mask ∧ (writeTicket a v s).bus.interval = s.bus.interval ∧ (writeTicket a v s).bus.hbTimeout =
    s.bus.hbTimeout ∧ (writeTicket a v s).bus.hbTimer = s.bus.hbTimer := by
  and_intros <;> (unfold writeTicket; (repeat' split) <;> simp)

@[simp] theorem writeLivePage_frame (a : Nat) (s : State) :
    (writeLivePage a s).pending = s.pending ∧ (writeLivePage a s).freeCount = s.freeCount ∧ (writeLivePage a
    s).now = s.now ∧ (writeLivePage a s).pins = s.pins ∧ (writeLivePage a s).intake = s.intake ∧ (writeLivePage
    a s).supervisor = s.supervisor ∧ (writeLivePage a s).admission = s.admission ∧ (writeLivePage a s).tracker =
    s.tracker ∧ (writeLivePage a s).transport = s.transport ∧ (writeLivePage a s).banks = s.banks ∧
    (writeLivePage a s).claimLead = s.claimLead ∧ (writeLivePage a s).wash = s.wash ∧ (writeLivePage a s).drying
    = s.drying ∧ (writeLivePage a s).shuttle = s.shuttle ∧ (writeLivePage a s).chamber = s.chamber ∧
    (writeLivePage a s).safety = s.safety ∧ (writeLivePage a s).cal = s.cal ∧ (writeLivePage a s).bus.ram =
    s.bus.ram ∧ (writeLivePage a s).bus.capture = s.bus.capture ∧ (writeLivePage a s).bus.hold = s.bus.hold ∧
    (writeLivePage a s).bus.dataOut = s.bus.dataOut ∧ (writeLivePage a s).bus.resetSource = s.bus.resetSource ∧
    (writeLivePage a s).bus.mask = s.bus.mask ∧ (writeLivePage a s).bus.interval = s.bus.interval ∧
    (writeLivePage a s).bus.hbTimeout = s.bus.hbTimeout ∧ (writeLivePage a s).bus.hbTimer = s.bus.hbTimer ∧
    (writeLivePage a s).link.mode = s.link.mode ∧ (writeLivePage a s).link.phase = s.link.phase ∧ (writeLivePage
    a s).link.lastNode = s.link.lastNode ∧ (writeLivePage a s).link.assign = s.link.assign := by
  and_intros <;> (unfold writeLivePage; (try dsimp only); (repeat' split) <;> simp)

@[simp] theorem driveCauses_frame (bits : Word) (cs : List Attn) (s : State) :
    (driveCauses bits cs s).pending = s.pending ∧ (driveCauses bits cs s).freeCount = s.freeCount ∧ (driveCauses
    bits cs s).now = s.now ∧ (driveCauses bits cs s).pins = s.pins ∧ (driveCauses bits cs s).intake = s.intake ∧
    (driveCauses bits cs s).supervisor = s.supervisor ∧ (driveCauses bits cs s).admission = s.admission ∧
    (driveCauses bits cs s).tracker = s.tracker ∧ (driveCauses bits cs s).transport = s.transport ∧ (driveCauses
    bits cs s).banks = s.banks ∧ (driveCauses bits cs s).claimLead = s.claimLead ∧ (driveCauses bits cs s).wash
    = s.wash ∧ (driveCauses bits cs s).drying = s.drying ∧ (driveCauses bits cs s).shuttle = s.shuttle ∧
    (driveCauses bits cs s).chamber = s.chamber ∧ (driveCauses bits cs s).link = s.link ∧ (driveCauses bits cs
    s).safety = s.safety ∧ (driveCauses bits cs s).cal = s.cal ∧ (driveCauses bits cs s).bus.ram = s.bus.ram ∧
    (driveCauses bits cs s).bus.capture = s.bus.capture ∧ (driveCauses bits cs s).bus.hold = s.bus.hold ∧
    (driveCauses bits cs s).bus.dataOut = s.bus.dataOut ∧ (driveCauses bits cs s).bus.resetSource =
    s.bus.resetSource ∧ (driveCauses bits cs s).bus.protect = s.bus.protect ∧ (driveCauses bits cs
    s).bus.latched = s.bus.latched ∧ (driveCauses bits cs s).bus.mask = s.bus.mask ∧ (driveCauses bits cs
    s).bus.interval = s.bus.interval ∧ (driveCauses bits cs s).bus.hbTimeout = s.bus.hbTimeout ∧ (driveCauses
    bits cs s).bus.hbTimer = s.bus.hbTimer := 
  ⟨by unfold driveCauses; exact foldl_keeps (fun t : State => t.pending) _ (fun t a => by (repeat' split) <;> simp) _ _,
   by unfold driveCauses; exact foldl_keeps (fun t : State => t.freeCount) _ (fun t a => by (repeat' split) <;> simp) _ _,
   by unfold driveCauses; exact foldl_keeps (fun t : State => t.now) _ (fun t a => by (repeat' split) <;> simp) _ _,
   by unfold driveCauses; exact foldl_keeps (fun t : State => t.pins) _ (fun t a => by (repeat' split) <;> simp) _ _,
   by unfold driveCauses; exact foldl_keeps (fun t : State => t.intake) _ (fun t a => by (repeat' split) <;> simp) _ _,
   by unfold driveCauses; exact foldl_keeps (fun t : State => t.supervisor) _ (fun t a => by (repeat' split) <;> simp) _ _,
   by unfold driveCauses; exact foldl_keeps (fun t : State => t.admission) _ (fun t a => by (repeat' split) <;> simp) _ _,
   by unfold driveCauses; exact foldl_keeps (fun t : State => t.tracker) _ (fun t a => by (repeat' split) <;> simp) _ _,
   by unfold driveCauses; exact foldl_keeps (fun t : State => t.transport) _ (fun t a => by (repeat' split) <;> simp) _ _,
   by unfold driveCauses; exact foldl_keeps (fun t : State => t.banks) _ (fun t a => by (repeat' split) <;> simp) _ _,
   by unfold driveCauses; exact foldl_keeps (fun t : State => t.claimLead) _ (fun t a => by (repeat' split) <;> simp) _ _,
   by unfold driveCauses; exact foldl_keeps (fun t : State => t.wash) _ (fun t a => by (repeat' split) <;> simp) _ _,
   by unfold driveCauses; exact foldl_keeps (fun t : State => t.drying) _ (fun t a => by (repeat' split) <;> simp) _ _,
   by unfold driveCauses; exact foldl_keeps (fun t : State => t.shuttle) _ (fun t a => by (repeat' split) <;> simp) _ _,
   by unfold driveCauses; exact foldl_keeps (fun t : State => t.chamber) _ (fun t a => by (repeat' split) <;> simp) _ _,
   by unfold driveCauses; exact foldl_keeps (fun t : State => t.link) _ (fun t a => by (repeat' split) <;> simp) _ _,
   by unfold driveCauses; exact foldl_keeps (fun t : State => t.safety) _ (fun t a => by (repeat' split) <;> simp) _ _,
   by unfold driveCauses; exact foldl_keeps (fun t : State => t.cal) _ (fun t a => by (repeat' split) <;> simp) _ _,
   by unfold driveCauses; exact foldl_keeps (fun t : State => t.bus.ram) _ (fun t a => by (repeat' split) <;> simp) _ _,
   by unfold driveCauses; exact foldl_keeps (fun t : State => t.bus.capture) _ (fun t a => by (repeat' split) <;> simp) _ _,
   by unfold driveCauses; exact foldl_keeps (fun t : State => t.bus.hold) _ (fun t a => by (repeat' split) <;> simp) _ _,
   by unfold driveCauses; exact foldl_keeps (fun t : State => t.bus.dataOut) _ (fun t a => by (repeat' split) <;> simp) _ _,
   by unfold driveCauses; exact foldl_keeps (fun t : State => t.bus.resetSource) _ (fun t a => by (repeat' split) <;> simp) _ _,
   by unfold driveCauses; exact foldl_keeps (fun t : State => t.bus.protect) _ (fun t a => by (repeat' split) <;> simp) _ _,
   by unfold driveCauses; exact foldl_keeps (fun t : State => t.bus.latched) _ (fun t a => by (repeat' split) <;> simp) _ _,
   by unfold driveCauses; exact foldl_keeps (fun t : State => t.bus.mask) _ (fun t a => by (repeat' split) <;> simp) _ _,
   by unfold driveCauses; exact foldl_keeps (fun t : State => t.bus.interval) _ (fun t a => by (repeat' split) <;> simp) _ _,
   by unfold driveCauses; exact foldl_keeps (fun t : State => t.bus.hbTimeout) _ (fun t a => by (repeat' split) <;> simp) _ _,
   by unfold driveCauses; exact foldl_keeps (fun t : State => t.bus.hbTimer) _ (fun t a => by (repeat' split) <;> simp) _ _⟩

@[simp] theorem writeMask_frame (v : Word) (s : State) :
    (writeMask v s).pending = s.pending ∧ (writeMask v s).now = s.now ∧ (writeMask v s).pins = s.pins ∧
    (writeMask v s).intake = s.intake ∧ (writeMask v s).supervisor = s.supervisor ∧ (writeMask v s).admission =
    s.admission ∧ (writeMask v s).tracker = s.tracker ∧ (writeMask v s).transport = s.transport ∧ (writeMask v
    s).banks = s.banks ∧ (writeMask v s).claimLead = s.claimLead ∧ (writeMask v s).wash = s.wash ∧ (writeMask v
    s).drying = s.drying ∧ (writeMask v s).shuttle = s.shuttle ∧ (writeMask v s).chamber = s.chamber ∧
    (writeMask v s).link = s.link ∧ (writeMask v s).safety = s.safety ∧ (writeMask v s).cal = s.cal ∧ (writeMask
    v s).bus.ram = s.bus.ram ∧ (writeMask v s).bus.capture = s.bus.capture ∧ (writeMask v s).bus.hold =
    s.bus.hold ∧ (writeMask v s).bus.dataOut = s.bus.dataOut ∧ (writeMask v s).bus.resetSource =
    s.bus.resetSource ∧ (writeMask v s).bus.protect = s.bus.protect ∧ (writeMask v s).bus.latched =
    s.bus.latched ∧ (writeMask v s).bus.interval = s.bus.interval ∧ (writeMask v s).bus.hbTimeout =
    s.bus.hbTimeout ∧ (writeMask v s).bus.hbTimer = s.bus.hbTimer := by
  and_intros <;> (unfold writeMask; (try dsimp only); (repeat' split) <;> simp)

@[simp] theorem writeRegister_frame (a : Nat) (v : Word) (s : State) :
    (writeRegister a v s).pending = s.pending ∧ (writeRegister a v s).now = s.now ∧ (writeRegister a v s).pins =
    s.pins ∧ (writeRegister a v s).intake = s.intake ∧ (writeRegister a v s).claimLead = s.claimLead ∧
    (writeRegister a v s).cal = s.cal ∧ (writeRegister a v s).bus.capture = s.bus.capture ∧ (writeRegister a v
    s).bus.hold = s.bus.hold ∧ (writeRegister a v s).bus.dataOut = s.bus.dataOut ∧ (writeRegister a v
    s).bus.resetSource = s.bus.resetSource ∧ (writeRegister a v s).bus.protect = s.bus.protect ∧ (writeRegister
    a v s).bus.interval = s.bus.interval ∧ (writeRegister a v s).bus.hbTimeout = s.bus.hbTimeout ∧
    (writeRegister a v s).supervisor.lineTime = s.supervisor.lineTime ∧ (writeRegister a v s).supervisor.timer =
    s.supervisor.timer ∧ (writeRegister a v s).admission.epochNo = s.admission.epochNo ∧ (writeRegister a v
    s).admission.epochSpeed = s.admission.epochSpeed ∧ (writeRegister a v s).admission.mark = s.admission.mark ∧
    (writeRegister a v s).tracker.strayPending = s.tracker.strayPending ∧ (writeRegister a v s).safety.estop =
    s.safety.estop ∧ (writeRegister a v s).safety.coverClosed = s.safety.coverClosed := by
  and_intros <;> (unfold writeRegister; (repeat' split) <;> simp)

@[simp] theorem commitPair_frame (a : Nat) (low high : Word) (s : State) :
    (commitPair a low high s).pending = s.pending ∧ (commitPair a low high s).freeCount = s.freeCount ∧
    (commitPair a low high s).now = s.now ∧ (commitPair a low high s).pins = s.pins ∧ (commitPair a low high
    s).intake = s.intake ∧ (commitPair a low high s).supervisor = s.supervisor ∧ (commitPair a low high
    s).admission = s.admission ∧ (commitPair a low high s).tracker = s.tracker ∧ (commitPair a low high
    s).transport = s.transport ∧ (commitPair a low high s).banks = s.banks ∧ (commitPair a low high s).claimLead
    = s.claimLead ∧ (commitPair a low high s).wash = s.wash ∧ (commitPair a low high s).drying = s.drying ∧
    (commitPair a low high s).shuttle = s.shuttle ∧ (commitPair a low high s).chamber = s.chamber ∧ (commitPair
    a low high s).link = s.link ∧ (commitPair a low high s).safety = s.safety ∧ (commitPair a low high s).cal =
    s.cal ∧ (commitPair a low high s).bus.capture = s.bus.capture ∧ (commitPair a low high s).bus.hold =
    s.bus.hold ∧ (commitPair a low high s).bus.dataOut = s.bus.dataOut ∧ (commitPair a low high
    s).bus.resetSource = s.bus.resetSource ∧ (commitPair a low high s).bus.mask = s.bus.mask ∧ (commitPair a low
    high s).bus.interval = s.bus.interval ∧ (commitPair a low high s).bus.hbTimeout = s.bus.hbTimeout ∧
    (commitPair a low high s).bus.hbTimer = s.bus.hbTimer := by
  and_intros <;> (unfold commitPair; (repeat' split) <;> simp)

@[simp] theorem holdOffExpired_frame (s : State) :
    (holdOffExpired s).pending = s.pending ∧ (holdOffExpired s).freeCount = s.freeCount ∧ (holdOffExpired s).now
    = s.now ∧ (holdOffExpired s).pins = s.pins ∧ (holdOffExpired s).intake = s.intake ∧ (holdOffExpired
    s).supervisor = s.supervisor ∧ (holdOffExpired s).admission = s.admission ∧ (holdOffExpired s).tracker =
    s.tracker ∧ (holdOffExpired s).transport = s.transport ∧ (holdOffExpired s).banks = s.banks ∧
    (holdOffExpired s).claimLead = s.claimLead ∧ (holdOffExpired s).wash = s.wash ∧ (holdOffExpired s).drying =
    s.drying ∧ (holdOffExpired s).shuttle = s.shuttle ∧ (holdOffExpired s).chamber = s.chamber ∧ (holdOffExpired
    s).link = s.link ∧ (holdOffExpired s).safety = s.safety ∧ (holdOffExpired s).cal = s.cal ∧ (holdOffExpired
    s).bus.ram = s.bus.ram ∧ (holdOffExpired s).bus.capture = s.bus.capture ∧ (holdOffExpired s).bus.hold =
    s.bus.hold ∧ (holdOffExpired s).bus.dataOut = s.bus.dataOut ∧ (holdOffExpired s).bus.resetSource =
    s.bus.resetSource ∧ (holdOffExpired s).bus.protect = s.bus.protect ∧ (holdOffExpired s).bus.latched =
    s.bus.latched ∧ (holdOffExpired s).bus.mask = s.bus.mask ∧ (holdOffExpired s).bus.interval = s.bus.interval
    ∧ (holdOffExpired s).bus.hbTimeout = s.bus.hbTimeout ∧ (holdOffExpired s).bus.hbTimer = s.bus.hbTimer := by
  and_intros <;> (unfold holdOffExpired; (try dsimp only); (repeat' split) <;> simp)

end Sys2Proof.Machine
end

