-- ==== Sys2Proof/Laws/FrameTimers.lean ====
section
/-! SUPPORT. What the operations of Machine/Timers.lean leave unchanged: one frame lemma for each, which
`simp` takes part by part. -/

namespace Sys2Proof.Machine

@[simp] theorem safetyChange_frame (i : SafetyInput) (level : Bool) (s : State) :
    (safetyChange i level s).pending = s.pending ∧ (safetyChange i level s).freeCount = s.freeCount ∧
    (safetyChange i level s).now = s.now ∧ (safetyChange i level s).bus = s.bus ∧ (safetyChange i level
    s).intake = s.intake ∧ (safetyChange i level s).supervisor = s.supervisor ∧ (safetyChange i level
    s).admission = s.admission ∧ (safetyChange i level s).tracker = s.tracker ∧ (safetyChange i level
    s).transport = s.transport ∧ (safetyChange i level s).banks = s.banks ∧ (safetyChange i level s).claimLead =
    s.claimLead ∧ (safetyChange i level s).wash = s.wash ∧ (safetyChange i level s).drying = s.drying ∧
    (safetyChange i level s).shuttle = s.shuttle ∧ (safetyChange i level s).chamber = s.chamber ∧ (safetyChange
    i level s).link = s.link ∧ (safetyChange i level s).cal = s.cal ∧ (safetyChange i level s).safety.lineSafe =
    s.safety.lineSafe ∧ (safetyChange i level s).safety.estop = s.safety.estop ∧ (safetyChange i level
    s).safety.coverClosed = s.safety.coverClosed := by
  and_intros <;> (unfold safetyChange; (try dsimp only); (repeat' split) <;> simp)

@[simp] theorem settledEstop_frame (asserted : Bool) (s : State) :
    (settledEstop asserted s).pending = s.pending ∧ (settledEstop asserted s).freeCount = s.freeCount ∧
    (settledEstop asserted s).now = s.now ∧ (settledEstop asserted s).pins = s.pins ∧ (settledEstop asserted
    s).intake = s.intake ∧ (settledEstop asserted s).claimLead = s.claimLead ∧ (settledEstop asserted s).cal =
    s.cal ∧ (settledEstop asserted s).bus.capture = s.bus.capture ∧ (settledEstop asserted s).bus.hold =
    s.bus.hold ∧ (settledEstop asserted s).bus.dataOut = s.bus.dataOut ∧ (settledEstop asserted
    s).bus.resetSource = s.bus.resetSource ∧ (settledEstop asserted s).bus.protect = s.bus.protect ∧
    (settledEstop asserted s).bus.mask = s.bus.mask ∧ (settledEstop asserted s).bus.interval = s.bus.interval ∧
    (settledEstop asserted s).bus.hbTimeout = s.bus.hbTimeout ∧ (settledEstop asserted s).bus.hbTimer =
    s.bus.hbTimer ∧ (settledEstop asserted s).supervisor.lineTime = s.supervisor.lineTime ∧ (settledEstop
    asserted s).supervisor.outcome = s.supervisor.outcome ∧ (settledEstop asserted s).supervisor.timer =
    s.supervisor.timer ∧ (settledEstop asserted s).admission.queue = s.admission.queue ∧ (settledEstop asserted
    s).admission.holdReason = s.admission.holdReason ∧ (settledEstop asserted s).admission.epochNo =
    s.admission.epochNo ∧ (settledEstop asserted s).admission.epochSpeed = s.admission.epochSpeed ∧
    (settledEstop asserted s).admission.misfeedHold = s.admission.misfeedHold ∧ (settledEstop asserted
    s).admission.mark = s.admission.mark ∧ (settledEstop asserted s).tracker.strayPending =
    s.tracker.strayPending ∧ (settledEstop asserted s).safety.coverClosed = s.safety.coverClosed := by
  and_intros <;> (unfold settledEstop; (try dsimp only); (repeat' split) <;> simp)

@[simp] theorem settledCover_frame (closed : Bool) (s : State) :
    (settledCover closed s).pending = s.pending ∧ (settledCover closed s).freeCount = s.freeCount ∧
    (settledCover closed s).now = s.now ∧ (settledCover closed s).pins = s.pins ∧ (settledCover closed s).intake
    = s.intake ∧ (settledCover closed s).claimLead = s.claimLead ∧ (settledCover closed s).cal = s.cal ∧
    (settledCover closed s).bus.capture = s.bus.capture ∧ (settledCover closed s).bus.hold = s.bus.hold ∧
    (settledCover closed s).bus.dataOut = s.bus.dataOut ∧ (settledCover closed s).bus.resetSource =
    s.bus.resetSource ∧ (settledCover closed s).bus.protect = s.bus.protect ∧ (settledCover closed s).bus.mask =
    s.bus.mask ∧ (settledCover closed s).bus.interval = s.bus.interval ∧ (settledCover closed s).bus.hbTimeout =
    s.bus.hbTimeout ∧ (settledCover closed s).bus.hbTimer = s.bus.hbTimer ∧ (settledCover closed
    s).supervisor.lineTime = s.supervisor.lineTime ∧ (settledCover closed s).supervisor.outcome =
    s.supervisor.outcome ∧ (settledCover closed s).supervisor.timer = s.supervisor.timer ∧ (settledCover closed
    s).admission.queue = s.admission.queue ∧ (settledCover closed s).admission.holdReason =
    s.admission.holdReason ∧ (settledCover closed s).admission.epochNo = s.admission.epochNo ∧ (settledCover
    closed s).admission.epochSpeed = s.admission.epochSpeed ∧ (settledCover closed s).admission.misfeedHold =
    s.admission.misfeedHold ∧ (settledCover closed s).admission.mark = s.admission.mark ∧ (settledCover closed
    s).tracker.strayPending = s.tracker.strayPending ∧ (settledCover closed s).safety.estop = s.safety.estop := by
  and_intros <;> (unfold settledCover; (try dsimp only); (repeat' split) <;> simp)

@[simp] theorem safetySettled_frame (i : SafetyInput) (s : State) :
    (safetySettled i s).pending = s.pending ∧ (safetySettled i s).freeCount = s.freeCount ∧ (safetySettled i
    s).now = s.now ∧ (safetySettled i s).pins = s.pins ∧ (safetySettled i s).intake = s.intake ∧ (safetySettled
    i s).claimLead = s.claimLead ∧ (safetySettled i s).cal = s.cal ∧ (safetySettled i s).bus.capture =
    s.bus.capture ∧ (safetySettled i s).bus.hold = s.bus.hold ∧ (safetySettled i s).bus.dataOut = s.bus.dataOut
    ∧ (safetySettled i s).bus.resetSource = s.bus.resetSource ∧ (safetySettled i s).bus.protect = s.bus.protect
    ∧ (safetySettled i s).bus.mask = s.bus.mask ∧ (safetySettled i s).bus.interval = s.bus.interval ∧
    (safetySettled i s).bus.hbTimeout = s.bus.hbTimeout ∧ (safetySettled i s).bus.hbTimer = s.bus.hbTimer ∧
    (safetySettled i s).supervisor.lineTime = s.supervisor.lineTime ∧ (safetySettled i s).supervisor.outcome =
    s.supervisor.outcome ∧ (safetySettled i s).supervisor.timer = s.supervisor.timer ∧ (safetySettled i
    s).admission.queue = s.admission.queue ∧ (safetySettled i s).admission.holdReason = s.admission.holdReason ∧
    (safetySettled i s).admission.epochNo = s.admission.epochNo ∧ (safetySettled i s).admission.epochSpeed =
    s.admission.epochSpeed ∧ (safetySettled i s).admission.misfeedHold = s.admission.misfeedHold ∧
    (safetySettled i s).admission.mark = s.admission.mark ∧ (safetySettled i s).tracker.strayPending =
    s.tracker.strayPending := by
  and_intros <;> (unfold safetySettled; (try dsimp only); (repeat' split) <;> simp)

@[simp] theorem deliverEstopAtReset_frame (s : State) :
    (deliverEstopAtReset s).pending = s.pending ∧ (deliverEstopAtReset s).freeCount = s.freeCount ∧
    (deliverEstopAtReset s).now = s.now ∧ (deliverEstopAtReset s).pins = s.pins ∧ (deliverEstopAtReset s).intake
    = s.intake ∧ (deliverEstopAtReset s).claimLead = s.claimLead ∧ (deliverEstopAtReset s).cal = s.cal ∧
    (deliverEstopAtReset s).bus.capture = s.bus.capture ∧ (deliverEstopAtReset s).bus.hold = s.bus.hold ∧
    (deliverEstopAtReset s).bus.dataOut = s.bus.dataOut ∧ (deliverEstopAtReset s).bus.resetSource =
    s.bus.resetSource ∧ (deliverEstopAtReset s).bus.protect = s.bus.protect ∧ (deliverEstopAtReset s).bus.mask =
    s.bus.mask ∧ (deliverEstopAtReset s).bus.interval = s.bus.interval ∧ (deliverEstopAtReset s).bus.hbTimeout =
    s.bus.hbTimeout ∧ (deliverEstopAtReset s).bus.hbTimer = s.bus.hbTimer ∧ (deliverEstopAtReset
    s).supervisor.lineTime = s.supervisor.lineTime ∧ (deliverEstopAtReset s).supervisor.outcome =
    s.supervisor.outcome ∧ (deliverEstopAtReset s).supervisor.timer = s.supervisor.timer ∧ (deliverEstopAtReset
    s).admission.queue = s.admission.queue ∧ (deliverEstopAtReset s).admission.holdReason =
    s.admission.holdReason ∧ (deliverEstopAtReset s).admission.epochNo = s.admission.epochNo ∧
    (deliverEstopAtReset s).admission.epochSpeed = s.admission.epochSpeed ∧ (deliverEstopAtReset
    s).admission.misfeedHold = s.admission.misfeedHold ∧ (deliverEstopAtReset s).admission.mark =
    s.admission.mark ∧ (deliverEstopAtReset s).tracker.strayPending = s.tracker.strayPending ∧
    (deliverEstopAtReset s).safety.coverClosed = s.safety.coverClosed := by
  and_intros <;> (unfold deliverEstopAtReset; (repeat' split) <;> simp)

@[simp] theorem intakeTick_frame (s : State) :
    (intakeTick s).pending = s.pending ∧ (intakeTick s).freeCount = s.freeCount ∧ (intakeTick s).pins = s.pins ∧
    (intakeTick s).bus = s.bus ∧ (intakeTick s).supervisor = s.supervisor ∧ (intakeTick s).admission =
    s.admission ∧ (intakeTick s).tracker = s.tracker ∧ (intakeTick s).transport = s.transport ∧ (intakeTick
    s).claimLead = s.claimLead ∧ (intakeTick s).wash = s.wash ∧ (intakeTick s).drying = s.drying ∧ (intakeTick
    s).shuttle = s.shuttle ∧ (intakeTick s).chamber = s.chamber ∧ (intakeTick s).link = s.link ∧ (intakeTick
    s).safety = s.safety ∧ (intakeTick s).cal = s.cal ∧ (intakeTick s).intake.order = s.intake.order ∧
    (intakeTick s).intake.lastSeen = s.intake.lastSeen := by
  and_intros <;> (simp [intakeTick])

@[simp] theorem lineTick_frame (s : State) :
    (lineTick s).pending = s.pending ∧ (lineTick s).freeCount = s.freeCount ∧ (lineTick s).pins = s.pins ∧
    (lineTick s).bus = s.bus ∧ (lineTick s).intake = s.intake ∧ (lineTick s).admission = s.admission ∧ (lineTick
    s).tracker = s.tracker ∧ (lineTick s).transport = s.transport ∧ (lineTick s).claimLead = s.claimLead ∧
    (lineTick s).wash = s.wash ∧ (lineTick s).drying = s.drying ∧ (lineTick s).shuttle = s.shuttle ∧ (lineTick
    s).chamber = s.chamber ∧ (lineTick s).link = s.link ∧ (lineTick s).safety = s.safety ∧ (lineTick s).cal =
    s.cal ∧ (lineTick s).supervisor.line = s.supervisor.line ∧ (lineTick s).supervisor.cause =
    s.supervisor.cause ∧ (lineTick s).supervisor.outcome = s.supervisor.outcome := by
  and_intros <;> (simp [lineTick])

@[simp] theorem watchdogTick_frame (s : State) :
    (watchdogTick s).pending = s.pending ∧ (watchdogTick s).freeCount = s.freeCount ∧ (watchdogTick s).pins =
    s.pins ∧ (watchdogTick s).intake = s.intake ∧ (watchdogTick s).claimLead = s.claimLead ∧ (watchdogTick
    s).drying = s.drying ∧ (watchdogTick s).shuttle = s.shuttle ∧ (watchdogTick s).chamber = s.chamber ∧
    (watchdogTick s).safety = s.safety ∧ (watchdogTick s).cal = s.cal ∧ (watchdogTick s).bus.capture =
    s.bus.capture ∧ (watchdogTick s).bus.hold = s.bus.hold ∧ (watchdogTick s).bus.dataOut = s.bus.dataOut ∧
    (watchdogTick s).bus.resetSource = s.bus.resetSource ∧ (watchdogTick s).bus.protect = s.bus.protect ∧
    (watchdogTick s).bus.mask = s.bus.mask ∧ (watchdogTick s).bus.interval = s.bus.interval ∧ (watchdogTick
    s).bus.hbTimeout = s.bus.hbTimeout ∧ (watchdogTick s).bus.hbTimer = s.bus.hbTimer ∧ (watchdogTick
    s).supervisor.lineTime = s.supervisor.lineTime ∧ (watchdogTick s).supervisor.outcome = s.supervisor.outcome
    ∧ (watchdogTick s).supervisor.timer = s.supervisor.timer ∧ (watchdogTick s).admission.mark =
    s.admission.mark ∧ (watchdogTick s).tracker.strayPending = s.tracker.strayPending ∧ (watchdogTick
    s).link.mode = s.link.mode ∧ (watchdogTick s).link.phase = s.link.phase ∧ (watchdogTick s).link.lastNode =
    s.link.lastNode ∧ (watchdogTick s).link.assign = s.link.assign := by
  and_intros <;> (simp [watchdogTick])

@[simp] theorem heartbeatExpired_frame (s : State) :
    (heartbeatExpired s).pending = s.pending ∧ (heartbeatExpired s).freeCount = s.freeCount ∧ (heartbeatExpired
    s).now = s.now ∧ (heartbeatExpired s).pins = s.pins ∧ (heartbeatExpired s).intake = s.intake ∧
    (heartbeatExpired s).tracker = s.tracker ∧ (heartbeatExpired s).claimLead = s.claimLead ∧ (heartbeatExpired
    s).wash = s.wash ∧ (heartbeatExpired s).drying = s.drying ∧ (heartbeatExpired s).shuttle = s.shuttle ∧
    (heartbeatExpired s).chamber = s.chamber ∧ (heartbeatExpired s).link = s.link ∧ (heartbeatExpired s).safety
    = s.safety ∧ (heartbeatExpired s).cal = s.cal ∧ (heartbeatExpired s).bus.ram = s.bus.ram ∧ (heartbeatExpired
    s).bus.capture = s.bus.capture ∧ (heartbeatExpired s).bus.hold = s.bus.hold ∧ (heartbeatExpired
    s).bus.dataOut = s.bus.dataOut ∧ (heartbeatExpired s).bus.resetSource = s.bus.resetSource ∧
    (heartbeatExpired s).bus.protect = s.bus.protect ∧ (heartbeatExpired s).bus.mask = s.bus.mask ∧
    (heartbeatExpired s).bus.interval = s.bus.interval ∧ (heartbeatExpired s).bus.hbTimeout = s.bus.hbTimeout ∧
    (heartbeatExpired s).supervisor.cause = s.supervisor.cause ∧ (heartbeatExpired s).supervisor.lineTime =
    s.supervisor.lineTime ∧ (heartbeatExpired s).supervisor.outcome = s.supervisor.outcome ∧ (heartbeatExpired
    s).supervisor.timer = s.supervisor.timer ∧ (heartbeatExpired s).admission.queue = s.admission.queue ∧
    (heartbeatExpired s).admission.holdReason = s.admission.holdReason ∧ (heartbeatExpired
    s).admission.commitments = s.admission.commitments ∧ (heartbeatExpired s).admission.epochNo =
    s.admission.epochNo ∧ (heartbeatExpired s).admission.epochSpeed = s.admission.epochSpeed ∧ (heartbeatExpired
    s).admission.misfeedHold = s.admission.misfeedHold ∧ (heartbeatExpired s).admission.gateOpen =
    s.admission.gateOpen ∧ (heartbeatExpired s).admission.mark = s.admission.mark := by
  and_intros <;> (simp [heartbeatExpired])

@[simp] theorem retryExpired_frame (s : State) :
    (retryExpired s).pending = s.pending ∧ (retryExpired s).freeCount = s.freeCount ∧ (retryExpired s).now =
    s.now ∧ (retryExpired s).pins = s.pins ∧ (retryExpired s).intake = s.intake ∧ (retryExpired s).supervisor =
    s.supervisor ∧ (retryExpired s).admission = s.admission ∧ (retryExpired s).tracker = s.tracker ∧
    (retryExpired s).transport = s.transport ∧ (retryExpired s).banks = s.banks ∧ (retryExpired s).claimLead =
    s.claimLead ∧ (retryExpired s).drying = s.drying ∧ (retryExpired s).shuttle = s.shuttle ∧ (retryExpired
    s).chamber = s.chamber ∧ (retryExpired s).safety = s.safety ∧ (retryExpired s).cal = s.cal ∧ (retryExpired
    s).bus.ram = s.bus.ram ∧ (retryExpired s).bus.capture = s.bus.capture ∧ (retryExpired s).bus.hold =
    s.bus.hold ∧ (retryExpired s).bus.dataOut = s.bus.dataOut ∧ (retryExpired s).bus.resetSource =
    s.bus.resetSource ∧ (retryExpired s).bus.protect = s.bus.protect ∧ (retryExpired s).bus.mask = s.bus.mask ∧
    (retryExpired s).bus.interval = s.bus.interval ∧ (retryExpired s).bus.hbTimeout = s.bus.hbTimeout ∧
    (retryExpired s).bus.hbTimer = s.bus.hbTimer ∧ (retryExpired s).link.mode = s.link.mode ∧ (retryExpired
    s).link.phase = s.link.phase ∧ (retryExpired s).link.lastNode = s.link.lastNode ∧ (retryExpired
    s).link.assign = s.link.assign ∧ (retryExpired s).wash.load = s.wash.load ∧ (retryExpired s).wash.hold =
    s.wash.hold := by
  and_intros <;> (unfold retryExpired; (try dsimp only); (repeat' split) <;> simp)

@[simp] theorem moveExpired_frame (s : State) :
    (moveExpired s).pending = s.pending ∧ (moveExpired s).freeCount = s.freeCount ∧ (moveExpired s).now = s.now
    ∧ (moveExpired s).pins = s.pins ∧ (moveExpired s).intake = s.intake ∧ (moveExpired s).supervisor =
    s.supervisor ∧ (moveExpired s).transport = s.transport ∧ (moveExpired s).banks = s.banks ∧ (moveExpired
    s).claimLead = s.claimLead ∧ (moveExpired s).wash = s.wash ∧ (moveExpired s).safety = s.safety ∧
    (moveExpired s).cal = s.cal ∧ (moveExpired s).bus.capture = s.bus.capture ∧ (moveExpired s).bus.hold =
    s.bus.hold ∧ (moveExpired s).bus.dataOut = s.bus.dataOut ∧ (moveExpired s).bus.resetSource =
    s.bus.resetSource ∧ (moveExpired s).bus.protect = s.bus.protect ∧ (moveExpired s).bus.mask = s.bus.mask ∧
    (moveExpired s).bus.interval = s.bus.interval ∧ (moveExpired s).bus.hbTimeout = s.bus.hbTimeout ∧
    (moveExpired s).bus.hbTimer = s.bus.hbTimer ∧ (moveExpired s).admission.queue = s.admission.queue ∧
    (moveExpired s).admission.holdReason = s.admission.holdReason ∧ (moveExpired s).admission.epochNo =
    s.admission.epochNo ∧ (moveExpired s).admission.epochSpeed = s.admission.epochSpeed ∧ (moveExpired
    s).admission.epochCurrent = s.admission.epochCurrent ∧ (moveExpired s).admission.misfeedHold =
    s.admission.misfeedHold ∧ (moveExpired s).admission.gateOpen = s.admission.gateOpen ∧ (moveExpired
    s).admission.mark = s.admission.mark ∧ (moveExpired s).tracker.train = s.tracker.train ∧ (moveExpired
    s).tracker.strayPending = s.tracker.strayPending ∧ (moveExpired s).link.mode = s.link.mode ∧ (moveExpired
    s).link.phase = s.link.phase ∧ (moveExpired s).link.lastNode = s.link.lastNode ∧ (moveExpired s).link.assign
    = s.link.assign := by
  and_intros <;> (simp [moveExpired])

@[simp] theorem ignitionExpired_frame (s : State) :
    (ignitionExpired s).pending = s.pending ∧ (ignitionExpired s).freeCount = s.freeCount ∧ (ignitionExpired
    s).now = s.now ∧ (ignitionExpired s).pins = s.pins ∧ (ignitionExpired s).intake = s.intake ∧
    (ignitionExpired s).supervisor = s.supervisor ∧ (ignitionExpired s).transport = s.transport ∧
    (ignitionExpired s).banks = s.banks ∧ (ignitionExpired s).claimLead = s.claimLead ∧ (ignitionExpired s).wash
    = s.wash ∧ (ignitionExpired s).safety = s.safety ∧ (ignitionExpired s).cal = s.cal ∧ (ignitionExpired
    s).bus.capture = s.bus.capture ∧ (ignitionExpired s).bus.hold = s.bus.hold ∧ (ignitionExpired s).bus.dataOut
    = s.bus.dataOut ∧ (ignitionExpired s).bus.resetSource = s.bus.resetSource ∧ (ignitionExpired s).bus.protect
    = s.bus.protect ∧ (ignitionExpired s).bus.mask = s.bus.mask ∧ (ignitionExpired s).bus.interval =
    s.bus.interval ∧ (ignitionExpired s).bus.hbTimeout = s.bus.hbTimeout ∧ (ignitionExpired s).bus.hbTimer =
    s.bus.hbTimer ∧ (ignitionExpired s).admission.queue = s.admission.queue ∧ (ignitionExpired
    s).admission.holdReason = s.admission.holdReason ∧ (ignitionExpired s).admission.epochNo =
    s.admission.epochNo ∧ (ignitionExpired s).admission.epochSpeed = s.admission.epochSpeed ∧ (ignitionExpired
    s).admission.epochCurrent = s.admission.epochCurrent ∧ (ignitionExpired s).admission.misfeedHold =
    s.admission.misfeedHold ∧ (ignitionExpired s).admission.gateOpen = s.admission.gateOpen ∧ (ignitionExpired
    s).admission.mark = s.admission.mark ∧ (ignitionExpired s).tracker.train = s.tracker.train ∧
    (ignitionExpired s).tracker.strayPending = s.tracker.strayPending ∧ (ignitionExpired s).link.mode =
    s.link.mode ∧ (ignitionExpired s).link.phase = s.link.phase ∧ (ignitionExpired s).link.lastNode =
    s.link.lastNode ∧ (ignitionExpired s).link.assign = s.link.assign := by
  and_intros <;> (unfold ignitionExpired; (try dsimp only); (repeat' split) <;> simp)

@[simp] theorem stabilizingExpired_frame (s : State) :
    (stabilizingExpired s).pending = s.pending ∧ (stabilizingExpired s).freeCount = s.freeCount ∧
    (stabilizingExpired s).now = s.now ∧ (stabilizingExpired s).pins = s.pins ∧ (stabilizingExpired s).intake =
    s.intake ∧ (stabilizingExpired s).supervisor = s.supervisor ∧ (stabilizingExpired s).transport = s.transport
    ∧ (stabilizingExpired s).banks = s.banks ∧ (stabilizingExpired s).claimLead = s.claimLead ∧
    (stabilizingExpired s).wash = s.wash ∧ (stabilizingExpired s).safety = s.safety ∧ (stabilizingExpired s).cal
    = s.cal ∧ (stabilizingExpired s).bus.capture = s.bus.capture ∧ (stabilizingExpired s).bus.hold = s.bus.hold
    ∧ (stabilizingExpired s).bus.dataOut = s.bus.dataOut ∧ (stabilizingExpired s).bus.resetSource =
    s.bus.resetSource ∧ (stabilizingExpired s).bus.protect = s.bus.protect ∧ (stabilizingExpired s).bus.latched
    = s.bus.latched ∧ (stabilizingExpired s).bus.mask = s.bus.mask ∧ (stabilizingExpired s).bus.attn =
    s.bus.attn ∧ (stabilizingExpired s).bus.holdOff = s.bus.holdOff ∧ (stabilizingExpired s).bus.interval =
    s.bus.interval ∧ (stabilizingExpired s).bus.hbTimeout = s.bus.hbTimeout ∧ (stabilizingExpired s).bus.hbTimer
    = s.bus.hbTimer ∧ (stabilizingExpired s).admission.queue = s.admission.queue ∧ (stabilizingExpired
    s).admission.holdReason = s.admission.holdReason ∧ (stabilizingExpired s).admission.epochNo =
    s.admission.epochNo ∧ (stabilizingExpired s).admission.epochSpeed = s.admission.epochSpeed ∧
    (stabilizingExpired s).admission.epochCurrent = s.admission.epochCurrent ∧ (stabilizingExpired
    s).admission.misfeedHold = s.admission.misfeedHold ∧ (stabilizingExpired s).admission.gateOpen =
    s.admission.gateOpen ∧ (stabilizingExpired s).admission.mark = s.admission.mark ∧ (stabilizingExpired
    s).tracker.train = s.tracker.train ∧ (stabilizingExpired s).tracker.strayPending = s.tracker.strayPending ∧
    (stabilizingExpired s).link.mode = s.link.mode ∧ (stabilizingExpired s).link.phase = s.link.phase ∧
    (stabilizingExpired s).link.lastNode = s.link.lastNode ∧ (stabilizingExpired s).link.assign = s.link.assign := by
  and_intros <;> (unfold stabilizingExpired; (try dsimp only); (repeat' split) <;> simp)

@[simp] theorem idleExpired_frame (s : State) :
    (idleExpired s).pending = s.pending ∧ (idleExpired s).freeCount = s.freeCount ∧ (idleExpired s).now = s.now
    ∧ (idleExpired s).pins = s.pins ∧ (idleExpired s).intake = s.intake ∧ (idleExpired s).supervisor =
    s.supervisor ∧ (idleExpired s).transport = s.transport ∧ (idleExpired s).banks = s.banks ∧ (idleExpired
    s).claimLead = s.claimLead ∧ (idleExpired s).wash = s.wash ∧ (idleExpired s).safety = s.safety ∧
    (idleExpired s).cal = s.cal ∧ (idleExpired s).bus.capture = s.bus.capture ∧ (idleExpired s).bus.hold =
    s.bus.hold ∧ (idleExpired s).bus.dataOut = s.bus.dataOut ∧ (idleExpired s).bus.resetSource =
    s.bus.resetSource ∧ (idleExpired s).bus.protect = s.bus.protect ∧ (idleExpired s).bus.latched =
    s.bus.latched ∧ (idleExpired s).bus.mask = s.bus.mask ∧ (idleExpired s).bus.attn = s.bus.attn ∧ (idleExpired
    s).bus.holdOff = s.bus.holdOff ∧ (idleExpired s).bus.interval = s.bus.interval ∧ (idleExpired
    s).bus.hbTimeout = s.bus.hbTimeout ∧ (idleExpired s).bus.hbTimer = s.bus.hbTimer ∧ (idleExpired
    s).admission.queue = s.admission.queue ∧ (idleExpired s).admission.holdReason = s.admission.holdReason ∧
    (idleExpired s).admission.epochNo = s.admission.epochNo ∧ (idleExpired s).admission.epochSpeed =
    s.admission.epochSpeed ∧ (idleExpired s).admission.epochCurrent = s.admission.epochCurrent ∧ (idleExpired
    s).admission.misfeedHold = s.admission.misfeedHold ∧ (idleExpired s).admission.gateOpen =
    s.admission.gateOpen ∧ (idleExpired s).admission.mark = s.admission.mark ∧ (idleExpired s).tracker.train =
    s.tracker.train ∧ (idleExpired s).tracker.strayPending = s.tracker.strayPending ∧ (idleExpired s).link.mode
    = s.link.mode ∧ (idleExpired s).link.phase = s.link.phase ∧ (idleExpired s).link.lastNode = s.link.lastNode
    ∧ (idleExpired s).link.assign = s.link.assign := by
  and_intros <;> (unfold idleExpired; (try dsimp only); (repeat' split) <;> simp)

@[simp] theorem secondExpired_frame (s : State) :
    (secondExpired s).pending = s.pending ∧ (secondExpired s).freeCount = s.freeCount ∧ (secondExpired s).now =
    s.now ∧ (secondExpired s).pins = s.pins ∧ (secondExpired s).intake = s.intake ∧ (secondExpired s).supervisor
    = s.supervisor ∧ (secondExpired s).transport = s.transport ∧ (secondExpired s).banks = s.banks ∧
    (secondExpired s).claimLead = s.claimLead ∧ (secondExpired s).wash = s.wash ∧ (secondExpired s).safety =
    s.safety ∧ (secondExpired s).cal = s.cal ∧ (secondExpired s).bus.capture = s.bus.capture ∧ (secondExpired
    s).bus.hold = s.bus.hold ∧ (secondExpired s).bus.dataOut = s.bus.dataOut ∧ (secondExpired s).bus.resetSource
    = s.bus.resetSource ∧ (secondExpired s).bus.protect = s.bus.protect ∧ (secondExpired s).bus.latched =
    s.bus.latched ∧ (secondExpired s).bus.mask = s.bus.mask ∧ (secondExpired s).bus.attn = s.bus.attn ∧
    (secondExpired s).bus.holdOff = s.bus.holdOff ∧ (secondExpired s).bus.interval = s.bus.interval ∧
    (secondExpired s).bus.hbTimeout = s.bus.hbTimeout ∧ (secondExpired s).bus.hbTimer = s.bus.hbTimer ∧
    (secondExpired s).admission.queue = s.admission.queue ∧ (secondExpired s).admission.holdReason =
    s.admission.holdReason ∧ (secondExpired s).admission.epochNo = s.admission.epochNo ∧ (secondExpired
    s).admission.epochSpeed = s.admission.epochSpeed ∧ (secondExpired s).admission.epochCurrent =
    s.admission.epochCurrent ∧ (secondExpired s).admission.misfeedHold = s.admission.misfeedHold ∧
    (secondExpired s).admission.gateOpen = s.admission.gateOpen ∧ (secondExpired s).admission.mark =
    s.admission.mark ∧ (secondExpired s).tracker.train = s.tracker.train ∧ (secondExpired
    s).tracker.strayPending = s.tracker.strayPending ∧ (secondExpired s).link.mode = s.link.mode ∧
    (secondExpired s).link.phase = s.link.phase ∧ (secondExpired s).link.lastNode = s.link.lastNode ∧
    (secondExpired s).link.assign = s.link.assign := by
  and_intros <;> (unfold secondExpired; (try dsimp only); (repeat' split) <;> simp)

@[simp] theorem openShutterExpired_frame (s : State) :
    (openShutterExpired s).pending = s.pending ∧ (openShutterExpired s).freeCount = s.freeCount ∧
    (openShutterExpired s).now = s.now ∧ (openShutterExpired s).pins = s.pins ∧ (openShutterExpired s).intake =
    s.intake ∧ (openShutterExpired s).supervisor = s.supervisor ∧ (openShutterExpired s).transport = s.transport
    ∧ (openShutterExpired s).banks = s.banks ∧ (openShutterExpired s).claimLead = s.claimLead ∧
    (openShutterExpired s).wash = s.wash ∧ (openShutterExpired s).safety = s.safety ∧ (openShutterExpired s).cal
    = s.cal ∧ (openShutterExpired s).bus.capture = s.bus.capture ∧ (openShutterExpired s).bus.hold = s.bus.hold
    ∧ (openShutterExpired s).bus.dataOut = s.bus.dataOut ∧ (openShutterExpired s).bus.resetSource =
    s.bus.resetSource ∧ (openShutterExpired s).bus.protect = s.bus.protect ∧ (openShutterExpired s).bus.latched
    = s.bus.latched ∧ (openShutterExpired s).bus.mask = s.bus.mask ∧ (openShutterExpired s).bus.attn =
    s.bus.attn ∧ (openShutterExpired s).bus.holdOff = s.bus.holdOff ∧ (openShutterExpired s).bus.interval =
    s.bus.interval ∧ (openShutterExpired s).bus.hbTimeout = s.bus.hbTimeout ∧ (openShutterExpired s).bus.hbTimer
    = s.bus.hbTimer ∧ (openShutterExpired s).admission.queue = s.admission.queue ∧ (openShutterExpired
    s).admission.holdReason = s.admission.holdReason ∧ (openShutterExpired s).admission.epochNo =
    s.admission.epochNo ∧ (openShutterExpired s).admission.epochSpeed = s.admission.epochSpeed ∧
    (openShutterExpired s).admission.epochCurrent = s.admission.epochCurrent ∧ (openShutterExpired
    s).admission.misfeedHold = s.admission.misfeedHold ∧ (openShutterExpired s).admission.gateOpen =
    s.admission.gateOpen ∧ (openShutterExpired s).admission.mark = s.admission.mark ∧ (openShutterExpired
    s).tracker.train = s.tracker.train ∧ (openShutterExpired s).tracker.strayPending = s.tracker.strayPending ∧
    (openShutterExpired s).link.mode = s.link.mode ∧ (openShutterExpired s).link.phase = s.link.phase ∧
    (openShutterExpired s).link.lastNode = s.link.lastNode ∧ (openShutterExpired s).link.assign = s.link.assign := by
  and_intros <;> (unfold openShutterExpired; (try dsimp only); (repeat' split) <;> simp)

@[simp] theorem pwmStart_frame (k : Bank) (s : State) :
    (pwmStart k s).pending = s.pending ∧ (pwmStart k s).freeCount = s.freeCount ∧ (pwmStart k s).now = s.now ∧
    (pwmStart k s).pins = s.pins ∧ (pwmStart k s).bus = s.bus ∧ (pwmStart k s).intake = s.intake ∧ (pwmStart k
    s).supervisor = s.supervisor ∧ (pwmStart k s).admission = s.admission ∧ (pwmStart k s).tracker = s.tracker ∧
    (pwmStart k s).transport = s.transport ∧ (pwmStart k s).claimLead = s.claimLead ∧ (pwmStart k s).wash =
    s.wash ∧ (pwmStart k s).drying = s.drying ∧ (pwmStart k s).shuttle = s.shuttle ∧ (pwmStart k s).chamber =
    s.chamber ∧ (pwmStart k s).link = s.link ∧ (pwmStart k s).safety = s.safety ∧ (pwmStart k s).cal = s.cal := by
  and_intros <;> (simp [pwmStart])

@[simp] theorem onTimeTick_frame (k : Bank) (s : State) :
    (onTimeTick k s).pending = s.pending ∧ (onTimeTick k s).freeCount = s.freeCount ∧ (onTimeTick k s).pins =
    s.pins ∧ (onTimeTick k s).bus = s.bus ∧ (onTimeTick k s).intake = s.intake ∧ (onTimeTick k s).supervisor =
    s.supervisor ∧ (onTimeTick k s).admission = s.admission ∧ (onTimeTick k s).tracker = s.tracker ∧ (onTimeTick
    k s).transport = s.transport ∧ (onTimeTick k s).claimLead = s.claimLead ∧ (onTimeTick k s).wash = s.wash ∧
    (onTimeTick k s).drying = s.drying ∧ (onTimeTick k s).shuttle = s.shuttle ∧ (onTimeTick k s).chamber =
    s.chamber ∧ (onTimeTick k s).link = s.link ∧ (onTimeTick k s).safety = s.safety ∧ (onTimeTick k s).cal =
    s.cal := by
  and_intros <;> (unfold onTimeTick; (try dsimp only); (repeat' split) <;> simp)

end Sys2Proof.Machine
end

