-- ==== Sys2Proof/Laws/FrameReset.lean ====
section
/-! SUPPORT. What the operations of Machine/Reset.lean leave unchanged: one frame lemma for each, which
`simp` takes part by part. -/

namespace Sys2Proof.Machine

@[simp] theorem loadAtReset_frame (s : State) :
    (loadAtReset s).pending = s.pending ∧ (loadAtReset s).freeCount = s.freeCount ∧ (loadAtReset s).now = s.now
    ∧ (loadAtReset s).pins = s.pins ∧ (loadAtReset s).bus = s.bus ∧ (loadAtReset s).intake = s.intake ∧
    (loadAtReset s).supervisor = s.supervisor ∧ (loadAtReset s).tracker = s.tracker ∧ (loadAtReset s).transport
    = s.transport ∧ (loadAtReset s).shuttle = s.shuttle ∧ (loadAtReset s).chamber = s.chamber ∧ (loadAtReset
    s).safety = s.safety ∧ (loadAtReset s).admission.queue = s.admission.queue ∧ (loadAtReset
    s).admission.holdReason = s.admission.holdReason ∧ (loadAtReset s).admission.commitments =
    s.admission.commitments ∧ (loadAtReset s).admission.epochNo = s.admission.epochNo ∧ (loadAtReset
    s).admission.epochSpeed = s.admission.epochSpeed ∧ (loadAtReset s).admission.epochCurrent =
    s.admission.epochCurrent ∧ (loadAtReset s).admission.misfeedHold = s.admission.misfeedHold ∧ (loadAtReset
    s).admission.gateOpen = s.admission.gateOpen ∧ (loadAtReset s).admission.mark = s.admission.mark ∧
    (loadAtReset s).link.mode = s.link.mode ∧ (loadAtReset s).link.phase = s.link.phase ∧ (loadAtReset
    s).link.nodes = s.link.nodes ∧ (loadAtReset s).cal.store = s.cal.store ∧ (loadAtReset s).cal.opState =
    s.cal.opState ∧ (loadAtReset s).wash.load = s.wash.load ∧ (loadAtReset s).wash.hold = s.wash.hold ∧
    (loadAtReset s).wash.replenish = s.wash.replenish ∧ (loadAtReset s).drying.rack = s.drying.rack ∧
    (loadAtReset s).drying.drawers = s.drying.drawers ∧ (loadAtReset s).drying.dryList = s.drying.dryList := by
  and_intros <;> (simp [loadAtReset])

@[simp] theorem takeInputs_frame (s : State) :
    (takeInputs s).freeCount = s.freeCount ∧ (takeInputs s).now = s.now ∧
    (takeInputs s).pins = s.pins ∧ (takeInputs s).bus = s.bus ∧ (takeInputs s).intake = s.intake ∧ (takeInputs
    s).supervisor = s.supervisor ∧ (takeInputs s).admission = s.admission ∧ (takeInputs s).tracker = s.tracker ∧
    (takeInputs s).claimLead = s.claimLead ∧ (takeInputs s).wash = s.wash ∧ (takeInputs s).drying = s.drying ∧
    (takeInputs s).shuttle = s.shuttle ∧ (takeInputs s).chamber = s.chamber ∧ (takeInputs s).link = s.link ∧
    (takeInputs s).cal = s.cal ∧ (takeInputs s).transport.position = s.transport.position ∧ (takeInputs
    s).transport.demand = s.transport.demand ∧ (takeInputs s).transport.faults = s.transport.faults ∧
    (takeInputs s).transport.beltState = s.transport.beltState ∧ (takeInputs s).transport.watchdog =
    s.transport.watchdog ∧ (takeInputs s).transport.history = s.transport.history ∧ (takeInputs
    s).transport.estimate = s.transport.estimate ∧ (takeInputs s).safety.lineSafe = s.safety.lineSafe := by
  and_intros <;> (simp [takeInputs])

@[simp] theorem startLink_frame (s : State) :
    (startLink s).pending = s.pending ∧ (startLink s).freeCount = s.freeCount ∧ (startLink s).now = s.now ∧
    (startLink s).pins = s.pins ∧ (startLink s).bus = s.bus ∧ (startLink s).intake = s.intake ∧ (startLink
    s).supervisor = s.supervisor ∧ (startLink s).admission = s.admission ∧ (startLink s).tracker = s.tracker ∧
    (startLink s).transport = s.transport ∧ (startLink s).banks = s.banks ∧ (startLink s).claimLead =
    s.claimLead ∧ (startLink s).wash = s.wash ∧ (startLink s).drying = s.drying ∧ (startLink s).shuttle =
    s.shuttle ∧ (startLink s).chamber = s.chamber ∧ (startLink s).safety = s.safety ∧ (startLink s).cal = s.cal
    ∧ (startLink s).link.mode = s.link.mode ∧ (startLink s).link.lastNode = s.link.lastNode ∧ (startLink
    s).link.assign = s.link.assign := by
  and_intros <;> (simp [startLink])

@[simp] theorem startWash_frame (load : Nat) (s : State) :
    (startWash load s).pending = s.pending ∧ (startWash load s).freeCount = s.freeCount ∧ (startWash load s).now
    = s.now ∧ (startWash load s).pins = s.pins ∧ (startWash load s).intake = s.intake ∧ (startWash load
    s).supervisor = s.supervisor ∧ (startWash load s).admission = s.admission ∧ (startWash load s).tracker =
    s.tracker ∧ (startWash load s).transport = s.transport ∧ (startWash load s).banks = s.banks ∧ (startWash
    load s).claimLead = s.claimLead ∧ (startWash load s).drying = s.drying ∧ (startWash load s).shuttle =
    s.shuttle ∧ (startWash load s).chamber = s.chamber ∧ (startWash load s).safety = s.safety ∧ (startWash load
    s).cal = s.cal ∧ (startWash load s).bus.ram = s.bus.ram ∧ (startWash load s).bus.capture = s.bus.capture ∧
    (startWash load s).bus.hold = s.bus.hold ∧ (startWash load s).bus.dataOut = s.bus.dataOut ∧ (startWash load
    s).bus.resetSource = s.bus.resetSource ∧ (startWash load s).bus.protect = s.bus.protect ∧ (startWash load
    s).bus.mask = s.bus.mask ∧ (startWash load s).bus.interval = s.bus.interval ∧ (startWash load
    s).bus.hbTimeout = s.bus.hbTimeout ∧ (startWash load s).bus.hbTimer = s.bus.hbTimer ∧ (startWash load
    s).link.mode = s.link.mode ∧ (startWash load s).link.phase = s.link.phase ∧ (startWash load s).link.lastNode
    = s.link.lastNode ∧ (startWash load s).link.assign = s.link.assign := by
  and_intros <;> (simp [startWash])

@[simp] theorem loseStation_frame (i : PlateId) (oMin oMax oVerdict : Nat) (s : State) :
    (loseStation i oMin oMax oVerdict s).pending = s.pending ∧ (loseStation i oMin oMax oVerdict s).freeCount =
    s.freeCount ∧ (loseStation i oMin oMax oVerdict s).now = s.now ∧ (loseStation i oMin oMax oVerdict s).pins =
    s.pins ∧ (loseStation i oMin oMax oVerdict s).intake = s.intake ∧ (loseStation i oMin oMax oVerdict
    s).supervisor = s.supervisor ∧ (loseStation i oMin oMax oVerdict s).admission = s.admission ∧ (loseStation i
    oMin oMax oVerdict s).tracker = s.tracker ∧ (loseStation i oMin oMax oVerdict s).transport = s.transport ∧
    (loseStation i oMin oMax oVerdict s).banks = s.banks ∧ (loseStation i oMin oMax oVerdict s).claimLead =
    s.claimLead ∧ (loseStation i oMin oMax oVerdict s).wash = s.wash ∧ (loseStation i oMin oMax oVerdict
    s).drying = s.drying ∧ (loseStation i oMin oMax oVerdict s).shuttle = s.shuttle ∧ (loseStation i oMin oMax
    oVerdict s).chamber = s.chamber ∧ (loseStation i oMin oMax oVerdict s).link = s.link ∧ (loseStation i oMin
    oMax oVerdict s).safety = s.safety ∧ (loseStation i oMin oMax oVerdict s).cal = s.cal ∧ (loseStation i oMin
    oMax oVerdict s).bus.capture = s.bus.capture ∧ (loseStation i oMin oMax oVerdict s).bus.hold = s.bus.hold ∧
    (loseStation i oMin oMax oVerdict s).bus.dataOut = s.bus.dataOut ∧ (loseStation i oMin oMax oVerdict
    s).bus.resetSource = s.bus.resetSource ∧ (loseStation i oMin oMax oVerdict s).bus.protect = s.bus.protect ∧
    (loseStation i oMin oMax oVerdict s).bus.latched = s.bus.latched ∧ (loseStation i oMin oMax oVerdict
    s).bus.mask = s.bus.mask ∧ (loseStation i oMin oMax oVerdict s).bus.attn = s.bus.attn ∧ (loseStation i oMin
    oMax oVerdict s).bus.holdOff = s.bus.holdOff ∧ (loseStation i oMin oMax oVerdict s).bus.interval =
    s.bus.interval ∧ (loseStation i oMin oMax oVerdict s).bus.hbTimeout = s.bus.hbTimeout ∧ (loseStation i oMin
    oMax oVerdict s).bus.hbTimer = s.bus.hbTimer := by
  and_intros <;> (unfold loseStation; (repeat' split) <;> simp)

@[simp] theorem loseSlot_frame (i : PlateId) (s : State) :
    (loseSlot i s).pending = s.pending ∧ (loseSlot i s).freeCount = s.freeCount ∧ (loseSlot i s).now = s.now ∧
    (loseSlot i s).pins = s.pins ∧ (loseSlot i s).intake = s.intake ∧ (loseSlot i s).supervisor = s.supervisor ∧
    (loseSlot i s).admission = s.admission ∧ (loseSlot i s).tracker = s.tracker ∧ (loseSlot i s).transport =
    s.transport ∧ (loseSlot i s).banks = s.banks ∧ (loseSlot i s).claimLead = s.claimLead ∧ (loseSlot i s).wash
    = s.wash ∧ (loseSlot i s).drying = s.drying ∧ (loseSlot i s).shuttle = s.shuttle ∧ (loseSlot i s).chamber =
    s.chamber ∧ (loseSlot i s).link = s.link ∧ (loseSlot i s).safety = s.safety ∧ (loseSlot i s).cal = s.cal ∧
    (loseSlot i s).bus.capture = s.bus.capture ∧ (loseSlot i s).bus.hold = s.bus.hold ∧ (loseSlot i
    s).bus.dataOut = s.bus.dataOut ∧ (loseSlot i s).bus.resetSource = s.bus.resetSource ∧ (loseSlot i
    s).bus.protect = s.bus.protect ∧ (loseSlot i s).bus.latched = s.bus.latched ∧ (loseSlot i s).bus.mask =
    s.bus.mask ∧ (loseSlot i s).bus.attn = s.bus.attn ∧ (loseSlot i s).bus.holdOff = s.bus.holdOff ∧ (loseSlot i
    s).bus.interval = s.bus.interval ∧ (loseSlot i s).bus.hbTimeout = s.bus.hbTimeout ∧ (loseSlot i
    s).bus.hbTimer = s.bus.hbTimer := by
  and_intros <;> (simp [loseSlot])

end Sys2Proof.Machine
end

