-- ==== Sys2Proof/Laws/Memory.lean ====
section
/-! SUPPORT. The laws of words at addresses: a read after a write, and that every write keeps the canonical
form, for the exchange memory and for the calibration store. -/

namespace Sys2Proof.Machine

/-! ## Reads -/

/-- Reading after an erasure: the address erased reads `blank`, every other as before. -/
theorem cellsRead_cellsErase (blank : Word) (m : Cells) (a b : Nat) :
    cellsRead blank (cellsErase a m) b = if b = a then blank else cellsRead blank m b := by
  induction m with
  | nil => simp [cellsErase, cellsRead]
  | cons x xs ih =>
    obtain ⟨c, w⟩ := x
    simp only [cellsErase]
    split
    · rename_i hc
      subst hc
      rw [ih, cellsRead]
      by_cases h : b = c
      · simp [h]
      · rw [if_neg h, if_neg h, if_neg (fun h2 => h h2.symm)]
    · simp only [cellsRead, ih]
      by_cases h : c = b
      · subst h; simp [*]
      · simp [h]

/-- Reading after an insertion of an address that was not listed. -/
theorem cellsRead_cellsInsert (blank v : Word) (m : Cells) (a b : Nat) (h : ∀ w, (a, w) ∉ m) :
    cellsRead blank (cellsInsert a v m) b = if b = a then v else cellsRead blank m b := by
  induction m with
  | nil => simp [cellsInsert, cellsRead, eq_comm]
  | cons x xs ih =>
    obtain ⟨c, w⟩ := x
    have hc : c ≠ a := by intro hh; subst hh; exact h w (by simp)
    have ih := ih (fun w hw => h w (by simp [hw]))
    simp only [cellsInsert]
    split
    · simp [cellsRead, eq_comm]
    · simp only [cellsRead, ih]
      by_cases hb : c = b
      · subst hb; simp [hc]
      · simp [hb]

/-- An erased address is not listed. -/
theorem not_mem_cellsErase (m : Cells) (a : Nat) : ∀ w, (a, w) ∉ cellsErase a m := by
  induction m with
  | nil => simp [cellsErase]
  | cons x xs ih =>
    obtain ⟨c, w⟩ := x
    intro u
    simp only [cellsErase]
    split
    · exact ih u
    · simp; exact ⟨by rintro rfl; simp_all, ih u⟩

/-- Reading after a write: the address written reads the value, every other as before. -/
theorem cellsRead_cellsWrite (blank v : Word) (m : Cells) (a b : Nat) :
    cellsRead blank (cellsWrite blank m a v) b = if b = a then v else cellsRead blank m b := by
  unfold cellsWrite
  split
  · subst_vars; exact cellsRead_cellsErase ..
  · rw [cellsRead_cellsInsert _ _ _ _ _ (not_mem_cellsErase m a), cellsRead_cellsErase]; split <;> rfl

/-- A word of the exchange memory read after a write. -/
@[simp] theorem ramRead_ramWrite (a b : Nat) (v : Word) (s : State) :
    ramRead (ramWrite a v s) b = if b = a then v else ramRead s b := cellsRead_cellsWrite ..

/-- A word of the store read after a write. -/
@[simp] theorem storeRead_storeWrite (a b : Nat) (v : Word) (s : State) :
    storeRead (storeWrite a v s) b = if b = a then v else storeRead s b := cellsRead_cellsWrite ..

/-- States with the same RAM read the same words. -/
theorem ramRead_congr {s t : State} (h : t.bus.ram = s.bus.ram) (a : Nat) : ramRead t a = ramRead s a := by
  simp [ramRead, h]

/-- States with the same store read the same words. -/
theorem storeRead_congr {s t : State} (h : t.cal.store = s.cal.store) (a : Nat) :
    storeRead t a = storeRead s a := by
  simp [storeRead, h]

/-! ## The canonical form -/

/-- A list whose addresses rise above a bound rises above a lower one. -/
theorem cellsWfFrom_mono (blank : Word) (m : Cells) (lo hi : Nat) (h : lo ≤ hi)
    (w : cellsWfFrom blank (some hi) m = true) : cellsWfFrom blank (some lo) m = true := by
  cases m with
  | nil => rfl
  | cons x xs =>
    obtain ⟨c, v⟩ := x
    simp only [cellsWfFrom, Bool.and_eq_true, decide_eq_true_eq] at *
    exact ⟨⟨by omega, w.1.2⟩, w.2⟩

/-- A canonical list above a bound is canonical without one. -/
theorem cellsWfFrom_none (blank : Word) (m : Cells) (lo : Nat)
    (w : cellsWfFrom blank (some lo) m = true) : cellsWfFrom blank none m = true := by
  cases m with
  | nil => rfl
  | cons x xs =>
    obtain ⟨c, v⟩ := x
    simp only [cellsWfFrom, Bool.and_eq_true] at *
    exact ⟨⟨trivial, w.1.2⟩, w.2⟩

/-- An erasure keeps the canonical form above a bound. -/
theorem cellsWfFrom_cellsErase_some (blank : Word) (m : Cells) (a lo : Nat)
    (w : cellsWfFrom blank (some lo) m = true) : cellsWfFrom blank (some lo) (cellsErase a m) = true := by
  induction m generalizing lo with
  | nil => rfl
  | cons x xs ih =>
    obtain ⟨c, v⟩ := x
    simp only [cellsWfFrom, Bool.and_eq_true, decide_eq_true_eq] at w
    simp only [cellsErase]
    split
    · exact ih lo (cellsWfFrom_mono blank xs lo c (by omega) w.2)
    · simp only [cellsWfFrom, Bool.and_eq_true, decide_eq_true_eq]
      exact ⟨w.1, ih c w.2⟩

/-- An erasure keeps the canonical form. -/
theorem cellsWfFrom_cellsErase (blank : Word) (m : Cells) (a : Nat) (lo : Option Nat)
    (w : cellsWfFrom blank lo m = true) : cellsWfFrom blank lo (cellsErase a m) = true := by
  cases lo with
  | some l => exact cellsWfFrom_cellsErase_some blank m a l w
  | none =>
    cases m with
    | nil => rfl
    | cons x xs =>
      obtain ⟨c, v⟩ := x
      simp only [cellsWfFrom, Bool.and_eq_true] at w
      simp only [cellsErase]
      split
      · exact cellsWfFrom_none blank _ c (cellsWfFrom_cellsErase_some blank xs a c w.2)
      · simp only [cellsWfFrom, Bool.and_eq_true]
        exact ⟨w.1, cellsWfFrom_cellsErase_some blank xs a c w.2⟩

/-- An insertion of an unlisted address and a value that is not `blank` keeps the canonical form above a
bound. -/
theorem cellsWfFrom_cellsInsert (blank v : Word) (m : Cells) (a : Nat) (lo : Option Nat) (hv : v ≠ blank)
    (hlo : ∀ l, lo = some l → l < a) (ha : ∀ u, (a, u) ∉ m) (w : cellsWfFrom blank lo m = true) :
    cellsWfFrom blank lo (cellsInsert a v m) = true := by
  induction m generalizing lo with
  | nil => cases lo <;> simp_all [cellsInsert, cellsWfFrom]
  | cons x xs ih =>
    obtain ⟨c, u⟩ := x
    have hc : c ≠ a := by intro hh; subst hh; exact ha u (by simp)
    simp only [cellsWfFrom, Bool.and_eq_true] at w
    simp only [cellsInsert]
    split
    · rename_i hac
      simp only [cellsWfFrom, Bool.and_eq_true, decide_eq_true_eq]
      refine ⟨⟨?_, by simpa using hv⟩, ⟨by omega, w.1.2⟩, w.2⟩
      cases lo with
      | none => rfl
      | some l => simpa using hlo l rfl
    · simp only [cellsWfFrom, Bool.and_eq_true]
      refine ⟨w.1, ih (some c) ?_ (fun t ht => ha t (by simp [ht])) w.2⟩
      intro l hl
      cases hl
      omega

/-- A write keeps the canonical form. -/
theorem cellsWfFrom_cellsWrite (blank v : Word) (m : Cells) (a : Nat) (w : cellsWfFrom blank none m = true) :
    cellsWfFrom blank none (cellsWrite blank m a v) = true := by
  unfold cellsWrite
  split
  · exact cellsWfFrom_cellsErase blank m a none w
  · exact cellsWfFrom_cellsInsert blank v _ a none (by assumption) (by simp) (not_mem_cellsErase m a)
      (cellsWfFrom_cellsErase blank m a none w)

/-- A write of the exchange memory keeps its canonical form. -/
theorem memoryWf_ramWrite (a : Nat) (v : Word) (s : State) (w : memoryWf s.bus.ram = true) :
    memoryWf (ramWrite a v s).bus.ram = true := cellsWfFrom_cellsWrite 0 v s.bus.ram a w

/-- A write of the store keeps its canonical form. -/
theorem storeWf_storeWrite (a : Nat) (v : Word) (s : State) (w : storeWf s.cal.store = true) :
    storeWf (storeWrite a v s).cal.store = true := cellsWfFrom_cellsWrite 0xFFFF v s.cal.store a w

/-- The memory of the machine right after reset is in its canonical form. -/
theorem memoryWf_reset : memoryWf State.reset.bus.ram = true := by decide

/-- The store of the machine right after reset is in its canonical form. -/
theorem storeWf_reset : storeWf State.reset.cal.store = true := by decide

/-- An address below every listed one reads `blank`. -/
theorem cellsRead_below (blank : Word) (m : Cells) (a lo : Nat) (h : a ≤ lo)
    (w : cellsWfFrom blank (some lo) m = true) : cellsRead blank m a = blank := by
  induction m generalizing lo with
  | nil => rfl
  | cons x xs ih =>
    obtain ⟨c, u⟩ := x
    simp only [cellsWfFrom, Bool.and_eq_true, decide_eq_true_eq] at w
    rw [cellsRead, if_neg (by omega)]
    exact ih c (by omega) w.2

end Sys2Proof.Machine
end

