-- ==== Sys2Proof/Laws/Slots.lean ====
section
/-! SUPPORT. The laws of ticket slots: a word of a slot after a write, the slot state and the last taken
sequence after each change (R3). -/

namespace Sys2Proof.Machine

/-! ## Bytes and codes -/

theorem highByte_wordOfBytes (h l : Nat) (_ : h < 256) (_ : l < 256) : highByte (wordOfBytes h l) = h := by
  simp only [highByte, wordOfBytes, BitVec.toNat_ofNat]
  omega

theorem lowByte_wordOfBytes (h l : Nat) (_ : h < 256) (_ : l < 256) : lowByte (wordOfBytes h l) = l := by
  simp only [lowByte, wordOfBytes, BitVec.toNat_ofNat]
  omega

theorem lowByte_lt (w : Word) : lowByte w < 256 := Nat.mod_lt _ (by decide)

theorem highByte_lt (w : Word) : highByte w < 256 := by
  have := w.isLt
  simp only [highByte]
  omega

theorem lastTaken_lt (s : State) (i : PlateId) : lastTaken s i < 256 := lowByte_lt _

theorem slotStateCode_lt (st : SlotState) : slotStateCode st < 256 := by cases st <;> decide

/-- A slot state's code names it. -/
@[simp] theorem slotStateOfCode_slotStateCode (st : SlotState) : slotStateOfCode (slotStateCode st) = st := by
  cases st <;> rfl

/-- Each word of the ticket table belongs to one slot and one offset. -/
theorem slotBase_add_eq_iff (i j : PlateId) (o p : Nat) (ho : o < 64) (hp : p < 64) :
    slotBase i + o = slotBase j + p ↔ i = j ∧ o = p := by
  constructor
  · intro h
    simp only [slotBase] at h
    exact ⟨Fin.ext (by omega), by omega⟩
  · rintro ⟨rfl, rfl⟩; rfl

/-! ## Words of slots -/

/-- A word of a slot after a write of one. -/
theorem slotWord_putSlot (i j : PlateId) (o p : Nat) (v : Word) (s : State) (ho : o < 64) (hp : p < 64) :
    slotWord (putSlot i o v s) j p = if j = i ∧ p = o then v else slotWord s j p := by
  simp only [slotWord, putSlot, ramRead_ramWrite, slotBase_add_eq_iff j i p o hp ho]

/-- A word of a slot after a write of the state word's state. -/
theorem slotWord_setSlotState (i j : PlateId) (st : SlotState) (p : Nat) (s : State) (hp : p < 64) :
    slotWord (setSlotState i st s) j p =
      if j = i ∧ p = 32 then wordOfBytes (slotStateCode st) (lastTaken s i) else slotWord s j p :=
  slotWord_putSlot i j 32 p _ s (by decide) hp

/-- States with the same RAM show the same words of slots. -/
theorem slotWord_congr {s t : State} (h : t.bus.ram = s.bus.ram) (i : PlateId) (o : Nat) :
    slotWord t i o = slotWord s i o := ramRead_congr h _

theorem slotState_congr {s t : State} (h : t.bus.ram = s.bus.ram) (i : PlateId) :
    slotState t i = slotState s i := by
  simp only [slotState, slotWord_congr h]

theorem lastTaken_congr {s t : State} (h : t.bus.ram = s.bus.ram) (i : PlateId) :
    lastTaken t i = lastTaken s i := by
  simp only [lastTaken, slotWord_congr h]

/-! ## Slot states and last taken sequences -/

/-- A write of another word of a slot leaves every slot state. -/
theorem slotState_putSlot (i j : PlateId) (o : Nat) (v : Word) (s : State) (ho : o < 64) (h : o ≠ 32) :
    slotState (putSlot i o v s) j = slotState s j := by
  have : slotWord (putSlot i o v s) j 32 = slotWord s j 32 := by
    rw [slotWord_putSlot _ _ _ _ _ _ ho (by decide), if_neg (fun c => h c.2.symm)]
  simp only [slotState, oState, this]

/-- A write of another word of a slot leaves every last taken sequence. -/
theorem lastTaken_putSlot (i j : PlateId) (o : Nat) (v : Word) (s : State) (ho : o < 64) (h : o ≠ 32) :
    lastTaken (putSlot i o v s) j = lastTaken s j := by
  have : slotWord (putSlot i o v s) j 32 = slotWord s j 32 := by
    rw [slotWord_putSlot _ _ _ _ _ _ ho (by decide), if_neg (fun c => h c.2.symm)]
  simp only [lastTaken, oState, this]

/-- The slot states after one is changed. -/
@[simp] theorem slotState_setSlotState (i j : PlateId) (st : SlotState) (s : State) :
    slotState (setSlotState i st s) j = if j = i then st else slotState s j := by
  have := slotWord_setSlotState i j st 32 s (by decide)
  simp only [slotState, oState, this]
  by_cases h : j = i
  · subst h
    simp [highByte_wordOfBytes _ _ (slotStateCode_lt st) (lastTaken_lt s j)]
  · simp [h]

/-- A change of a slot state keeps every last taken sequence. -/
@[simp] theorem lastTaken_setSlotState (i j : PlateId) (st : SlotState) (s : State) :
    lastTaken (setSlotState i st s) j = lastTaken s j := by
  have := slotWord_setSlotState i j st 32 s (by decide)
  simp only [lastTaken, oState, this]
  by_cases h : j = i
  · subst h
    simp only [true_and, if_true]
    exact lowByte_wordOfBytes _ _ (slotStateCode_lt st) (lowByte_lt _)
  · simp [h]

/-- The last taken sequences after one is recorded. -/
theorem lastTaken_setLastTaken (i j : PlateId) (sq : Nat) (s : State) (h : sq < 256) :
    lastTaken (setLastTaken i sq s) j = if j = i then sq else lastTaken s j := by
  have := slotWord_putSlot i j 32 32 (wordOfBytes (highByte (slotWord s i oState)) sq) s (by decide) (by decide)
  simp only [lastTaken, setLastTaken]
  rw [show oState = 32 from rfl] at this ⊢
  rw [this]
  by_cases hj : j = i
  · subst hj
    simp only [and_self, if_true]
    exact lowByte_wordOfBytes _ _ (highByte_lt _) h
  · simp [hj]

/-- Recording a sequence keeps every slot state. -/
theorem slotState_setLastTaken (i j : PlateId) (sq : Nat) (s : State) (h : sq < 256) :
    slotState (setLastTaken i sq s) j = slotState s j := by
  have := slotWord_putSlot i j 32 32 (wordOfBytes (highByte (slotWord s i oState)) sq) s (by decide) (by decide)
  simp only [slotState, setLastTaken]
  rw [show oState = 32 from rfl] at this ⊢
  rw [this]
  by_cases hj : j = i
  · subst hj
    simp only [and_self, if_true]
    rw [highByte_wordOfBytes _ _ (highByte_lt _) h]
  · simp [hj]

end Sys2Proof.Machine
end

