-- ==== Sys2Proof/Tests/Slice0.lean ====
section
/-! SUPPORT. Tests: ill-formed commands, the manual's worked examples, one step on small states, and for each
statement with premises the states that meet them. Expected figures come from the manual's examples and tables,
or by hand from its rules. -/

namespace Sys2Proof.Tests

open Sys2Proof Sys2Proof.Machine

/-! ## Ill-formed commands -/

/-- A write of the word before a job reference belongs to another row. -/
theorem test_wellFormed_writeHold : (Instr.writeHold 0x0401 0).wellFormed = false := by decide

/-- LINE_CMD is no register that ignores writes (R193). -/
theorem test_wellFormed_registerWriteIgnored : (Instr.registerWriteIgnored 0x3FF9 0).wellFormed = false := by decide

/-- Code 1 names START (section 10.6). -/
theorem test_wellFormed_unknownCommand : (Instr.unknownCommand 1).wellFormed = false := by decide

/-- Code 5 names SAVE_OFFSETS (R206). -/
theorem test_wellFormed_unknownOperation : (Instr.unknownOperation 5).wellFormed = false := by decide

/-- A response has at least one byte, and the window closes after ten (R175, R177). -/
theorem test_wellFormed_responseFrame :
    (Instr.responseFrame []).wellFormed = false ∧
      (Instr.responseFrame (List.replicate 11 { data := 0, stopHigh := true })).wellFormed = false := by decide

/-- The table gives no row any bits, so no word spells a command. -/
theorem test_decodeTableWord : decodeTableWord 16 0x1234 = none := rfl

/-! ## Worked examples of the manual -/

/-- Section 3.2, reading the scale: the count, the position and the residual. -/
theorem test_scale_example :
    scaleX 21845 16512 = 21845333 ∧ scalePosition 21845 16512 = 999999 ∧
      scaleResidual 21845 16512 = -1365 := by decide

/-- Section 3.2: two steps low is good, three low and two high are faults, and the numerator may be negative. -/
theorem test_scale_errors :
    scaleResidual 21845 16510 = 6827 ∧ scaleResidual 21845 16509 = 10923 ∧ scaleResidual 21845 16514 = -9557 ∧
      scaleResidual 65436 65436 = 100 ∧ scalePosition 65436 65436 = 12287995 := by decide

/-- Section 4.2, correcting one sample, and -3 in the dark gives 0. -/
theorem test_irradiance_example :
    sensorE { State.reset.banks.m1 with gain := 2250, offset := -40 } 5200 = 253 ∧
      sensorC { State.reset.banks.m1 with gain := 2250, offset := -40 } 37 = 0 := by decide

/-- Section 1.5: the setpoints 40, 250 and 300; R75's rounding of 15001 at speed 1000 to 250. -/
theorem test_setpoint_example :
    setpointFor 1200 1000 300 = 40 ∧ setpointFor 15000 1000 600 = 250 ∧ setpointFor 15000 1200 600 = 300 ∧
      setpointFor 15001 1000 600 = 250 := by decide

/-- R78: with F 260 and E_set 250 the first duty is 962. -/
theorem test_firstDuty_example : firstDuty 250 260 = 962 := by decide

/-- R101 and R103: rounding half up, the clamp, and the table of verdicts. -/
theorem test_verdict_examples :
    reportedDose 1199500 = 1200 ∧ reportedDose 1199499 = 1199 ∧ reportedDose 4294967295 = 65535 ∧
      verdictOf 1200 50 1140000 1260000 = .inTol ∧ verdictOf 1200 50 1139999 1200000 = .short ∧
      verdictOf 1200 50 1195000 1260001 = .over ∧ verdictOf 1200 50 1100000 1300000 = .spread := by decide

/-- Section 9.3: the register after each byte of the example frame ends at 0x25. -/
theorem test_crc_example : crcByte 0 0x31 = 0xF2 ∧ crc8 [0x31, 0x03, 0xE8, 0x03, 0x00, 0x00] = 0x25 := by decide +kernel

/-- R58: 5000 µm in 500 ms is 10.00 mm/s, and a belt that rocks back gives 0. -/
theorem test_estimate_example :
    estimateAfter [(2000000, 10000), (2005000, 10500)] 2005000 10500 7 = 1000 ∧
      estimateAfter [(50, 10000), (0, 10500)] 0 10500 7 = 0 := by decide

/-! ## States for the tests -/

/-- The state after a command. -/
def after (c : Instr) (s : State) : State :=
  match exec c s with
  | .next t => t
  | .fault _ => s
  | .refused _ => s

/-- The recipe and the ticket of the manual's examples (sections 1.5 and 6.5). -/
def recipeA : RecipeWords :=
  { valid := 1, speed := 1000, backDose := 1200, mainDose := 30000, tolerance := 50, dryTime := 30
    uvaFinish := 400, uvcFinish := 300 }

def ticketA : TicketWords :=
  { recipe := 3, length := 900, width := 1270, depth := 700, coverage := 300, rush := false, backDone := false }

/-- A plate in the queue, and the same plate on the belt, its head at belt position 1,000,000. -/
def plateA : Plate := freshPlate ticketA recipeA 1

def beltPlate : Plate :=
  { plateA with
    stage := .onBelt, epoch := some 1, epochSpeed := some 1000
    setpoints := some { bk := 40, m1 := 250, m2 := 250 }, headLatch := some 1000000, measured := some 900 }

/-- A calibrated line at rest, ten seconds after reset, with fresh solvent. -/
def calm : State :=
  { State.reset with
    now := 10000, cal.state := .valid, wash.load := 0, wash.hold := false, wash.replenish := .idle }

/-- The line running with plate 2 on the belt. -/
def running : State :=
  { putPlate 2 (some beltPlate) calm with
    supervisor.line := .running, tracker.train := [2], transport.position := some 3000000
    transport.demand := 1000, transport.estimate := 1000, transport.beltState := .settled
    transport.driveReady := true, admission.epochCurrent := true, admission.epochNo := 1
    admission.epochSpeed := 1000, admission.commitments := 1 }

/-- The line running with plate 2 at the head of the queue and two drawers in service. -/
def queued : State :=
  { putPlate 2 (some plateA) calm with
    supervisor.line := .running, admission.queue := [2], transport.position := some 3000000
    transport.demand := 1000, transport.estimate := 1000, transport.beltState := .settled
    transport.driveReady := true, admission.epochCurrent := true, admission.epochNo := 1
    admission.epochSpeed := 1000
    drying.drawers := calm.drying.drawers.set 0 { Drawer.reset with service := .inService, doorClosed := true } }

/-- The slot of a plate with a state code and a last taken sequence. -/
def withSlot (i : PlateId) (code sq : Nat) (s : State) : State := putSlotNat i 32 (code * 256 + sq) s

/-- A sweep about to visit slot 2, whose request word holds a code and the sequence 5. -/
def visiting (code : Nat) (s : State) : State :=
  putSlotNat 2 0 (code * 256 + 5) { s with intake.sweep := some 2 }

/-- The ticket and the recipe of the examples written where a POST of slot 2 finds them. -/
def posted : State :=
  let words : List (Nat × Nat) :=
    [(slotBase 2 + 1, 3), (slotBase 2 + 4, 900), (slotBase 2 + 5, 1270), (slotBase 2 + 6, 700),
      (slotBase 2 + 7, 300), (recipeBase 3, 1), (recipeBase 3 + 3, 1000), (recipeBase 3 + 4, 1200),
      (recipeBase 3 + 5, 30000), (recipeBase 3 + 6, 50), (recipeBase 3 + 7, 30), (recipeBase 3 + 8, 400),
      (recipeBase 3 + 9, 300)]
  visiting 1 (words.foldl (fun t x => ramWrite x.1 (w16 x.2) t) calm)

/-- A store with the marker and the default of every item. -/
def goodStore : Cells := (0, 0x6D4B) :: itemWords.map fun a => (a, itemDefault a)

def stored : State := { calm with cal.store := goodStore }

/-- The finisher's node and the shuttle's node present. -/
def present (n : Fin 15) (s : State) : State := putNode n { s.link.nodes[n] with state := .present } s

/-- A response window open for a node, at visit sequence 3. -/
def listening (n : Fin 15) (s : State) : State :=
  { s with link.phase := .window n false (BitVec.ofNat 8 (48 + n.val + 1)) .stop }

/-- A response of ten bytes, as a node sends it. -/
def respond (addr stat : Byte) (d : List Byte) : List RxByte :=
  ([0x3A, addr, stat] ++ d ++ [crc8 ([addr, stat] ++ d)]).map fun b => { data := b, stopHigh := true }

/-- Plate 2 dry in slot 1 of drawer 1, and plate 3 in slot 2, both with the finish class of the examples. -/
def dried : State :=
  let w : Drawer :=
    { Drawer.reset with
      service := .inService, doorClosed := true, slots := #v[some 2, some 3, none, none], lastGood := some 9500 }
  let r : Plate := { plateA with stage := .dry, dryRemaining := 0 }
  { putPlate 2 (some { r with drawerSlot := some (0, 0) }) (putPlate 3 (some { r with drawerSlot := some (0, 1) }) calm)
    with
    drying.drawers := calm.drying.drawers.set 0 w, drying.dryList := [2, 3], admission.commitments := 2 }

/-- The shuttle moving plate 2 to the rack's destination, with its timer at 20000. -/
def moving (kind : MoveKind) (src dst : Place) (s : State) : State :=
  { s with
    shuttle.state := .moving, shuttle.timer := some 20000
    shuttle.move := some { kind := kind, plate := 2, source := src, dest := dst, order := 1, spoiled := false } }

/-- The chamber with plate 2 in position 1. -/
def inChamber (st : ChamberState) (s : State) : State :=
  { putPlate 2 (some { plateA with stage := .inChamber }) s with
    chamber.state := st, chamber.pos1 := some (2, .undecided), chamber.batchClass := some (400, 300)
    chamber.doorClosed := true }

/-- Response bytes that are a good response of a node, and its window at sequence 3 with a command sent. -/
def heard (n : Fin 15) (cmd : NodeCmd) (s : State) : State :=
  { present n s with link.phase := .window n false (BitVec.ofNat 8 (48 + n.val + 1)) cmd }

/-- The shuttle able, carrying plate 2 of an ACTIVE slot, with plate 3, ACTIVE too, at a stage. -/
def carrying (kind : MoveKind) (src dst : Place) (r : Plate) (s : State) : State :=
  heard 2 .move (moving kind src dst (withSlot 2 2 5 (withSlot 3 2 5
    (putPlate 2 (some { plateA with stage := .inShuttle }) (putPlate 3 (some r) s)))))

/-- The shuttle's load of plate 2 with plate 3 dry in its slot, and the unload of plate 2 with plate 3 finished in
position 1. -/
def loadingPair (pos : ChamberPos) : State :=
  { carrying .load (.slot 0 0) (.chamber pos) { plateA with stage := .dry, drawerSlot := some (0, 1) } calm with
    drying.drawers := calm.drying.drawers.set 0
      { Drawer.reset with service := .inService, doorClosed := true, slots := #v[none, some 3, none, none] }
    drying.dryList := [3], chamber.state := .loading, chamber.batchClass := some (400, 300)
    chamber.doorClosed := true }

def unloadingPair : State :=
  { carrying .unload (.chamber .two) .output { plateA with stage := .inChamber } calm with
    chamber.state := .unloading, chamber.pos1 := some (3, .finished) }

/-! ## One step on small states -/

/-- R24: START with DEFAULT calibration is refused, and with VALID the line runs. -/
theorem test_start : (after .start State.reset).supervisor.outcome = .refusedCal ∧
    (after .start calm).supervisor.line = .running := by decide

/-- R25, R26: DRAIN with a plate on the belt, and with none. -/
theorem test_drain : (after .drain running).supervisor.line = .draining ∧
    (after .drain queued).supervisor.line = .idle ∧ (after .drain queued).transport.demand = 0 := by decide

/-- R28: HALT spoils the plate on the belt, DONE with disposition code 18. -/
theorem test_halt : (after .halt (withSlot 2 2 5 running)).supervisor.line = .halted ∧
    slotState (after .halt (withSlot 2 2 5 running)) 2 = .done ∧
    slotWord (after .halt (withSlot 2 2 5 running)) 2 33 = 18 := by decide

/-- R30. -/
theorem test_resume : (after .resume { calm with supervisor.line := .halted }).supervisor.line = .idle := by decide

/-- R30: with COVER open SAFE_RELEASE is refused. -/
theorem test_safeRelease :
    (after .safeRelease { calm with supervisor.line := .safe, safety.coverClosed := false }).supervisor.outcome =
      .refusedCover ∧
    (after .safeRelease { calm with supervisor.line := .safe }).supervisor.line = .halted := by decide

/-- R21: a QUEUED slot is REFUSED with LINE_RESET, code 8, and its last taken sequence stays. -/
theorem test_resetLine : slotWord (after .resetLine (withSlot 2 1 5 calm)) 2 32 = 0x0405 ∧
    slotWord (after .resetLine (withSlot 2 1 5 calm)) 2 33 = 8 := by decide

/-- R5, R9: a POST with DEFAULT calibration is REFUSED with NO_CALIBRATION, code 1. -/
theorem test_sweepVisit_refused :
    slotWord (after .sweepVisit { posted with cal.state := .default }) 2 32 = 0x0405 ∧
      slotWord (after .sweepVisit { posted with cal.state := .default }) 2 33 = 1 := by decide

/-- R10: the ticket of the examples is accepted as the first one, with 30 minutes to dry. -/
theorem test_sweepVisit_accepted : slotWord (after .sweepVisit posted) 2 32 = 0x0105 ∧
    slotWord (after .sweepVisit posted) 2 38 = 1 ∧ (after .sweepVisit posted).admission.queue = [2] ∧
    ((plateOf (after .sweepVisit posted) 2).map fun r => r.dryRemaining) = some 1800000 := by decide

/-- R4: the count that intake has seen calls for no sweep, and another does. -/
theorem test_postingCount :
    (after (.postingCount 0) { calm with intake.sweep := none }).intake.sweep = none ∧
      (after (.postingCount 1) { calm with intake.sweep := none }).intake.sweep = some 0 := by decide

/-- R22: the line time passes from its top to 0. -/
theorem test_lineTimeTimer :
    (after .lineTimeTimer { calm with supervisor.lineTime := 4294967295 }).supervisor.lineTime = 0 := by decide

/-- R188: a write of the line state's word is discarded and counted, and the count stops at 255. -/
theorem test_hostWordWrite : (after (.hostWordWrite 0 7) { calm with bus.protect := 255 }).bus.protect = 255 ∧
    ramRead (after (.hostWordWrite 0x2000 7) calm) 0x2000 = 7 := by decide

/-- R191: the two words of a job reference. -/
theorem test_writeHold : ramRead (after (.writeHold 0x0403 7) (after (.writeHold 0x0402 9) calm)) 0x0402 = 9 ∧
    ramRead (after (.writeHold 0x0402 9) calm) 0x0402 = 0 := by decide

/-- R190: the line time read across a passage of its low word. -/
theorem test_pairedWordLatch :
    (after (.pairedWordLatch 0x0011)
      { after (.pairedWordLatch 0x0010) { calm with supervisor.lineTime := 65535 } with
        supervisor.lineTime := 65536 }).bus.dataOut = 0 := by decide

/-- R192, R193: the settings clamp. -/
theorem test_settings : ramRead (after (.attentionInterval 99) calm) 0x0021 = 100 ∧
    ramRead (after (.queueMark 49) calm) 0x0022 = 48 ∧ ramRead (after (.heartbeatTimeout 61) calm) 0x0023 = 60 := by
  decide

/-- R128: a load entry is taken in IDLE and discarded in RUNNING. -/
theorem test_solventLoadEntry : (after (.solventLoadEntry 26000) calm).wash.hold = true ∧
    (after (.solventLoadEntry 26000) running).wash.load = 0 := by decide

/-- R194 to R196: an urgent cause asserts ATTN#, and the read of ATTN_CAUSE releases it. -/
theorem test_attnCauseRead :
    (after .halt { calm with bus.mask := 2 }).bus.attn = true ∧
      (after .attnCauseRead (after .halt { calm with bus.mask := 2 })).bus.attn = false ∧
      (after .attnCauseRead (after .halt { calm with bus.mask := 2 })).bus.dataOut = 2 := by decide

/-- R195: bits 5 to 7 hold no cause; a latched cause newly enabled asserts ATTN#. -/
theorem test_attnMaskWrite : (writeMask 0xFFFF { calm with bus.latched := 4 }).bus.mask = 0xFF1F ∧
    (writeMask 0xFFFF { calm with bus.latched := 4 }).bus.attn = true := by
  unfold writeMask
  generalize Config.urgentFirst _ = first
  cases first <;> decide

/-- R193: START's code is 1, and code 12 names no command. -/
theorem test_unknownCommand : (after (.hostWordWrite 0x3FF9 1) calm).supervisor.line = .running ∧
    (after (.unknownCommand 12) calm).supervisor.outcome = .unknown := by decide

/-- R207: READ of an erased word, and R206 of an address above 255. -/
theorem test_read : (after .read calm).cal.readData = 0xFFFF ∧
    (after .read (ramWrite 0x1101 256 calm)).cal.result = .badAddress := by decide

/-- R207: WRITE takes 5 ms and its data. -/
theorem test_write :
    storeRead (after .writeComplete (after .write (ramWrite 0x1102 77 (ramWrite 0x1101 255 calm)))) 255 = 77 ∧
      (after .write calm).cal.running = some (.write 0 0, 10005) := by decide

/-- R207: ERASE completes with 0xFFFF. -/
theorem test_erase : storeRead (after .eraseComplete (after .erase { stored with cal.opState := .idle })) 0 = 0xFFFF := by
  decide

/-- R206, R207: LOAD_LIVE without the marker, with a good store, and outside IDLE and HALTED. -/
theorem test_loadLive : (after .loadLive calm).cal.result = .range ∧
    (after .loadLive { stored with cal.state := .default }).cal.state = .valid ∧
    (after .loadLive running).cal.result = .locked := by decide

/-- Section 11.3: the offset -1 is saved as 0xFFFF, which is how an erased word reads. -/
theorem test_saveOffsets :
    storeRead (after .saveOffsetsComplete (after .saveOffsets { calm with banks.m1.offset := -2 })) 12 = 0xFFFE := by
  decide

/-- R198: a lapse while RUNNING drains the line and latches HOST_SILENT. -/
theorem test_heartbeatTimerExpiry : (after .heartbeatTimerExpiry running).supervisor.line = .draining ∧
    (after .heartbeatTimerExpiry running).bus.latched = 0x8000 := by decide

/-- R53: the position of the manual's example, from the two words. -/
theorem test_scaleWord :
    (after (.scaleWord .scale2 16512 false) (after (.scaleWord .scale1 21845 false) calm)).transport.position =
      some 999999 := by decide

/-- R54: the fifth fault in a row halts the line with VERNIER. -/
theorem test_scaleWatchdogExpiry :
    (after (.scaleWatchdogExpiry true) { calm with transport.faults := 4 }).supervisor.cause = .vernier := by decide

/-- R76, R78: at 230 mm of head travel plate 2 claims BK, the first duty ceil(40 × 1000 / 320) = 125; R99: at
1,421,875 µm its back station closes, and at 1 µm less it does not. -/
theorem test_sample_claims_and_closes :
    let s (latch : Nat) : State := after (.scaleWatchdogExpiry true)
      (putPlate 2 (some { beltPlate with headLatch := some latch }) running)
    ((s 2770000).banks.bk.state = .claimed ∧ (s 2770000).banks.bk.duty = 125 ∧ (s 2770001).banks.bk.claims = []) ∧
    ((plateOf (s 1578125) 2).map fun r => r.dose.back.isOpen) = some false ∧
    ((plateOf (s 1578126) 2).map fun r => r.dose.back.isOpen) = some true := by decide

/-- R56: the first movement away takes the candidate; a return within 5 ms gives no edge. -/
theorem test_sensorInputChange :
    (after (.sensorInputChange .infeed true) running).transport.infeed.candidate = some 3000000 ∧
      (after (.settleTimerExpiry .infeed) (after (.sensorInputChange .infeed false)
        (after (.sensorInputChange .infeed true) running))).transport.infeed.settled = false := by decide

/-- R42: the head edge latches the plate's head and closes the gate. -/
theorem test_settleTimerExpiry :
    let s := { putPlate 2 (some { plateA with stage := .releasing }) running with admission.gateOpen := true }
    let t := after (.settleTimerExpiry .infeed) (after (.sensorInputChange .infeed true) s)
    ((plateOf t 2).map fun r => (r.stage, r.headLatch)) = some (.onBelt, some 3000000) ∧
      t.admission.gateOpen = false := by decide

/-- R43: the plate goes back to the head of the queue. -/
theorem test_misfeedTimerExpiry :
    let s := { putPlate 2 (some { plateA with stage := .releasing }) running with admission.misfeedTimer := some 12000 }
    (after .misfeedTimerExpiry s).admission.queue = [2] ∧ (after .misfeedTimerExpiry s).tracker.train = [] ∧
      (after .misfeedTimerExpiry s).admission.commitments = 0 := by decide

/-- R71, section 4.2: E is 253; and R73: a dark reading below 0 raises the offset by 1. -/
theorem test_conversionCompletion :
    let s := { calm with banks.m1.offset := -40, banks.m1.gain := 2250 }
    (after (.conversionCompletion .m1 5200) s).banks.m1.lastE = 253 ∧
      (after (.conversionCompletion .m1 37) s).banks.m1.offset = -39 := by decide

/-- R83. -/
theorem test_pwmPeriodStart : (after (.pwmPeriodStart .m2) { calm with banks.m2.duty := 962 }).banks.m2.pwm = 962 := by
  decide

/-- R85: a second of on-time comes 1000 ms after the last at any duty. -/
theorem test_onTimeSecond : (after (.onTimeSecond .bk) { calm with banks.bk.duty := 1 }).now = 11000 ∧
    (after (.onTimeSecond .bk) { calm with banks.bk.duty := 1 }).banks.bk.onTime = 1 := by decide

/-- R178, R179: the third miss loses the wash node and halts the line. -/
theorem test_responseTimeout :
    let s := putNode 1 { running.link.nodes[(1 : Fin 15)] with state := .present, miss := 2 } running
    (after .responseTimeout (listening 1 s)).supervisor.cause = .washLost := by decide

/-- R124, section 6.7: from 18,400 a completed portion of 20 L of 400 L leaves 17,480. -/
theorem test_responseFrame :
    let s := { present 1 calm with
      wash.load := 18400, wash.replenish := .active, wash.outstanding := some 7, wash.portion := 20 }
    (after (.responseFrame (respond 0x32 0x85 [144, 1, 250, 0, 0, 7])) (listening 1 s)).wash.load = 17480 := by
  decide +kernel

/-- Section 9.3: the example frame of the drive. -/
theorem test_linkVisit :
    let s := putNode 0 { running.link.nodes[(0 : Fin 15)] with state := .present, seq := 2, issued := some 0 } running
    (after .linkVisit s).link.txFrame = [0xC5, 0x31, 0x03, 0xE8, 0x03, 0x00, 0x00, 0x25] := by decide +kernel

/-- R173: the pass timer runs for 20 ms. -/
theorem test_passTimerExpiry :
    (after .passTimerExpiry { calm with link.phase := .between, link.passTimer := some 10020 }).link.passTimer =
      some 10040 := by decide

/-- R201, R202: a settled ESTOP# makes the line SAFE. -/
theorem test_safetyInputs :
    let s := after (.safetyInputChange .estop true) running
    s.safety.estopTimer = some 10002 ∧ (after (.safetySettleExpiry .estop) s).supervisor.cause = .estop ∧
      (after (.safetySettleExpiry .estop) s).safety.lineSafe = true := by decide

/-- R158: at the expiry of stabilizing the chamber is READY and asks for a LOAD. -/
theorem test_stabilizingTimerExpiry :
    (after .stabilizingTimerExpiry
      { calm with chamber.state := .stabilizing, chamber.stabilizing := some 20000 }).chamber.ask = .load .one none := by
  decide

/-- R164: 1,800,000 ms open end the batch SHORT, code 2. -/
theorem test_openShutterTimerExpiry :
    let s := { inChamber .exposing (withSlot 2 2 5 calm) with chamber.openDeadline := some 20000, chamber.accA := 400499 }
    slotWord (after .openShutterTimerExpiry s) 2 51 = 400 ∧ slotWord (after .openShutterTimerExpiry s) 2 53 = 2 := by
  decide

/-- R148: a move that runs out of time ends its plate SPOILED. -/
theorem test_moveTimerExpiry :
    let s := moving .store .rack (.slot 0 0) (putPlate 2 (some { plateA with stage := .inShuttle }) running)
    (after .moveTimerExpiry s).shuttle.state = .faulted ∧ slotState (after .moveTimerExpiry s) 2 = .done := by decide

/-- R199, R200: a power-on reset clears the RAM, and a pin reset keeps it. -/
theorem test_resets : ramRead (after .powerOnReset (ramWrite 0x2000 7 calm)) 0x2000 = 0 ∧
    ramRead (after .pinReset (ramWrite 0x2000 7 calm)) 0x2000 = 7 ∧
    (after .pinReset (withSlot 2 2 5 calm)).bus.latched = 0x0100 := by decide

/-- R201, R202: an ESTOP# asserted at a reset is delivered before what waits, and the line is SAFE. -/
theorem test_estopAtReset :
    let s := after .pinReset { calm with pins.estopAsserted := true, pending := [.start] }
    s.pending = [.estopAssertedAtReset, .start] ∧ s.safety.lineSafe = false ∧
      (after .estopAssertedAtReset s).safety.lineSafe = true ∧
      (after .estopAssertedAtReset s).supervisor.cause = .estop := by decide

/-- Section 3.7, its example: the stall run opens at the good sample at which the demand is given. -/
theorem test_stallRun_example :
    let s := { queued with
      admission.epochCurrent := false, transport.beltState := .stopped, transport.demand := 0
      transport.estimate := 0, transport.wait2 := some 16512 }
    (after (.scaleWord .scale1 21845 true) s).transport.stallRun = some 10000 ∧
      (after (.scaleWord .scale1 21845 true) s).transport.beltState = .ramping := by decide


/-! ## States that meet the premises of the statements -/

/-- R177: what the responses of the witnesses below are judged. -/
theorem test_judged :
    judge 0x31 (respond 0x31 0x40 [0, 0, 0, 0, 0, 0]) = .good 0x40 #v[0, 0, 0, 0, 0, 0] ∧
    judge 0x32 (respond 0x32 0x85 [144, 1, 250, 0, 0, 7]) = .good 0x85 #v[144, 1, 250, 0, 0, 7] ∧
    judge 0x33 (respond 0x33 0x80 [1, 0, 0, 0, 0, 0]) = .good 0x80 #v[1, 0, 0, 0, 0, 0] ∧
    judge 0x33 (respond 0x33 0x85 [1, 0, 0, 0, 0, 1]) = .good 0x85 #v[1, 0, 0, 0, 0, 1] ∧
    judge 0x34 (respond 0x34 0x80 [1, 0, 0, 0, 26, 0]) = .good 0x80 #v[1, 0, 0, 0, 26, 0] ∧
    judge 0x35 (respond 0x35 0x80 [58, 2, 1, 0, 0, 0]) = .good 0x80 #v[58, 2, 1, 0, 0, 0] ∧
    judge 0x3A (respond 0x3A 0xA0 [0, 0, 0, 0, 0, 0]) = .good 0xA0 #v[0, 0, 0, 0, 0, 0] ∧
    judge 0x31 (respond 0x31 0x80 [0, 0, 0, 0, 0, 0]) = .good 0x80 #v[0, 0, 0, 0, 0, 0] ∧
    judge 0x31 (respond 0x41 0x80 [0, 0, 0, 0, 0, 0]) = .echoMismatch ∧
    judge 0x31 (respond 0x31 0x80 [0, 0, 0, 0, 0, 1]) = .checkError ∧
    judge 0x31 ((respond 0x31 0x80 [0, 0, 0, 0, 0, 0]).take 9) = .checkError := by decide +kernel

/-- The back bank holding plate 2, its duty 500. -/
def claiming : State :=
  { running with
    banks.bk := { running.banks.bk with
      state := .claimed, claims := [2], setpoint := some 40, duty := 500, darkStart := none } }

/-- Plate 2 waiting at the open gate, with the misfeed timer running. -/
def releasing : State :=
  { putPlate 2 (some { plateA with stage := .releasing }) running with
    admission.gateOpen := true, admission.misfeedTimer := some 12000 }

def haltedLine : State := { calm with supervisor.line := .halted, banks := (forceBanks calm).banks }

def safeLine : State :=
  { calm with supervisor.line := .safe, safety.lineSafe := true, banks := (forceBanks calm).banks }

/-- The states below follow the line state as `banksFollow` asks. -/
theorem witness_banksFollow : banksFollow calm ∧ banksFollow running ∧ banksFollow claiming ∧ banksFollow queued ∧
    banksFollow haltedLine ∧ banksFollow { haltedLine with safety.coverClosed := false } ∧ banksFollow safeLine ∧
    banksFollow { running with supervisor.line := .draining } := by
  refine ⟨?_, ?_, ?_, ?_, ?_, ?_, ?_, ?_⟩ <;> (unfold banksFollow bankFollows; decide)

theorem witness_StepRunsFrontCommand :
    ({ calm with pending := [.start, .halt] } : State).pending = .start :: [.halt] := rfl

theorem witness_EmptyQueueStepLetsTimePass : calm.pending = [] ∧ 0 < claiming.banks.bk.duty := by decide

theorem witness_StepKeepsCanonical : ∃ s t : State, canonical s ∧ step s = .next t ∧ t.bus.ram ≠ s.bus.ram :=
  ⟨{ ramWrite 0x2000 7 calm with pending := [.hostWordWrite 0x2000 0] }, _, ⟨by decide, by decide⟩, rfl, by decide⟩

theorem witness_StepKeepsLineInvariant :
    ∃ s t : State, lineInv s ∧ step s = .next t ∧ t.supervisor.line ≠ s.supervisor.line :=
  ⟨{ claiming with pending := [.halt] }, _,
    by unfold lineInv lineStill banksFollow bankFollows safeLineAsserted; decide, rfl, by decide⟩

theorem witness_StepKeepsCounts : ∃ s t : State, countInv s ∧ step s = .next t ∧ t.transport.faults = 1 :=
  ⟨{ running with pending := [.scaleWatchdogExpiry true] }, _, by unfold countInv nodeCounts; decide, rfl, by decide⟩

theorem witness_StepKeepsPlatesInOnePlace :
    ∃ s t : State, placesInv s ∧ step s = .next t ∧ t.shuttle.move.isSome = true ∧ workPlates t ≠ workPlates s :=
  ⟨{ withSlot 2 2 5 (withSlot 3 2 5 dried) with
      pending := [.stabilizingTimerExpiry], shuttle.state := .ready, chamber.state := .stabilizing
      chamber.stabilizing := some 20000 }, _,
    ⟨by decide, by decide, by decide, by decide, by decide, by decide, trivial⟩, rfl, by decide, by decide⟩

theorem witness_OnlyCompletionsAndResetsWriteTheStore : ∃ t, exec .erase stored = .next t ∧
    Instr.erase ≠ .writeComplete ∧ Instr.erase ≠ .eraseComplete ∧ Instr.erase ≠ .saveOffsetsComplete ∧
    Instr.erase ≠ .powerOnReset ∧ Instr.erase ≠ .pinReset ∧ stored.cal.running = none := ⟨_, rfl, by decide⟩

theorem witness_PowerOnResetGivesTheResetState :
    (running.cal.running = none ∧ running.pins = State.reset.pins ∧ storeRead running 0 ≠ 0x6D4B) ∧
    (let s := storeWrite 38 11 stored
     s.cal.running = none ∧ s.pins = State.reset.pins ∧ storeRead s 0 = 0x6D4B ∧
       ∃ a ∈ itemWords, itemOk a (storeRead s a) = false) ∧
    ({ running with pins.estopAsserted := true } : State).pins.estopAsserted = true ∧
    (stored.cal.running = none ∧ storeRead stored 0 = 0x6D4B ∧
      ∀ a ∈ itemWords, itemOk a (storeRead stored a) = true) := by decide

theorem witness_PinResetKeepsTheMemoryAndResolvesTheSlots :
    running.cal.running = none ∧ storeRead running 0 ≠ 0x6D4B ∧
    (stored.cal.running = none ∧ storeRead stored 0 = 0x6D4B ∧
      ∀ a ∈ itemWords, itemOk a (storeRead stored a) = true) ∧
    (inTickets 0x041F = true ∧ slotOffset 0x041F < 32) ∧
    slotState (withSlot 0 1 255 calm) 0 = .queued ∧
    (slotState (withSlot 47 2 0 running) 47 = .active ∧ slotWord (withSlot 47 2 0 running) 47 44 = 0 ∧
      slotWord (withSlot 47 2 0 running) 47 45 = 0) ∧
    slotWord (putSlotNat 47 45 1 (putSlotNat 47 44 2 running)) 47 44 ≠ 0 ∧
    slotWord (putSlotNat 47 45 1 (putSlotNat 47 44 2 running)) 47 45 ≠ 0 ∧
    (slotState (withSlot 2 3 5 calm) 2 ≠ .queued ∧ slotState (withSlot 2 3 5 calm) 2 ≠ .active) ∧
    (∀ i : PlateId, slotState calm i ≠ .queued ∧ slotState calm i ≠ .active) := by decide

theorem witness_HostWordWritesGoWhereTheyMay :
    (∀ a ∈ [0x0040, 0x03FF, 0x0400, 0x0401, 0x0403, 0x0417, 0x0418, 0x041F, 0x0FDF, 0x1101, 0x1102, 0x1110, 0x3FF7],
      openToHost calm a = true) ∧
    (∀ a ∈ [0x0000, 0x000B, 0x000D, 0x001F, 0x0025, 0x003F, 0x0420, 0x0FFF, 0x1000, 0x10C3, 0x10FF, 0x1103, 0x110F],
      partOwned a = true) ∧
    (∀ a ∈ [0x0401, 0x0403, 0x0417], closedToHost (withSlot 0 2 5 calm) a = true) := by decide

theorem witness_JobReferenceIsCommittedAsAPair :
    isJobLow 0x0402 = true ∧ isJobLow 0x0FC2 = true ∧
    (let s := { withSlot 1 2 5 calm with bus.hold := some (0x0402, 9) }
     s.bus.hold = some (0x0402, 9) ∧ slotState s (slotOfAddr 0x0402) = .free) ∧
    (let s := { withSlot 1 2 5 calm with bus.hold := some (0x0442, 9) }
     s.bus.hold = some (0x0442, 9) ∧ slotState s (slotOfAddr 0x0442) ≠ .free) ∧
    (calm.bus.hold = none ∧ slotState calm (slotOfAddr 0x0FC2) = .free ∧
      slotState (withSlot 47 1 5 calm) (slotOfAddr 0x0FC2) ≠ .free) := by decide

theorem witness_ReadsReturnTheirWords :
    isLow32 0x000E = true ∧ isLow32 0x0FF8 = true ∧ isLow32 0x10A8 = true ∧
    ({ running with bus.capture := some (0x0011, 0) } : State).bus.capture = some (0x0010 + 1, readWord calm 0x0011) ∧
    (isLow32 0x0011 = false ∧ (calm.bus.capture.map fun c => c.1) ≠ some 0x0011) := by decide

theorem witness_WordsReadTheirFields :
    (let s : State := { calm with
       supervisor.lineTime := 4294967295, transport.position := some 12287999, chamber.accA := 4294967295
       banks := { calm.banks with bk.offset := -1500, m1.offset := 1499 }
       drying.rack := [.stray, .plate 47] }
     s.supervisor.lineTime < 4294967296 ∧ s.intake.order < 4294967296 ∧ s.transport.position.getD 0 < 4294967296 ∧
       s.chamber.accA < 4294967296 ∧ s.banks.m2.onTime < 4294967296 ∧
       -32768 ≤ s.banks.bk.offset ∧ s.banks.m1.offset ≤ 32767 ∧ s.drying.rack[0]? = some .stray ∧
       s.drying.rack[1]? = some (.plate 47) ∧ calm.drying.rack[1]? = none) ∧
    (-32768 ≤ calm.drying.drawers[(5 : Fin 6)].temp ∧ calm.drying.drawers[(5 : Fin 6)].temp ≤ 32767) ∧
    (plateOf dried 2).map (fun r => r.stage) = some .dry ∧
    (let s : State := putPlate 3 (some { plateA with stage := .drying, dryRemaining := 1001 }) dried
     dried.drying.drawers[(0 : Fin 6)].slots[(1 : Fin 4)] = some 3 ∧
       (plateOf s 3).map (fun r => (r.stage, r.dryRemaining)) = some (.drying, 1001) ∧ readWord s 0x1067 = 2) ∧
    (calm.shuttle.move = none ∧ (moving .store .rack (.slot 5 3) calm).shuttle.move.isSome = true ∧
      readWord (moving .store .rack (.slot 5 3) calm) 0x1094 = 39) ∧
    (calm.chamber.openDeadline = none ∧
      ({ calm with chamber.openDeadline := some 10001 } : State).chamber.openDeadline = some 10001) := by decide

theorem witness_AttnMaskWriteSetsTheEnables :
    let s : State := { calm with bus.latched := 0x8000 }
    s.bus.attn = false ∧ s.bus.holdOff = none ∧ (s.bus.latched &&& 0x8000 &&& attnValid &&& ~~~ s.bus.mask) &&& 0xFF00 ≠ 0 ∧
      (s.bus.latched &&& 0x8000 &&& attnValid &&& ~~~ s.bus.mask) &&& 0x001F = 0 ∧
      (s.bus.latched &&& 0 &&& attnValid &&& ~~~ s.bus.mask) &&& 0xFF00 = 0 := by decide

theorem witness_LatchAndHoldOffDriveTheAttentionLine :
    let on : State := { calm with bus.mask := 0xFF1F }
    (on.bus.attn = false ∧ on.bus.mask.getLsbD (attnBit .handling) = true ∧ attnUrgent .handling = true) ∧
    (on.bus.mask.getLsbD (attnBit .hostSilent) = true ∧ attnUrgent .hostSilent = false ∧ on.bus.holdOff = none) ∧
    ({ on with bus.holdOff := some 10400 } : State).bus.holdOff ≠ none ∧ calm.bus.mask.getLsbD (attnBit .safe) = false ∧
    ({ on with bus.attn := true } : State).bus.attn = true ∧
    (let s : State := { on with bus.holdOff := some 10400, bus.latched := 0x0100 }
     s.bus.holdOff = some 10400 ∧ s.bus.attn = false ∧ s.bus.latched &&& s.bus.mask &&& 0xFF00 ≠ 0) ∧
    (let s : State := { on with bus.holdOff := some 10400, bus.latched := 1 }
     s.bus.holdOff = some 10400 ∧ s.bus.latched &&& s.bus.mask &&& 0xFF00 = 0) := by decide

theorem witness_HeaderWritesActByTheirWords :
    (Instr.registerWriteIgnored 0x3FF8 7).wellFormed = true ∧ (Instr.registerWriteIgnored 0x3FFB 7).wellFormed = true ∧
    calm.admission.queueLow = true ∧ ({ calm with admission.queueLow := false } : State).admission.queueLow = false := by
  decide

theorem witness_HeartbeatAndTimersAct :
    (calm.bus.hbTimer = some 5000 ∧ calm.supervisor.line ≠ .running) ∧
    (claiming.bus.hbTimer = some 5000 ∧ claiming.supervisor.line = .running ∧ claiming.tracker.train ≠ []) ∧
    (queued.bus.hbTimer = some 5000 ∧ queued.supervisor.line = .running ∧ queued.tracker.train = []) := by decide

theorem witness_SolventLoadEntrySetsTheLoad :
    calm.supervisor.line = .idle ∧ haltedLine.supervisor.line = .halted ∧
    (calm.wash.hard ≤ (26000 : Word).toNat ∧ (23999 : Word).toNat < calm.wash.hard - 2000 ∧
      calm.wash.hard - 2000 ≤ (24000 : Word).toNat ∧ (24000 : Word).toNat < calm.wash.hard) ∧
    (({ calm with wash.replenish := .pending } : State).wash.replenish = .pending ∧
      (15999 : Word).toNat < calm.wash.regen - 2000) ∧
    (calm.wash.replenish = .idle ∧ (17999 : Word).toNat < calm.wash.regen ∧ calm.wash.regen ≤ (18000 : Word).toNat ∧
      isPresent calm .wash = false ∧ isPresent (present 1 calm) .wash = true) ∧
    ({ calm with wash.replenish := .active } : State).wash.replenish = .active ∧
    (running.supervisor.line ≠ .idle ∧ running.supervisor.line ≠ .halted) := by decide

theorem witness_SweepVisitFindsNoNewRequestOrOneOutOfTurn :
    ({ calm with intake.sweep := none } : State).intake.sweep = none ∧
    ((visiting 0 calm).intake.sweep = some 2 ∧ highByte (slotWord (visiting 0 calm) 2 0) = 0) ∧
    lowByte (slotWord (visiting 1 (withSlot 2 1 5 calm)) 2 0) = lastTaken (visiting 1 (withSlot 2 1 5 calm)) 2 ∧
    (newRequest (visiting 1 (withSlot 2 1 4 calm)) 2 1 5 ∧ slotState (visiting 1 (withSlot 2 1 4 calm)) 2 ≠ .free) ∧
    (newRequest (visiting 2 calm) 2 2 5 ∧ slotState (visiting 2 calm) 2 ≠ .queued ∧
      slotState (visiting 2 calm) 2 ≠ .active) ∧
    (newRequest (visiting 3 calm) 2 3 5 ∧ slotState (visiting 3 calm) 2 ≠ .done ∧
      slotState (visiting 3 calm) 2 ≠ .refused) ∧
    newRequest (visiting 4 calm) 2 4 5 ∧ newRequest (visiting 255 calm) 2 255 5 := by
  unfold newRequest; decide

theorem witness_ValidationGivesTheFirstFailingCheck :
    State.reset.cal.state = .default ∧ calm.cal.state = .valid ∧ ¬(32 : Nat) ≤ 31 ∧ ¬(3001 : Nat) ≤ 3000 ∧
    (recipeUsable recipeA = true ∧ recipeUsable { recipeA with tolerance := 9 } = false) ∧
    (ticketA.recipe ≤ 31 ∧ 200 ≤ ticketA.length ∧ ticketA.length ≤ 1500 ∧ ticketA.width ≤ 1300 ∧
      100 ≤ ticketA.depth ∧ ticketA.depth ≤ 4000 ∧ ticketA.coverage ≤ 1000) ∧
    doseReachable calm ticketA recipeA = true ∧
    doseReachable { calm with banks.m1.full := 263 } ticketA recipeA = false ∧
    doseReachable { calm with banks.m1.full := 264 } ticketA recipeA = true ∧
    (let s := { posted with cal.state := .default }
     s.intake.sweep = some 2 ∧ newRequest s 2 1 5 ∧ slotState s 2 = .free ∧
       validate s (ticketAt s 2) (recipeAt s (ticketAt s 2).recipe) = some .noCalibration) := by
  unfold newRequest; decide

theorem witness_PostThatPassesIsAccepted :
    (posted.intake.sweep = some 2 ∧ newRequest posted 2 1 5 ∧ slotState posted 2 = .free ∧
      validate posted (ticketAt posted 2) (recipeAt posted (ticketAt posted 2).recipe) = none ∧
      2 ∉ posted.admission.queue ∧
      posted.admission.queueLow = decide (posted.admission.mark ≠ 0 ∧ posted.admission.queue.length < posted.admission.mark)) ∧
    (let s := putPlate 1 (some plateA) (putPlate 0 (some { plateA with rush := true })
        (putSlotNat 2 8 1 { posted with admission.queue := [0, 1] }))
     newRequest s 2 1 5 ∧ (ticketAt s 2).rush = true ∧ s.admission.queue = [0] ++ [1] ∧
       (∀ p ∈ [(0 : PlateId)], isRush s p = true) ∧ (∀ p ∈ [(1 : PlateId)], isRush s p = false)) := by
  unfold newRequest; decide

theorem witness_WithdrawAndReturnInTheirSlotStates :
    (newRequest (visiting 2 (withSlot 2 1 4 queued)) 2 2 5 ∧ slotState (visiting 2 (withSlot 2 1 4 queued)) 2 = .queued) ∧
    (newRequest (visiting 2 (withSlot 2 2 4 running)) 2 2 5 ∧ slotState (visiting 2 (withSlot 2 2 4 running)) 2 = .active) ∧
    (newRequest (visiting 3 (withSlot 2 3 4 calm)) 2 3 5 ∧ slotState (visiting 3 (withSlot 2 3 4 calm)) 2 = .done) ∧
    (newRequest (visiting 3 (withSlot 2 4 4 calm)) 2 3 5 ∧ slotState (visiting 3 (withSlot 2 4 4 calm)) 2 = .refused) := by
  unfold newRequest; decide

theorem witness_RefusedLineCommandsChangeOnlyTheOutcome :
    (running.supervisor.line ≠ .idle ∧ running.supervisor.line ≠ .draining ∧ running.supervisor.line ≠ .halted ∧
      running.supervisor.line ≠ .safe) ∧
    (State.reset.supervisor.line = .idle ∧ State.reset.safety.coverClosed = true ∧ State.reset.cal.state = .default) ∧
    (({ calm with safety.coverClosed := false } : State).supervisor.line = .idle) ∧
    calm.supervisor.line ≠ .running ∧ haltedLine.supervisor.line = .halted ∧
    (safeLine.supervisor.line = .safe ∧ safeLine.safety.estop = false ∧ safeLine.safety.coverClosed = true) ∧
    calm.shuttle.state ≠ .faulted ∧ calm.chamber.state ≠ .faulted ∧
    (Instr.unknownCommand 0).wellFormed = true ∧ (Instr.unknownCommand 12).wellFormed = true := by decide

theorem witness_StartAndDrainRunAndEmptyTheLine :
    (({ running with supervisor.line := .draining } : State).supervisor.line = .draining) ∧
    (calm.supervisor.line = .idle ∧ calm.safety.coverClosed = true ∧ calm.cal.state = .valid ∧
      calm.link.mode = .continuous) ∧
    ({ calm with link.mode := .single } : State).link.mode = .single ∧
    ({ calm with link.mode := .stopped } : State).link.mode = .stopped ∧
    (running.supervisor.line = .running ∧ running.tracker.train ≠ []) ∧
    (queued.supervisor.line = .running ∧ queued.tracker.train = [] ∧ queued.transport.demand ≠ 0) ∧
    ({ calm with supervisor.line := .running } : State).transport.demand = 0 := by decide

theorem witness_HaltSpoilsTheTrain :
    claiming.supervisor.line ≠ .halted ∧ claiming.supervisor.line ≠ .safe ∧ claiming.tracker.train.Nodup ∧
    (2 ∈ claiming.tracker.train ∧ plateOf claiming 2 = some beltPlate ∧ beltPlate.stage ≠ .ended ∧
      beltPlate.dose.back.isOpen = true ∧ beltPlate.dose.main.isOpen = true) ∧
    claiming.banks.bk.state ≠ .forcedOff ∧ (3 : PlateId) ∉ claiming.tracker.train := by decide

theorem witness_HaltSpoilsTheTrain_records : ∀ p ∈ claiming.tracker.train, ∃ r, plateOf claiming p = some r ∧
    r.stage ≠ .ended := by
  intro p h
  obtain rfl : p = 2 := by simpa [claiming, running] using h
  exact ⟨beltPlate, by decide, by decide⟩

theorem witness_ResumeAndSafeReleaseLeaveTheStop :
    (haltedLine.supervisor.line = .halted ∧ haltedLine.safety.coverClosed = true ∧ haltedLine.banks.bk.claims = [] ∧
      haltedLine.banks.bk.darkStart = some 0) ∧
    ({ haltedLine with safety.coverClosed := false } : State).safety.coverClosed = false ∧
    (safeLine.supervisor.line = .safe ∧ safeLine.safety.estop = false ∧ safeLine.safety.coverClosed = true) ∧
    (let s := present 1 { safeLine with wash.replenish := .pending }
     s.wash.replenish = .pending ∧ isPresent s .wash = true) ∧
    (let s := present 1 { safeLine with wash.replenish := .retryWait, wash.retry := some 70000 }
     s.wash.replenish = .retryWait ∧ isPresent s .wash = true) ∧ safeLine.wash.replenish = .idle ∧
    (let s := present 2 { safeLine with shuttle.ready := true }
     s.shuttle.state = .stopped ∧ isPresent s .shuttle = true ∧ s.shuttle.ready = true ∧ s.shuttle.fault = false) ∧
    (let s := inChamber .suspended safeLine
     s.chamber.state = .suspended ∧ s.chamber.doorClosed = true ∧ s.chamber.onA = false ∧ s.chamber.ask = .none) := by decide

theorem witness_ResetLineResolvesTheQueue :
    calm.supervisor.line = .idle ∧ haltedLine.supervisor.line = .halted ∧
    slotState (withSlot 47 1 255 haltedLine) 47 = .queued ∧ slotState (withSlot 0 3 5 calm) 0 ≠ .queued := by decide

theorem witness_LinkAndHandlingCommandsAct :
    (calm.supervisor.line = .idle ∧ calm.link.mode = .continuous) ∧
    (({ calm with link.mode := .stopped } : State).link.mode = .stopped ∧
      nextVisited (takeAssignment { calm with link.mode := .stopped }) 0 ≠ none) ∧
    (let s : State := { calm with shuttle.state := .faulted, chamber.state := .faulted }
     s.shuttle.state = .faulted ∧ s.supervisor.line ≠ .safe ∧ s.chamber.state = .faulted ∧ s.shuttle.state ≠ .ready ∧
       s.chamber.state ≠ .dark ∧ s.chamber.state ≠ .loading ∧ chamberMove s = false ∧ s.chamber.pos1 = none ∧
       s.chamber.pos2 = none ∧ loadCandidate s none = none) ∧
    (inChamber .faulted calm).chamber.pos1 = some (2, .undecided) ∧
    ({ calm with chamber.state := .faulted, chamber.pos2 := some (3, .spoiled) } : State).chamber.pos1 = none := by decide

theorem witness_CalRequestsBeginOrAreTurnedAway :
    (calm.cal.opState ≠ .busy ∧ (ramRead (ramWrite 0x1101 255 calm) 0x1101).toNat ≤ 255 ∧ calm.supervisor.line = .idle) ∧
    ({ calm with cal.opState := .busy } : State).cal.opState = .busy ∧
    (Instr.unknownOperation 0).wellFormed = true ∧ (Instr.unknownOperation 6).wellFormed = true ∧
    (running.cal.opState ≠ .busy ∧ running.supervisor.line ≠ .idle ∧ running.supervisor.line ≠ .halted) ∧
    255 < (ramRead (ramWrite 0x1101 256 calm) 0x1101).toNat := by decide

theorem witness_CalCompletionsWriteTheStore :
    ({ calm with cal.running := some (.write 255 0xFFFF, 10005) } : State).cal.running = some (.write 255 0xFFFF, 10005) ∧
    ({ calm with cal.running := some (.erase 0, 10005) } : State).cal.running = some (.erase 0, 10005) ∧
    ({ calm with cal.running := some (.save { bk := 0, m1 := -1500, m2 := 1499 }, 10015) } : State).banks.bk.offset = 0 := by
  decide

theorem witness_LoadLiveTakesTheItemsInRange :
    (calm.cal.opState ≠ .busy ∧ calm.supervisor.line = .idle ∧ storeRead calm 0 ≠ 0x6D4B) ∧
    (storeRead stored 0 = 0x6D4B ∧ ∀ a ∈ itemWords, itemOk a (storeRead stored a) = true) ∧
    (storeRead (storeWrite 52 11 stored) 0 = 0x6D4B ∧ 52 ∈ itemWords ∧
      itemOk 52 (storeRead (storeWrite 52 11 stored) 52) = false) := by decide

theorem witness_VernierRecoversEveryCount :
    (268435455 < 268435456 ∧ (65535 : Word).toNat = 268435455 % 65536 ∧
      ((7 : Word).toNat : Int) = ((268435455 : Int) - (268435455 / 4096 : Nat) - (-7)) % 65536 ∧
      ((65529 : Word).toNat : Int) = ((268435455 : Int) - (268435455 / 4096 : Nat) - 7) % 65536) ∧
    ((21845 : Word).toNat = 21845333 % 65536 ∧
      ((16512 : Word).toNat : Int) = ((21845333 : Int) - (21845333 / 4096 : Nat) - 0) % 65536) := by decide

theorem witness_ScaleWordsPairIntoSamples :
    calm.transport.wait1 = none ∧ calm.transport.wait2 = none ∧
    ({ calm with transport.wait2 := some 16512 } : State).transport.wait2 = some 16512 ∧
    (scaleResidual 8192 8192).natAbs ≤ 8192 ∧ 8192 < (scaleResidual 8193 8193).natAbs ∧
    (scaleResidual 21845 16512).natAbs ≤ 8192 ∧ 8192 < (scaleResidual 21845 16514).natAbs := by decide

/-- Histories that keep a sample of 99 ms, of 100 ms on a belt that moved forward, and of one that rocked back; the
bands at their edges, and runs that have just been held. -/
theorem witness_GoodSampleSettlesTheTransport :
    (let s : State := { calm with transport.wait2 := some 16512 }
     (s.transport.wait2 = some 16512 ∧ (scaleResidual 21845 16512).natAbs ≤ 8192 ∧ s.transport.beltState = .stopped ∧
       s.tracker.train = [] ∧ s.admission.queue = [] ∧ s.admission.holdReason = .none ∧
       s.admission.misfeedHold = false) ∧
     ([(990000, 9901)] ++ [(scalePosition 21845 16512, 10000)]).dropWhile (fun x => decide (x.2 + 500 < s.now)) =
       (990000, 9901) :: [(999999, 10000)]) ∧
    (10000 - 9901 < 100 ∧ 100 ≤ 10000 - 9900 ∧ ((999999 : Int) - 990000) % 12288000 ≤ 6144000 ∧
      6144000 < ((999999 : Int) - 1000049) % 12288000) ∧
    (let s : State := { running with
       tracker.train := [], transport.wait2 := some 16512, transport.settleRun := some 9000
       transport.deviationRun := some 9000, transport.stallRun := some 8000 }
     s.tracker.train = [] ∧ s.admission.queue = [] ∧ s.transport.beltState = .settled ∧ s.transport.driveReady = true ∧
       9000 + 1000 ≤ s.now ∧ ¬9001 + 1000 ≤ s.now ∧ 8000 + 2000 ≤ s.now ∧ s.supervisor.line ≠ .halted ∧
       s.supervisor.line ≠ .safe) ∧
    (990 * 1000 ≤ 1000 * 990 ∧ 1000 * 1010 ≤ 1010 * 1000 ∧ 1000 * 979 < 980 * 1000 ∧ 1020 * 1000 < 1000 * 1021 ∧
      10 * 99 < 1000 ∧ ¬10 * 100 < 1000) ∧
    (let s : State := { queued with
       admission.epochCurrent := false, transport.beltState := .stopped, transport.demand := 0
       transport.wait2 := some 16512 }
     s.admission.queue = 2 :: [] ∧ plateOf s 2 = some plateA ∧ s.tracker.train = [] ∧ s.supervisor.line = .running ∧
       epochFits s 2 = false ∧ s.transport.demand ≠ effectiveSpeed s plateA.speed) := by decide

theorem witness_SilentSamplesHaltTheLine :
    (calm.transport.faults < 4 ∧ calm.tracker.train = [] ∧ calm.admission.queue = [] ∧
      calm.admission.holdReason = .none ∧ calm.admission.misfeedHold = false) ∧
    (let s : State := { running with transport.faults := 4 }
     4 ≤ s.transport.faults ∧ s.supervisor.line ≠ .halted ∧ s.supervisor.line ≠ .safe) ∧
    haltedLine.supervisor.line = .halted ∧ safeLine.supervisor.line = .safe := by decide

theorem witness_SensorChangesAreDebounced :
    let s : State := { calm with transport.infeed.timer := some 10003, transport.exit.timer := some 10004 }
    s.transport.infeed.timer = some 10003 ∧ s.pins.infeed = s.transport.infeed.settled ∧
      s.transport.exit.timer = some 10004 ∧ s.pins.exit = s.transport.exit.settled := by decide

theorem witness_InfeedEdgesAndMisfeedMoveThePlate :
    (let s : State := { releasing with
       pins.infeed := true, transport.infeed := { settled := false, candidate := some 0, timer := some 10005 } }
     s.transport.infeed.timer = some 10005 ∧ s.transport.infeed.candidate = some 0 ∧ s.pins.infeed = true ∧
       s.transport.infeed.settled = false ∧ releasingPlate s = some 2 ∧
       plateOf s 2 = some { plateA with stage := .releasing }) ∧
    releasingPlate running = none ∧
    (let s : State := { putPlate 2 (some { beltPlate with measured := none }) running with
       pins.infeed := false, transport.infeed := { settled := true, candidate := some 1900000, timer := some 10005 } }
     s.transport.infeed.candidate = some 1900000 ∧ s.pins.infeed = false ∧ s.transport.infeed.settled = true ∧
       s.tracker.train.getLast? = some 2 ∧ plateOf s 2 = some { beltPlate with measured := none } ∧
       beltPlate.stage = .onBelt ∧ beltPlate.headLatch = some 1000000) ∧
    calm.tracker.train = [] ∧
    (releasing.admission.misfeedTimer = some 12000 ∧ releasingPlate releasing = some 2 ∧
      plateOf releasing 2 = some { plateA with stage := .releasing } ∧ plateA.entryLoad = none ∧ plateA.rush = false ∧
      releasing.supervisor.line ≠ .draining) ∧
    (let s : State := { releasing with supervisor.line := .draining }
     s.supervisor.line = .draining ∧ s.tracker.train.erase 2 = []) ∧
    (let s : State := putPlate 2 (some { plateA with stage := .releasing, rush := true }) releasing
     releasingPlate s = some 2 ∧ isRush s 2 = true) := by decide

theorem witness_ExitEdgesMeetThePlate :
    (let s : State := { running with
       pins.exit := true, transport.exit := { settled := false, candidate := some 6670000, timer := some 10005 } }
     s.transport.exit.timer = some 10005 ∧ s.transport.exit.candidate = some 6670000 ∧ s.pins.exit = true ∧
       s.transport.exit.settled = false ∧ s.tracker.train = [2] ∧ plateOf s 2 = some beltPlate ∧
       beltPlate.exitConfirmed = false) ∧
    (5670000 ≤ ((6670000 : Int) - 1000000) % 12288000 ∧ ((6730000 : Int) - 1000000) % 12288000 ≤ 5730000 ∧
      ((6669999 : Int) - 1000000) % 12288000 < 5670000 ∧ 5730000 < ((6730001 : Int) - 1000000) % 12288000) ∧
    (let s : State := { putPlate 2 (some { beltPlate with exitConfirmed := true }) running with
       supervisor.line := .draining
       pins.exit := false, transport.exit := { settled := true, candidate := some 6670000, timer := some 10005 } }
     s.pins.exit = false ∧ s.transport.exit.settled = true ∧ s.shuttle.state ≠ .ready ∧ s.supervisor.line = .draining ∧
       plateOf s 2 = some { beltPlate with exitConfirmed := true } ∧ s.drying.rack.length < 2) ∧
    (let s : State := { running with
       chamber.state := .igniting, drying.rack := [.stray, .stray]
       pins.exit := false, transport.exit := { settled := true, candidate := some 6670000, timer := some 10005 } }
     s.chamber.state ≠ .dark ∧ s.chamber.state ≠ .loading ∧ 2 ≤ s.drying.rack.length ∧ s.supervisor.line ≠ .halted ∧
       s.supervisor.line ≠ .safe) ∧
    (running.tracker.train = 2 :: [] ∧ beltPlate.headLatch = some 1000000 ∧ running.admission.queue = [] ∧
      running.transport.faults < 4 ∧ beltPlate.stage ≠ .ended ∧ 5730000 < ((6730001 : Int) - 1000000) % 12288000 ∧
      ((running.transport.position.getD 0 : Nat) : Int) = 3000000 ∧ ((3000000 : Int) - 1000000) % 12288000 ≤ 5730000) ∧
    (let s : State := { running with transport.beltState := .stopped, transport.wait2 := some 16512 }
     s.transport.beltState = .stopped ∧ (scaleResidual 21845 16512).natAbs ≤ 8192) := by decide

theorem witness_HoldReasonIsTheFirstFailingCondition :
    plateOf queued 2 = some plateA ∧ queued.safety.coverClosed = true ∧ queued.supervisor.line = .running ∧
    queued.wash.hold = false ∧ queued.shuttle.state ≠ .faulted ∧
    queued.admission.commitments < placesInService queued ∧
    ({ queued with admission.commitments := 4 } : State).admission.commitments = placesInService queued ∧
    (queued.admission.epochCurrent = true ∧ 1000 * effectiveSpeed queued 1000 ≤ 1020 * queued.admission.epochSpeed ∧
      980 * queued.admission.epochSpeed ≤ 1000 * effectiveSpeed queued 1000 ∧
      ¬1000 * effectiveSpeed queued 1021 ≤ 1020 * queued.admission.epochSpeed) ∧
    queued.transport.beltState = .settled ∧ queued.pins.plateReady = false ∧ queued.tracker.train = [] ∧
    (let s : State := putPlate 3 (some plateA) running
     plateOf s 3 = some plateA ∧ gapHolds s 3 = true ∧ gapHolds { s with transport.position := some 1959999 } 3 = false ∧
       gapHolds { s with transport.position := some 1960000 } 3 = true ∧ s.tracker.train.getLast? = some 2 ∧
       beltPlate.measured = some 900 ∧ beltPlate.headLatch = some 1000000) ∧
    (let s : State := putPlate 3 (some plateA) releasing
     s.tracker.train.getLast? = some 2 ∧ ((plateOf s 2).map fun u => u.measured) = some none) ∧
    (queued.transport.faults < 4 ∧ queued.admission.misfeedHold = false ∧ queued.admission.queue = 2 :: [] ∧
      epochFits queued 2 = true ∧ holdReasonFor queued 2 = some .infeedEmpty ∧
      queued.admission.holdReason = .none ∧ holdReasonFor { queued with pins.plateReady := true } 2 = none ∧
      calm.admission.queue = []) := by decide

theorem witness_SampleAdmitsTheHead :
    (let s : State := { queued with admission.epochSpeed := 1100 }
     s.admission.queue = 2 :: [] ∧ plateOf s 2 = some plateA ∧ s.tracker.train = [] ∧ s.supervisor.line = .running ∧
       s.transport.faults < 4 ∧ epochFits s 2 = false ∧ s.admission.misfeedHold = false ∧ s.safety.coverClosed = true ∧
       s.wash.hold = false ∧ s.shuttle.state ≠ .faulted ∧ s.admission.commitments < placesInService s) ∧
    ({ queued with transport.demand := 1100 } : State).transport.demand ≠ effectiveSpeed queued plateA.speed ∧
    (queued.admission.queue = 2 :: [] ∧ plateA.stage ≠ .ended ∧ epochFits queued 2 = true ∧
      queued.transport.beltState = .settled) := by decide

/-- Plate 3 at the head of the queue behind plate 2 on the belt, which has a head latch, with the word of SCALE 2 there. -/
def following (latch : Nat) : State :=
  { putPlate 3 (some plateA) (putPlate 2 (some { beltPlate with headLatch := some latch }) running) with
    admission.queue := [3], transport.wait2 := some 0
    drying.drawers := calm.drying.drawers.set 0 { Drawer.reset with service := .inService, doorClosed := true } }

theorem following_trainStays :
    trainStays 3000000 (following 1000000) ∧ trainStays (scalePosition 0 0) (following 10288000) := by
  constructor
  all_goals
    intro p hp r hr l hl
    obtain rfl : p = 2 := by simpa [following, running, putPlate] using hp
    cases hr
    cases hl
    decide

/-- A sample behind another plate: the head may go at a silent sample and at a good one, or is held with WAIT_GAP short of the
gap, with EPOCH_CHANGE at another speed, and with INFEED_EMPTY till an armed misfeed hold is cleared. -/
theorem witness_evaluation_behind_a_plate :
    ((following 1000000).transport.faults < 4 ∧ (following 1000000).transport.position = some 3000000 ∧
      gapHolds (following 1000000) 3 = true ∧ (3 : PlateId) ∉ (following 1000000).tracker.train ∧
      (following 1000000).admission.commitments < placesInService (following 1000000) ∧
      epochFits (following 1000000) 3 = true ∧ plateOf (following 1000000) 3 = some plateA ∧ plateA.stage ≠ .ended ∧
      (following 1000000).supervisor.line = .running ∧ (following 1000000).wash.hold = false) ∧
    ((scaleResidual 0 0).natAbs ≤ 8192 ∧ (following 10288000).transport.stallRun = none ∧
      (goodSample (scalePosition 0 0) (following 10288000)).transport.beltState = .settled ∧
      gapHolds (goodSample (scalePosition 0 0) (following 10288000)) 3 = true) ∧
    (let ready (s : State) : State := { s with pins.plateReady := true }
     holdReasonFor (ready { following 1000000 with transport.position := some 1959999 }) 3 = some .waitGap ∧
       holdReasonFor (ready { following 1000000 with admission.epochSpeed := 1100 }) 3 = some .epochChange ∧
       holdReasonFor (ready { following 1000000 with admission.misfeedHold := true }) 3 = some .infeedEmpty ∧
       holdReasonFor (ready (following 1000000)) 3 = none) := by decide

/-- R43: an evaluation without PLATE_READY arms the release of the misfeed hold, and a later one with it clears the hold. -/
theorem test_misfeed_steps :
    let s : State := { following 1000000 with admission.misfeedHold := true }
    let t := after (.scaleWatchdogExpiry false) s
    (after (.scaleWatchdogExpiry true) s).admission.misfeedHold = true ∧
      (t.admission.misfeedHold = true ∧ t.admission.misfeedArmed = true ∧ t.admission.holdReason = .infeedEmpty) ∧
      (after (.scaleWatchdogExpiry true) t).admission.misfeedHold = false := by decide

/-- A bank in each state, with s above, at and below 0, at the limits of the offset and with 199 and 200 ms of dark. -/
theorem witness_ConversionMeasuresAndRegulates :
    claiming.banks.bk.state = .claimed ∧ 100 ≤ claiming.banks.bk.duty ∧ ({ claiming with banks.bk.duty := 99 } : State).banks.bk.duty < 100 ∧
    ({ claiming with banks.m1.state := .tracking } : State).banks.m1.state = .tracking ∧
    (calm.banks.m1.state = .dark ∧ calm.banks.m1.darkStart = some 0 ∧ 200 ≤ calm.now - 0) ∧
    ({ calm with banks.m1.darkStart := some 9801 } : State).now - 9801 < 200 ∧ haltedLine.banks.m2.state = .forcedOff ∧
    ((1501 : Int) + -1500 > 0 ∧ (-1500 : Int) - 1 < -1500 ∧ (1499 : Int) < 1499 + 1 ∧ (0 : Int) + 0 = 0) ∧
    (let s : State := { claiming with banks.bk.duty := 1000, banks.bk.regGain := 255 }
     regulatedDuty s.banks.bk.duty s.banks.bk.regGain (40 - 39) = 1000 ∧ (40 : Int) < 50 * (40 - 39) ∧
       (50 : Int) * (40 - 40) ≤ 40) := by decide

/-- Plate 2 with its strip 0 at the start of the back bank's window, and at its end. -/
theorem witness_ConversionCreditsTheDose :
    claiming.tracker.train.Nodup ∧ 2 ∈ claiming.tracker.train ∧ plateOf claiming 2 = some beltPlate ∧
    beltPlate.headLatch = some 1000000 ∧ beltPlate.dose.back.isOpen = true ∧
    ((250 : Int) * 1000 ≤ 278125 - ((900000 * 1 / 32 : Nat) : Int) ∧ (278125 : Int) - ((900000 * 1 / 32 : Nat) : Int) < 550 * 1000) ∧
    ¬((278124 : Int) - ((900000 * 1 / 32 : Nat) : Int) ≥ 250 * 1000) ∧
    (550 : Int) * 1000 ≤ 578125 - ((900000 * 1 / 32 : Nat) : Int) := by decide

theorem witness_ClaimsFollowTheTravel :
    ((2 : PlateId) ∉ calm.banks.bk.claims ∧ 2 ∉ calm.banks.bk.passed ∧ (549999 : Int) < (calm.banks.bk.w1 : Int) * 1000 ∧
      (calm.banks.bk.w0 - 20) * 1000 ≤ 230000 ∧ 229999 < (calm.banks.bk.w0 - 20) * 1000) ∧
    (calm.banks.bk.claims = [] ∧ calm.banks.bk.state ≠ .forcedOff ∧ 0 < calm.banks.bk.full ∧
      haltedLine.banks.bk.state = .forcedOff ∧ ({ calm.banks.bk with full := 0 }).full = 0) ∧
    ((3 : PlateId) ∉ claiming.banks.bk.claims ∧ claiming.banks.bk.claims ≠ []) ∧
    (calm.banks.bk.w1 : Int) * 1000 ≤ 550000 ∧ (2 : PlateId) ∈ claiming.banks.bk.claims ∧
    claiming.banks.bk.claims.erase 2 = [] ∧ ({ claiming.banks.bk with claims := [2, 3] }).claims.erase 2 ≠ [] ∧
    (2 : PlateId) ∈ ({ calm.banks.bk with passed := [2] }).passed ∧ 0 < claiming.banks.bk.duty := by decide

/-- The head of plate 2 at the zone start of BK, 230 mm, at a silent sample and at a good one. -/
theorem witness_ClaimsFollowTheTravel_sample :
    let r : Plate := { beltPlate with headLatch := some 2770000 }
    let s : State := { putPlate 2 (some r) running with transport.wait2 := some 16512 }
    (s.tracker.train = [2] ∧ plateOf s 2 = some r ∧ r.headLatch = some 2770000 ∧
      r.setpoints = some { bk := 40, m1 := 250, m2 := 250 } ∧ s.admission.queue = [] ∧ s.transport.faults < 4) ∧
    (((3000000 : Int) - 2770000) % 12288000).toNat = 230000 ∧ r.exitConfirmed = false ∧ 230000 ≤ 5730000 ∧
    (s.banks.bk.claims = [] ∧ (2 : PlateId) ∉ s.banks.bk.passed ∧ s.banks.bk.state ≠ .forcedOff ∧
      (230000 : Int) - ((900000 * 31 / 32 : Nat) : Int) < (s.banks.bk.w1 : Int) * 1000 ∧
      (s.banks.bk.w0 - s.claimLead) * 1000 ≤ 230000 ∧ 0 < s.banks.bk.full) ∧
    s.transport.wait2 = some 16512 ∧ (scaleResidual 21845 16512).natAbs ≤ 8192 ∧ s.transport.stallRun = none := by decide

theorem witness_BankClocksCountTheDuty :
    (calm.banks.bk.duty = 0 ∧ ({ calm.banks.bk with onRem := 999 }).onRem < 1000) ∧ 0 < claiming.banks.bk.duty := by decide

theorem witness_ClosingAStationReportsItsSums :
    (50 ≤ 1000 ∧ (1200 * (1000 - 50) ≤ 1140000 ∧ 1260000 ≤ 1200 * (1000 + 50)) ∧
      (1139999 < 1200 * (1000 - 50) ∧ 1200 * (1000 + 50) < 1260001) ∧
      plateA.backDone = false ∧ ({ plateA with backDone := true }).backDone = true) ∧
    plateOf running 2 = some beltPlate ∧ beltPlate.dose.back.isOpen = true ∧ beltPlate.dose.main.isOpen = true ∧
    (closedDose beltPlate.dose .back .inTol).back.isOpen = false ∧
    (closedDose beltPlate.dose .main .inTol).main.isOpen = false ∧
    (∀ x : Fin 16, beltPlate.dose.strips.bk[(0 : Fin 16)] ≤ beltPlate.dose.strips.bk[x] ∧
      beltPlate.dose.strips.bk[x] ≤ beltPlate.dose.strips.bk[(15 : Fin 16)] ∧ beltPlate.dose.strips.bk[x] ≤ 4294967295) ∧
    (∀ x : Fin 16, min 4294967295 (beltPlate.dose.strips.m1[x] + beltPlate.dose.strips.m2[x]) = 0) := by
  decide

/-- Strip 15 of plate 2, 871,875 µm behind its head, at the window end of BK, at that of M2, and 1 µm short of that of BK. -/
theorem witness_ClosingAStationReportsItsSums_sample :
    let belt (latch : Nat) : State := putPlate 2 (some { beltPlate with headLatch := some latch }) running
    ((belt 1578125).tracker.train = [2] ∧ (belt 1578125).admission.queue = [] ∧ (belt 1578125).transport.faults < 4 ∧
      (belt 1578125).transport.stallRun = none ∧ beltPlate.exitConfirmed = false) ∧
    (beltPlate.dose.back.isOpen = true ∧ beltPlate.dose.main.isOpen = true) ∧
    ((belt 1578125).banks.bk.w1 : Int) * 1000 ≤
      ((3000000 : Int) - 1578125) % 12288000 - ((900000 * 31 / 32 : Nat) : Int) ∧
    ((belt 128125).banks.m2.w1 : Int) * 1000 ≤
      ((3000000 : Int) - 128125) % 12288000 - ((900000 * 31 / 32 : Nat) : Int) ∧
    ((3000000 : Int) - 1578126) % 12288000 - ((900000 * 31 / 32 : Nat) : Int) <
      ((belt 1578126).banks.bk.w1 : Int) * 1000 := by decide

theorem witness_LeavingTheWashAddsTheLoad :
    plateOf running 2 = some beltPlate ∧ 0 < running.wash.volume ∧ beltPlate.entryLoad = none ∧
    (let s : State := { putPlate 2 (some { beltPlate with entryLoad := some 25000 }) running with
       wash.load := 25000, wash.regen := 18000 }
     plateOf s 2 = some { beltPlate with entryLoad := some 25000 } ∧ loadAdded s beltPlate = 1401 ∧
       s.wash.hard ≤ min 65535 (s.wash.load + loadAdded s beltPlate) ∧ s.wash.hold = false ∧ s.wash.replenish = .idle ∧
       s.wash.regen ≤ min 65535 (s.wash.load + loadAdded s beltPlate)) ∧
    (let s : State := running
     s.tracker.train = [2] ∧ s.admission.queue = [] ∧ s.transport.faults < 4 ∧ s.transport.position = some 3000000 ∧
       beltPlate.exitConfirmed = false ∧ beltPlate.washFigures = none ∧
       beltPlate.measured.getD beltPlate.length = 900 ∧
       plateOf (putPlate 2 (some { beltPlate with headLatch := some 600000 }) s) 2 =
         some { beltPlate with headLatch := some 600000 } ∧
       ((3000000 : Int) - 600000) % 12288000 = 2400000 ∧ s.wash.start * 1000 = 2400000 ∧
       ((3000000 : Int) - 9588000) % 12288000 = 5700000 ∧ (5700000 : Int) ≤ 5730000 ∧
       s.wash.stop * 1000 + 900 * 1000 = 5700000) ∧
    (let r : Plate := { beltPlate with exitConfirmed := true, headLatch := some 0 }
     let s : State := putPlate 2 (some r) running
     s.tracker.train = [2] ∧ plateOf s 2 = some r ∧ r.headLatch = some 0 ∧ s.admission.queue = [] ∧
       s.transport.faults < 4 ∧ r.washFigures = none ∧
       (((s.wash.start * 1000 : Nat) : Int) ≤ ((s.wash.start * 1000 : Nat) : Int) % 12288000) ∧
       ¬((s.wash.stop * 1000 : Nat) : Int) ≤ (3000000 : Int) % 12288000 - ((900 * 1000 : Nat) : Int) ∧
       ((s.wash.stop * 1000 : Nat) : Int) ≤
         ((s.wash.stop * 1000 + 900000 : Nat) : Int) % 12288000 - ((900 * 1000 : Nat) : Int)) := by decide

theorem witness_HandlingTimersExpire :
    calm.shuttle.state ≠ .ready ∧ loadCandidate calm none = none ∧ chamberMove calm = false ∧
    (let s := { inChamber .exposing calm with chamber.openDeadline := some 20000 }
     s.chamber.openDeadline = some 20000 ∧ s.chamber.state = .exposing ∧ s.chamber.pos1 = some (2, .undecided) ∧
       s.chamber.pos2 = none ∧ plateOf s 2 = some { plateA with stage := .inChamber }) ∧
    (let s := inChamber .loading calm
     s.chamber.state = .loading ∧ s.supervisor.line ≠ .safe ∧ s.chamber.doorClosed = true ∧
       (s.chamber.batchClass.getD (0, 0)).1 ≠ 0) ∧
    ((inChamber .loading safeLine).supervisor.line = .safe) ∧
    (let s : State := { present 1 calm with wash.replenish := .retryWait, wash.retry := some 70000 }
     s.wash.retry = some 70000 ∧ s.wash.replenish = .retryWait ∧ isPresent s .wash = true ∧ s.supervisor.line ≠ .safe ∧
       nodeOf s .wash = some 1) ∧
    isPresent calm .wash = false ∧
    (let s := moving .store .rack (.slot 0 0) (putPlate 2 (some { plateA with stage := .inShuttle }) calm)
     s.shuttle.timer = some 20000 ∧ (s.shuttle.move.map fun m => m.plate) = some 2 ∧
       plateOf s 2 = some { plateA with stage := .inShuttle }) := by decide

theorem witness_GrantGoesToStoreThenUnloadThenLoad :
    (let s : State := { queued with shuttle.state := .ready, drying.rack := [.plate 2] }
     s.shuttle.state = .ready ∧ s.drying.rack = .plate 2 :: [] ∧ storeDest s = some (0, 0)) ∧
    (calm.drying.rack = [] ∧ storeDest calm = none) ∧
    ({ calm with drying.rack := [.stray, .plate 2] } : State).drying.rack = .stray :: [.plate 2] ∧
    (let s : State := { inChamber .unloading calm with
       shuttle.state := .ready, shuttle.stackFull := false, chamber.ask := .unload 2 .one false }
     s.chamber.ask = .unload 2 .one false ∧ s.shuttle.stackFull = false) ∧ calm.shuttle.stackFull = true ∧
    (let s : State := { dried with shuttle.state := .ready, chamber.ask := .load .two (some (400, 300)) }
     s.chamber.ask = .load .two (some (400, 300)) ∧ loadCandidate s (some (400, 300)) = some 2 ∧
       loadCandidate s (some (400, 301)) = none ∧ ((plateOf s 2).map fun r => r.drawerSlot) = some (some (0, 0))) ∧
    ({ calm with shuttle.state := .ready } : State).chamber.ask = .none := by decide

/-- A STRAY before a plate in the rack; a confirmed plate at its tail edge; a chamber at the end of stabilizing. -/
theorem witness_GrantGoesToStoreThenUnloadThenLoad_events :
    (let s : State := { queued with shuttle.state := .ready, drying.rack := [.stray, .plate 2] }
     s.shuttle.state = .ready ∧ s.drying.rack.filter (fun e => e != .stray) = [.plate 2] ∧ storeDest s = some (0, 0)) ∧
    (let s : State := { putPlate 2 (some { beltPlate with exitConfirmed := true }) running with
       drying.drawers := queued.drying.drawers, shuttle.state := .ready, transport.exit.timer := some 10005
       transport.exit.settled := true }
     s.transport.exit.timer = some 10005 ∧ s.pins.exit = false ∧ s.transport.exit.settled = true ∧
       s.tracker.train = [2] ∧ plateOf s 2 = some { beltPlate with exitConfirmed := true } ∧ s.drying.rack = [] ∧
       beltPlate.stage ≠ .ended ∧ storeDest s = some (0, 0)) ∧
    (let s : State := { dried with
       shuttle.state := .ready, chamber.state := .stabilizing, chamber.stabilizing := some 20000 }
     s.chamber.stabilizing = some 20000 ∧ s.chamber.state = .stabilizing ∧ s.drying.rack = [] ∧
       loadCandidate s none = some 2 ∧ ((plateOf s 2).map fun r => r.drawerSlot) = some (some (0, 0))) := by decide

/-- A report of the shuttle node, ready, with the stack not full or full, that finds the shuttle STOPPED. -/
theorem witness_GrantGoesToStoreThenUnloadThenLoad_report :
    (let s : State := heard 2 .stop { queued with drying.rack := [.plate 2] }
     goodResponse .shuttle 2 false .stop (respond 0x33 0x80 [1, 0, 0, 0, 0, 0]) 0x80 #v[1, 0, 0, 0, 0, 0] s ∧
       nodeOf s .shuttle = some 2 ∧ s.link.nodes[(2 : Fin 15)].state = .present ∧ s.shuttle.state = .stopped ∧
       s.shuttle.move = none ∧ s.supervisor.line ≠ .safe ∧ storeDest s = some (0, 0)) ∧
    (let s : State := heard 2 .stop { inChamber .unloading calm with chamber.ask := .unload 2 .one false }
     s.drying.rack = [] ∧ s.chamber.ask = .unload 2 .one false ∧ s.shuttle.state = .stopped) ∧
    (let s : State := heard 2 .stop { dried with chamber.state := .ready, chamber.ask := .load .one none }
     s.drying.rack = [] ∧ s.chamber.ask = .load .one none ∧ loadCandidate s none = some 2) ∧
    (heard 2 .stop calm).chamber.ask = .none :=
  ⟨⟨⟨0x33, rfl, test_judged.2.2.1, rfl, by decide⟩, by decide⟩, by decide, by decide, by decide⟩

theorem witness_LinkPassesAndVisits :
    (let s : State := { calm with link.phase := .between, link.passTimer := some 10020 }
     s.link.passTimer = some 10020 ∧ s.link.phase = .between ∧ passFollows s.link = true ∧
       nextVisited (takeAssignment s) 0 ≠ none) ∧
    ({ calm with link.phase := .between, link.mode := .stopped } : State).link.phase = .between ∧
    passFollows { calm.link with mode := .stopped } = false ∧
    (calm.link.phase = .guard 0 ∧ calm.link.revisit = none ∧ nextVisited calm 0 = some 0) ∧
    ({ calm with link.phase := .guard 9, link.revisit := some 3 } : State).link.revisit = some 3 := by decide

/-- The last visit of a pass, of node 10, in SINGLE, in CONTINUOUS with the pass timer running, and with it expired; and a
response that marks a revisit. -/
theorem witness_LinkPassesAndVisits_end :
    (let s : State := heard 9 .stop { calm with link.mode := .single }
     s.link.phase = .window 9 false 0x3A .stop ∧ s.link.revisit = none ∧ nextVisited s 10 = none ∧
       passFollows s.link = false) ∧
    (let s : State := heard 9 .stop calm
     passFollows s.link = true ∧ s.link.passTimer = some 20 ∧ assignedStation s.link.lastNode s.link.assign 0 ≠ .none) ∧
    ({ calm with link.passTimer := none } : State).link.passTimer = none ∧
    judge 0x3A (respond 0x3A 0xA0 [0, 0, 0, 0, 0, 0]) = .good 0xA0 #v[0, 0, 0, 0, 0, 0] :=
  ⟨by decide, by decide, by decide, test_judged.2.2.2.2.2.2.1⟩

/-- An assignment with the drive on node 2, the shuttle on none and the drawers from node 4 on, up to node 9. -/
theorem witness_LinkPassesAndVisits_assignment :
    let a : Vector Station 15 := #v[.wash, .drive, .wash, .drawer 0, .drawer 1, .drawer 2, .drawer 3, .drawer 4, .drawer 5,
      .shuttle, .none, .none, .none, .none, .none]
    let s : State := present 0 (present 2 (present 4 { calm with
      link.assign := a, link.lastNode := 9, link.phase := .between, link.passTimer := some 10020
      transport.beltState := .settled, shuttle.state := .ready }))
    (s.link.passTimer = some 10020 ∧ s.link.phase = .between ∧ passFollows s.link = true) ∧
    ((s.link.nodes[(0 : Fin 15)].station = .drive ∧ assignedStation 9 a 0 = .wash) ∧
      (s.link.nodes[(2 : Fin 15)].station = .shuttle ∧ assignedStation 9 a 2 = .none) ∧
      (s.link.nodes[(4 : Fin 15)].station = .drawer 0 ∧ assignedStation 9 a 4 = .drawer 1) ∧
      (s.link.nodes[(10 : Fin 15)].station = .none ∧ assignedStation 9 a 10 = .none)) ∧
    (∀ n m : Fin 15, n.val < 10 → m ≠ n → s.link.nodes[m].station ≠ s.link.nodes[n].station) ∧
    (s.link.nodes[(0 : Fin 15)].state = .present ∧ s.link.nodes[(2 : Fin 15)].state = .present ∧
      s.link.nodes[(4 : Fin 15)].state = .present) ∧
    (9 < (9 : Fin 15).val + 1 ∧ assignedStation 9 a 9 = .none) ∧ (8 : Fin 15).val + 1 ≤ 9 ∧
    (∀ m : Fin 15, m.val < 8 → a[m] ≠ a[(8 : Fin 15)]) := by decide

theorem witness_OwnersGiveTheirCommands :
    calm.transport.demand = 0 ∧ running.transport.demand ≠ 0 ∧ safeLine.supervisor.line = .safe ∧
    calm.supervisor.line ≠ .safe ∧ calm.wash.outstanding = none ∧
    ({ calm with wash.outstanding := some 255 } : State).wash.outstanding = some 255 ∧
    (let s : State := { calm with shuttle.state := .faulted, shuttle.resetRequested := true }
     s.shuttle.state = .faulted ∧ s.shuttle.resetRequested = true) ∧
    calm.shuttle.move = none ∧ (moving .load (.slot 5 3) (.chamber .two) calm).shuttle.move.isSome = true ∧
    calm.chamber.state = .dark ∧ (inChamber .igniting calm).chamber.state = .igniting ∧
    (inChamber .exposing calm).chamber.state = .exposing ∧ (inChamber .ready calm).chamber.state = .ready := by decide

theorem witness_ResponsesAreJudged :
    judge 0x31 (respond 0x31 0x80 [0, 0, 0, 0, 0, 0]) = .good 0x80 #v[0, 0, 0, 0, 0, 0] ∧
    judge 0x31 (respond 0x41 0x80 [0, 0, 0, 0, 0, 0]) = .echoMismatch ∧
    judge 0x31 (respond 0x31 0x80 [0, 0, 0, 0, 0, 1]) = .checkError ∧
    judge 0x31 ((respond 0x31 0x80 [0, 0, 0, 0, 0, 0]).take 9) = .checkError := test_judged.2.2.2.2.2.2.2

theorem witness_MissedVisitsLoseTheNode :
    (let s := listening 1 running
     s.link.phase = .window 1 false 0x32 .stop ∧ s.link.nodes[(1 : Fin 15)].state ≠ .present ∧
       nextVisited s 2 ≠ none) ∧
    (let s := listening 0 (putNode 0 { running.link.nodes[(0 : Fin 15)] with state := .present, miss := 2 } running)
     s.link.nodes[(0 : Fin 15)].state = .present ∧ 2 ≤ s.link.nodes[(0 : Fin 15)].miss ∧
       s.link.nodes[(0 : Fin 15)].station = .drive ∧ s.supervisor.line ≠ .halted ∧ s.supervisor.line ≠ .safe) ∧
    (listening 1 (present 1 running)).link.nodes[(1 : Fin 15)].station = .wash ∧
    judge 0x32 [{ data := 0x3A, stopHigh := true }] = .checkError ∧
    (let s := listening 2 (putNode 2 { calm.link.nodes[(2 : Fin 15)] with state := .present, miss := 2 }
       (moving .store .rack (.slot 0 0) (putPlate 2 (some { plateA with stage := .inShuttle }) calm)))
     s.link.nodes[(2 : Fin 15)].station = .shuttle ∧ s.shuttle.move.isSome = true ∧
       plateOf s 2 = some { plateA with stage := .inShuttle }) ∧
    ((listening 3 (inChamber .exposing calm)).link.nodes[(3 : Fin 15)].station = .finisher ∧
      (inChamber .exposing calm).chamber.state = .exposing) := by decide

theorem witness_GoodResponsesAreDelivered :
    (let s := listening 0 (present 0 running)
     s.link.phase = .window 0 false 0x31 .stop ∧ nextVisited s 1 ≠ none ∧ s.link.nodes[(0 : Fin 15)].station = .drive ∧
       s.link.nodes[(0 : Fin 15)].state = .present ∧ s.transport.beltState = .settled ∧
       judge 0x31 (respond 0x31 0x40 [0, 0, 0, 0, 0, 0]) = .good 0x40 #v[0, 0, 0, 0, 0, 0]) ∧
    ((0x40 : Byte).getLsbD 7 = false ∧ (0x40 : Byte).getLsbD 6 = true ∧ (0xA0 : Byte).getLsbD 5 = true ∧
      (0x40 : Byte).getLsbD 5 = false) ∧
    (listening 0 running).link.nodes[(0 : Fin 15)].state = .unseen ∧
    ((heard 1 .stop calm).link.nodes[(1 : Fin 15)].station = .wash ∧ (heard 2 .stop calm).link.nodes[(2 : Fin 15)].station = .shuttle ∧
      (heard 3 .stop calm).link.nodes[(3 : Fin 15)].station = .finisher ∧
      (heard 9 .stop calm).link.nodes[(9 : Fin 15)].station = .drawer 5) := by
  refine ⟨⟨rfl, by decide, rfl, rfl, rfl, test_judged.1⟩, ?_⟩
  decide

theorem witness_StationReportsAct :
    (let s : State := heard 1 .replenish { calm with
       wash.outstanding := some 7, wash.replenish := .ordered, wash.load := 18400, wash.portion := 20 }
     goodResponse .wash 1 false .replenish (respond 0x32 0x85 [144, 1, 250, 0, 0, 7]) 0x85 #v[144, 1, 250, 0, 0, 7] s ∧
       nodeOf s .wash = some 1 ∧ s.link.nodes[(1 : Fin 15)].state = .present ∧ s.wash.outstanding = some (7 : Byte).toNat ∧
       s.wash.outstanding ≠ some (8 : Byte).toNat ∧ orderResultOfCode ((0x85 : Byte).toNat / 4 % 8) = .done ∧
       orderResultOfCode ((0x89 : Byte).toNat / 4 % 8) = .failed ∧ orderResultOfCode ((0x81 : Byte).toNat / 4 % 8) = .none ∧
       0 < s.wash.volume ∧ ¬(18400 * (400 - 20) + 399) / 400 < s.wash.regen - 2000 ∧
       (16000 * (400 - 20) + 399) / 400 < s.wash.regen - 2000 ∧ s.supervisor.line ≠ .safe) ∧
    (let s : State := heard 4 .heat { putPlate 2 (some { plateA with stage := .drying, dryRemaining := 500 }) dried with
       chamber.state := .igniting }
     goodResponse (.drawer 0) 4 false .heat (respond 0x35 0x80 [58, 2, 1, 0, 0, 0]) 0x80 #v[58, 2, 1, 0, 0, 0] s ∧
       nodeOf s (.drawer 0) = some 4 ∧ s.shuttle.state ≠ .ready ∧ s.chamber.state ≠ .loading ∧
       (s.drying.setpoint : Int) - s.drying.band ≤ ((2 : Byte) ++ (58 : Byte)).toInt ∧
       ¬(s.drying.setpoint : Int) - s.drying.band ≤ ((2 : Byte) ++ (57 : Byte)).toInt ∧
       (drawerSlotIds.filterMap fun m => s.drying.drawers[(0 : Fin 6)].slots[m]) = [2, 3] ∧
       ((plateOf s 2).map fun r => (r.stage, r.dryRemaining)) = some (.drying, 500) ∧ min 1000 (s.now - 9500) = 500) ∧
    (heard 4 .heat dried).chamber.state = .dark ∧ isPresent (present 3 dried) .finisher = true ∧
    isPresent dried .finisher = false ∧ loadCandidate dried none ≠ none ∧
    (let s : State := heard 4 .heat (putNode 4 { dried.link.nodes[(4 : Fin 15)] with miss := 2 } dried)
     s.link.nodes[(4 : Fin 15)].station = .drawer 0 ∧ 2 ≤ s.link.nodes[(4 : Fin 15)].miss ∧ s.link.revisit = none ∧
       nextVisited s 5 ≠ none) := by
  refine ⟨⟨⟨0x32, rfl, test_judged.2.1, rfl, by decide⟩, by decide⟩,
    ⟨⟨0x35, rfl, test_judged.2.2.2.2.2.1, rfl, by decide⟩, by decide⟩, ?_⟩
  decide

theorem witness_ShuttleReportsEndTheMove :
    (let s : State := heard 2 .move
       (moving .store .rack (.slot 0 0) (putPlate 2 (some { plateA with stage := .inShuttle }) running))
     goodResponse .shuttle 2 false .move (respond 0x33 0x85 [1, 0, 0, 0, 0, 1]) 0x85 #v[1, 0, 0, 0, 0, 1] s ∧
       nodeOf s .shuttle = some 2 ∧ s.shuttle.state = .moving ∧ s.shuttle.move.isSome = true ∧
       s.chamber.state ≠ .loading ∧ ((plateOf s 2).map fun r => r.stage) = some .inShuttle) ∧
    ((0x85 : Byte).getLsbD 7 = true ∧ (0x85 : Byte).getLsbD 6 = false ∧ (0x45 : Byte).getLsbD 6 = true) ∧
    (let d : DoseRecord := closedDose (closedDose plateA.dose .back .inTol) .main .notRequired
     d.back.isOpen = false ∧ d.main.isOpen = false ∧ d.back.verdict = some .inTol ∧
       d.main.verdict = some .notRequired ∧ (some .short : Option Verdict) ≠ some .inTol) ∧
    ((inChamber .unloading calm).chamber.state = .unloading ∧ calm.chamber.pos1 = none ∧ calm.chamber.pos2 = none) ∧
    (let s := inChamber .loading calm
     s.chamber.state = .loading ∧ s.chamber.ask = .none ∧ (s.chamber.batchClass.getD (0, 0)).1 ≠ 0 ∧
       loadCandidate s s.chamber.batchClass = none ∧ s.chamber.doorClosed = true) ∧
    (loadCandidate { dried with chamber.batchClass := some (400, 300) } (some (400, 300)) ≠ none ∧
      (inChamber .faulted calm).chamber.state = .faulted) ∧
    (calm.shuttle.move = none ∧ calm.shuttle.state = .stopped) ∧
    (let s : State := { inChamber .unloading calm with
       shuttle.state := .ready, shuttle.stackFull := true, chamber.ask := .unload 2 .one false }
     s.shuttle.move = none ∧ s.drying.rack = [] ∧ s.chamber.ask = .unload 2 .one false ∧
       (5 : Byte).toNat ≠ nextOrder s .shuttle) ∧
    (let s : State := { calm with shuttle.state := .faulted, shuttle.resetRequested := true }
     s.shuttle.state = .faulted ∧ s.shuttle.resetRequested = true ∧ s.shuttle.move = none) := by
  refine ⟨⟨⟨0x33, rfl, test_judged.2.2.2.1, rfl, by decide⟩, by decide⟩, ?_⟩
  decide

/-- The able clauses of DONE: a STORE, an UNLOAD and the LOADs of a first plate, where each plate has one place. -/
theorem witness_ShuttleReportsEndTheMove_able :
    (let s : State := carrying .store .rack (.slot 0 0) { plateA with stage := .racked } calm
     goodResponse .shuttle 2 false .move (respond 0x33 0x85 [1, 0, 0, 0, 0, 1]) 0x85 #v[1, 0, 0, 0, 0, 1] s ∧
       placesInv s ∧ s.shuttle.state = .moving ∧ s.supervisor.line ≠ .safe ∧ nodeOf s .shuttle = some 2 ∧
       plateOf s 2 = some { plateA with stage := .inShuttle }) ∧
    (placesInv unloadingPair ∧ unloadingPair.chamber.pos1 = some (3, .finished)) ∧
    (placesInv (loadingPair .one) ∧ loadCandidate (loadingPair .one) (some (400, 300)) = some 3 ∧
      (loadingPair .one).chamber.ask = .none) ∧
    (let s : State := { loadingPair .one with chamber.batchClass := none, drying.drawers := calm.drying.drawers
                                              drying.dryList := [] }
     placesInv s ∧ loadCandidate s s.chamber.batchClass = none ∧ s.chamber.batchClass.getD (0, 0) = (0, 0)) ∧
    placesInv { loadingPair .two with chamber.state := .faulted } := by
  refine ⟨⟨⟨0x33, rfl, test_judged.2.2.2.1, rfl, by decide⟩, ?_, by decide⟩, ⟨?_, by decide⟩, ⟨?_, by decide⟩,
    ⟨?_, by decide⟩, ?_⟩ <;> exact ⟨by decide, by decide, by decide, by decide, by decide, by decide, trivial⟩

theorem witness_FinisherReportsCreditAndTest :
    (let s : State := heard 3 .shutter { inChamber .exposing calm with
       chamber.openA := true, chamber.onC := true, chamber.accA := 399999, chamber.openDeadline := some 20000 }
     goodResponse .finisher 3 false .shutter (respond 0x34 0x80 [1, 0, 0, 0, 26, 0]) 0x80 #v[1, 0, 0, 0, 26, 0] s ∧
       s.shuttle.state ≠ .ready ∧ s.chamber.ask = .none ∧ s.chamber.state = .exposing ∧ chamberMove s = false ∧
       s.chamber.pos1 = some (2, .undecided) ∧ occupant s.chamber.pos2 ≠ some 2 ∧
       plateOf s 2 = some { plateA with stage := .inChamber } ∧
       (s.chamber.batchClass.getD (0, 0)).1 * 1000 ≤ min 4294967295 (s.chamber.accA + 1 * 1)) ∧
    ((26 : Byte).toNat % 4 = 2 ∧ (26 : Byte).toNat / 4 % 4 = 2 ∧ (26 : Byte).toNat / 16 % 2 = 1 ∧
      (10 : Byte).toNat / 16 % 2 ≠ 1 ∧ (27 : Byte).toNat % 4 = 3 ∧ (25 : Byte).toNat % 4 ≠ 2) ∧
    (calm.chamber.state = .dark ∧ loadCandidate calm none = none) ∧
    (let s : State := { calm with chamber.state := .igniting, chamber.igniteOrder := some 9 }
     s.chamber.igniteOrder = some (9 : Byte).toNat ∧ s.chamber.igniteOrder ≠ some (8 : Byte).toNat) ∧
    (let s : State := { inChamber .suspended calm with chamber.openStanding := some 1700000 }
     s.chamber.state = .suspended ∧ (s.chamber.onA && s.chamber.onC) = false ∧ s.supervisor.line ≠ .safe) ∧
    (inChamber .ready calm).chamber.state = .ready ∧ safeLine.supervisor.line = .safe := by
  refine ⟨⟨⟨0x34, rfl, test_judged.2.2.2.2.1, rfl, by decide⟩, by decide⟩, ?_⟩
  decide

theorem witness_SafetyInputsSettle :
    (let s : State := { running with pins.estopAsserted := true, safety.estopTimer := some 10002 }
     s.safety.estopTimer = some 10002 ∧ s.pins.estopAsserted = true ∧ s.safety.estop = false ∧
       s.supervisor.line ≠ .safe ∧ s.supervisor.line ≠ .halted) ∧
    (let s : State := { safeLine with safety.estop := true, safety.estopTimer := some 10002 }
     s.pins.estopAsserted = false ∧ s.safety.estop = true ∧ s.supervisor.line = .safe) ∧
    calm.pins.estopAsserted = calm.safety.estop ∧
    (let s : State := { running with pins.coverClosed := false, safety.coverTimer := some 10002 }
     s.safety.coverTimer = some 10002 ∧ s.pins.coverClosed = false ∧ s.safety.coverClosed = true ∧
       s.supervisor.line = .running) ∧
    (let s : State := { calm with safety.coverClosed := false, safety.coverTimer := some 10002 }
     s.pins.coverClosed ≠ s.safety.coverClosed ∧ s.pins.coverClosed = true) ∧
    (({ calm with safety.estopAtReset := true } : State).safety.estopAtReset = true) ∧
    calm.safety.estopAtReset = false ∧ banksFollow running := by
  refine ⟨?_, ?_, ?_, ?_, ?_, ?_, ?_, witness_banksFollow.2.1⟩ <;> decide

end Sys2Proof.Tests
end

/-! PROOFS. The feasibility check of a ticket (R8). -/

namespace Sys2Proof.Machine

/-! ## Rounding and the reach of one bank -/

/-- The half-up quotient by its bounds, as R8 rounds the setpoint. -/
theorem halfUpDiv_eq_iff {a b q : Nat} (hb : 0 < b) :
    halfUpDiv a b = q ↔ 2 * q * b ≤ 2 * a + b ∧ 2 * a + b < (2 * q + 2) * b := by
  have hlow : q * (2 * b) = 2 * q * b := by ring
  have hhigh : (2 * q + 2) * b = 2 * q * b + 2 * b := by ring
  rw [halfUpDiv, Nat.div_eq_iff (by omega), hlow, hhigh]
  omega

/-- A bank is out of reach: its share is not 0, and its window has no width or 100 times its setpoint exceeds 95
times its estimate F (R8). -/
theorem bankReaches_eq_false_iff (b : BankUnit) (share speed : Nat) :
    bankReaches b share speed = false ↔ share ≠ 0 ∧ (windowWidth b = 0 ∨
      95 * b.full < 100 * min 10000 (halfUpDiv (share * speed) (100 * windowWidth b))) := by
  by_cases hshare : share = 0
  · simp [bankReaches, hshare]
  · by_cases hwidth : windowWidth b = 0
    · simp [bankReaches, hshare, hwidth]
    · simp [bankReaches, setpointFor, hshare, hwidth]

/-- A bank is out of reach, with the rounded setpoint given by its bounds before the clamp (R8). -/
theorem bankReaches_eq_false_iff_bounds (b : BankUnit) (share speed : Nat) :
    bankReaches b share speed = false ↔ share ≠ 0 ∧ (windowWidth b = 0 ∨ ∃ q : Nat,
      2 * q * (100 * windowWidth b) ≤ 2 * (share * speed) + 100 * windowWidth b ∧
      2 * (share * speed) + 100 * windowWidth b < (2 * q + 2) * (100 * windowWidth b) ∧
      95 * b.full < 100 * min 10000 q) := by
  rw [bankReaches_eq_false_iff]
  rcases Nat.eq_zero_or_pos (windowWidth b) with hwidth | hwidth
  · simp [hwidth]
  · have hdivisor : 0 < 100 * windowWidth b := by omega
    simp only [← and_assoc, ← halfUpDiv_eq_iff hdivisor, exists_eq_left']

/-- A recipe is out of reach when it is so at any one bank. -/
theorem doseReachable_eq_false_iff (s : State) (t : TicketWords) (r : RecipeWords) :
    doseReachable s t r = false ↔
      bankReaches s.banks.bk (if t.backDone then 0 else r.backDose) r.speed = false ∨
      bankReaches s.banks.m1 (r.mainDose / 2) r.speed = false ∨
      bankReaches s.banks.m2 (r.mainDose - r.mainDose / 2) r.speed = false := by
  simp only [doseReachable, doseShare, Bool.and_eq_false_iff, or_assoc]

/-! ## The statement -/

/-- Settles O22: each bank's reach by the bounds of its rounded setpoint, and the ticket's check as all three. -/
theorem feasibilityComparesTheSetpointWithTheEstimate :
    Obligations.FeasibilityComparesTheSetpointWithTheEstimate := by
  intro s t r
  simp only [doseReachable_eq_false_iff, bankReaches_eq_false_iff_bounds, windowWidth]

end Sys2Proof.Machine

/-! PROOFS. The arithmetic of a position sample (R53). -/

namespace Sys2Proof.Machine

/-! ## Steps 1 to 7 of R53, each with its range -/

/-- D is a 16-bit reading (R53, step 1). -/
theorem scaleD_lt (a b : Word) : scaleD a b < 65536 := by
  unfold scaleD
  omega

/-- D is the difference of the readings modulo 65,536, said without subtraction (R53, step 1). -/
theorem scaleD_add_mod (a b : Word) : (scaleD a b + b.toNat) % 65536 = a.toNat := by
  have hreading : a.toNat < 65536 := a.isLt
  unfold scaleD
  omega

/-- The period number is the nearest integer, a half going up, so that the residual is a signed 16-bit number (R53,
steps 3 and 4). -/
theorem scaleResidual_bounds (a b : Word) : -32768 ≤ scaleResidual a b ∧ scaleResidual a b ≤ 32767 := by
  unfold scaleResidual scaleK
  omega

/-- With the period number reduced modulo 4096, the count has 28 bits (R53, steps 5 and 6). -/
theorem scaleX_lt (a b : Word) : scaleX a b < 268435456 := by
  have hreading : a.toNat < 65536 := a.isLt
  have hperiod : (scaleK a b % 4096).toNat < 4096 := by omega
  unfold scaleX
  omega

/-- The position lies within one turn of the belt, 4096 periods of 3000 µm (R53, step 7). -/
theorem scalePosition_lt (a b : Word) : scalePosition a b < 12288000 := by
  have hcount := scaleX_lt a b
  unfold scalePosition
  omega

/-! ## The statement -/

/-- Settles O34: the equations of steps 4, 6 and 7 are the definitions, and the bounds are the lemmas above. -/
theorem scaleReadingsGiveThePosition : Obligations.ScaleReadingsGiveThePosition := by
  intro a b
  exact ⟨⟨scaleD_lt a b, scaleD_add_mod a b⟩, ⟨rfl, scaleResidual_bounds a b⟩,
    ⟨rfl, scaleX_lt a b⟩, rfl, scalePosition_lt a b⟩

end Sys2Proof.Machine

/-! PROOFS. Which words of the exchange memory the part's own operations write: words of ticket slots from an offset on. -/

namespace Sys2Proof.Machine

/-- A run of writes to words of ticket slots from offset `k` on brings the RAM from `m` to another. -/
inductive SlotRun (k : Nat) (m : Cells) : Cells → Prop
  | refl : SlotRun k m m
  | write {m' : Cells} (i : PlateId) (o : Nat) (v : Word) :
      SlotRun k m m' → k ≤ o → o < 64 → SlotRun k m (cellsWrite 0 m' (slotBase i + o) v)

/-- The offsets of the part's words in a slot, from the reason on. -/
@[simp] theorem reportOffset_bounds :
    (33 ≤ oReason ∧ 33 ≤ oHold ∧ 33 ≤ oStage ∧ 33 ≤ oEpoch ∧ 33 ≤ oMeasured ∧ 33 ≤ oOrder ∧ 33 ≤ oBackMin ∧
      33 ≤ oBackMax ∧ 33 ≤ oMainMin ∧ 33 ≤ oMainMax ∧ 33 ≤ oBackVerdict ∧ 33 ≤ oMainVerdict ∧ 33 ≤ oSpeedUsed ∧
      33 ≤ oEntryLoad ∧ 33 ≤ oLoadAdded ∧ 33 ≤ oDrawer ∧ 33 ≤ oDryTime ∧ 33 ≤ oUva ∧ 33 ≤ oUvc ∧ 33 ≤ oFinish ∧
      33 ≤ oFlags ∧ 33 ≤ oCompletion) ∧
    (oReason < 64 ∧ oHold < 64 ∧ oStage < 64 ∧ oEpoch < 64 ∧ oMeasured < 64 ∧ oOrder < 63 ∧ oBackMin < 64 ∧
      oBackMax < 64 ∧ oMainMin < 64 ∧ oMainMax < 64 ∧ oBackVerdict < 64 ∧ oMainVerdict < 64 ∧ oSpeedUsed < 64 ∧
      oEntryLoad < 64 ∧ oLoadAdded < 64 ∧ oDrawer < 64 ∧ oDryTime < 64 ∧ oUva < 64 ∧ oUvc < 64 ∧ oFinish < 64 ∧
      oFlags < 64 ∧ oCompletion < 63) := by
  decide

/-- The address of a word of a slot lies in the ticket table. -/
theorem inTickets_slotBase_add (i : PlateId) {o : Nat} (ho : o < 64) : inTickets (slotBase i + o) = true := by
  simp only [inTickets, Bool.and_eq_true, decide_eq_true_eq]
  simp only [slotBase]
  omega

/-- The offset of a word of a slot. -/
theorem slotOffset_slotBase_add (i : PlateId) {o : Nat} (ho : o < 64) : slotOffset (slotBase i + o) = o := by
  simp only [slotOffset, slotBase]
  omega

/-- Every such run keeps the canonical form. -/
theorem SlotRun.memoryWf {k : Nat} {m m' : Cells} (run : SlotRun k m m') (h : memoryWf m = true) :
    memoryWf m' = true := by
  induction run with
  | refl => exact h
  | write i o v _ _ _ ih => exact cellsWfFrom_cellsWrite 0 v _ _ ih

/-- A word that lies in no slot from offset `k` on reads as before. -/
theorem SlotRun.read {k : Nat} {m m' : Cells} (run : SlotRun k m m') (a : Nat)
    (ha : inTickets a = true → slotOffset a < k) : cellsRead 0 m' a = cellsRead 0 m a := by
  induction run with
  | refl => rfl
  | write i o v _ hk ho ih =>
    have hne : a ≠ slotBase i + o := by
      rintro rfl
      have hlow := ha (inTickets_slotBase_add i ho)
      rw [slotOffset_slotBase_add i ho] at hlow
      omega
    rw [cellsRead_cellsWrite, if_neg hne, ih]

/-- A word of a slot below offset `k` is as before. -/
theorem SlotRun.slotWord {k : Nat} {s t : State} (run : SlotRun k s.bus.ram t.bus.ram) (i : PlateId) {o : Nat}
    (ho : o < k) (h64 : o < 64) : slotWord t i o = slotWord s i o := by
  refine run.read _ fun _ => ?_
  simp only [slotBase, slotOffset]
  omega

/-- A run of report words keeps every slot state. -/
theorem SlotRun.slotState {s t : State} (run : SlotRun 33 s.bus.ram t.bus.ram) (i : PlateId) :
    slotState t i = slotState s i := by
  simp only [Machine.slotState, run.slotWord i (show oState < 33 by decide) (by decide)]

/-- A run of report words keeps every last taken sequence. -/
theorem SlotRun.lastTaken {s t : State} (run : SlotRun 33 s.bus.ram t.bus.ram) (i : PlateId) :
    lastTaken t i = lastTaken s i := by
  simp only [Machine.lastTaken, run.slotWord i (show oState < 33 by decide) (by decide)]

theorem SlotRun.trans {k : Nat} {m m' m'' : Cells} (run : SlotRun k m m') (run' : SlotRun k m' m'') :
    SlotRun k m m'' := by
  induction run' with
  | refl => exact run
  | write i o v _ hk ho ih => exact .write i o v ih hk ho

/-- A run of words from an offset on is one from any lower offset on. -/
theorem SlotRun.mono {k l : Nat} {m m' : Cells} (run : SlotRun k m m') (h : l ≤ k) : SlotRun l m m' := by
  induction run with
  | refl => exact .refl
  | write i o v _ hk ho ih => exact .write i o v ih (by omega) ho

/-! ## Operations that write report words alone -/

section
variable {m : Cells} {s : State}

@[simp] theorem slotRun_refl {k : Nat} : SlotRun k m m := .refl

@[simp] theorem slotRun_putSlot {i : PlateId} {o : Nat} {v : Word} (h : SlotRun 33 m s.bus.ram) (hk : 33 ≤ o)
    (ho : o < 64) : SlotRun 33 m (putSlot i o v s).bus.ram := .write i o v h hk ho

@[simp] theorem slotRun_putSlotNat {i : PlateId} {o n : Nat} (h : SlotRun 33 m s.bus.ram) (hk : 33 ≤ o) (ho : o < 64) :
    SlotRun 33 m (putSlotNat i o n s).bus.ram := .write i o _ h hk ho

@[simp] theorem slotRun_putSlot32 {i : PlateId} {o n : Nat} (h : SlotRun 33 m s.bus.ram) (hk : 33 ≤ o) (ho : o < 63) :
    SlotRun 33 m (putSlot32 i o n s).bus.ram :=
  .write i (o + 1) _ (.write i o _ h hk (by omega)) (by omega) (by omega)

/-- What every step of a fold keeps of a run, the fold keeps. -/
theorem slotRun_foldl {k : Nat} {α : Type} (l : List α) (g : State → α → State)
    (hg : ∀ t a, SlotRun k m t.bus.ram → SlotRun k m (g t a).bus.ram) (h : SlotRun k m s.bus.ram) :
    SlotRun k m (l.foldl g s).bus.ram := by
  induction l generalizing s with
  | nil => exact h
  | cons x xs ih => exact ih (hg _ _ h)

@[simp] theorem slotRun_setStage {p : PlateId} {st : Stage} (h : SlotRun 33 m s.bus.ram) :
    SlotRun 33 m (setStage p st s).bus.ram := by
  unfold setStage; (repeat' split) <;> simp -implicitDefEqProofs [h]

@[simp] theorem slotRun_showStation {p : PlateId} {st : StationKind} {v : Verdict} {lo hi : Nat}
    (h : SlotRun 33 m s.bus.ram) : SlotRun 33 m (showStation p st v lo hi s).bus.ram := by
  cases st <;> exact slotRun_putSlotNat (slotRun_putSlotNat (slotRun_putSlotNat h (by simp) (by simp)) (by simp)
    (by simp)) (by simp) (by simp)

@[simp] theorem slotRun_closeStation {p : PlateId} {st : StationKind} {f : Plate → Verdict}
    (h : SlotRun 33 m s.bus.ram) : SlotRun 33 m (closeStation p st f s).bus.ram := by
  unfold closeStation; (repeat' split) <;> simp -implicitDefEqProofs [h]

@[simp] theorem slotRun_closeNormally {p : PlateId} {st : StationKind} (h : SlotRun 33 m s.bus.ram) :
    SlotRun 33 m (closeNormally p st s).bus.ram := slotRun_closeStation h

@[simp] theorem slotRun_closeIncomplete {p : PlateId} {st : StationKind} (h : SlotRun 33 m s.bus.ram) :
    SlotRun 33 m (closeIncomplete p st s).bus.ram := slotRun_closeStation h

@[simp] theorem slotRun_closeTest {p : PlateId} {st : StationKind} (h : SlotRun 33 m s.bus.ram) :
    SlotRun 33 m (closeTest p st s).bus.ram := by
  unfold closeTest; (repeat' split) <;> simp -implicitDefEqProofs [h]

@[simp] theorem slotRun_closeTests (h : SlotRun 33 m s.bus.ram) : SlotRun 33 m (closeTests s).bus.ram :=
  slotRun_foldl _ _ (fun _ _ ht => by simp -implicitDefEqProofs [ht]) h

@[simp] theorem slotRun_leaveWash {p : PlateId} (h : SlotRun 33 m s.bus.ram) :
    SlotRun 33 m (leaveWash p s).bus.ram := by
  unfold leaveWash; (repeat' split) <;> simp -implicitDefEqProofs [h]

@[simp] theorem slotRun_washTest {p : PlateId} (h : SlotRun 33 m s.bus.ram) :
    SlotRun 33 m (washTest p s).bus.ram := by
  unfold washTest; (try dsimp only); (repeat' split) <;> simp -implicitDefEqProofs [h]

@[simp] theorem slotRun_washTests (h : SlotRun 33 m s.bus.ram) : SlotRun 33 m (washTests s).bus.ram :=
  slotRun_foldl _ _ (fun _ _ ht => by simp -implicitDefEqProofs [ht]) h

@[simp] theorem slotRun_departTrain {p : PlateId} (h : SlotRun 33 m s.bus.ram) :
    SlotRun 33 m (departTrain p s).bus.ram := by
  simp -implicitDefEqProofs [departTrain, h]

/-! ### The finishing chamber, the drawers and the shuttle -/

@[simp] theorem slotRun_finishPlate {p : PlateId} {a c : Nat} {v : Verdict} (h : SlotRun 33 m s.bus.ram) :
    SlotRun 33 m (finishPlate p a c v s).bus.ram := by
  refine slotRun_putSlotNat (slotRun_putSlotNat (slotRun_putSlotNat ?_ (by simp) (by simp)) (by simp) (by simp))
    (by simp) (by simp)
  simpa using h

@[simp] theorem slotRun_finishOccupant {o : Option (PlateId × Mark)} {a c : Nat} {v : Verdict}
    (h : SlotRun 33 m s.bus.ram) : SlotRun 33 m (finishOccupant o a c v s).bus.ram := by
  unfold finishOccupant; split <;> simp -implicitDefEqProofs [h]

@[simp] theorem slotRun_spoilOccupant {o : Option (PlateId × Mark)} {a c : Nat} (h : SlotRun 33 m s.bus.ram) :
    SlotRun 33 m (spoilOccupant o a c s).bus.ram := by
  unfold spoilOccupant; split <;> simp -implicitDefEqProofs [h]

@[simp] theorem slotRun_endBatch {v : Verdict} (h : SlotRun 33 m s.bus.ram) :
    SlotRun 33 m (endBatch v s).bus.ram := by
  simp -implicitDefEqProofs [endBatch, h]

@[simp] theorem slotRun_enterExposing (h : SlotRun 33 m s.bus.ram) : SlotRun 33 m (enterExposing s).bus.ram := by
  unfold enterExposing; (try dsimp only); split <;> simp -implicitDefEqProofs [h]

@[simp] theorem slotRun_startExposure (h : SlotRun 33 m s.bus.ram) : SlotRun 33 m (startExposure s).bus.ram := by
  unfold startExposure; (try dsimp only); split <;> simp -implicitDefEqProofs [h]

@[simp] theorem slotRun_resumeBatch (h : SlotRun 33 m s.bus.ram) : SlotRun 33 m (resumeBatch s).bus.ram := by
  unfold resumeBatch; split <;> simp -implicitDefEqProofs [h]

@[simp] theorem slotRun_chamberFault (h : SlotRun 33 m s.bus.ram) : SlotRun 33 m (chamberFault s).bus.ram := by
  simp -implicitDefEqProofs [chamberFault, h]

@[simp] theorem slotRun_board {k : MoveKind} {p : PlateId} {a b : Place} {x : Bool} (h : SlotRun 33 m s.bus.ram) :
    SlotRun 33 m (board k p a b x s).bus.ram := by
  simp -implicitDefEqProofs [board, h]

@[simp] theorem slotRun_takeFromDrawer {p : PlateId} {r : Plate} {d : Fin 6} {n : Fin 4} (h : SlotRun 33 m s.bus.ram) :
    SlotRun 33 m (takeFromDrawer p r d n s).bus.ram := by
  simp -implicitDefEqProofs [takeFromDrawer, h]

@[simp] theorem slotRun_grant (h : SlotRun 33 m s.bus.ram) : SlotRun 33 m (grant s).bus.ram := by
  unfold grant
  split
  · split
    · next t ht => obtain ⟨p, rest, dm, rfl, -⟩ := grantStore_some s t ht; simp -implicitDefEqProofs [h]
    · split
      · next t ht => obtain ⟨p, pos, x, rfl, -⟩ := grantUnload_some s t ht; simp -implicitDefEqProofs [h]
      · split
        · next t ht => obtain ⟨pos, c, p, r, d, n, rfl, -⟩ := grantLoad_some s t ht; simp -implicitDefEqProofs [h]
        · exact h
  · exact h

@[simp] theorem slotRun_withdrawSecondAsk (h : SlotRun 33 m s.bus.ram) :
    SlotRun 33 m (withdrawSecondAsk s).bus.ram := by
  unfold withdrawSecondAsk; (repeat' split) <;> simp -implicitDefEqProofs [h]

@[simp] theorem slotRun_handlingTests (h : SlotRun 33 m s.bus.ram) : SlotRun 33 m (handlingTests s).bus.ram := by
  simp -implicitDefEqProofs [handlingTests, h]

@[simp] theorem slotRun_loadCompleted {pos : ChamberPos} {p : PlateId} (h : SlotRun 33 m s.bus.ram) :
    SlotRun 33 m (loadCompleted pos p s).bus.ram := by
  unfold loadCompleted; (try dsimp only); (repeat' split) <;> simp -implicitDefEqProofs [h]

@[simp] theorem slotRun_loadFailed {pos : ChamberPos} (h : SlotRun 33 m s.bus.ram) :
    SlotRun 33 m (loadFailed pos s).bus.ram := by
  unfold loadFailed; (repeat' split) <;> simp -implicitDefEqProofs [h]

@[simp] theorem slotRun_storeCompleted {p : PlateId} {d : Place} (h : SlotRun 33 m s.bus.ram) :
    SlotRun 33 m (storeCompleted p d s).bus.ram := by
  unfold storeCompleted; split <;> simp -implicitDefEqProofs [h]

@[simp] theorem slotRun_dryResident {n : Nat} {p : PlateId} (h : SlotRun 33 m s.bus.ram) :
    SlotRun 33 m (dryResident n p s).bus.ram := by
  unfold dryResident; (try dsimp only); (repeat' split) <;> simp -implicitDefEqProofs [h]

@[simp] theorem slotRun_dryClockStep {d : Fin 6} {n : Nat} (h : SlotRun 33 m s.bus.ram) :
    SlotRun 33 m (dryClockStep d n s).bus.ram :=
  slotRun_foldl _ _ (fun _ _ ht => by split <;> simp -implicitDefEqProofs [ht]) h

@[simp] theorem slotRun_takeDrawerReport {d : Fin 6} {b : Vector Byte 6} (h : SlotRun 33 m s.bus.ram) :
    SlotRun 33 m (takeDrawerReport d b s).bus.ram := by
  unfold takeDrawerReport; (try dsimp only); split <;> simp -implicitDefEqProofs [h]

@[simp] theorem slotRun_creditGroups {n : Nat} (h : SlotRun 33 m s.bus.ram) :
    SlotRun 33 m (creditGroups n s).bus.ram := by
  unfold creditGroups; (try dsimp only); (repeat' split) <;> simp -implicitDefEqProofs [h]

@[simp] theorem slotRun_testTubes (h : SlotRun 33 m s.bus.ram) : SlotRun 33 m (testTubes s).bus.ram := by
  unfold testTubes; (try dsimp only); (repeat' split) <;> simp -implicitDefEqProofs [h]

@[simp] theorem slotRun_testDoor (h : SlotRun 33 m s.bus.ram) : SlotRun 33 m (testDoor s).bus.ram := by
  unfold testDoor; split <;> simp -implicitDefEqProofs [h]

@[simp] theorem slotRun_takeFinisherReport {d : Vector Byte 6} (h : SlotRun 33 m s.bus.ram) :
    SlotRun 33 m (takeFinisherReport d s).bus.ram := by
  unfold takeFinisherReport
  dsimp only
  exact slotRun_handlingTests (slotRun_testDoor (slotRun_testTubes (slotRun_creditGroups h)))

@[simp] theorem slotRun_testUnload {b : Bool} (h : SlotRun 33 m s.bus.ram) :
    SlotRun 33 m (testUnload b s).bus.ram := by
  unfold testUnload; split <;> simp -implicitDefEqProofs [h]

/-! ### The link scan, the hold reason and the edges at the infeed -/

@[simp] theorem slotRun_takeAssignment (h : SlotRun 33 m s.bus.ram) : SlotRun 33 m (takeAssignment s).bus.ram := by
  refine slotRun_handlingTests (slotRun_foldl _ _ (fun t n ht => ?_) h)
  dsimp only
  split
  · unfold toldLeft; split <;> simp -implicitDefEqProofs [ht]
  · exact ht

@[simp] theorem slotRun_startPass (h : SlotRun 33 m s.bus.ram) : SlotRun 33 m (startPass s).bus.ram := by
  unfold startPass; (try dsimp only); (repeat' split) <;> simp -implicitDefEqProofs [h]

@[simp] theorem slotRun_endPass (h : SlotRun 33 m s.bus.ram) : SlotRun 33 m (endPass s).bus.ram := by
  unfold endPass; (repeat' split) <;> simp -implicitDefEqProofs [h]

@[simp] theorem slotRun_linkContinuous (h : SlotRun 33 m s.bus.ram) : SlotRun 33 m (linkContinuous s).bus.ram := by
  unfold linkContinuous; split <;> simp -implicitDefEqProofs [h]

@[simp] theorem slotRun_linkSingle (h : SlotRun 33 m s.bus.ram) : SlotRun 33 m (linkSingle s).bus.ram := by
  unfold linkSingle; split <;> simp -implicitDefEqProofs [h]

@[simp] theorem slotRun_safeStations (h : SlotRun 33 m s.bus.ram) : SlotRun 33 m (safeStations s).bus.ram := by
  simp -implicitDefEqProofs [safeStations, h]

@[simp] theorem slotRun_showHold {p : PlateId} (h : SlotRun 33 m s.bus.ram) : SlotRun 33 m (showHold p s).bus.ram := by
  simp -implicitDefEqProofs [showHold, h]

@[simp] theorem slotRun_setHold {r : HoldReason} (h : SlotRun 33 m s.bus.ram) :
    SlotRun 33 m (setHold r s).bus.ram := by
  unfold setHold
  split
  · exact h
  · simpa using slotRun_foldl s.admission.queue (fun t p => showHold p t) (fun _ _ ht => slotRun_showHold ht)
      (s := { s with admission.holdReason := r }) h

@[simp] theorem slotRun_holdIfEmpty (h : SlotRun 33 m s.bus.ram) : SlotRun 33 m (holdIfEmpty s).bus.ram := by
  unfold holdIfEmpty; split <;> simp -implicitDefEqProofs [h]

@[simp] theorem slotRun_infeedHead {n : Nat} (h : SlotRun 33 m s.bus.ram) : SlotRun 33 m (infeedHead n s).bus.ram := by
  unfold infeedHead; split <;> simp -implicitDefEqProofs [h]

@[simp] theorem slotRun_infeedTail {n : Nat} (h : SlotRun 33 m s.bus.ram) : SlotRun 33 m (infeedTail n s).bus.ram := by
  unfold infeedTail; (try dsimp only); (repeat' split) <;> simp -implicitDefEqProofs [h]

@[simp] theorem slotRun_toldPresent {st : Station} (h : SlotRun 33 m s.bus.ram) :
    SlotRun 33 m (toldPresent st s).bus.ram := by
  unfold toldPresent; split <;> simp -implicitDefEqProofs [h]

@[simp] theorem slotRun_finisherLost (h : SlotRun 33 m s.bus.ram) : SlotRun 33 m (finisherLost s).bus.ram := by
  unfold finisherLost; split <;> simp -implicitDefEqProofs [h]

@[simp] theorem slotRun_leaveSafe (h : SlotRun 33 m s.bus.ram) : SlotRun 33 m (leaveSafe s).bus.ram := by
  simp -implicitDefEqProofs [leaveSafe, h]

end

end Sys2Proof.Machine

/-! PROOFS. The exchange memory and the calibration store stay canonical. -/

namespace Sys2Proof.Machine

/-! ## The state after a command, and after a step -/

/-- The state that a command gives; no command is refused and none stops the part. -/
def nextState (c : Instr) (s : State) : State :=
  match exec c s with
  | .next t => t
  | .fault _ => s
  | .refused _ => s

theorem exec_eq_next (c : Instr) (s : State) : exec c s = .next (nextState c s) := by
  cases c <;> rfl

/-- What time and every command keep, every step keeps; the commands waiting do not matter. -/
theorem step_keeps (P : State → Prop) (time : ∀ (d : Nat) (s : State), P s → P (advanceTo d s))
    (queue : ∀ (l : List Instr) (s : State), P s → P { s with pending := l })
    (command : ∀ (c : Instr) (s : State), P s → P (nextState c s)) {s t : State} (h : P s)
    (hstep : step s = .next t) : P t := by
  unfold step at hstep
  split at hstep
  · cases hstep
    exact time _ _ h
  · rw [exec_eq_next] at hstep
    cases hstep
    exact command _ _ (queue _ _ h)

/-! ## Operations that write the part's words of slots, the state word among them -/

section
variable {m : Cells} {s : State}

/-- A run of report words is one of the part's words. -/
theorem SlotRun.partWords {m' : Cells} (run : SlotRun 33 m m') : SlotRun 32 m m' := run.mono (by decide)

theorem partRun_setSlotState {i : PlateId} {st : SlotState} (h : SlotRun 32 m s.bus.ram) :
    SlotRun 32 m (setSlotState i st s).bus.ram := .write i 32 _ h (by decide) (by decide)

theorem partRun_setLastTaken {i : PlateId} {sq : Nat} (h : SlotRun 32 m s.bus.ram) :
    SlotRun 32 m (setLastTaken i sq s).bus.ram := .write i 32 _ h (by decide) (by decide)

/-- An operation that writes report words extends a run of the part's words. -/
theorem SlotRun.then_report {m' : Cells} (h : SlotRun 32 m s.bus.ram) (run : SlotRun 33 s.bus.ram m') :
    SlotRun 32 m m' := h.trans run.partWords

theorem partRun_completeSlot {p : PlateId} {d : Disposition} (h : SlotRun 32 m s.bus.ram) :
    SlotRun 32 m (completeSlot p d s).bus.ram := by
  simp only [completeSlot, latch_frame]
  refine partRun_setSlotState (h.then_report (slotRun_putSlotNat (slotRun_putSlot32 (slotRun_putSlotNat ?_ ?_ ?_) ?_ ?_) ?_ ?_))
  all_goals simp

theorem partRun_endPlate {p : PlateId} {x : Bool} (h : SlotRun 32 m s.bus.ram) :
    SlotRun 32 m (endPlate p x s).bus.ram := by
  unfold endPlate
  split
  · exact h
  · split
    · exact h
    · have hclosed := h.then_report (slotRun_closeIncomplete (p := p) (st := .main)
        (slotRun_closeIncomplete (p := p) (st := .back) .refl))
      dsimp only
      split
      · exact hclosed
      · exact partRun_completeSlot hclosed

theorem partRun_spoilFromTrain {p : PlateId} (h : SlotRun 32 m s.bus.ram) :
    SlotRun 32 m (spoilFromTrain p s).bus.ram :=
  partRun_endPlate (h.then_report (slotRun_departTrain .refl))

theorem partRun_spoilTrain (h : SlotRun 32 m s.bus.ram) : SlotRun 32 m (spoilTrain s).bus.ram :=
  slotRun_foldl _ _ (fun _ _ ht => partRun_spoilFromTrain ht) h

theorem partRun_stopLine {c : HaltCause} {a : Attn} {l : LineState} (h : SlotRun 32 m s.bus.ram) :
    SlotRun 32 m (stopLine c a l s).bus.ram := by
  have := partRun_spoilTrain (s := closeGate s) h
  simpa [stopLine, endEpoch]

theorem partRun_raiseHalt {c : HaltCause} (h : SlotRun 32 m s.bus.ram) : SlotRun 32 m (raiseHalt c s).bus.ram := by
  unfold raiseHalt
  split
  all_goals first | exact partRun_stopLine h | exact h

theorem partRun_enterSafe {c : HaltCause} (h : SlotRun 32 m s.bus.ram) : SlotRun 32 m (enterSafe c s).bus.ram := by
  unfold enterSafe
  split
  case h_4 => exact h.then_report (slotRun_safeStations (by simp))
  case h_5 => exact h
  all_goals exact (partRun_stopLine h).then_report (slotRun_safeStations .refl)

/-! ### Admission and samples -/

theorem partRun_release {p : PlateId} (h : SlotRun 32 m s.bus.ram) : SlotRun 32 m (release p s).bus.ram := by
  unfold release
  dsimp only
  refine SlotRun.then_report (partRun_setSlotState (h.then_report ?_)) (slotRun_setHold .refl)
  refine slotRun_putSlotNat (slotRun_putSlotNat (slotRun_putSlotNat (slotRun_setStage ?_) ?_ ?_) ?_ ?_) ?_ ?_
  all_goals simp

theorem partRun_evaluate (h : SlotRun 32 m s.bus.ram) : SlotRun 32 m (evaluate s).bus.ram := by
  unfold evaluate
  dsimp only
  have hrules : SlotRun 32 m (epochRules (misfeedSteps s)).bus.ram := by simpa
  split
  · exact hrules.then_report (slotRun_setHold .refl)
  · split
    · exact hrules.then_report (slotRun_setHold .refl)
    · exact partRun_release hrules

theorem partRun_misfeed (h : SlotRun 32 m s.bus.ram) : SlotRun 32 m (misfeed s).bus.ram := by
  unfold misfeed
  split
  · exact h
  · unfold misfeedReturn
    dsimp only
    simp only [idleIfDrained_frame]
    refine SlotRun.then_report (partRun_setSlotState (h.then_report ?_)) (slotRun_showHold .refl)
    refine slotRun_putSlotNat (slotRun_putSlotNat (slotRun_setStage ?_) ?_ ?_) ?_ ?_
    all_goals simp

theorem partRun_testConditions (h : SlotRun 32 m s.bus.ram) : SlotRun 32 m (testConditions s).bus.ram := by
  unfold testConditions
  dsimp only
  split
  · exact partRun_raiseHalt (by simpa)
  · simpa

theorem partRun_vernierFault (h : SlotRun 32 m s.bus.ram) : SlotRun 32 m (vernierFault s).bus.ram := by
  unfold vernierFault
  dsimp only
  split
  · exact partRun_raiseHalt h
  · exact h

theorem partRun_missingTest (h : SlotRun 32 m s.bus.ram) : SlotRun 32 m (missingTest s).bus.ram := by
  unfold missingTest
  split
  · exact h
  · split
    · exact h
    · split
      · exact h
      · split
        · simpa using partRun_spoilFromTrain h
        · exact h

theorem partRun_handOn (h : SlotRun 32 m s.bus.ram) : SlotRun 32 m (handOn s).bus.ram := by
  refine partRun_evaluate ((partRun_missingTest h).then_report (slotRun_washTests (slotRun_closeTests ?_)))
  simp

theorem partRun_positionSample {r : Option (Word × Word)} (h : SlotRun 32 m s.bus.ram) :
    SlotRun 32 m (positionSample r s).bus.ram := by
  unfold positionSample
  dsimp only
  split
  · exact partRun_handOn (partRun_vernierFault h)
  · split
    · simp only [takeGoodSample, goodSample, openRuns_frame]
      exact partRun_handOn (partRun_testConditions h)
    · exact partRun_handOn (partRun_vernierFault h)

theorem partRun_takeScaleWord {r : Reader} {w : Word} (h : SlotRun 32 m s.bus.ram) :
    SlotRun 32 m (takeScaleWord r w s).bus.ram := by
  unfold takeScaleWord
  cases r
  all_goals
    dsimp only
    split
    · exact partRun_positionSample h
    all_goals exact h

/-! ### Sensor edges -/

theorem partRun_exitTail (h : SlotRun 32 m s.bus.ram) : SlotRun 32 m (exitTail s).bus.ram := by
  unfold exitTail
  split
  · split
    · unfold rackPlate
      simp only [idleIfDrained_frame]
      exact h.then_report
        (slotRun_setStage (slotRun_departTrain (slotRun_closeNormally (slotRun_closeNormally .refl))))
    · exact partRun_raiseHalt h
  · unfold strayTail
    dsimp only
    split
    · simpa
    · exact partRun_raiseHalt (by simpa)

theorem partRun_settleSensor {k : Sensor} (h : SlotRun 32 m s.bus.ram) :
    SlotRun 32 m (settleSensor k s).bus.ram := by
  unfold settleSensor
  dsimp only
  split
  · simpa
  · unfold deliverEdge
    split
    · exact h.then_report (slotRun_infeedHead (by simp))
    · exact h.then_report (slotRun_infeedTail (by simp))
    · simpa [exitHead_frame]
    · exact (partRun_exitTail (by simpa)).then_report (slotRun_handlingTests .refl)

/-! ### Ticket intake -/

theorem partRun_resolveQueued {i : PlateId} {why : Reason} (h : SlotRun 32 m s.bus.ram) :
    SlotRun 32 m (resolveQueued i why s).bus.ram := by
  refine partRun_setSlotState (h.then_report
    (slotRun_putSlotNat (slotRun_putSlotNat (slotRun_putSlotNat ?_ ?_ ?_) ?_ ?_) ?_ ?_))
  all_goals simp

theorem partRun_postTicket {i : PlateId} (h : SlotRun 32 m s.bus.ram) : SlotRun 32 m (postTicket i s).bus.ram := by
  unfold postTicket
  dsimp only
  split
  · simp only [refuseTicket, latch_frame]
    exact partRun_setSlotState (h.then_report (slotRun_putSlotNat .refl (by simp) (by simp)))
  · unfold acceptTicket
    refine SlotRun.then_report (partRun_setSlotState (h.then_report
      (slotRun_putSlotNat (slotRun_putSlot32 ?_ ?_ ?_) ?_ ?_))) (slotRun_showHold .refl)
    all_goals simp

theorem partRun_withdrawTicket {i : PlateId} (h : SlotRun 32 m s.bus.ram) :
    SlotRun 32 m (withdrawTicket i s).bus.ram := by
  simp only [withdrawTicket, latch_frame]
  exact partRun_resolveQueued (h.then_report (slotRun_holdIfEmpty (by simp)))

theorem slotRun_putSlots {i : PlateId} {v : Word} (l : List Nat) (hl : ∀ o ∈ l, 33 ≤ o ∧ o < 64)
    (h : SlotRun 33 m s.bus.ram) : SlotRun 33 m (l.foldl (fun t o => putSlot i o v t) s).bus.ram := by
  induction l generalizing s with
  | nil => exact h
  | cons o l ih =>
    obtain ⟨hlow, hhigh⟩ := hl o (by simp)
    exact ih (fun o ho => hl o (by simp [ho])) (slotRun_putSlot h hlow hhigh)

theorem partRun_returnSlot {i : PlateId} (h : SlotRun 32 m s.bus.ram) : SlotRun 32 m (returnSlot i s).bus.ram := by
  have hcleared := slotRun_putSlots (i := i) (v := 0) (s := s) reportOffsets (by decide) .refl
  simp only [returnSlot, putPlate_bus]
  generalize reportOffsets.foldl (fun t o => putSlot i o 0 t) s = t at hcleared ⊢
  exact partRun_setSlotState (h.then_report hcleared)

theorem partRun_actOnRequest {i : PlateId} {code : Nat} (h : SlotRun 32 m s.bus.ram) :
    SlotRun 32 m (actOnRequest i code s).bus.ram := by
  unfold actOnRequest
  split
  · exact partRun_postTicket h
  · exact partRun_withdrawTicket h
  · exact h.then_report (slotRun_putSlot (by simp) (by simp) (by simp))
  · exact partRun_returnSlot h
  · exact partRun_returnSlot h
  · simpa

theorem partRun_sweepStep (h : SlotRun 32 m s.bus.ram) : SlotRun 32 m (sweepStep s).bus.ram := by
  unfold sweepStep
  split
  · exact h
  · simp only [nextSlot_frame]
    unfold visitSlot
    dsimp only
    split
    · exact h
    · split
      · exact h
      · exact partRun_actOnRequest (partRun_setLastTaken h)

/-! ### The shuttle, and the visits of the line link -/

theorem partRun_completeMove {mv : Move} (h : SlotRun 32 m s.bus.ram) : SlotRun 32 m (completeMove mv s).bus.ram := by
  unfold completeMove
  dsimp only
  split
  · exact h.then_report (slotRun_storeCompleted .refl)
  · exact h.then_report (slotRun_loadCompleted .refl)
  · simpa using partRun_endPlate (s := { s with shuttle.move := none, shuttle.timer := none }) h

theorem partRun_failMove {mv : Move} (h : SlotRun 32 m s.bus.ram) : SlotRun 32 m (failMove mv s).bus.ram := by
  have hend : SlotRun 32 m (endPlate mv.plate true { s with shuttle.move := none, shuttle.timer := none }).bus.ram :=
    partRun_endPlate h
  simp only [failMove, latch_frame]
  split
  · simpa
  · exact hend.then_report (slotRun_loadFailed .refl)
  · simpa

theorem partRun_failCurrentMove (h : SlotRun 32 m s.bus.ram) : SlotRun 32 m (failCurrentMove s).bus.ram := by
  unfold failCurrentMove
  split
  · exact h
  · exact partRun_failMove h

theorem partRun_testMove {e : Nat} {r : OrderResult} (h : SlotRun 32 m s.bus.ram) :
    SlotRun 32 m (testMove e r s).bus.ram := by
  unfold testMove
  split
  · exact h
  · split
    · split
      · exact partRun_completeMove h
      · exact partRun_failMove h
      · exact h
    · exact h

theorem partRun_takeShuttleReport {a b c : Bool} {r : OrderResult} {d : Vector Byte 6} (h : SlotRun 32 m s.bus.ram) :
    SlotRun 32 m (takeShuttleReport a b c r d s).bus.ram := by
  unfold takeShuttleReport
  dsimp only
  refine SlotRun.then_report ?_ (slotRun_handlingTests .refl)
  simp only [endShuttleReset_frame, evalShuttle_frame]
  exact partRun_testMove (h.then_report (slotRun_testUnload (by simp)))

theorem partRun_deliver {st : Station} {x : Bool} {b : Byte} {d : Vector Byte 6} (h : SlotRun 32 m s.bus.ram) :
    SlotRun 32 m (deliver st x b d s).bus.ram := by
  unfold deliver
  dsimp only
  split
  · simpa
  · simpa
  · exact partRun_takeShuttleReport h
  · exact h.then_report (slotRun_takeFinisherReport .refl)
  · exact h.then_report (slotRun_takeDrawerReport .refl)
  · exact h

theorem partRun_toldLost {st : Station} (h : SlotRun 32 m s.bus.ram) : SlotRun 32 m (toldLost st s).bus.ram := by
  unfold toldLost
  split
  · simpa using partRun_raiseHalt h
  · exact partRun_raiseHalt h
  · exact SlotRun.then_report (by simpa using partRun_failCurrentMove h) (slotRun_handlingTests .refl)
  · exact h.then_report (slotRun_handlingTests (slotRun_finisherLost .refl))
  · exact h.then_report (slotRun_handlingTests (by simp))
  · exact h

theorem partRun_visitOutcome {f : Byte → Judged} (h : SlotRun 32 m s.bus.ram) :
    SlotRun 32 m (visitOutcome f s).bus.ram := by
  have hend (n : Fin 15) (t : State) (ht : SlotRun 32 m t.bus.ram) : SlotRun 32 m (endVisit n t).bus.ram := by
    unfold endVisit
    dsimp only
    split
    · exact ht.then_report (slotRun_endPass .refl)
    · exact ht
  have hnot (n : Fin 15) (b : Bool) : SlotRun 32 m (notGood n b s).bus.ram := by
    unfold notGood
    dsimp only
    split
    · exact partRun_toldLost (by simpa)
    · simpa
  unfold visitOutcome
  split
  · exact h
  · exact h
  · refine hend _ _ ?_
    split
    · exact hnot ..
    · exact hnot ..
    · exact hnot ..
    · unfold goodOutcome
      dsimp only
      split
      all_goals
        refine partRun_deliver ?_
        split
        · simpa
        · exact h.then_report (slotRun_toldPresent (by simp))

end

end Sys2Proof.Machine

/-! PROOFS. What leaves the calibration store as it is, and the canonical forms of both memories. -/

namespace Sys2Proof.Machine

/-! ## The calibration store -/

/-- The effects that a request can have (R206): it completes at once, begins an operation, reads, loads, or is
ignored. -/
inductive Requested (s : State) : State → Prop
  | finished (r : OpResult) : Requested s (finishOp r s)
  | begun (op : CalOp) (ms : Nat) : Requested s (beginOp op ms s)
  | wordRead (a : Nat) : Requested s (opRead a s)
  | loaded : Requested s (opLoadLive s)
  | ignored : Requested s (countDiscard { s with cal.result := .ignoredBusy })

theorem Requested.unlessLocked {op : State → State} {s : State} (h : Requested s (op s)) :
    Requested s (unlessLocked op s) := by
  unfold Machine.unlessLocked
  split
  · exact h
  · exact .finished _

theorem Requested.withAddr {op : Nat → State → State} {s : State} (h : ∀ a, Requested s (op a s)) :
    Requested s (withAddr op s) := by
  unfold Machine.withAddr
  split
  · exact .finished _
  · exact h _

theorem requestOp_requested (code : Word) (s : State) : Requested s (requestOp code s) := by
  unfold requestOp
  split
  · exact .ignored
  · split
    · exact .withAddr .wordRead
    · exact .unlessLocked (.withAddr fun a => .begun _ _)
    · exact .unlessLocked (.withAddr fun a => .begun _ _)
    · exact .unlessLocked .loaded
    · exact .unlessLocked (.begun _ _)
    · exact .finished _

@[simp] theorem finishOp_cal (r : OpResult) (s : State) :
    (finishOp r s).cal = { s.cal with opState := .done, result := r, running := none } := by
  simp [finishOp]

@[simp] theorem opLoadLive_store (s : State) : (opLoadLive s).cal.store = s.cal.store := by
  unfold opLoadLive
  (repeat' split) <;> simp

theorem Requested.store {s t : State} (h : Requested s t) : t.cal.store = s.cal.store := by
  cases h <;> simp [opRead, beginOp]

/-- A request leaves the store as it is (R206; log entry 10). -/
@[simp] theorem requestOp_store (code : Word) (s : State) : (requestOp code s).cal.store = s.cal.store :=
  (requestOp_requested code s).store

@[simp] theorem routeWrite_store (a : Nat) (v : Word) (s : State) : (routeWrite a v s).cal.store = s.cal.store := by
  unfold routeWrite writeService
  (repeat' split) <;> simp

/-- A host write leaves the store as it is. -/
@[simp] theorem busWrite_store (a : BusAddr) (v : Word) (s : State) : (busWrite a v s).cal.store = s.cal.store := by
  unfold busWrite
  dsimp only
  (repeat' split) <;> simp

/-- What the effect of an expiry keeps whatever the time, the expiry keeps. -/
theorem onExpiry_keeps (P : State → Prop) (timer : Option Nat) (effect : State → State) {s : State} (h : P s)
    (heff : ∀ d, P (effect (advanceTo d s))) : P (onExpiry timer effect s) := by
  unfold onExpiry
  split
  · exact h
  · exact heff _

/-- Every command but the completions and the resets leaves the store as it is. -/
theorem nextState_store (c : Instr) (s : State) (h1 : c ≠ .writeComplete) (h2 : c ≠ .eraseComplete)
    (h3 : c ≠ .saveOffsetsComplete) (h4 : c ≠ .powerOnReset) (h5 : c ≠ .pinReset) :
    (nextState c s).cal.store = s.cal.store := by
  have expiry (timer : Option Nat) (effect : State → State) (heff : ∀ t, (effect t).cal = t.cal) :
      (onExpiry timer effect s).cal.store = s.cal.store :=
    onExpiry_keeps (fun t => t.cal.store = s.cal.store) timer effect rfl fun d => by simp [heff]
  cases c with
  | powerOnReset | pinReset | writeComplete | eraseComplete | saveOffsetsComplete => contradiction
  | pairedWordLatch a => exact congrArg (·.store) (by simp : (busRead a s).cal = s.cal)
  | attnCauseRead => exact congrArg (·.store) (by simp : (busRead 0x3FFB s).cal = s.cal)
  | hostWordWrite | writeHold | postingCount | attentionInterval | queueMark | heartbeatTimeout | solventLoadEntry
  | protectCounterClear | checkCountClear | attnMaskWrite | heartbeat | registerWriteIgnored | start | drain | halt
  | resume | safeRelease | resetLine | linkSingle | linkContinuous | shuttleReset | rackClear | chamberReset
  | unknownCommand | read | write | erase | loadLive | saveOffsets | unknownOperation => exact busWrite_store _ _ s
  | intakeTimerExpiry => exact congrArg (·.store) (by simp : (intakeTick s).cal = s.cal)
  | sweepVisit => exact congrArg (·.store) (by simp : (sweepStep s).cal = s.cal)
  | lineTimeTimer => exact congrArg (·.store) (by simp : (lineTick s).cal = s.cal)
  | scaleWord r w b =>
    exact congrArg (·.store) (by simp : (takeScaleWord r w { s with pins.plateReady := b }).cal = s.cal)
  | scaleWatchdogExpiry b =>
    exact congrArg (·.store) (by simp : (watchdogTick { s with pins.plateReady := b }).cal = s.cal)
  | sensorInputChange k b => exact congrArg (·.store) (by simp : (sensorChange k b s).cal = s.cal)
  | conversionCompletion k raw => exact congrArg (·.store) (by simp : (conversion k raw.toNat s).cal = s.cal)
  | pwmPeriodStart k => exact congrArg (·.store) (by simp : (pwmStart k s).cal = s.cal)
  | onTimeSecond k => exact congrArg (·.store) (by simp : (onTimeTick k s).cal = s.cal)
  | linkVisit => exact congrArg (·.store) (by simp : (nextVisit s).cal = s.cal)
  | responseFrame bytes =>
    exact congrArg (·.store) (by simp : (visitOutcome (fun addr => judge addr bytes) s).cal = s.cal)
  | responseTimeout => exact congrArg (·.store) (by simp : (visitOutcome (fun _ => .timeout) s).cal = s.cal)
  | safetyInputChange i b => exact congrArg (·.store) (by simp : (safetyChange i b s).cal = s.cal)
  | estopAssertedAtReset => exact congrArg (·.store) (by simp : (deliverEstopAtReset s).cal = s.cal)
  | heartbeatTimerExpiry => exact expiry _ _ (by simp)
  | holdOffTimerExpiry => exact expiry _ _ (by simp)
  | settleTimerExpiry k => exact expiry _ _ (by simp)
  | misfeedTimerExpiry => exact expiry _ _ (by simp)
  | retryTimerExpiry => exact expiry _ _ (by simp)
  | moveTimerExpiry => exact expiry _ _ (by simp)
  | ignitionTimerExpiry => exact expiry _ _ (by simp)
  | stabilizingTimerExpiry => exact expiry _ _ (by simp)
  | idleTimerExpiry => exact expiry _ _ (by simp)
  | secondPlateTimerExpiry => exact expiry _ _ (by simp)
  | openShutterTimerExpiry => exact expiry _ _ (by simp)
  | passTimerExpiry => exact expiry _ _ (by simp)
  | safetySettleExpiry i => exact expiry _ _ (by simp)

/-- A reset that finds no operation running leaves the store as it is. -/
theorem cutStore_of_not_running {s : State} (h : s.cal.running = none) : cutStore s = s := by
  simp [cutStore, h]

@[simp] theorem bringUp_store (load : State → Nat) (s : State) : (bringUp load s).cal.store = s.cal.store := by
  simp [bringUp]

@[simp] theorem resolveSlots_cal (s : State) : (resolveSlots s).cal = s.cal := by
  simp only [resolveSlots, latchIf_frame]
  rw [foldl_keeps State.cal _ (by simp)]
  simp

theorem powerOn_store (s : State) : (powerOn s).cal.store = (cutStore s).cal.store := by
  simp [powerOn, resetBase]

theorem pinReset_store (s : State) : (pinReset s).cal.store = (cutStore s).cal.store := by
  simp [pinReset, pinBase, resetBase]

/-- Settles O8: command by command, by the frames of the operations. -/
theorem onlyCompletionsAndResetsWriteTheStore : Obligations.OnlyCompletionsAndResetsWriteTheStore := by
  refine ⟨fun c s t hexec h1 h2 h3 h4 h5 => ?_, fun s hidle => ⟨⟨_, rfl, ?_⟩, _, rfl, ?_⟩⟩
  · rw [exec_eq_next] at hexec
    cases hexec
    exact nextState_store c s h1 h2 h3 h4 h5
  · rw [powerOn_store, cutStore_of_not_running hidle]
  · rw [pinReset_store, cutStore_of_not_running hidle]

end Sys2Proof.Machine

/-! PROOFS. Every step keeps the exchange memory and the calibration store canonical. -/

namespace Sys2Proof.Machine

/-! ## The store -/

theorem storeWf_completion {s : State} (h : storeWf s.cal.store = true) :
    storeWf (completeWrite s).cal.store = true ∧ storeWf (completeErase s).cal.store = true ∧
      storeWf (completeSave s).cal.store = true := by
  have hwrite (a : Nat) (v : Word) (t : State) (ht : storeWf t.cal.store = true) :
      storeWf (storeWrite a v t).cal.store = true := storeWf_storeWrite a v t ht
  have htime (d : Nat) : storeWf (advanceTo d s).cal.store = true := by simpa
  refine ⟨?_, ?_, ?_⟩
  · unfold completeWrite
    split
    · simp only [finishOp_cal]; exact hwrite _ _ _ (htime _)
    all_goals exact h
  · unfold completeErase
    split
    · simp only [finishOp_cal]; exact hwrite _ _ _ (htime _)
    all_goals exact h
  · unfold completeSave
    split
    · simp only [finishOp_cal]; exact hwrite _ _ _ (hwrite _ _ _ (hwrite _ _ _ (htime _)))
    all_goals exact h

theorem storeWf_cutStore {s : State} (h : storeWf s.cal.store = true) : storeWf (cutStore s).cal.store = true := by
  have hcut (place a : Nat) (v : Word) (t : State) (ht : storeWf t.cal.store = true) :
      storeWf (cutWord place a v t).cal.store = true := by
    unfold cutWord
    split
    · exact storeWf_storeWrite a v t ht
    · exact ht
  unfold cutStore
  split
  · exact h
  · exact hcut _ _ _ _ h
  · exact hcut _ _ _ _ h
  · exact hcut _ _ _ _ (hcut _ _ _ _ (hcut _ _ _ _ h))

/-- Every command keeps the store canonical. -/
theorem storeWf_nextState (c : Instr) {s : State} (h : storeWf s.cal.store = true) :
    storeWf (nextState c s).cal.store = true := by
  obtain ⟨hwrite, herase, hsave⟩ := storeWf_completion h
  by_cases h1 : c = .writeComplete
  · subst h1; exact hwrite
  by_cases h2 : c = .eraseComplete
  · subst h2; exact herase
  by_cases h3 : c = .saveOffsetsComplete
  · subst h3; exact hsave
  by_cases h4 : c = .powerOnReset
  · subst h4; exact (powerOn_store s).symm ▸ storeWf_cutStore h
  by_cases h5 : c = .pinReset
  · subst h5; exact (pinReset_store s).symm ▸ storeWf_cutStore h
  rw [nextState_store c s h1 h2 h3 h4 h5]
  exact h

/-! ## The exchange memory: host accesses -/

section
variable {s : State}

theorem memoryWf_partRun {m : Cells} (h : memoryWf m = true) (run : SlotRun 32 m s.bus.ram) :
    memoryWf s.bus.ram = true := run.memoryWf h

/-- The line commands write the part's words of slots alone. -/
theorem partRun_lineCommand (code : Word) : SlotRun 32 s.bus.ram (lineCommand code s).bus.ram := by
  have hqueued (why : Reason) : SlotRun 32 s.bus.ram (resolveQueuedSlots why s).bus.ram := by
    simp only [resolveQueuedSlots, latchIf_frame]
    exact slotRun_foldl _ _ (fun _ _ ht => partRun_resolveQueued ht) .refl
  have hreset : SlotRun 32 s.bus.ram (lineReset s).bus.ram := by
    unfold lineReset
    refine SlotRun.then_report ?_ (slotRun_handlingTests .refl)
    simp only [setLine_frame, clearNodeCounts_frame, clearStrays_frame]
    exact (hqueued .lineReset).then_report (slotRun_holdIfEmpty (by simp))
  have hsingle : SlotRun 32 s.bus.ram (linkSingle s).bus.ram := (slotRun_linkSingle .refl).partWords
  have hcontinuous (t : State) (ht : t.bus.ram = s.bus.ram) : SlotRun 32 s.bus.ram (linkContinuous t).bus.ram :=
    (slotRun_linkContinuous (ht ▸ .refl)).partWords
  have htests (t : State) (ht : t.bus.ram = s.bus.ram) : SlotRun 32 s.bus.ram (handlingTests t).bus.ram :=
    (slotRun_handlingTests (ht ▸ .refl)).partWords
  have hcases := lineCommand_cases code s
  simp only [List.mem_cons, List.not_mem_nil, or_false] at hcases
  rcases hcases with h | h | h | h | h | h | h | h | h | h | h | h
  all_goals rw [h]
  · unfold cmdStart
    split
    · split
      · exact .refl
      · split
        · exact .refl
        · exact hcontinuous _ (by simp)
    all_goals simp
  · unfold cmdDrain startDraining
    split <;> simp
  · unfold cmdHalt
    split
    case h_4 | h_5 => exact .refl
    all_goals exact partRun_raiseHalt .refl
  · unfold cmdResume
    split <;> simp
  · unfold cmdSafeRelease
    (repeat' split)
    case isFalse => exact (slotRun_leaveSafe .refl).partWords
    all_goals exact .refl
  · unfold cmdResetLine
    split
    · exact hreset
    · exact .refl
  · unfold cmdLinkSingle
    split
    · exact hsingle
    · exact .refl
  · exact hcontinuous s rfl
  · unfold cmdShuttleReset
    split <;> exact .refl
  · exact htests _ (by simp)
  · unfold cmdChamberReset
    split
    · exact htests _ (by simp)
    · exact .refl
  · exact .refl

theorem memoryWf_requested {t : State} (h : memoryWf s.bus.ram = true) (ht : Requested s t) :
    memoryWf t.bus.ram = true := by
  cases ht
  case loaded =>
    unfold opLoadLive
    (repeat' split) <;> simpa [finishOp]
  all_goals simpa [finishOp, beginOp, opRead]

theorem memoryWf_writeHeader {a : Nat} {v : Word} (h : memoryWf s.bus.ram = true) :
    memoryWf (writeHeader a v s).bus.ram = true := by
  have hwrite (a : Nat) (v : Word) (t : State) (ht : t.bus.ram = s.bus.ram) :
      memoryWf (ramWrite a v t).bus.ram = true := memoryWf_ramWrite a v t (ht ▸ h)
  unfold writeHeader
  (repeat' split)
  · exact h
  · simp only [seePostingCount_frame]; exact hwrite _ _ _ rfl
  · exact hwrite _ _ _ rfl
  · unfold writeMark
    simp only [evalQueueLow_frame]
    exact hwrite _ _ _ rfl
  · unfold writeTimeout
    simp only [startHeartbeat_frame]
    exact hwrite _ _ _ rfl
  · unfold writeLoadEntry
    split
    · simp only [changeLoad_frame]; exact hwrite _ _ _ rfl
    · simpa
  · simpa

theorem memoryWf_routeWrite {a : Nat} {v : Word} (h : memoryWf s.bus.ram = true) :
    memoryWf (routeWrite a v s).bus.ram = true := by
  have hwrite : memoryWf (ramWrite a v s).bus.ram = true := memoryWf_ramWrite a v s h
  unfold routeWrite
  (repeat' split)
  · exact memoryWf_writeHeader h
  · exact hwrite
  · unfold writeTicket
    (repeat' split)
    all_goals first | exact hwrite | simpa
  · unfold writeLivePage
    split <;> simpa
  · unfold writeService
    (repeat' split)
    · exact memoryWf_requested hwrite (requestOp_requested _ _)
    · exact hwrite
    · simpa
  · exact hwrite
  · unfold writeRegister
    (repeat' split)
    · exact memoryWf_partRun h (partRun_lineCommand v)
    · simpa
    · simpa
    · exact h

theorem memoryWf_busWrite {a : BusAddr} {v : Word} (h : memoryWf s.bus.ram = true) :
    memoryWf (busWrite a v s).bus.ram = true := by
  unfold busWrite
  dsimp only
  (repeat' split)
  · exact h
  · unfold commitPair
    split
    · exact memoryWf_ramWrite _ _ _ (memoryWf_ramWrite _ _ _ h)
    · simpa
  · exact memoryWf_routeWrite h
  · exact memoryWf_routeWrite h

/-! ## The exchange memory: resets and timers -/

@[simp] theorem bringUp_ram (load : State → Nat) (s : State) : (bringUp load s).bus.ram = s.bus.ram := by
  simp [bringUp]

/-- A pin reset writes the part's words of slots alone. -/
theorem partRun_resolveSlots {m : Cells} (h : SlotRun 32 m s.bus.ram) : SlotRun 32 m (resolveSlots s).bus.ram := by
  have hlost (t : State) (i : PlateId) (ht : SlotRun 32 m t.bus.ram) : SlotRun 32 m (loseSlot i t).bus.ram := by
    have hstation (a b c : Nat) (u : State) (hu : SlotRun 33 t.bus.ram u.bus.ram)
        (hoff : (33 ≤ a ∧ a < 64) ∧ (33 ≤ b ∧ b < 64) ∧ 33 ≤ c ∧ c < 64) :
        SlotRun 33 t.bus.ram (loseStation i a b c u).bus.ram := by
      obtain ⟨⟨ha, ha'⟩, ⟨hb, hb'⟩, hc, hc'⟩ := hoff
      unfold loseStation
      split
      · exact slotRun_putSlotNat (slotRun_putSlotNat (slotRun_putSlotNat hu ha ha') hb hb') hc hc'
      · exact hu
    refine partRun_setSlotState (ht.then_report (slotRun_putSlotNat (slotRun_putSlot32 (slotRun_putSlotNat
      (hstation _ _ _ _ (hstation _ _ _ _ .refl ?_) ?_) ?_ ?_) ?_ ?_) ?_ ?_))
    all_goals simp
  simp only [resolveSlots, resolveQueuedSlots, latchIf_frame]
  refine slotRun_foldl _ _ hlost ?_
  simp only [latchIf_frame]
  exact slotRun_foldl _ _ (fun _ _ ht => partRun_resolveQueued ht) h

theorem memoryWf_pinReset (h : memoryWf s.bus.ram = true) : memoryWf (pinReset s).bus.ram = true := by
  simp only [pinReset, bringUp_ram]
  exact memoryWf_partRun h (partRun_resolveSlots (by simp [pinBase]))

theorem memoryWf_powerOn : memoryWf (powerOn s).bus.ram = true := by
  simp only [powerOn, bringUp_ram, resetBase]
  exact memoryWf_reset

/-! ## Timers -/

theorem slotRun_ignitionExpired {m : Cells} (h : SlotRun 33 m s.bus.ram) :
    SlotRun 33 m (ignitionExpired s).bus.ram := by
  unfold ignitionExpired
  dsimp only
  split
  · exact slotRun_handlingTests (slotRun_chamberFault h)
  · exact h

theorem slotRun_stabilizingExpired {m : Cells} (h : SlotRun 33 m s.bus.ram) :
    SlotRun 33 m (stabilizingExpired s).bus.ram := by
  unfold stabilizingExpired
  dsimp only
  split
  · exact slotRun_handlingTests h
  · exact h

theorem slotRun_idleExpired {m : Cells} (h : SlotRun 33 m s.bus.ram) : SlotRun 33 m (idleExpired s).bus.ram := by
  unfold idleExpired
  dsimp only
  split
  · exact slotRun_handlingTests h
  · exact h

theorem slotRun_secondExpired {m : Cells} (h : SlotRun 33 m s.bus.ram) : SlotRun 33 m (secondExpired s).bus.ram := by
  unfold secondExpired
  dsimp only
  split
  · exact slotRun_handlingTests (slotRun_startExposure h)
  · exact h

theorem slotRun_openShutterExpired {m : Cells} (h : SlotRun 33 m s.bus.ram) :
    SlotRun 33 m (openShutterExpired s).bus.ram := by
  unfold openShutterExpired
  dsimp only
  split
  · exact slotRun_handlingTests (slotRun_endBatch h)
  · exact h

theorem slotRun_passTimerExpired {m : Cells} (h : SlotRun 33 m s.bus.ram) :
    SlotRun 33 m (passTimerExpired s).bus.ram := by
  unfold passTimerExpired
  dsimp only
  split
  · split
    · exact slotRun_startPass h
    · exact h
  all_goals exact h

theorem partRun_settledEstop {m : Cells} {b : Bool} (h : SlotRun 32 m s.bus.ram) :
    SlotRun 32 m (settledEstop b s).bus.ram := by
  unfold settledEstop
  dsimp only
  split
  · exact partRun_enterSafe h
  · exact h

theorem partRun_safetySettled {m : Cells} {i : SafetyInput} (h : SlotRun 32 m s.bus.ram) :
    SlotRun 32 m (safetySettled i s).bus.ram := by
  unfold safetySettled settledCover
  cases i <;> dsimp only <;> split
  · exact h
  · exact partRun_settledEstop h
  · exact h
  · split
    · exact partRun_enterSafe h
    · exact h

theorem partRun_deliverEstopAtReset {m : Cells} (h : SlotRun 32 m s.bus.ram) :
    SlotRun 32 m (deliverEstopAtReset s).bus.ram := by
  unfold deliverEstopAtReset
  split
  · exact partRun_settledEstop h
  · exact h

/-- Every command keeps the exchange memory canonical. -/
theorem memoryWf_nextState (c : Instr) (h : memoryWf s.bus.ram = true) : memoryWf (nextState c s).bus.ram = true := by
  have same (t : State) (ht : t.bus.ram = s.bus.ram) : memoryWf t.bus.ram = true := ht ▸ h
  have expiry (timer : Option Nat) (effect : State → State)
      (heff : ∀ t, SlotRun 32 t.bus.ram (effect t).bus.ram) :
      memoryWf (onExpiry timer effect s).bus.ram = true :=
    onExpiry_keeps (fun t => memoryWf t.bus.ram = true) timer effect h fun d =>
      memoryWf_partRun (by simpa) (heff (advanceTo d s))
  cases c with
  | powerOnReset => exact memoryWf_powerOn
  | pinReset => exact memoryWf_pinReset h
  | pairedWordLatch a => exact same (busRead a s) (by simp)
  | attnCauseRead => exact same (busRead 0x3FFB s) (by simp)
  | hostWordWrite | writeHold | postingCount | attentionInterval | queueMark | heartbeatTimeout | solventLoadEntry
  | protectCounterClear | checkCountClear | attnMaskWrite | heartbeat | registerWriteIgnored | start | drain | halt
  | resume | safeRelease | resetLine | linkSingle | linkContinuous | shuttleReset | rackClear | chamberReset
  | unknownCommand | read | write | erase | loadLive | saveOffsets | unknownOperation => exact memoryWf_busWrite h
  | writeComplete => exact same (completeWrite s) (by simp)
  | eraseComplete => exact same (completeErase s) (by simp)
  | saveOffsetsComplete => exact same (completeSave s) (by simp)
  | intakeTimerExpiry => exact same (intakeTick s) (by simp)
  | lineTimeTimer => exact same (lineTick s) (by simp)
  | sensorInputChange k b => exact same (sensorChange k b s) (by simp)
  | conversionCompletion k raw => exact same (conversion k raw.toNat s) (by simp)
  | pwmPeriodStart k => exact same (pwmStart k s) (by simp)
  | onTimeSecond k => exact same (onTimeTick k s) (by simp)
  | linkVisit => exact same (nextVisit s) (by simp)
  | safetyInputChange i b => exact same (safetyChange i b s) (by simp)
  | sweepVisit => exact memoryWf_partRun h (partRun_sweepStep .refl)
  | scaleWord r w b => exact memoryWf_partRun h (partRun_takeScaleWord (s := { s with pins.plateReady := b }) .refl)
  | scaleWatchdogExpiry b => exact memoryWf_partRun h (partRun_positionSample (by simp))
  | responseFrame bytes => exact memoryWf_partRun h (partRun_visitOutcome .refl)
  | responseTimeout => exact memoryWf_partRun h (partRun_visitOutcome .refl)
  | estopAssertedAtReset => exact memoryWf_partRun h (partRun_deliverEstopAtReset .refl)
  | heartbeatTimerExpiry =>
    exact expiry _ _ fun t => by
      unfold heartbeatExpired heartbeatLapse startDraining
      split <;> simp
  | holdOffTimerExpiry => exact expiry _ _ fun t => by simp
  | settleTimerExpiry k => exact expiry _ _ fun t => partRun_settleSensor .refl
  | misfeedTimerExpiry => exact expiry _ _ fun t => partRun_misfeed .refl
  | retryTimerExpiry => exact expiry _ _ fun t => by simp
  | moveTimerExpiry =>
    exact expiry _ _ fun t => (partRun_failCurrentMove (s := { t with shuttle.timer := none }) .refl).then_report
      (slotRun_handlingTests .refl)
  | ignitionTimerExpiry => exact expiry _ _ fun t => (slotRun_ignitionExpired .refl).partWords
  | stabilizingTimerExpiry => exact expiry _ _ fun t => (slotRun_stabilizingExpired .refl).partWords
  | idleTimerExpiry => exact expiry _ _ fun t => (slotRun_idleExpired .refl).partWords
  | secondPlateTimerExpiry => exact expiry _ _ fun t => (slotRun_secondExpired .refl).partWords
  | openShutterTimerExpiry => exact expiry _ _ fun t => (slotRun_openShutterExpired .refl).partWords
  | passTimerExpiry => exact expiry _ _ fun t => (slotRun_passTimerExpired .refl).partWords
  | safetySettleExpiry i => exact expiry _ _ fun t => partRun_safetySettled .refl

end

/-- Settles O4: the store changes by writes of whole words alone, and so does the exchange memory. -/
theorem stepKeepsCanonical : Obligations.StepKeepsCanonical := fun _ _ h hstep =>
  step_keeps canonical (fun d t ⟨hram, hstore⟩ => ⟨by simpa using hram, by simpa using hstore⟩)
    (fun _ _ ht => ht) (fun c _ ⟨hram, hstore⟩ => ⟨memoryWf_nextState c hram, storeWf_nextState c hstore⟩) h hstep

end Sys2Proof.Machine

/-! PROOFS. Every step keeps the counts of the part in their ranges. -/

namespace Sys2Proof.Machine

/-- A state with the counts of one in range has its own in range. -/
theorem countInv_of_eq {s t : State} (h : countInv s) (hprotect : t.bus.protect = s.bus.protect)
    (hfaults : t.transport.faults = s.transport.faults) (hload : t.wash.load = s.wash.load)
    (hnodes : t.link.nodes = s.link.nodes) : countInv t := by
  unfold countInv
  rw [hprotect, hfaults, hload, hnodes]
  exact h

section
variable {s : State}

theorem countInv_latch {c : Attn} (h : countInv s) : countInv (latch c s) :=
  countInv_of_eq h (by simp) (by simp) (by simp) (by simp)

theorem countInv_latchIf {b : Bool} {c : Attn} (h : countInv s) : countInv (latchIf b c s) :=
  countInv_of_eq h (by simp) (by simp) (by simp) (by simp)

theorem countInv_countDiscard (h : countInv s) : countInv (countDiscard s) := by
  obtain ⟨-, hfaults, hload, hnodes⟩ := h
  refine countInv_latch ⟨?_, hfaults, hload, hnodes⟩
  simp [satAdd]

theorem countInv_putNode {n : Fin 15} {r : NodeRec} (h : countInv s) (hr : nodeCounts r) : countInv (putNode n r s) := by
  obtain ⟨hprotect, hfaults, hload, hnodes⟩ := h
  refine ⟨hprotect, hfaults, hload, fun m => ?_⟩
  rw [nodes_putNode]
  split
  · exact hr
  · exact hnodes m

theorem countInv_takeOrder {st : Station} (h : countInv s) : countInv (takeOrder st s) := by
  unfold takeOrder
  split
  · exact h
  · exact countInv_putNode h (h.2.2.2 _)

theorem countInv_foldl {α : Type} (l : List α) (g : State → α → State) (hg : ∀ t a, countInv t → countInv (g t a))
    (h : countInv s) : countInv (l.foldl g s) := by
  induction l generalizing s with
  | nil => exact h
  | cons x xs ih => exact ih (hg _ _ h)

/-! ## The wash -/

theorem countInv_orderOrPend (h : countInv s) : countInv (orderOrPend s) := by
  unfold orderOrPend
  dsimp only
  split
  · exact countInv_latch (countInv_takeOrder (s := s) h)
  · exact h

theorem countInv_openCycle (h : countInv s) : countInv (openCycle s) := by
  unfold openCycle
  split
  · exact countInv_orderOrPend h
  · exact h

theorem countInv_withLoad {n : Nat} (h : countInv s) (hn : n ≤ 65535) : countInv { s with wash.load := n } := by
  obtain ⟨hprotect, hfaults, -, hnodes⟩ := h
  exact ⟨hprotect, hfaults, hn, hnodes⟩

theorem countInv_changeLoad {n : Nat} (h : countInv s) (hn : n ≤ 65535) : countInv (changeLoad n s) :=
  countInv_openCycle (countInv_of_eq (countInv_withLoad h hn) (by simp) (by simp) (by simp) (by simp))

theorem countInv_orderIfWaiting (h : countInv s) : countInv (orderIfWaiting s) := by
  unfold orderIfWaiting
  split
  · exact countInv_orderOrPend h
  · exact h

/-- The load left by a replenishment is at most the load before (R124). -/
theorem ceilDiv_mul_sub_le (load volume portion : Nat) : ceilDiv (load * (volume - portion)) volume ≤ load := by
  rcases Nat.eq_zero_or_pos volume with rfl | hpos
  · simp [ceilDiv]
  · have hless : load * (volume - portion) ≤ load * volume := Nat.mul_le_mul_left _ (Nat.sub_le _ _)
    unfold ceilDiv
    rw [← Nat.lt_succ_iff, Nat.div_lt_iff_lt_mul hpos, Nat.succ_mul]
    omega

theorem countInv_completeReplenish (h : countInv s) : countInv (completeReplenish s) := by
  have hload := (ceilDiv_mul_sub_le s.wash.load s.wash.volume s.wash.portion).trans h.2.2.1
  unfold completeReplenish
  dsimp only
  have hheld : countInv (evalSolventHold { s with
      wash.load := ceilDiv (s.wash.load * (s.wash.volume - s.wash.portion)) s.wash.volume
      wash.outstanding := none }) :=
    countInv_of_eq (countInv_withLoad h hload) (by simp) (by simp) (by simp) (by simp)
  split
  · exact hheld
  · exact countInv_orderOrPend hheld

theorem countInv_takeWashReport {a b : Bool} {r : OrderResult} {d : Vector Byte 6} (h : countInv s) :
    countInv (takeWashReport a b r d s) := by
  unfold takeWashReport
  dsimp only
  (repeat' split)
  case h_1 => exact countInv_completeReplenish h
  all_goals exact h

theorem countInv_leaveWash {p : PlateId} (h : countInv s) : countInv (leaveWash p s) := by
  unfold leaveWash
  (repeat' split)
  · exact h
  · exact h
  · refine countInv_changeLoad (countInv_of_eq h ?_ ?_ ?_ ?_) (by simp [satAdd])
    all_goals simp

theorem countInv_washTests (h : countInv s) : countInv (washTests s) := by
  refine countInv_foldl _ _ (fun t p ht => ?_) h
  unfold washTest
  split
  · exact ht
  · dsimp only
    have henter (head : Nat) : countInv (enterWash p head t) :=
      countInv_of_eq ht (by simp) (by simp) (by simp) (by simp)
    split
    · exact countInv_leaveWash (henter _)
    · exact henter _

/-! ## The belt train and the line -/

theorem countInv_departTrain {p : PlateId} (h : countInv s) : countInv (departTrain p s) :=
  countInv_leaveWash h

theorem countInv_endPlate {p : PlateId} {x : Bool} (h : countInv s) : countInv (endPlate p x s) :=
  countInv_of_eq h (by simp) (by simp) (by simp) (by simp)

theorem countInv_spoilFromTrain {p : PlateId} (h : countInv s) : countInv (spoilFromTrain p s) :=
  countInv_endPlate (countInv_departTrain (p := p) h)

theorem countInv_setLine {l : LineState} (h : countInv s) : countInv (setLine l s) :=
  countInv_of_eq h (by simp) (by simp) (by simp) (by simp)

theorem countInv_giveDemand {n : Nat} (h : countInv s) : countInv (giveDemand n s) := by
  unfold giveDemand
  split <;> exact h

theorem countInv_endEpoch (h : countInv s) : countInv (endEpoch s) := countInv_giveDemand h

theorem countInv_idleIfDrained (h : countInv s) : countInv (idleIfDrained s) := by
  unfold idleIfDrained drainedToIdle
  split
  · exact countInv_setLine (countInv_endEpoch h)
  · exact h

theorem countInv_spoilTrain (h : countInv s) : countInv (spoilTrain s) :=
  countInv_foldl _ _ (fun _ _ ht => countInv_spoilFromTrain ht) h

theorem countInv_stopLine {c : HaltCause} {a : Attn} {l : LineState} (h : countInv s) : countInv (stopLine c a l s) :=
  have hended : countInv (endEpoch (spoilTrain (closeGate s))) := countInv_endEpoch (countInv_spoilTrain h)
  countInv_setLine (countInv_latch (countInv_of_eq hended rfl rfl rfl rfl))

theorem countInv_raiseHalt {c : HaltCause} (h : countInv s) : countInv (raiseHalt c s) := by
  unfold raiseHalt
  split
  case h_4 | h_5 => exact h
  all_goals exact countInv_stopLine h

/-! ## The shuttle, the chamber and the drawers -/

theorem countInv_board {k : MoveKind} {p : PlateId} {a b : Place} {x : Bool} (h : countInv s) :
    countInv (board k p a b x s) :=
  countInv_of_eq (countInv_takeOrder (s := setStage p .inShuttle s) (st := .shuttle)
    (countInv_of_eq h (by simp) (by simp) (by simp) (by simp))) rfl rfl rfl rfl

theorem countInv_grant (h : countInv s) : countInv (grant s) := by
  unfold grant
  split
  · split
    · next t ht => obtain ⟨p, rest, dm, rfl, -⟩ := grantStore_some s t ht; exact countInv_board h
    · split
      · next t ht => obtain ⟨p, pos, x, rfl, -⟩ := grantUnload_some s t ht; exact countInv_board h
      · split
        · next t ht =>
          obtain ⟨pos, c, p, r, d, n, rfl, -⟩ := grantLoad_some s t ht
          exact countInv_board (countInv_of_eq h (by simp) (by simp) (by simp) (by simp))
        · exact h
  · exact h

theorem countInv_handlingTests (h : countInv s) : countInv (handlingTests s) := by
  unfold handlingTests
  have hwithdrawn : countInv (withdrawSecondAsk s) := countInv_of_eq h (by simp) (by simp) (by simp) (by simp)
  refine countInv_grant ?_
  unfold lightTubes
  dsimp only
  split
  · exact countInv_of_eq (countInv_takeOrder (st := .finisher) hwithdrawn) rfl rfl rfl rfl
  · exact hwithdrawn

theorem countInv_takeShuttleReport {a b c : Bool} {r : OrderResult} {d : Vector Byte 6} (h : countInv s) :
    countInv (takeShuttleReport a b c r d s) := by
  unfold takeShuttleReport
  dsimp only
  refine countInv_handlingTests (countInv_of_eq (?_ : countInv (testUnload s.shuttle.stackFull (recordShuttle b c r d s)))
    (by simp) (by simp) (by simp) (by simp))
  unfold testUnload
  split
  · exact h
  · exact countInv_grant h

theorem countInv_takeDrawerReport {d : Fin 6} {b : Vector Byte 6} (h : countInv s) :
    countInv (takeDrawerReport d b s) := by
  unfold takeDrawerReport
  dsimp only
  refine countInv_handlingTests (countInv_of_eq h ?_ ?_ ?_ ?_)
  all_goals split <;> simp

theorem countInv_takeFinisherReport {d : Vector Byte 6} (h : countInv s) : countInv (takeFinisherReport d s) := by
  unfold takeFinisherReport
  dsimp only
  exact countInv_handlingTests (countInv_of_eq h (by simp) (by simp) (by simp) (by simp))

@[simp] theorem setBeltState_faults (b : BeltState) (t : Transport) : (setBeltState b t).faults = t.faults := by
  unfold setBeltState
  split <;> rfl

theorem countInv_takeDriveReport {a b : Bool} (h : countInv s) : countInv (takeDriveReport a b s) := by
  refine countInv_of_eq h rfl ?_ rfl rfl
  unfold takeDriveReport
  dsimp only
  split <;> simp

/-! ## The link -/

theorem nodeCounts_reassigned {st : Station} {r : NodeRec} (h : nodeCounts r) : nodeCounts (reassigned st r) := by
  unfold reassigned
  (repeat' split)
  · exact h
  · exact h
  · exact ⟨Nat.zero_le _, Nat.zero_le _, Nat.zero_le _⟩

theorem countInv_takeAssignment (h : countInv s) : countInv (takeAssignment s) := by
  obtain ⟨hprotect, hfaults, hload, hnodes⟩ := h
  refine countInv_handlingTests (countInv_foldl _ _ (fun t n ht => ?_) ⟨hprotect, hfaults, hload, fun n => ?_⟩)
  · dsimp only
    split
    · unfold toldLeft
      split
      · exact countInv_takeDriveReport ht
      · exact ht
      · exact countInv_of_eq ht (by simp) (by simp) (by simp) (by simp)
      all_goals exact ht
    · exact ht
  · simpa using nodeCounts_reassigned (hnodes n)

theorem countInv_startPass (h : countInv s) : countInv (startPass s) := by
  have hassigned := countInv_takeAssignment h
  unfold startPass
  generalize takeAssignment s = t at hassigned ⊢
  dsimp only
  (repeat' split) <;> exact hassigned

theorem countInv_endPass (h : countInv s) : countInv (endPass s) := by
  unfold endPass
  (repeat' split)
  · exact countInv_startPass h
  all_goals exact h

theorem countInv_linkContinuous (h : countInv s) : countInv (linkContinuous s) := by
  unfold linkContinuous
  split
  case h_3 => exact countInv_startPass h
  all_goals exact h

theorem countInv_linkSingle (h : countInv s) : countInv (linkSingle s) := by
  unfold linkSingle
  split
  case h_3 => exact countInv_startPass h
  all_goals exact h

theorem countInv_enterSafe {c : HaltCause} (h : countInv s) : countInv (enterSafe c s) := by
  have hsafe (t : State) (ht : countInv t) : countInv (safeStations t) :=
    countInv_linkContinuous (countInv_of_eq ht (by simp) (by simp) (by simp) (by simp))
  unfold enterSafe
  split
  case h_4 => exact hsafe _ (countInv_setLine (countInv_latch h))
  case h_5 => exact h
  all_goals exact hsafe _ (countInv_stopLine h)

theorem countInv_toldPresent {st : Station} (h : countInv s) : countInv (toldPresent st s) := by
  unfold toldPresent
  split
  · exact h
  · exact countInv_orderIfWaiting h
  · exact countInv_handlingTests (countInv_of_eq h (by simp) (by simp) (by simp) (by simp))
  · exact countInv_handlingTests h
  · exact countInv_handlingTests h
  · exact h

theorem countInv_toldLost {st : Station} (h : countInv s) : countInv (toldLost st s) := by
  unfold toldLost
  split
  · exact countInv_takeDriveReport (countInv_raiseHalt h)
  · exact countInv_raiseHalt h
  · exact countInv_handlingTests (countInv_of_eq h (by simp) (by simp) (by simp) (by simp))
  · exact countInv_handlingTests (countInv_of_eq h (by simp) (by simp) (by simp) (by simp))
  · exact countInv_handlingTests h
  · exact h

theorem countInv_deliver {st : Station} {x : Bool} {b : Byte} {d : Vector Byte 6} (h : countInv s) :
    countInv (deliver st x b d s) := by
  unfold deliver
  dsimp only
  split
  · exact countInv_takeDriveReport h
  · exact countInv_takeWashReport h
  · exact countInv_takeShuttleReport h
  · exact countInv_takeFinisherReport h
  · exact countInv_takeDrawerReport h
  · exact h

theorem countInv_notGood {n : Fin 15} {b : Bool} (h : countInv s) : countInv (notGood n b s) := by
  obtain ⟨hmiss, hcheck, hseq⟩ := h.2.2.2 n
  have hcounted : nodeCounts { s.link.nodes[n] with
      miss := satAdd 7 s.link.nodes[n].miss 1
      check := if b then satAdd 255 s.link.nodes[n].check 1 else s.link.nodes[n].check } := by
    refine ⟨by simp [satAdd], ?_, hseq⟩
    dsimp only
    split
    · simp [satAdd]
    · exact hcheck
  unfold notGood
  dsimp only
  split
  · exact countInv_toldLost (countInv_latch (countInv_putNode h hcounted))
  · exact countInv_putNode h hcounted

theorem countInv_goodOutcome {n : Fin 15} {b : Bool} {c : NodeCmd} {x : Byte} {d : Vector Byte 6} (h : countInv s) :
    countInv (goodOutcome n b c x d s) := by
  obtain ⟨hmiss, hcheck, hseq⟩ := h.2.2.2 n
  have hput : countInv (putNode n (goodNode x d s.link.nodes[n]) s) := countInv_putNode h ⟨Nat.zero_le _, hcheck, hseq⟩
  have hdelivered (t : State) (ht : countInv t) (st : Station) (y : Bool) : countInv (deliver st y x d t) :=
    countInv_deliver ht
  unfold goodOutcome
  dsimp only
  (repeat' split)
  · exact hdelivered _ hput _ _
  · exact hdelivered _ (countInv_toldPresent hput) _ _
  · exact hdelivered _ hput _ _
  · exact hdelivered _ (countInv_toldPresent hput) _ _

theorem countInv_visitOutcome {f : Byte → Judged} (h : countInv s) : countInv (visitOutcome f s) := by
  unfold visitOutcome
  split
  · exact h
  · exact h
  · have hend (n : Fin 15) (t : State) (ht : countInv t) : countInv (endVisit n t) := by
      unfold endVisit
      dsimp only
      split
      · exact countInv_endPass ht
      · exact ht
    refine hend _ _ ?_
    split
    · exact countInv_notGood h
    · exact countInv_notGood h
    · exact countInv_notGood h
    · exact countInv_goodOutcome h

theorem countInv_nextVisit (h : countInv s) : countInv (nextVisit s) := by
  have hopen (n : Fin 15) (b : Bool) : countInv (openVisit n b s) := by
    obtain ⟨hmiss, hcheck, -⟩ := h.2.2.2 n
    have hput : countInv (putNode n { s.link.nodes[n] with seq := (s.link.nodes[n].seq + 1) % 16 } s) :=
      countInv_putNode h ⟨hmiss, hcheck, Nat.le_of_lt_succ (Nat.mod_lt _ (by decide))⟩
    exact countInv_of_eq hput (by simp) (by simp) (by simp) (by rw [openVisit_link]; rfl)
  unfold nextVisit
  split
  · exact h
  · exact h
  · split
    · exact hopen _ _
    · split
      · exact h
      · exact hopen _ _

end

end Sys2Proof.Machine

/-! PROOFS. The counts in their ranges, continued: samples, edges, intake, host accesses and resets. -/

namespace Sys2Proof.Machine

section
variable {s : State}

/-! ## Samples and edges -/

theorem countInv_evaluate (h : countInv s) : countInv (evaluate s) := by
  have hsteps : countInv (misfeedSteps s) := countInv_of_eq h (by simp) (by simp) (by simp) (by simp)
  have hrules : countInv (epochRules (misfeedSteps s)) := by
    unfold epochRules
    (repeat' split)
    · exact hsteps
    · exact countInv_giveDemand hsteps
    · exact hsteps
  unfold evaluate
  dsimp only
  (repeat' split)
  all_goals exact countInv_of_eq hrules (by simp) (by simp) (by simp) (by simp)

theorem countInv_misfeed (h : countInv s) : countInv (misfeed s) := by
  unfold misfeed
  split
  · exact h
  · next p _ =>
    unfold misfeedReturn
    have hleft : countInv (departTrain p (closeGate s)) := countInv_departTrain (s := closeGate s) h
    exact countInv_idleIfDrained (countInv_of_eq hleft (by simp) (by simp) (by simp) (by simp))

/-- The belt's own tests at a good sample leave the fault count. -/
theorem testConditions_tests_faults (now : Nat) (t : Transport) :
    (testDeviation now (testSettle now t)).faults = t.faults := by
  have hdeviation (u : Transport) : (testDeviation now u).faults = u.faults := by
    unfold testDeviation
    dsimp only
    (repeat' split) <;> simp
  rw [hdeviation]
  unfold testSettle
  dsimp only
  (repeat' split) <;> simp

theorem countInv_goodSample {n : Nat} (h : countInv s) : countInv (goodSample n s) := by
  obtain ⟨hprotect, -, hload, hnodes⟩ := h
  unfold goodSample
  dsimp only
  generalize estimateAfter _ _ _ _ = e
  generalize historyAfter _ _ _ = l
  have hreset : countInv { s with
      transport.position := some n, transport.faults := 0, transport.history := l, transport.estimate := e } :=
    ⟨hprotect, Nat.zero_le _, hload, hnodes⟩
  generalize { s with
      transport.position := some n, transport.faults := 0, transport.history := l, transport.estimate := e } = t
    at hreset ⊢
  unfold testConditions
  dsimp only
  have htested : countInv (latchIf ((testDeviation t.now (testSettle t.now t.transport)).speedFlag &&
      !t.transport.speedFlag) .lamp { t with transport := testDeviation t.now (testSettle t.now t.transport) }) :=
    countInv_latchIf (countInv_of_eq hreset rfl (testConditions_tests_faults _ _) rfl rfl)
  split
  · exact countInv_raiseHalt (countInv_of_eq htested rfl rfl rfl rfl)
  · exact countInv_of_eq htested rfl rfl rfl rfl

theorem countInv_vernierFault (h : countInv s) : countInv (vernierFault s) := by
  obtain ⟨hprotect, -, hload, hnodes⟩ := h
  have hcounted : countInv { s with transport.faults := satAdd 255 s.transport.faults 1 } :=
    ⟨hprotect, by simp [satAdd], hload, hnodes⟩
  unfold vernierFault
  dsimp only
  split
  · exact countInv_raiseHalt hcounted
  · exact hcounted

theorem countInv_handOn (h : countInv s) : countInv (handOn s) := by
  have hmissing : countInv (missingTest s) := by
    unfold missingTest
    (repeat' split)
    case isTrue => exact countInv_idleIfDrained (countInv_spoilFromTrain h)
    all_goals exact h
  exact countInv_evaluate (countInv_washTests (countInv_of_eq hmissing (by simp) (by simp) (by simp) (by simp)))

theorem countInv_positionSample {r : Option (Word × Word)} (h : countInv s) : countInv (positionSample r s) := by
  have hopen (n : Nat) (t : State) (ht : countInv t) : countInv (openRuns n t) := by
    unfold openRuns
    split <;> exact ht
  unfold positionSample
  dsimp only
  (repeat' split)
  · exact countInv_handOn (countInv_vernierFault h)
  · exact hopen _ _ (countInv_handOn (countInv_goodSample h))
  · exact countInv_handOn (countInv_vernierFault h)

theorem countInv_takeScaleWord {r : Reader} {w : Word} (h : countInv s) : countInv (takeScaleWord r w s) := by
  unfold takeScaleWord
  cases r
  all_goals
    dsimp only
    split
    · exact countInv_positionSample h
    all_goals exact h

theorem countInv_exitTail (h : countInv s) : countInv (exitTail s) := by
  unfold exitTail
  (repeat' split)
  · next p _ _ =>
    unfold rackPlate
    have hclosed : countInv (closeNormally p .main (closeNormally p .back s)) :=
      countInv_of_eq h (by simp) (by simp) (by simp) (by simp)
    exact countInv_idleIfDrained (countInv_of_eq (countInv_departTrain (p := p) hclosed) (by simp) (by simp)
      (by simp) (by simp))
  · exact countInv_raiseHalt h
  · unfold strayTail
    dsimp only
    split
    · exact countInv_latch h
    · exact countInv_raiseHalt (countInv_latch h)

theorem countInv_settleSensor {k : Sensor} (h : countInv s) : countInv (settleSensor k s) := by
  have hput (u : SensorUnit) : countInv (putSensorUnit k u s) := by cases k <;> exact h
  have hedge (b : Bool) (n : Nat) (t : State) (ht : countInv t) : countInv (deliverEdge k b n t) := by
    unfold deliverEdge
    split
    · exact countInv_of_eq ht (by simp) (by simp) (by simp) (by simp)
    · exact countInv_of_eq ht (by simp) (by simp) (by simp) (by simp)
    · exact countInv_of_eq ht (by simp) (by simp) (by simp) (by simp)
    · exact countInv_handlingTests (countInv_exitTail ht)
  unfold settleSensor
  dsimp only
  split
  · exact hput _
  · exact hedge _ _ _ (hput _)

theorem countInv_sensorChange {k : Sensor} {b : Bool} (h : countInv s) : countInv (sensorChange k b s) := by
  unfold sensorChange
  cases k
  all_goals
    dsimp only
    split <;> exact h

/-! ## Ticket intake -/

theorem countInv_sweepStep (h : countInv s) : countInv (sweepStep s) := by
  have hact (i : PlateId) (code : Nat) (t : State) (ht : countInv t) : countInv (actOnRequest i code t) := by
    rcases actOnRequest_cases i code t with e | e | e | e | e
    case inr.inr.inr.inr => exact e ▸ countInv_countDiscard ht
    all_goals
      rw [e]
      exact countInv_of_eq ht (by simp) (by simp) (by simp) (by simp)
  unfold sweepStep
  split
  · exact h
  · next i _ =>
    refine countInv_of_eq (?_ : countInv (visitSlot i s)) (by simp) (by simp) (by simp) (by simp)
    unfold visitSlot
    dsimp only
    (repeat' split)
    · exact h
    · exact h
    · exact hact _ _ _ (countInv_of_eq h (by simp) (by simp) (by simp) (by simp))

/-! ## Line commands and host accesses -/

theorem countInv_startDraining (h : countInv s) : countInv (startDraining s) :=
  countInv_idleIfDrained (countInv_setLine h)

theorem countInv_leaveSafe (h : countInv s) : countInv (leaveSafe s) := by
  unfold leaveSafe
  dsimp only
  have hsafe : countInv { s with safety.lineSafe := false } := h
  exact countInv_handlingTests (countInv_of_eq (countInv_orderIfWaiting (countInv_setLine (l := .halted) hsafe))
    (by simp) (by simp) (by simp) (by simp))

theorem countInv_lineReset (h : countInv s) : countInv (lineReset s) := by
  have hqueue : countInv (clearStrays (holdIfEmpty (setQueue [] (resolveQueuedSlots .lineReset s)))) :=
    countInv_of_eq h (by simp) (by simp) (by simp) (by simp)
  obtain ⟨hprotect, hfaults, hload, hnodes⟩ := hqueue
  refine countInv_handlingTests (countInv_setLine ⟨hprotect, hfaults, hload, fun n => ?_⟩)
  simpa [clearNodeCounts, nodeCounts] using (hnodes n).2.2

/-- A line command keeps a property that the outcome leaves and each effect taken keeps in the line state that
allows it (R23, R24, R25, R27, R30, R31, R131, R150, R168, R174). -/
theorem lineCommand_keeps (P : State → Prop) (code : Word) (h : P s)
    (outcome : ∀ o t, P t → P (setOutcome o t))
    (start : s.supervisor.line = .idle → s.safety.coverClosed = true →
      P (linkContinuous (setLine .running { s with admission.epochCurrent := false })))
    (restart : s.supervisor.line = .draining → P (setLine .running s))
    (drain : s.supervisor.line = .running → P (startDraining s))
    (halt : s.supervisor.line ≠ .halted → s.supervisor.line ≠ .safe → P (raiseHalt .command s))
    (resume : s.supervisor.line = .halted → P (setLine .idle { s with supervisor.cause := .none }))
    (release : s.supervisor.line = .safe → P (leaveSafe s))
    (reset : idleOrHalted s = true → P (lineReset s))
    (single : P (linkSingle s)) (continuous : P (linkContinuous s))
    (shuttleReset : P { s with shuttle.resetRequested := true })
    (rackClear : P (handlingTests (clearStrays s)))
    (chamberReset : s.chamber.state = .faulted →
      P (handlingTests (unloadNext { s with chamber.resetAccepted := true }))) : P (lineCommand code s) := by
  have hcases := lineCommand_cases code s
  simp only [List.mem_cons, List.not_mem_nil, or_false] at hcases
  rcases hcases with e | e | e | e | e | e | e | e | e | e | e | e
  all_goals rw [e]
  · unfold cmdStart
    split
    next hline =>
      split
      · exact outcome _ _ h
      · next hcover =>
        split
        · exact outcome _ _ h
        · exact outcome _ _ (start hline (by simpa using hcover))
    next hline => exact outcome _ _ (restart hline)
    all_goals exact outcome _ _ h
  · unfold cmdDrain
    split
    next hline => exact outcome _ _ (drain hline)
    all_goals exact outcome _ _ h
  · unfold cmdHalt
    split
    case h_4 | h_5 => exact outcome _ _ h
    all_goals
      next hline => exact outcome _ _ (halt (by simp [hline]) (by simp [hline]))
  · unfold cmdResume
    split
    next hline => exact outcome _ _ (resume hline)
    all_goals exact outcome _ _ h
  · unfold cmdSafeRelease
    split
    next hline =>
      (repeat' split)
      · exact outcome _ _ h
      · exact outcome _ _ h
      · exact outcome _ _ (release hline)
    all_goals exact outcome _ _ h
  · unfold cmdResetLine
    split
    next hline => exact outcome _ _ (reset hline)
    all_goals exact outcome _ _ h
  · unfold cmdLinkSingle
    split
    · exact outcome _ _ single
    · exact outcome _ _ h
  · exact outcome _ _ continuous
  · unfold cmdShuttleReset
    split
    · exact outcome _ _ shuttleReset
    · exact outcome _ _ h
  · exact outcome _ _ rackClear
  · unfold cmdChamberReset
    split
    next hfaulted => exact outcome _ _ (chamberReset hfaulted)
    all_goals exact outcome _ _ h
  · exact outcome _ _ h

theorem countInv_lineCommand (code : Word) (h : countInv s) : countInv (lineCommand code s) := by
  have hnoEpoch : countInv { s with admission.epochCurrent := false } := h
  have hnoCause : countInv { s with supervisor.cause := .none } := h
  exact lineCommand_keeps countInv code h
    (outcome := fun _ _ ht => ht)
    (start := fun _ _ => countInv_linkContinuous (countInv_setLine hnoEpoch))
    (restart := fun _ => countInv_setLine h)
    (drain := fun _ => countInv_startDraining h)
    (halt := fun _ _ => countInv_raiseHalt h)
    (resume := fun _ => countInv_setLine hnoCause)
    (release := fun _ => countInv_leaveSafe h)
    (reset := fun _ => countInv_lineReset h)
    (single := countInv_linkSingle h) (continuous := countInv_linkContinuous h)
    (shuttleReset := h)
    (rackClear := countInv_handlingTests h)
    (chamberReset := fun _ => countInv_handlingTests
      (countInv_of_eq h (by simp) (by simp) (by simp) (by simp)))

theorem countInv_requested {t : State} (h : countInv s) (ht : Requested s t) : countInv t := by
  have hfinish (r : OpResult) (u : State) (hu : countInv u) : countInv (finishOp r u) := countInv_latch hu
  cases ht
  case loaded =>
    have hload (u : State) (hu : countInv u) : countInv (takeLive (takenItem s) u) :=
      countInv_openCycle (countInv_of_eq hu (by simp) (by simp) (by simp [liveOthers]) (by simp [liveOthers]))
    unfold opLoadLive
    (repeat' split)
    · exact hfinish _ _ (hload _ h)
    · exact hfinish _ _ (hload _ h)
    · exact hfinish _ _ h
  case finished => exact hfinish _ _ h
  case wordRead => exact hfinish _ _ h
  case ignored => exact countInv_countDiscard h
  case begun => exact h

theorem countInv_writeHeader {a : Nat} {v : Word} (h : countInv s) : countInv (writeHeader a v s) := by
  unfold writeHeader
  (repeat' split)
  · exact ⟨Nat.zero_le _, h.2⟩
  · exact countInv_of_eq h (by simp) (by simp) (by simp) (by simp)
  · exact h
  · exact countInv_of_eq h (by simp) (by simp) (by simp) (by simp)
  · exact h
  · unfold writeLoadEntry
    split
    · exact countInv_changeLoad (s := ramWrite 0x0024 v s) h (Nat.le_of_lt_succ v.isLt)
    · exact countInv_countDiscard h
  · exact countInv_countDiscard h

theorem countInv_routeWrite {a : Nat} {v : Word} (h : countInv s) : countInv (routeWrite a v s) := by
  have hdiscard := countInv_countDiscard h
  unfold routeWrite
  (repeat' split)
  · exact countInv_writeHeader h
  · exact h
  · unfold writeTicket
    (repeat' split)
    all_goals first | exact h | exact hdiscard
  · unfold writeLivePage
    split
    · next n _ =>
      obtain ⟨hmiss, -, hseq⟩ := h.2.2.2 n
      exact countInv_putNode h ⟨hmiss, Nat.zero_le _, hseq⟩
    · exact hdiscard
  · unfold writeService
    (repeat' split)
    · exact countInv_requested (s := ramWrite a v s) h (requestOp_requested _ _)
    · exact h
    · exact hdiscard
  · exact h
  · unfold writeRegister
    (repeat' split)
    · exact countInv_lineCommand v h
    · exact countInv_of_eq h (by simp) (by simp) (by simp) (by simp)
    · exact h
    · exact h

theorem countInv_busWrite {a : BusAddr} {v : Word} (h : countInv s) : countInv (busWrite a v s) := by
  unfold busWrite
  dsimp only
  (repeat' split)
  · exact h
  · unfold commitPair
    split
    · exact h
    · exact countInv_countDiscard h
  · exact countInv_routeWrite h
  · exact countInv_routeWrite h

/-! ## Resets -/

theorem nodeCounts_reset (st : Station) : nodeCounts (NodeRec.reset st) :=
  ⟨Nat.zero_le _, Nat.zero_le _, Nat.zero_le _⟩

/-- A reset leaves the counts in their ranges when the load that it starts with is. -/
theorem countInv_bringUp {load : State → Nat} (hprotect : s.bus.protect = 0) (hfaults : s.transport.faults = 0)
    (hload : load (takeInputs (startLink (loadAtReset s))) ≤ 65535) : countInv (bringUp load s) := by
  unfold bringUp
  dsimp only
  generalize ht : takeInputs (startLink (loadAtReset s)) = t at hload ⊢
  refine countInv_openCycle ⟨?_, ?_, hload, fun n => ?_⟩
  · simp [← ht, hprotect]
  · simp [← ht, hfaults]
  · simpa [← ht, startLink] using nodeCounts_reset _

/-- The hard limit that a reset takes is a word (R204, R205). -/
theorem loadAtReset_hard_le (s : State) : (loadAtReset s).wash.hard ≤ 65535 := by
  simp only [loadAtReset, liveOthers, liveNat, resetItems]
  exact Nat.le_of_lt_succ (BitVec.isLt _)

theorem countInv_powerOn : countInv (powerOn s) :=
  countInv_bringUp rfl rfl (by simpa using loadAtReset_hard_le _)

@[simp] theorem resolveSlots_protect (s : State) : (resolveSlots s).bus.protect = s.bus.protect := by
  simp only [resolveSlots, latchIf_frame]
  rw [foldl_keeps (fun t : State => t.bus.protect) _ (by simp)]
  simp

@[simp] theorem resolveSlots_faults (s : State) : (resolveSlots s).transport.faults = s.transport.faults := by
  simp only [resolveSlots, latchIf_frame]
  rw [foldl_keeps (fun t : State => t.transport.faults) _ (by simp)]
  simp

theorem countInv_pinReset (h : countInv s) : countInv (pinReset s) :=
  countInv_bringUp ((resolveSlots_protect _).trans rfl) ((resolveSlots_faults _).trans rfl) h.2.2.1

end

/-! ## Every command -/

/-- The effects of the timers' expiries keep the counts in their ranges. -/
theorem countInv_safetySettled {i : SafetyInput} {s : State} (h : countInv s) : countInv (safetySettled i s) := by
  have hcover (b : Bool) (t : State) (ht : countInv t) : countInv (settledCover b t) := by
    unfold settledCover
    dsimp only
    split
    · exact countInv_enterSafe ht
    · exact ht
  unfold safetySettled settledEstop
  cases i
  all_goals
    dsimp only
    (repeat' split)
    all_goals first | exact h | exact countInv_enterSafe h | exact hcover _ _ h

theorem countInv_nextState (c : Instr) {s : State} (h : countInv s) : countInv (nextState c s) := by
  have expiry (timer : Option Nat) (effect : State → State) (heff : ∀ t, countInv t → countInv (effect t)) :
      countInv (onExpiry timer effect s) :=
    onExpiry_keeps countInv timer effect h fun d =>
      heff _ (countInv_of_eq h (by simp) (by simp) (by simp) (by simp))
  have same (t : State) (hp : t.bus.protect = s.bus.protect) (hf : t.transport = s.transport) (hw : t.wash = s.wash)
      (hl : t.link = s.link) : countInv t := countInv_of_eq h hp (by rw [hf]) (by rw [hw]) (by rw [hl])
  cases c with
  | powerOnReset => exact countInv_powerOn
  | pinReset => exact countInv_pinReset h
  | pairedWordLatch a => exact same (busRead a s) (by simp) (by simp) (by simp) (by simp)
  | attnCauseRead => exact same (busRead 0x3FFB s) (by simp) (by simp) (by simp) (by simp)
  | hostWordWrite | writeHold | postingCount | attentionInterval | queueMark | heartbeatTimeout | solventLoadEntry
  | protectCounterClear | checkCountClear | attnMaskWrite | heartbeat | registerWriteIgnored | start | drain | halt
  | resume | safeRelease | resetLine | linkSingle | linkContinuous | shuttleReset | rackClear | chamberReset
  | unknownCommand | read | write | erase | loadLive | saveOffsets | unknownOperation => exact countInv_busWrite h
  | writeComplete => exact same (completeWrite s) (by simp) (by simp) (by simp) (by simp)
  | eraseComplete => exact same (completeErase s) (by simp) (by simp) (by simp) (by simp)
  | saveOffsetsComplete => exact same (completeSave s) (by simp) (by simp) (by simp) (by simp)
  | intakeTimerExpiry => exact same (intakeTick s) (by simp) (by simp) (by simp) (by simp)
  | lineTimeTimer => exact same (lineTick s) (by simp) (by simp) (by simp) (by simp)
  | sensorInputChange k b => exact countInv_sensorChange h
  | conversionCompletion k raw => exact same (conversion k raw.toNat s) (by simp) (by simp) (by simp) (by simp)
  | pwmPeriodStart k => exact same (pwmStart k s) (by simp) (by simp) (by simp) (by simp)
  | onTimeSecond k => exact same (onTimeTick k s) (by simp) (by simp) (by simp) (by simp)
  | linkVisit => exact countInv_nextVisit h
  | safetyInputChange i b => exact same (safetyChange i b s) (by simp) (by simp) (by simp) (by simp)
  | sweepVisit => exact countInv_sweepStep h
  | scaleWord r w b => exact countInv_takeScaleWord (s := { s with pins.plateReady := b }) h
  | scaleWatchdogExpiry b =>
    exact countInv_positionSample (countInv_of_eq h (by simp) (by simp) (by simp) (by simp))
  | responseFrame bytes => exact countInv_visitOutcome h
  | responseTimeout => exact countInv_visitOutcome h
  | estopAssertedAtReset =>
    change countInv (if s.safety.estopAtReset then enterSafe .estop _ else s)
    split
    · exact countInv_enterSafe h
    · exact h
  | heartbeatTimerExpiry =>
    exact expiry _ _ fun t ht => by
      unfold heartbeatExpired heartbeatLapse
      split
      · exact countInv_latch (countInv_startDraining ht)
      all_goals exact ht
  | holdOffTimerExpiry =>
    exact expiry _ _ fun t ht => countInv_of_eq ht (by simp) (by simp) (by simp) (by simp)
  | settleTimerExpiry k => exact expiry _ _ fun t ht => countInv_settleSensor ht
  | misfeedTimerExpiry => exact expiry _ _ fun t ht => countInv_misfeed ht
  | retryTimerExpiry =>
    exact expiry _ _ fun t ht => by
      unfold retryExpired
      dsimp only
      split
      · exact countInv_orderOrPend ht
      · exact ht
  | moveTimerExpiry =>
    exact expiry _ _ fun t ht => countInv_handlingTests (countInv_of_eq ht (by simp) (by simp) (by simp) (by simp))
  | ignitionTimerExpiry =>
    exact expiry _ _ fun t ht => by
      unfold ignitionExpired
      dsimp only
      split
      · exact countInv_handlingTests (countInv_of_eq ht (by simp) (by simp) (by simp) (by simp))
      · exact ht
  | stabilizingTimerExpiry =>
    exact expiry _ _ fun t ht => by
      unfold stabilizingExpired
      dsimp only
      split
      · exact countInv_handlingTests ht
      · exact ht
  | idleTimerExpiry =>
    exact expiry _ _ fun t ht => by
      unfold idleExpired
      dsimp only
      split
      · exact countInv_handlingTests ht
      · exact ht
  | secondPlateTimerExpiry =>
    exact expiry _ _ fun t ht => by
      unfold secondExpired
      dsimp only
      split
      · exact countInv_handlingTests (countInv_of_eq ht (by simp) (by simp) (by simp) (by simp))
      · exact ht
  | openShutterTimerExpiry =>
    exact expiry _ _ fun t ht => by
      unfold openShutterExpired
      dsimp only
      split
      · exact countInv_handlingTests (countInv_of_eq ht (by simp) (by simp) (by simp) (by simp))
      · exact ht
  | passTimerExpiry =>
    exact expiry _ _ fun t ht => by
      unfold passTimerExpired
      dsimp only
      (repeat' split)
      · exact countInv_startPass ht
      all_goals exact ht
  | safetySettleExpiry i => exact expiry _ _ fun t ht => countInv_safetySettled ht

/-- Settles O6: each count saturates, is cleared, or is taken modulo its range. -/
theorem stepKeepsCounts : Obligations.StepKeepsCounts := fun _ _ h hstep =>
  step_keeps countInv (fun _ _ ht => countInv_of_eq ht (by simp) (by simp) (by simp) (by simp))
    (fun _ _ ht => ht) (fun c _ ht => countInv_nextState c ht) h hstep

end Sys2Proof.Machine

/-! PROOFS. What the line state promises of belt, banks and LINE_SAFE# (R22, R26, R28, R29, R69, R84, R202). -/

namespace Sys2Proof.Machine

/-! ## One bank unit -/

section
variable {f : Bool} {b c : BankUnit}

theorem bankFollows_of_eq (h : bankFollows f b) (hstate : c.state = b.state) (hclaims : c.claims = b.claims)
    (hduty : c.duty = b.duty) : bankFollows f c := by
  simpa only [bankFollows, hstate, hclaims, hduty] using h

theorem firstDuty_le (eSet full : Nat) : firstDuty eSet full ≤ 1000 := by
  unfold firstDuty
  (repeat' split)
  · exact Nat.zero_le _
  · exact Nat.le_refl _
  · exact Nat.min_le_left _ _

theorem bankFollows_forceOff (now : Nat) (b : BankUnit) : bankFollows true (forceOff now b) := by
  simp [bankFollows, forceOff, setDuty]

theorem bankFollows_leaveForced (now : Nat) (h : bankFollows true b) : bankFollows false (leaveForced now b) := by
  obtain ⟨-, -, hduty, hle⟩ := h
  have hzero : b.duty = 0 := hduty (.inl rfl)
  unfold leaveForced
  split
  · next hnone => split <;> simp [bankFollows, hnone, hzero]
  · next hsome => simpa [bankFollows, hsome, setDuty] using firstDuty_le _ _

/-- A change of the line state or of COVER leaves a bank as the new state requires (R69). -/
theorem bankFollows_syncBank (now : Nat) (g : Bool) (h : bankFollows f b) : bankFollows g (syncBank now g b) := by
  have hforced : b.state = .forcedOff ↔ f = true := h.1
  unfold syncBank
  cases g
  · simp only [Bool.false_eq_true, if_false]
    split
    · next hoff => exact bankFollows_leaveForced now (hforced.mp hoff ▸ h)
    · next hon =>
      have hfree : f = false := by simpa using mt hforced.mpr hon
      exact hfree ▸ h
  · simp only [if_true]
    split
    · next hoff => exact hforced.mp hoff ▸ h
    · exact bankFollows_forceOff now b

theorem bankFollows_dropClaim (now : Nat) (p : PlateId) (h : bankFollows f b) : bankFollows f (dropClaim now p b) := by
  obtain ⟨hforced, hclaimed, hduty, hle⟩ := h
  unfold dropClaim
  dsimp only
  split
  · next hmem =>
    have hsome : b.claims ≠ [] := List.ne_nil_of_mem hmem
    split
    · next hlast =>
      unfold emptyClaims setDuty
      cases f <;> simp_all [bankFollows]
    · next hleft => cases f <;> simp_all [bankFollows]
  · exact ⟨hforced, hclaimed, hduty, hle⟩

theorem bankFollows_joinClaim (now eSet : Nat) (p : PlateId) (h : bankFollows f b) :
    bankFollows f (joinClaim now eSet p b) := by
  obtain ⟨hforced, hclaimed, hduty, hle⟩ := h
  have hfirst := firstDuty_le eSet b.full
  unfold joinClaim
  dsimp only
  (repeat' split)
  · next hoff => cases f <;> simp_all [bankFollows]
  · next hon => cases f <;> simp_all [bankFollows, setDuty]
  · next hsome => cases f <;> simp_all [bankFollows]

theorem bankFollows_dropPlate (now : Nat) (p : PlateId) (h : bankFollows f b) : bankFollows f (dropPlate now p b) :=
  bankFollows_of_eq (bankFollows_dropClaim now p h) rfl rfl rfl

theorem bankFollows_claimStep (now lead : Nat) (p : PlateId) (head : Nat) (t15 : Int) (eSet : Nat)
    (h : bankFollows f b) : bankFollows f (claimStep now lead p head t15 eSet b) := by
  unfold claimStep
  (repeat' split)
  · exact bankFollows_of_eq (bankFollows_dropClaim now p h) rfl rfl rfl
  · exact h
  · exact h
  · exact bankFollows_of_eq h rfl rfl rfl
  · exact bankFollows_joinClaim now eSet p h
  · exact h

theorem clampInt_le (lo hi : Nat) (x : Int) (h : lo ≤ hi) : clampInt lo hi x ≤ hi := by
  unfold clampInt
  (repeat' split) <;> omega

theorem bankFollows_regulate (now e : Nat) (hclaimed : b.state = .claimed) (h : bankFollows f b) :
    bankFollows f (regulate now e b) := by
  obtain ⟨hforced, hclaims, hduty, hle⟩ := h
  have hlampWeak (w : BankUnit) : (evalLampWeak w).state = w.state ∧ (evalLampWeak w).claims = w.claims := ⟨rfl, rfl⟩
  have hkept : (regulate now e b).state = b.state ∧ (regulate now e b).claims = b.claims := by
    unfold regulate setDuty
    dsimp only
    split <;> exact ⟨rfl, rfl⟩
  have hnew : (regulate now e b).duty ≤ 1000 := clampInt_le 0 1000 _ (by decide)
  have hfree : f = false := by
    cases f
    · rfl
    · simp [hclaimed] at hforced
  subst hfree
  have hsome : b.claims ≠ [] := (hclaims rfl).mp hclaimed
  exact ⟨by simp [hkept, hclaimed], fun _ => by simp [hkept, hclaimed, hsome], by simp [hkept, hsome], hnew⟩

theorem trackOffset_kept (sv : Int) (b : BankUnit) :
    (trackOffset sv b).state = b.state ∧ (trackOffset sv b).claims = b.claims ∧ (trackOffset sv b).duty = b.duty := by
  unfold trackOffset
  dsimp only
  (repeat' split) <;> exact ⟨rfl, rfl, rfl⟩

theorem bankFollows_trackOffset (sv : Int) (h : bankFollows f b) : bankFollows f (trackOffset sv b) := by
  obtain ⟨hstate, hclaims, hduty⟩ := trackOffset_kept sv b
  exact bankFollows_of_eq h hstate hclaims hduty

theorem bankFollows_actOnSample (now e : Nat) (sv : Int) (h : bankFollows f b) :
    bankFollows f (actOnSample now e sv b) := by
  unfold actOnSample
  split
  next hclaimed => exact bankFollows_regulate now e hclaimed h
  next hdark =>
    split
    · refine bankFollows_trackOffset sv ?_
      obtain ⟨hforced, hclaims, hduty, hle⟩ := h
      refine ⟨by simpa [hdark] using hforced, fun hf => ?_, hduty, hle⟩
      simpa [hdark] using hclaims hf
    · exact h
  next => exact bankFollows_trackOffset sv h
  next =>
    split
    · exact bankFollows_trackOffset sv h
    · exact h

theorem bankFollows_liveBank (take : Nat → Option Word) (base : Nat) (h : bankFollows f b) :
    bankFollows f (liveBank take base b) := by
  unfold liveBank
  dsimp only
  split <;> exact h

theorem bankFollows_liveLampWeak (take : Nat → Option Word) (base : Nat) (h : bankFollows f b) :
    bankFollows f (liveLampWeak take base b) := by
  unfold liveLampWeak
  split <;> exact h

end

/-! ## The three banks -/

/-- Every bank stands as a bank that is forced off, or is not, stands. -/
def banksAs (forced : Bool) (s : State) : Prop := ∀ k, bankFollows forced (s.banks.get k)

theorem banksFollow_iff (s : State) : banksFollow s ↔ banksAs (bankForced s) s :=
  ⟨fun ⟨hbk, hm1, hm2⟩ k => by cases k <;> assumption, fun h => ⟨h .bk, h .m1, h .m2⟩⟩

section
variable {f g : Bool} {s : State}

theorem banksAs_mapBanks {step : BankUnit → BankUnit} (hstep : ∀ b, bankFollows f b → bankFollows g (step b))
    (h : banksAs f s) : banksAs g (mapBanks step s) := by
  intro k
  rw [mapBanks_banks, PerBank.get_mapAll]
  exact hstep _ (h k)

theorem banksAs_putBank {k : Bank} {b : BankUnit} (hb : bankFollows f b) (h : banksAs f s) :
    banksAs f (putBank k b s) := by
  intro j
  rw [putBank_banks, PerBank.get_put]
  split
  · exact hb
  · exact h j

theorem banksAs_of_eq {t : State} (h : banksAs f s) (e : t.banks = s.banks) : banksAs f t := by
  simpa only [banksAs, e] using h

theorem putBankLatching_banks (k : Bank) (b : BankUnit) (s : State) :
    (putBankLatching k b s).banks = (putBank k b s).banks := by
  simp [putBankLatching]

theorem banksAs_putBankLatching {k : Bank} {b : BankUnit} (hb : bankFollows f b) (h : banksAs f s) :
    banksAs f (putBankLatching k b s) :=
  banksAs_of_eq (banksAs_putBank hb h) (putBankLatching_banks _ _ _)

theorem banksAs_claimTests (h : banksAs f s) : banksAs f (claimTests s) := by
  have hstep (p : PlateId) (t : State) (ht : banksAs f t) : banksAs f (claimTest p t) := by
    unfold claimTest
    dsimp only
    split
    · exact ht
    · split
      · exact ht
      · intro k
        cases k
        · exact bankFollows_claimStep _ _ _ _ _ _ (ht .bk)
        · exact bankFollows_claimStep _ _ _ _ _ _ (ht .m1)
        · exact bankFollows_claimStep _ _ _ _ _ _ (ht .m2)
  unfold claimTests
  generalize s.tracker.train = train
  induction train generalizing s with
  | nil => exact h
  | cons p rest ih => exact ih (hstep p s h)

theorem banksAs_departTrain {p : PlateId} (h : banksAs f s) : banksAs f (departTrain p s) :=
  banksAs_of_eq (banksAs_mapBanks (fun _ hb => bankFollows_dropPlate s.now p hb) h) (by simp [departTrain])

theorem banksAs_spoilFromTrain {p : PlateId} (h : banksAs f s) : banksAs f (spoilFromTrain p s) :=
  banksAs_of_eq (banksAs_departTrain (p := p) h) (by simp [spoilFromTrain])

theorem banksAs_spoilTrain (h : banksAs f s) : banksAs f (spoilTrain s) := by
  unfold spoilTrain
  generalize s.tracker.train = train
  induction train generalizing s with
  | nil => exact h
  | cons p rest ih => exact ih (banksAs_spoilFromTrain h)

theorem banksAs_conversion {k : Bank} {raw : Nat} (h : banksAs f s) : banksAs f (conversion k raw s) := by
  have hsample : banksAs f (putBank k (takeSample s.now raw (s.banks.get k)) s) :=
    banksAs_putBank (bankFollows_of_eq (h k) rfl rfl rfl) h
  have htaken (x : Nat) : banksAs f (creditTrain k x (putBank k (takeSample s.now raw (s.banks.get k)) s)) :=
    banksAs_of_eq hsample (by simp)
  unfold conversion
  exact banksAs_putBankLatching (bankFollows_actOnSample _ _ _ (htaken _ k)) (htaken _)

theorem banksAs_takeLive {take : Nat → Option Word} (h : banksAs f s) : banksAs f (takeLive take s) := by
  have hbank (k : Bank) (base : Nat) (t : State) (ht : banksAs f t) :
      banksAs f (putBankLatching k (liveLampWeak take base (liveBank take base (t.banks.get k))) t) :=
    banksAs_putBankLatching (bankFollows_liveLampWeak _ _ (bankFollows_liveBank _ _ (ht k))) ht
  exact banksAs_of_eq (hbank .m2 17 _ (hbank .m1 9 _ (hbank .bk 1 _ h))) (by simp [takeLive, liveOthers])

end

/-! ## The train while plates leave it -/

@[simp] theorem departTrain_train (p : PlateId) (s : State) :
    (departTrain p s).tracker.train = s.tracker.train.erase p := by
  simp [departTrain]

@[simp] theorem spoilFromTrain_train (p : PlateId) (s : State) :
    (spoilFromTrain p s).tracker.train = s.tracker.train.erase p := by
  simp [spoilFromTrain]

/-- Every plate of the train leaves it (R28 step 2). -/
@[simp] theorem spoilTrain_train (s : State) : (spoilTrain s).tracker.train = [] := by
  have hall (train : List PlateId) (t : State) (ht : t.tracker.train = train) :
      (train.foldl (fun u p => spoilFromTrain p u) t).tracker.train = [] := by
    induction train generalizing t with
    | nil => exact ht
    | cons p rest ih => exact ih _ (by rw [spoilFromTrain_train, ht, List.erase_cons_head])
  exact hall _ s rfl

/-! ## The promises, by what they read -/

/-- What the line's promises read of a state. -/
def lineView (s : State) : LineState × List PlateId × Nat × Bool × PerBank BankUnit × Bool × Bool :=
  (s.supervisor.line, s.tracker.train, s.transport.demand, s.admission.epochCurrent, s.banks, s.safety.coverClosed,
    s.safety.lineSafe)

section
variable {s t : State}

theorem bankForced_eq (hline : t.supervisor.line = s.supervisor.line)
    (hcover : t.safety.coverClosed = s.safety.coverClosed) : bankForced t = bankForced s := by
  simp only [bankForced, lineStands, hline, hcover]

/-- An event that leaves the line state, COVER and LINE_SAFE# keeps the promises when an empty train stays empty, the
demand and the epoch stay, and each bank stands as before. -/
theorem lineInv_of (h : lineInv s) (hline : t.supervisor.line = s.supervisor.line)
    (hcover : t.safety.coverClosed = s.safety.coverClosed) (hsafe : t.safety.lineSafe = s.safety.lineSafe)
    (htrain : s.tracker.train = [] → t.tracker.train = []) (hdemand : t.transport.demand = s.transport.demand)
    (hepoch : t.admission.epochCurrent = s.admission.epochCurrent) (hbanks : banksAs (bankForced s) t) :
    lineInv t := by
  obtain ⟨hstill, -, hasserted⟩ := h
  refine ⟨fun hstands => ?_, ?_, ?_⟩
  · have hbefore : beltStands s = true := by simpa only [beltStands, hline] using hstands
    obtain ⟨hnone, hzero, hcurrent⟩ := hstill hbefore
    exact ⟨htrain hnone, hdemand.trans hzero, hepoch.trans hcurrent⟩
  · exact (banksFollow_iff t).mpr (bankForced_eq hline hcover ▸ hbanks)
  · simpa only [safeLineAsserted, hline, hsafe] using hasserted

theorem lineInv_of_view (h : lineInv s) (e : lineView t = lineView s) : lineInv t := by
  simp only [lineView, Prod.mk.injEq] at e
  obtain ⟨hline, htrain, hdemand, hepoch, hbanks, hcover, hsafe⟩ := e
  exact lineInv_of h hline hcover hsafe (fun hnone => htrain.trans hnone) hdemand hepoch
    (banksAs_of_eq ((banksFollow_iff s).mp h.2.1) hbanks)

/-- In RUNNING and DRAINING the train, the demand and the epoch are free. -/
theorem lineInv_of_moving (h : lineInv s) (hmoves : beltStands s = false)
    (hline : t.supervisor.line = s.supervisor.line) (hcover : t.safety.coverClosed = s.safety.coverClosed)
    (hsafe : t.safety.lineSafe = s.safety.lineSafe) (hbanks : t.banks = s.banks) : lineInv t := by
  obtain ⟨-, hfollow, hasserted⟩ := h
  refine ⟨fun hstands => ?_, ?_, ?_⟩
  · simp [beltStands, hline] at hstands hmoves
    simp [hmoves] at hstands
  · exact (banksFollow_iff t).mpr (bankForced_eq hline hcover ▸ banksAs_of_eq ((banksFollow_iff s).mp hfollow) hbanks)
  · simpa only [safeLineAsserted, hline, hsafe] using hasserted

@[simp] theorem setLine_line (l : LineState) (s : State) : (setLine l s).supervisor.line = l := by
  simp [setLine]

/-- A new line state with its banks brought in line. -/
theorem lineStill_banksFollow_setLine {f : Bool} {l : LineState} (hbanks : banksAs f s)
    (hstill : (l = .idle ∨ l = .halted ∨ l = .safe) →
      s.tracker.train = [] ∧ s.transport.demand = 0 ∧ s.admission.epochCurrent = false) :
    lineStill (setLine l s) ∧ banksFollow (setLine l s) := by
  refine ⟨fun hstands => ?_, (banksFollow_iff _).mpr ?_⟩
  · have hl : l = .idle ∨ l = .halted ∨ l = .safe := by
      simp only [beltStands, setLine_line] at hstands
      cases l <;> simp at hstands ⊢
    simpa using hstill hl
  · have hf : bankForced (setLine l s) = bankForced { s with supervisor.line := l } :=
      bankForced_eq (by simp) (by simp)
    rw [hf]
    exact banksAs_mapBanks (s := { s with supervisor.line := l }) (fun _ hb => bankFollows_syncBank _ _ hb) hbanks

theorem lineInv_setLine {f : Bool} {l : LineState} (hbanks : banksAs f s)
    (hstill : (l = .idle ∨ l = .halted ∨ l = .safe) →
      s.tracker.train = [] ∧ s.transport.demand = 0 ∧ s.admission.epochCurrent = false)
    (hsafe : s.safety.lineSafe = true ↔ l = .safe) : lineInv (setLine l s) := by
  obtain ⟨hs, hb⟩ := lineStill_banksFollow_setLine hbanks hstill
  exact ⟨hs, hb, by simpa [safeLineAsserted] using hsafe⟩

end

end Sys2Proof.Machine

/-! PROOFS. What the line state promises, continued: every command keeps it. -/

namespace Sys2Proof.Machine

/-! ## The belt speed demand -/

theorem setBeltState_demand (b : BeltState) (t : Transport) : (setBeltState b t).demand = t.demand := by
  unfold setBeltState
  split <;> rfl

@[simp] theorem takeDriveReport_demand (ready fault : Bool) (s : State) :
    (takeDriveReport ready fault s).transport.demand = s.transport.demand := by
  unfold takeDriveReport
  dsimp only
  split
  · exact setBeltState_demand _ _
  · rfl

@[simp] theorem toldLeft_demand (st : Station) (s : State) :
    (toldLeft st s).transport.demand = s.transport.demand := by
  unfold toldLeft
  split <;> simp

@[simp] theorem takeAssignment_demand (s : State) : (takeAssignment s).transport.demand = s.transport.demand := by
  simp only [takeAssignment, handlingTests_frame]
  rw [foldl_keeps (fun t : State => t.transport.demand)]
  intro t n
  split <;> simp

@[simp] theorem startPass_demand (s : State) : (startPass s).transport.demand = s.transport.demand := by
  have hassigned := takeAssignment_demand s
  unfold startPass
  generalize takeAssignment s = t at hassigned ⊢
  dsimp only
  (repeat' split) <;> exact hassigned

@[simp] theorem endPass_demand (s : State) : (endPass s).transport.demand = s.transport.demand := by
  unfold endPass
  (repeat' split) <;> simp

@[simp] theorem linkContinuous_demand (s : State) : (linkContinuous s).transport.demand = s.transport.demand := by
  unfold linkContinuous
  split <;> simp

@[simp] theorem linkSingle_demand (s : State) : (linkSingle s).transport.demand = s.transport.demand := by
  unfold linkSingle
  split <;> simp

@[simp] theorem giveDemand_demand (d : Nat) (s : State) : (giveDemand d s).transport.demand = d := by
  unfold giveDemand
  split
  · next h => exact h.symm
  · rfl

@[simp] theorem endEpoch_epochCurrent (s : State) : (endEpoch s).admission.epochCurrent = false := by
  simp [endEpoch]

@[simp] theorem endEpoch_demand (s : State) : (endEpoch s).transport.demand = 0 := giveDemand_demand 0 _

/-- The belt's own tests at a good sample leave the demand. -/
theorem testConditions_tests_demand (now : Nat) (t : Transport) :
    (testDeviation now (testSettle now t)).demand = t.demand := by
  have hdeviation (u : Transport) : (testDeviation now u).demand = u.demand := by
    unfold testDeviation
    dsimp only
    (repeat' split) <;> simp [setBeltState_demand]
  rw [hdeviation]
  unfold testSettle
  dsimp only
  (repeat' split) <;> simp [setBeltState_demand]

section
variable {s : State}

/-! ## The line state -/

theorem lineSafe_of_line (h : lineInv s) (hline : s.supervisor.line ≠ .safe) : s.safety.lineSafe = false := by
  simpa using mt h.2.2.mp hline

theorem banksAs_of_lineInv (h : lineInv s) : banksAs (bankForced s) s := (banksFollow_iff s).mp h.2.1

theorem lineInv_idleIfDrained (h : lineInv s) : lineInv (idleIfDrained s) := by
  unfold idleIfDrained
  split
  · next hdrained =>
    obtain ⟨hline, hnone⟩ := hdrained
    refine lineInv_setLine (f := bankForced s) (banksAs_of_eq (banksAs_of_lineInv h) (by simp)) (fun _ => ?_) ?_
    · simpa using hnone
    · simpa using lineSafe_of_line h (by simp [hline])
  · exact h

/-- After the stop of the line the belt is empty and its banks stand (R28, R29). -/
theorem lineStill_banksFollow_stopLine {c : HaltCause} {a : Attn} {l : LineState} (h : lineInv s) :
    lineStill (stopLine c a l s) ∧ banksFollow (stopLine c a l s) := by
  have hspoilt : banksAs (bankForced s) (endEpoch (spoilTrain (closeGate s))) :=
    banksAs_of_eq (banksAs_spoilTrain (s := closeGate s) (banksAs_of_lineInv h)) (by simp)
  have hforced : banksAs true (forceBanks (endEpoch (spoilTrain (closeGate s)))) :=
    banksAs_mapBanks (fun _ hb => bankFollows_syncBank _ _ hb) hspoilt
  exact lineStill_banksFollow_setLine (banksAs_of_eq hforced (by simp)) (fun _ => by simp)

theorem lineInv_raiseHalt {c : HaltCause} (h : lineInv s) : lineInv (raiseHalt c s) := by
  have hhalted (hline : s.supervisor.line ≠ .safe) : lineInv (stopLine c .halt .halted s) := by
    obtain ⟨hstill, hbanks⟩ := lineStill_banksFollow_stopLine (c := c) (a := .halt) (l := .halted) h
    refine ⟨hstill, hbanks, ?_⟩
    have hreleased := lineSafe_of_line h hline
    simp [safeLineAsserted, stopLine, hreleased]
  unfold raiseHalt
  split
  case h_4 | h_5 => exact h
  all_goals
    next hline => exact hhalted (by simp [hline])

theorem lineInv_enterSafe {c : HaltCause} (h : lineInv s) : lineInv (enterSafe c s) := by
  have hasserted (t : State) (hline : t.supervisor.line = .safe) (ht : lineStill t ∧ banksFollow t) :
      lineInv (safeStations t) := by
    have hview : lineView (safeStations t) = lineView { t with safety.lineSafe := true } := by
      simp [lineView, safeStations]
    refine lineInv_of_view (s := { t with safety.lineSafe := true }) ⟨ht.1, ht.2, ?_⟩ hview
    simp [safeLineAsserted, hline]
  unfold enterSafe
  split
  case h_4 =>
    next hline =>
    have hstands : beltStands s = true := by simp [beltStands, hline]
    refine hasserted _ (by simp) (lineStill_banksFollow_setLine (f := bankForced s) ?_ (fun _ => ?_))
    · exact banksAs_of_eq (banksAs_of_lineInv h) (by simp)
    · simpa using h.1 hstands
  case h_5 => exact h
  all_goals exact hasserted _ (by simp [stopLine]) (lineStill_banksFollow_stopLine h)

theorem lineInv_startDraining (h : lineInv s) (hline : s.supervisor.line = .running) : lineInv (startDraining s) := by
  refine lineInv_idleIfDrained (lineInv_setLine (banksAs_of_lineInv h) (fun hstands => ?_) ?_)
  · simp at hstands
  · simp [lineSafe_of_line h (by simp [hline])]

/-! ## Plates leaving the train -/

/-- The other fields that the promises read, when a plate has left the train. -/
theorem lineInv_of_departed {p : PlateId} {t : State} (h : lineInv s)
    (e : lineView t = lineView (departTrain p s)) : lineInv t := by
  refine lineInv_of_view (s := departTrain p s) ?_ e
  exact lineInv_of h (by simp) (by simp) (by simp) (fun hnone => by simp [hnone]) (by simp) (by simp)
    (banksAs_departTrain (banksAs_of_lineInv h))

theorem lineInv_misfeed (h : lineInv s) : lineInv (misfeed s) := by
  unfold misfeed
  split
  · exact lineInv_of_view h rfl
  · next p _ =>
    unfold misfeedReturn
    refine lineInv_idleIfDrained (lineInv_of_departed (s := closeGate s) (p := p) (lineInv_of_view h rfl) ?_)
    simp [lineView]

theorem lineInv_missingTest (h : lineInv s) : lineInv (missingTest s) := by
  unfold missingTest
  split
  · exact h
  · next p _ _ =>
    have hspoilt : lineInv (spoilFromTrain p s) :=
      lineInv_of_departed (p := p) h (by simp [lineView, spoilFromTrain])
    (repeat' split)
    case isTrue => exact lineInv_idleIfDrained hspoilt
    all_goals exact h

theorem lineInv_exitTail (h : lineInv s) : lineInv (exitTail s) := by
  unfold exitTail
  (repeat' split)
  · next p _ _ =>
    unfold rackPlate
    have hclosed : lineInv (closeNormally p .main (closeNormally p .back s)) := lineInv_of_view h (by simp [lineView])
    exact lineInv_idleIfDrained (lineInv_of_departed (p := p) hclosed (by simp [lineView]))
  · exact lineInv_raiseHalt h
  · have hmarked : lineInv (latch .stray { s with tracker.strayPending := false }) :=
      lineInv_of_view h (by simp [lineView])
    unfold strayTail
    dsimp only
    split
    · exact lineInv_of_view h (by simp [lineView])
    · exact lineInv_raiseHalt hmarked

/-! ## Samples and edges -/

theorem holdReasonFor_none_line {p : PlateId} (h : holdReasonFor s p = none) : s.supervisor.line = .running := by
  unfold holdReasonFor at h
  by_contra hline
  simp only [if_pos hline] at h
  split at h <;> simp at h

theorem lineInv_evaluate (h : lineInv s) : lineInv (evaluate s) := by
  have hsteps : lineInv (misfeedSteps s) := lineInv_of_view h (by simp [lineView])
  have hrules : lineInv (epochRules (misfeedSteps s)) := by
    unfold epochRules
    split
    · exact hsteps
    · split
      · next hbegin =>
        obtain ⟨hline, -, -⟩ := hbegin
        exact lineInv_of_moving hsteps (by simp only [beltStands, hline]) (by simp) (by simp) (by simp) (by simp)
      · exact hsteps
  unfold evaluate
  dsimp only
  generalize epochRules (misfeedSteps s) = t at hrules ⊢
  (repeat' split)
  · exact lineInv_of_view hrules (by simp [lineView])
  · exact lineInv_of_view hrules (by simp [lineView])
  · next hgo =>
    exact lineInv_of_moving hrules (by simp [beltStands, holdReasonFor_none_line hgo]) (by simp) (by simp) (by simp)
      (by simp)

theorem lineInv_claimTests (h : lineInv s) : lineInv (claimTests s) :=
  lineInv_of h (by simp) (by simp) (by simp) (fun hnone => by simpa using hnone) (by simp) (by simp)
    (banksAs_claimTests (banksAs_of_lineInv h))

theorem lineInv_handOn (h : lineInv s) : lineInv (handOn s) := by
  have hclaimed : lineInv (claimTests (missingTest s)) := lineInv_claimTests (lineInv_missingTest h)
  exact lineInv_evaluate (lineInv_of_view hclaimed (by simp [lineView]))

theorem lineInv_goodSample {n : Nat} (h : lineInv s) : lineInv (goodSample n s) := by
  unfold goodSample
  dsimp only
  generalize estimateAfter _ _ _ _ = e
  generalize historyAfter _ _ _ = l
  have htaken : lineInv { s with
      transport.position := some n, transport.faults := 0, transport.history := l, transport.estimate := e } :=
    lineInv_of_view h rfl
  generalize { s with
      transport.position := some n, transport.faults := 0, transport.history := l, transport.estimate := e } = t
    at htaken ⊢
  unfold testConditions
  dsimp only
  have htested : lineInv (latchIf ((testDeviation t.now (testSettle t.now t.transport)).speedFlag &&
      !t.transport.speedFlag) .lamp { t with transport := testDeviation t.now (testSettle t.now t.transport) }) := by
    refine lineInv_of_view htaken ?_
    simp [lineView, testConditions_tests_demand]
  split
  · exact lineInv_raiseHalt (lineInv_of_view htested rfl)
  · exact lineInv_of_view htested rfl

theorem lineInv_vernierFault (h : lineInv s) : lineInv (vernierFault s) := by
  unfold vernierFault
  dsimp only
  split
  · exact lineInv_raiseHalt (lineInv_of_view h rfl)
  · exact lineInv_of_view h rfl

theorem lineInv_positionSample {r : Option (Word × Word)} (h : lineInv s) : lineInv (positionSample r s) := by
  have hstarted : lineInv { s with transport.watchdog := s.now + 10 } := lineInv_of_view h rfl
  have hopen (n : Nat) (t : State) (ht : lineInv t) : lineInv (openRuns n t) := by
    unfold openRuns
    split
    · exact ht
    · exact lineInv_of_view ht rfl
  unfold positionSample
  dsimp only
  (repeat' split)
  · exact lineInv_handOn (lineInv_vernierFault hstarted)
  · exact hopen _ _ (lineInv_handOn (lineInv_goodSample hstarted))
  · exact lineInv_handOn (lineInv_vernierFault hstarted)

theorem lineInv_takeScaleWord {r : Reader} {w : Word} (h : lineInv s) : lineInv (takeScaleWord r w s) := by
  unfold takeScaleWord
  cases r
  all_goals
    dsimp only
    split
    · exact lineInv_positionSample (lineInv_of_view h rfl)
    all_goals exact lineInv_of_view h rfl

theorem lineInv_settleSensor {k : Sensor} (h : lineInv s) : lineInv (settleSensor k s) := by
  have hput (u : SensorUnit) : lineInv (putSensorUnit k u s) := by cases k <;> exact lineInv_of_view h rfl
  have hedge (b : Bool) (n : Nat) (t : State) (ht : lineInv t) : lineInv (deliverEdge k b n t) := by
    unfold deliverEdge
    split
    · exact lineInv_of_view ht (by simp [lineView])
    · exact lineInv_of_view ht (by simp [lineView])
    · exact lineInv_of_view ht (by simp [lineView])
    · exact lineInv_of_view (lineInv_exitTail ht) (by simp [lineView])
  unfold settleSensor
  dsimp only
  split
  · exact hput _
  · exact hedge _ _ _ (hput _)

/-! ## Link visits -/

theorem lineInv_visitOutcome {f : Byte → Judged} (h : lineInv s) : lineInv (visitOutcome f s) := by
  have hlost (st : Station) (t : State) (ht : lineInv t) : lineInv (toldLost st t) := by
    unfold toldLost
    split
    · exact lineInv_of_view (lineInv_raiseHalt (c := .driveLost) ht) (by simp [lineView])
    · exact lineInv_raiseHalt ht
    all_goals exact lineInv_of_view ht (by simp [lineView])
  have hmissed (n : Fin 15) (b : Bool) : lineInv (notGood n b s) := by
    unfold notGood
    dsimp only
    split
    · exact hlost _ _ (lineInv_of_view h (by simp [lineView]))
    · exact lineInv_of_view h rfl
  have hdeliver (st : Station) (b : Bool) (x : Byte) (d : Vector Byte 6) (t : State) (ht : lineInv t) :
      lineInv (deliver st b x d t) := by
    unfold deliver
    dsimp only
    split
    all_goals exact lineInv_of_view ht (by simp [lineView])
  have hgood (n : Fin 15) (b : Bool) (c : NodeCmd) (x : Byte) (d : Vector Byte 6) :
      lineInv (goodOutcome n b c x d s) := by
    unfold goodOutcome
    dsimp only
    split
    all_goals
      refine lineInv_of_view (hdeliver _ _ _ _ _ ?_) rfl
      split
      · exact lineInv_of_view h rfl
      · exact lineInv_of_view h (by simp [lineView])
  unfold visitOutcome
  split
  · exact h
  · exact h
  · have hend (n : Fin 15) (t : State) (ht : lineInv t) : lineInv (endVisit n t) := by
      unfold endVisit
      dsimp only
      split
      · exact lineInv_of_view ht (by simp [lineView])
      · exact lineInv_of_view ht rfl
    refine hend _ _ ?_
    split
    · exact hmissed _ _
    · exact hmissed _ _
    · exact hmissed _ _
    · exact hgood _ _ _ _ _

/-! ## Line commands and host accesses -/

theorem lineInv_lineCommand (code : Word) (h : lineInv s) : lineInv (lineCommand code s) := by
  have hreleased : s.supervisor.line ≠ .safe → s.safety.lineSafe = false := lineSafe_of_line h
  have hstill : beltStands s = true →
      s.tracker.train = [] ∧ s.transport.demand = 0 ∧ s.admission.epochCurrent = false := h.1
  exact lineCommand_keeps lineInv code h
    (outcome := fun _ _ ht => lineInv_of_view ht rfl)
    (start := fun hline _ => by
      refine lineInv_of_view (s := setLine .running { s with admission.epochCurrent := false }) ?_
        (by simp [lineView])
      refine lineInv_setLine (f := bankForced s) (banksAs_of_lineInv h) (by simp) ?_
      simp [hreleased (by simp [hline])])
    (restart := fun hline => lineInv_setLine (banksAs_of_lineInv h) (by simp)
      (by simp [hreleased (by simp [hline])]))
    (drain := fun hline => lineInv_startDraining h hline)
    (halt := fun _ _ => lineInv_raiseHalt h)
    (resume := fun hline => by
      refine lineInv_setLine (f := bankForced s) (banksAs_of_lineInv h) (fun _ => ?_) ?_
      · exact hstill (by simp [beltStands, hline])
      · simp [hreleased (by simp [hline])])
    (release := fun hline => by
      refine lineInv_of_view (s := setLine .halted { s with safety.lineSafe := false }) ?_
        (by simp [lineView, leaveSafe])
      refine lineInv_setLine (f := bankForced s) (banksAs_of_lineInv h) (fun _ => ?_) (by simp)
      exact hstill (by simp [beltStands, hline]))
    (reset := fun hline => by
      have hstands : beltStands s = true ∧ s.supervisor.line ≠ .safe := by
        revert hline
        cases hl : s.supervisor.line <;> simp [idleOrHalted, beltStands, hl]
      refine lineInv_of_view (t := lineReset s) (s := setLine .idle (clearStrays s)) ?_ ?_
      · refine lineInv_setLine (f := bankForced s) (banksAs_of_lineInv h) (fun _ => hstill hstands.1) ?_
        simp [hreleased hstands.2]
      · simp [lineView, lineReset, setLine, syncBanks, bankForced, lineStands])
    (single := lineInv_of_view h (by simp [lineView]))
    (continuous := lineInv_of_view h (by simp [lineView]))
    (shuttleReset := lineInv_of_view h rfl)
    (rackClear := lineInv_of_view h (by simp [lineView]))
    (chamberReset := fun _ => lineInv_of_view h (by simp [lineView]))

theorem lineInv_requested {t : State} (h : lineInv s) (ht : Requested s t) : lineInv t := by
  have hfinish (r : OpResult) (u : State) (hu : lineInv u) : lineInv (finishOp r u) :=
    lineInv_of_view hu (by simp [lineView])
  cases ht
  case loaded =>
    have hload (u : State) (hu : lineInv u) : lineInv (takeLive (takenItem s) u) :=
      lineInv_of hu (by simp) (by simp) (by simp) (fun hnone => by simpa using hnone) (by simp) (by simp)
        (banksAs_takeLive (banksAs_of_lineInv hu))
    unfold opLoadLive
    (repeat' split)
    · exact hfinish _ _ (hload _ (lineInv_of_view h rfl))
    · exact hfinish _ _ (hload _ h)
    · exact hfinish _ _ h
  case finished => exact hfinish _ _ (lineInv_of_view h rfl)
  case wordRead => exact hfinish _ _ (lineInv_of_view h rfl)
  case ignored => exact lineInv_of_view h (by simp [lineView])
  case begun => exact lineInv_of_view h rfl

theorem lineInv_routeWrite {a : Nat} {v : Word} (h : lineInv s) : lineInv (routeWrite a v s) := by
  have same (t : State) (e : lineView t = lineView s) : lineInv t := lineInv_of_view h e
  unfold routeWrite
  (repeat' split)
  · exact same _ (by simp [lineView])
  · exact same _ rfl
  · exact same _ (by simp [lineView])
  · exact same _ (by simp [lineView])
  · unfold writeService
    (repeat' split)
    · exact lineInv_requested (s := ramWrite a v s) (lineInv_of_view h rfl) (requestOp_requested _ _)
    · exact same _ rfl
    · exact same _ (by simp [lineView])
  · exact same _ rfl
  · unfold writeRegister
    (repeat' split)
    · exact lineInv_lineCommand v h
    all_goals exact same _ (by simp [lineView])

theorem lineInv_busWrite {a : BusAddr} {v : Word} (h : lineInv s) : lineInv (busWrite a v s) := by
  have hunheld : lineInv { s with bus.hold := none } := lineInv_of_view h rfl
  unfold busWrite
  dsimp only
  (repeat' split)
  · exact lineInv_of_view h rfl
  · exact lineInv_of_view h (by simp [lineView])
  · exact lineInv_routeWrite hunheld
  · exact lineInv_routeWrite hunheld

/-! ## Resets and the banks' clocks -/

theorem lineInv_bringUp {load : State → Nat} {f : Bool} (hsafe : s.supervisor.line ≠ .safe)
    (hreleased : s.safety.lineSafe = false) (hnone : s.tracker.train = []) (hzero : s.transport.demand = 0)
    (hcurrent : s.admission.epochCurrent = false) (hbanks : banksAs f s) : lineInv (bringUp load s) := by
  have hloaded : banksAs f (startLink (loadAtReset s)) := by
    intro k
    cases k
    · exact bankFollows_of_eq (bankFollows_liveBank (resetItems s) 1 (hbanks .bk)) rfl rfl rfl
    · exact bankFollows_of_eq (bankFollows_liveBank (resetItems s) 9 (hbanks .m1)) rfl rfl rfl
    · exact bankFollows_of_eq (bankFollows_liveBank (resetItems s) 17 (hbanks .m2)) rfl rfl rfl
  refine lineInv_of_view (s := takeInputs (startLink (loadAtReset s))) ⟨fun _ => ?_, ?_, ?_⟩
    (by simp [lineView, bringUp])
  · simp [hnone, hzero, hcurrent]
  · refine (banksFollow_iff _).mpr ?_
    exact banksAs_mapBanks (fun _ hb => bankFollows_syncBank _ _ hb) hloaded
  · simp [safeLineAsserted, hreleased, hsafe]

theorem banksAs_reset : banksAs false State.reset := by
  intro k
  cases k <;> simp [bankFollows, State.reset, BankUnit.reset]

theorem lineInv_powerOn : lineInv (powerOn s) :=
  lineInv_bringUp (f := false) nofun rfl rfl rfl rfl banksAs_reset

theorem lineView_pinBase (s : State) : lineView (resolveSlots (pinBase s)) = lineView State.reset := by
  have hresolved (t : State) : lineView (resolveSlots t) = lineView t := by
    simp only [resolveSlots, resolveQueuedSlots]
    rw [show ∀ b c u, lineView (latchIf b c u) = lineView u from fun b c u => by simp [lineView],
      foldl_keeps lineView _ (by simp [lineView]),
      show ∀ b c u, lineView (latchIf b c u) = lineView u from fun b c u => by simp [lineView],
      foldl_keeps lineView _ (by simp [lineView])]
  rw [hresolved]
  simp [lineView, pinBase, resetBase]

theorem lineInv_pinReset : lineInv (pinReset s) := by
  have e := lineView_pinBase s
  simp only [lineView, Prod.mk.injEq] at e
  obtain ⟨hline, htrain, hdemand, hepoch, hbanks, -, hsafe⟩ := e
  exact lineInv_bringUp (f := false) (hline ▸ nofun) hsafe htrain hdemand hepoch (banksAs_of_eq banksAs_reset hbanks)

theorem lineInv_advanceTo {d : Nat} (h : lineInv s) : lineInv (advanceTo d s) := by
  refine lineInv_of h (by simp) (by simp) (by simp) (fun hnone => by simpa using hnone) (by simp) (by simp) ?_
  unfold advanceTo
  split
  · refine banksAs_mapBanks (f := bankForced s) (s := { s with now := d }) (fun b hb => ?_) (banksAs_of_lineInv h)
    unfold runOnTime
    split <;> exact hb
  · exact banksAs_of_lineInv h

/-- A bank may take a new unit that stands as its old one. -/
theorem lineInv_putBank {k : Bank} {b : BankUnit} (h : lineInv s) (hb : bankFollows (bankForced s) b) :
    lineInv (putBank k b s) :=
  lineInv_of h rfl rfl rfl (fun hnone => hnone) rfl rfl (banksAs_putBank hb (banksAs_of_lineInv h))

theorem lineInv_onTimeTick {k : Bank} (h : lineInv s) : lineInv (onTimeTick k s) := by
  unfold onTimeTick
  dsimp only
  split
  · exact h
  · have hlater := lineInv_advanceTo (d := s.now + (1000 - (s.banks.get k).onRem)) h
    exact lineInv_putBank hlater (bankFollows_of_eq (banksAs_of_lineInv hlater k) rfl rfl rfl)

/-! ## Safety inputs -/

theorem lineInv_settledEstop {b : Bool} (h : lineInv s) : lineInv (settledEstop b s) := by
  have htaken : lineInv { s with safety.estop := b } := lineInv_of_view h rfl
  unfold settledEstop
  dsimp only
  split
  · exact lineInv_enterSafe htaken
  · exact htaken

theorem lineInv_settledCover {b : Bool} (h : lineInv s) : lineInv (settledCover b s) := by
  have htaken : lineInv (syncBanks { s with safety.coverClosed := b }) :=
    lineInv_setLine (s := { s with safety.coverClosed := b }) (l := s.supervisor.line) (f := bankForced s)
      (banksAs_of_lineInv h) (fun hstands => h.1 (by rcases hstands with e | e | e <;> simp [beltStands, e])) h.2.2
  unfold settledCover
  dsimp only
  split
  · exact lineInv_enterSafe htaken
  · exact htaken

theorem lineInv_safetySettled {i : SafetyInput} (h : lineInv s) : lineInv (safetySettled i s) := by
  unfold safetySettled
  cases i
  all_goals
    dsimp only
    split
  · exact lineInv_of_view h rfl
  · exact lineInv_settledEstop (lineInv_of_view h rfl)
  · exact lineInv_of_view h rfl
  · exact lineInv_settledCover (lineInv_of_view h rfl)

end

/-! ## Every command -/

theorem lineInv_nextState (c : Instr) {s : State} (h : lineInv s) : lineInv (nextState c s) := by
  have expiry (timer : Option Nat) (effect : State → State) (heff : ∀ t, lineInv t → lineInv (effect t)) :
      lineInv (onExpiry timer effect s) :=
    onExpiry_keeps lineInv timer effect h fun d => heff _ (lineInv_advanceTo h)
  have same (t u : State) (ht : lineInv t) (e : lineView u = lineView t) : lineInv u := lineInv_of_view ht e
  have completed (t : Nat) (u : State) (e : lineView u = lineView (advanceTo t s)) : lineInv u :=
    lineInv_of_view (lineInv_advanceTo h) e
  cases c with
  | powerOnReset => exact lineInv_powerOn
  | pinReset => exact lineInv_pinReset
  | pairedWordLatch a => exact same s (busRead a s) h (by simp [lineView])
  | attnCauseRead => exact same s (busRead 0x3FFB s) h (by simp [lineView])
  | hostWordWrite | writeHold | postingCount | attentionInterval | queueMark | heartbeatTimeout | solventLoadEntry
  | protectCounterClear | checkCountClear | attnMaskWrite | heartbeat | registerWriteIgnored | start | drain | halt
  | resume | safeRelease | resetLine | linkSingle | linkContinuous | shuttleReset | rackClear | chamberReset
  | unknownCommand | read | write | erase | loadLive | saveOffsets | unknownOperation => exact lineInv_busWrite h
  | writeComplete =>
    change lineInv (completeWrite s)
    unfold completeWrite
    split
    · next t _ => exact completed t _ (by simp [lineView])
    all_goals exact h
  | eraseComplete =>
    change lineInv (completeErase s)
    unfold completeErase
    split
    · next t _ => exact completed t _ (by simp [lineView])
    all_goals exact h
  | saveOffsetsComplete =>
    change lineInv (completeSave s)
    unfold completeSave
    split
    · next t _ => exact completed t _ (by simp [lineView])
    all_goals exact h
  | intakeTimerExpiry =>
    exact same (advanceTo s.intake.timer s) (intakeTick s) (lineInv_advanceTo h) (by simp [lineView, intakeTick])
  | lineTimeTimer => exact same (advanceTo s.supervisor.timer s) (lineTick s) (lineInv_advanceTo h) rfl
  | sensorInputChange k b => exact same s (sensorChange k b s) h (by simp [lineView])
  | conversionCompletion k raw =>
    exact lineInv_of (t := conversion k raw.toNat s) h (by simp) (by simp) (by simp) (fun hnone => by simpa using hnone)
      (by simp) (by simp) (banksAs_conversion (banksAs_of_lineInv h))
  | pwmPeriodStart k => exact lineInv_putBank h (bankFollows_of_eq (banksAs_of_lineInv h k) rfl rfl rfl)
  | onTimeSecond k => exact lineInv_onTimeTick h
  | linkVisit => exact same s (nextVisit s) h (by simp [lineView])
  | safetyInputChange i b => exact same s (safetyChange i b s) h (by simp [lineView])
  | sweepVisit => exact same s (sweepStep s) h (by simp [lineView])
  | scaleWord r w b => exact lineInv_takeScaleWord (s := { s with pins.plateReady := b }) (lineInv_of_view h rfl)
  | scaleWatchdogExpiry b =>
    exact lineInv_positionSample (lineInv_advanceTo (s := { s with pins.plateReady := b }) (lineInv_of_view h rfl))
  | responseFrame bytes => exact lineInv_visitOutcome h
  | responseTimeout => exact lineInv_visitOutcome h
  | estopAssertedAtReset =>
    change lineInv (deliverEstopAtReset s)
    unfold deliverEstopAtReset
    split
    · exact lineInv_settledEstop (lineInv_of_view h rfl)
    · exact h
  | heartbeatTimerExpiry =>
    exact expiry _ _ fun t ht => by
      have hrestarted : lineInv (startHeartbeat t.bus.hbTimeout t) := lineInv_of_view ht rfl
      unfold heartbeatExpired heartbeatLapse
      split
      · next hline =>
        exact same _ _ (lineInv_startDraining hrestarted hline) (by simp [lineView])
      all_goals exact hrestarted
  | settleTimerExpiry k => exact expiry _ _ fun t ht => lineInv_settleSensor ht
  | misfeedTimerExpiry => exact expiry _ _ fun t ht => lineInv_misfeed ht
  | passTimerExpiry =>
    exact expiry _ _ fun t ht => by
      unfold passTimerExpired
      dsimp only
      (repeat' split)
      · exact same { t with link.passTimer := none } _ (lineInv_of_view ht rfl) (by simp [lineView])
      all_goals exact lineInv_of_view ht rfl
  | safetySettleExpiry i => exact expiry _ _ fun t ht => lineInv_safetySettled ht
  | holdOffTimerExpiry | retryTimerExpiry | moveTimerExpiry | ignitionTimerExpiry | stabilizingTimerExpiry
  | idleTimerExpiry | secondPlateTimerExpiry | openShutterTimerExpiry =>
    exact expiry _ _ fun t ht => same t _ ht (by simp [lineView])

/-- Settles O5: the line state changes only with the train empty and the demand 0 where it must be, every change of
it or of COVER brings the banks in line, and LINE_SAFE# is asserted and released with SAFE. -/
theorem stepKeepsLineInvariant : Obligations.StepKeepsLineInvariant := fun _ _ h hstep =>
  step_keeps lineInv (fun _ _ ht => lineInv_advanceTo (lineInv_of_view ht rfl))
    (fun _ _ ht => lineInv_of_view ht rfl) (fun c _ ht => lineInv_nextState c ht) h hstep

end Sys2Proof.Machine

/-! PROOFS. One place for each plate (R33, R46, R130, R132, R138, R139, R154), plate by plate: what an event may lose
without breaking it. -/

namespace Sys2Proof.Machine

/-! ## Counting a plate in the drawers -/

/-- What a drawer slot holds. -/
def cell (s : State) (x : Fin 6 × Fin 4) : Option PlateId := s.drying.drawers[x.1].slots[x.2]

/-- The places of the drawers, in the order of `drawerPlates`. -/
def drawerCells : List (Fin 6 × Fin 4) := drawerIds.flatMap fun d => drawerSlotIds.map fun m => (d, m)

theorem drawerCells_nodup : drawerCells.Nodup := by decide

theorem mem_drawerCells (x : Fin 6 × Fin 4) : x ∈ drawerCells := by
  revert x
  decide

theorem drawerPlates_eq (s : State) : drawerPlates s = drawerCells.filterMap (cell s) := by
  unfold drawerPlates drawerCells
  rw [List.filterMap_flatMap]
  simp only [List.filterMap_map]
  rfl

theorem mem_drawerPlates (s : State) (p : PlateId) : p ∈ drawerPlates s ↔ ∃ x, cell s x = some p := by
  simp [drawerPlates_eq, List.mem_filterMap, mem_drawerCells]

theorem count_filterMap_le {α : Type} {f g : α → Option PlateId} {p : PlateId} (h : ∀ x, f x = some p → g x = some p)
    (l : List α) : (l.filterMap f).count p ≤ (l.filterMap g).count p := by
  induction l with
  | nil => exact Nat.le_refl _
  | cons x rest ih =>
    by_cases hf : f x = some p
    · simp [hf, h x hf, ih]
    · have hleft : ((x :: rest).filterMap f).count p = (rest.filterMap f).count p := by
        cases hx : f x with
        | none => simp [hx]
        | some q =>
          have hne : q ≠ p := fun e => hf (e ▸ hx)
          simp [hx, hne]
      have hright : (rest.filterMap g).count p ≤ ((x :: rest).filterMap g).count p := by
        cases hx : g x with
        | none => simp [hx]
        | some q => simpa [hx] using List.count_le_count_cons
      omega

/-- A plate that stands in one place of the drawers alone is counted once. -/
theorem count_drawerPlates_le_one {s : State} {p : PlateId} (x : Fin 6 × Fin 4)
    (h : ∀ y, cell s y = some p → y = x) : (drawerPlates s).count p ≤ 1 := by
  have hone : (drawerCells.filterMap fun y => if y = x then some p else none).count p ≤ 1 := by
    have hlist (l : List (Fin 6 × Fin 4)) : l.filterMap (fun y => if y = x then some p else none) =
        List.replicate (l.count x) p := by
      induction l with
      | nil => rfl
      | cons y rest ih =>
        by_cases hy : y = x
        · simp [hy, ih, List.replicate_succ]
        · simp [hy, ih]
    rw [hlist, List.count_replicate_self]
    exact List.nodup_iff_count_le_one.mp drawerCells_nodup x
  rw [drawerPlates_eq]
  refine Nat.le_trans (count_filterMap_le (fun y hy => ?_) _) hone
  simp [h y hy]

/-! ## The places of one plate -/

/-- A place for one plate holds it. -/
def oneIf (o : Option PlateId) (p : PlateId) : Nat := o.toList.count p

/-- The plate aboard the shuttle. -/
def moved (s : State) : Option PlateId := s.shuttle.move.map fun m => m.plate

/-- The work places of a plate: train, rack, shuttle, batch. -/
def workCount (s : State) (p : PlateId) : Nat :=
  s.tracker.train.count p + (rackPlates s).count p + oneIf (moved s) p + oneIf (occupant s.chamber.pos1) p +
    oneIf (occupant s.chamber.pos2) p

/-- The plate dries in its drawer. -/
def dries (s : State) (p : PlateId) : Prop := (plateOf s p).map (fun r => r.stage) = some .drying

/-- What one-place-for-each-plate says of one plate. -/
structure PlateFits (s : State) (p : PlateId) : Prop where
  once : s.admission.queue.count p + workCount s p + (drawerPlates s).count p ≤ 1
  queued : p ∈ s.admission.queue → slotState s p = .queued
  active : 0 < workCount s p ∨ p ∈ drawerPlates s ∨ p ∈ s.drying.dryList → slotState s p = .active
  dryOnce : s.drying.dryList.count p ≤ 1
  dryAlone : p ∈ s.drying.dryList → workCount s p = 0 ∧ ¬ dries s p
  home : ∀ x, cell s x = some p → ∀ r, plateOf s p = some r → r.drawerSlot = some x
  asked : ∀ pos b, s.chamber.ask = .unload p pos b → slotState s p = .active ∧ p ∉ s.drying.dryList ∧
    p ∉ s.tracker.train ∧ p ∉ rackPlates s ∧ p ∉ drawerPlates s ∧ moved s ≠ some p ∧
    (match pos with | .one => occupant s.chamber.pos2 | .two => occupant s.chamber.pos1) ≠ some p

theorem oneIf_eq (o : Option PlateId) (p : PlateId) : oneIf o p = if o = some p then 1 else 0 := by
  cases o with
  | none => rfl
  | some q => simp [oneIf, List.count_singleton]

theorem workCount_eq (s : State) (p : PlateId) : (workPlates s).count p = workCount s p := by
  simp [workPlates, workCount, oneIf, moved, Nat.add_assoc]

theorem mem_workPlates (s : State) (p : PlateId) : p ∈ workPlates s ↔ 0 < workCount s p := by
  rw [← workCount_eq, List.count_pos_iff]

/-- One place for each plate, plate by plate. -/
theorem placesInv_iff (s : State) : placesInv s ↔ ∀ p, PlateFits s p := by
  constructor
  · rintro ⟨hnodup, hqueued, hactive, hdryOnce, hdryAlone, hhome, hasked⟩ p
    refine ⟨?_, hqueued p, fun hp => hactive p ?_, List.nodup_iff_count_le_one.mp hdryOnce p, fun hp => ?_,
      fun x hx => hhome x.1 x.2 p hx, fun pos b hask => ?_⟩
    · simpa [List.count_append, workCount_eq, Nat.add_assoc] using List.nodup_iff_count_le_one.mp hnodup p
    · simpa [mem_workPlates] using hp
    · obtain ⟨hwork, hstage⟩ := hdryAlone p hp
      exact ⟨by simpa [mem_workPlates] using hwork, hstage⟩
    · rw [hask] at hasked
      obtain ⟨hstate, hnot, hmove, hother⟩ := hasked
      simp only [List.mem_append, not_or] at hnot
      obtain ⟨⟨⟨hdry, htrain⟩, hrack⟩, hdrawer⟩ := hnot
      exact ⟨hstate, hdry, htrain, hrack, hdrawer, hmove, hother⟩
  · intro h
    refine ⟨List.nodup_iff_count_le_one.mpr fun p => ?_, fun p => (h p).queued, fun p hp => (h p).active ?_,
      List.nodup_iff_count_le_one.mpr fun p => (h p).dryOnce, fun p hp => ?_, fun d m p hx => (h p).home (d, m) hx, ?_⟩
    · simpa [List.count_append, workCount_eq, Nat.add_assoc] using (h p).once
    · simpa [mem_workPlates] using hp
    · obtain ⟨hwork, hstage⟩ := (h p).dryAlone hp
      exact ⟨by simp [mem_workPlates, hwork], hstage⟩
    · cases hask : s.chamber.ask with
      | none => trivial
      | load => trivial
      | unload p pos b =>
        obtain ⟨hstate, hdry, htrain, hrack, hdrawer, hmove, hother⟩ := (h p).asked pos b hask
        exact ⟨hstate, by simp [hdry, htrain, hrack, hdrawer], hmove, hother⟩

/-! ## What loses places only -/

/-- From `s` to `t` the plate comes to no new place, and its slot state, its drawer slot and whether it dries are not
new either. -/
structure NoGain (s t : State) (p : PlateId) : Prop where
  queue : t.admission.queue.count p ≤ s.admission.queue.count p
  train : t.tracker.train.count p ≤ s.tracker.train.count p
  rack : (rackPlates t).count p ≤ (rackPlates s).count p
  dry : t.drying.dryList.count p ≤ s.drying.dryList.count p
  move : moved t = some p → moved s = some p
  pos1 : occupant t.chamber.pos1 = some p → occupant s.chamber.pos1 = some p
  pos2 : occupant t.chamber.pos2 = some p → occupant s.chamber.pos2 = some p
  drawer : ∀ x, cell t x = some p → cell s x = some p
  ask : ∀ pos b, t.chamber.ask = .unload p pos b → ∃ b', s.chamber.ask = .unload p pos b'
  slot : slotState t p = slotState s p
  stage : dries t p → dries s p
  record : ∀ r, plateOf t p = some r → ∃ r', plateOf s p = some r' ∧ r.drawerSlot = r'.drawerSlot

section
variable {s t u : State} {p : PlateId}

theorem NoGain.refl : NoGain s s p := by
  constructor
  all_goals first | exact Nat.le_refl _ | exact rfl | exact fun h => h | skip
  · exact fun _ h => h
  · exact fun _ b h => ⟨b, h⟩
  · exact fun r h => ⟨r, h, rfl⟩

theorem NoGain.trans (h : NoGain s t p) (h' : NoGain t u p) : NoGain s u p where
  queue := Nat.le_trans h'.queue h.queue
  train := Nat.le_trans h'.train h.train
  rack := Nat.le_trans h'.rack h.rack
  dry := Nat.le_trans h'.dry h.dry
  move := fun hp => h.move (h'.move hp)
  pos1 := fun hp => h.pos1 (h'.pos1 hp)
  pos2 := fun hp => h.pos2 (h'.pos2 hp)
  drawer := fun x hp => h.drawer x (h'.drawer x hp)
  ask := fun pos b hp => by
    obtain ⟨b', hb⟩ := h'.ask pos b hp
    exact h.ask pos b' hb
  slot := h'.slot.trans h.slot
  stage := fun hp => h.stage (h'.stage hp)
  record := fun r hr => by
    obtain ⟨r', hr', e⟩ := h'.record r hr
    obtain ⟨r'', hr'', e'⟩ := h.record r' hr'
    exact ⟨r'', hr'', e.trans e'⟩

theorem oneIf_le {o o' : Option PlateId} (h : o' = some p → o = some p) : oneIf o' p ≤ oneIf o p := by
  rw [oneIf_eq, oneIf_eq]
  split
  · next hp => simp [h hp]
  · exact Nat.zero_le _

theorem NoGain.work (h : NoGain s t p) : workCount t p ≤ workCount s p := by
  have hmove := oneIf_le h.move
  have hpos1 := oneIf_le h.pos1
  have hpos2 := oneIf_le h.pos2
  have htrain := h.train
  have hrack := h.rack
  unfold workCount
  omega

theorem NoGain.drawers (h : NoGain s t p) : (drawerPlates t).count p ≤ (drawerPlates s).count p := by
  rw [drawerPlates_eq, drawerPlates_eq]
  exact count_filterMap_le h.drawer _

theorem mem_of_count_le {l l' : List PlateId} (h : l'.count p ≤ l.count p) (hp : p ∈ l') : p ∈ l :=
  List.count_pos_iff.mp (Nat.lt_of_lt_of_le (List.count_pos_iff.mpr hp) h)

/-- A plate that comes to no new place fits as before. -/
theorem NoGain.fits (h : NoGain s t p) (hfits : PlateFits s p) : PlateFits t p := by
  have hwork := h.work
  have hdrawers := h.drawers
  have hdry := h.dry
  refine ⟨?_, fun hp => ?_, fun hp => ?_, Nat.le_trans hdry hfits.dryOnce, fun hp => ?_, fun x hx r hr => ?_,
    fun pos b hask => ?_⟩
  · have honce := hfits.once
    have hqueue := h.queue
    omega
  · exact h.slot.trans (hfits.queued (mem_of_count_le h.queue hp))
  · refine h.slot.trans (hfits.active ?_)
    rcases hp with hp | hp | hp
    · exact .inl (Nat.lt_of_lt_of_le hp hwork)
    · exact .inr (.inl (mem_of_count_le hdrawers hp))
    · exact .inr (.inr (mem_of_count_le hdry hp))
  · obtain ⟨hzero, hstage⟩ := hfits.dryAlone (mem_of_count_le hdry hp)
    exact ⟨by omega, fun hd => hstage (h.stage hd)⟩
  · obtain ⟨r', hr', e⟩ := h.record r hr
    exact e.trans (hfits.home x (h.drawer x hx) r' hr')
  · obtain ⟨b', hask'⟩ := h.ask pos b hask
    obtain ⟨hstate, hd, htrain, hrack, hdrawer, hmove, hother⟩ := hfits.asked pos b' hask'
    refine ⟨h.slot.trans hstate, fun hp => hd (mem_of_count_le hdry hp), fun hp => htrain (mem_of_count_le h.train hp),
      fun hp => hrack (mem_of_count_le h.rack hp), fun hp => hdrawer (mem_of_count_le hdrawers hp),
      fun hp => hmove (h.move hp), ?_⟩
    cases pos
    · exact fun hp => hother (h.pos2 hp)
    · exact fun hp => hother (h.pos1 hp)

/-- No plate comes to a new place. -/
def Keeps (s t : State) : Prop := ∀ p, NoGain s t p

theorem Keeps.refl : Keeps s s := fun _ => .refl

theorem Keeps.trans (h : Keeps s t) (h' : Keeps t u) : Keeps s u := fun p => (h p).trans (h' p)

theorem Keeps.inv (h : Keeps s t) (hs : placesInv s) : placesInv t :=
  (placesInv_iff t).mpr fun p => (h p).fits ((placesInv_iff s).mp hs p)

/-- An event that moves one plate keeps one place for each when that plate fits and no other comes to a new place. -/
theorem placesInv_of_others (hs : placesInv s) (others : ∀ q, q ≠ p → NoGain s t q) (this : PlateFits t p) :
    placesInv t := by
  refine (placesInv_iff t).mpr fun q => ?_
  by_cases hq : q = p
  · exact hq ▸ this
  · exact (others q hq).fits ((placesInv_iff s).mp hs q)

/-- The plate stands nowhere, and is not asked for. -/
structure Nowhere (s : State) (p : PlateId) : Prop where
  queue : p ∉ s.admission.queue
  work : workCount s p = 0
  drawers : p ∉ drawerPlates s
  dry : p ∉ s.drying.dryList
  ask : ∀ pos b, s.chamber.ask ≠ .unload p pos b

theorem Nowhere.fits (h : Nowhere s p) : PlateFits s p := by
  obtain ⟨hqueue, hwork, hdrawers, hdry, hask⟩ := h
  refine ⟨?_, fun hp => absurd hp hqueue, ?_, ?_, fun hp => absurd hp hdry, fun x hx => ?_, fun pos b ha => ?_⟩
  · simp [List.count_eq_zero.mpr hqueue, hwork, List.count_eq_zero.mpr hdrawers]
  · rintro (hp | hp | hp)
    · omega
    · exact absurd hp hdrawers
    · exact absurd hp hdry
  · simp [List.count_eq_zero.mpr hdry]
  · exact absurd ((mem_drawerPlates s p).mpr ⟨x, hx⟩) hdrawers
  · exact absurd ha (hask pos b)

end

end Sys2Proof.Machine

/-! PROOFS. One place for each plate, continued: the operations that bring no plate to a new place. -/

namespace Sys2Proof.Machine

/-! ## Keeping, by what the places read -/

/-- Where the plates stand. -/
def placeView (s : State) : List PlateId × List PlateId × List RackEntry × List PlateId × Vector Drawer 6 ×
    Option Move × Option (PlateId × Mark) × Option (PlateId × Mark) × Ask :=
  (s.admission.queue, s.tracker.train, s.drying.rack, s.drying.dryList, s.drying.drawers, s.shuttle.move,
    s.chamber.pos1, s.chamber.pos2, s.chamber.ask)

/-- Where the plates stand, their records and the exchange memory. -/
def sameView (s : State) : (List PlateId × List PlateId × List RackEntry × List PlateId × Vector Drawer 6 ×
    Option Move × Option (PlateId × Mark) × Option (PlateId × Mark) × Ask) × Vector (Option Plate) 48 × Cells :=
  (placeView s, s.tracker.plates, s.bus.ram)

/-- From `s` to `t` no plate starts to dry or gets another drawer slot. -/
def RecordsKept (s t : State) : Prop := ∀ p, (dries t p → dries s p) ∧
  ∀ r, plateOf t p = some r → ∃ r', plateOf s p = some r' ∧ r.drawerSlot = r'.drawerSlot

section
variable {s t u : State}

theorem RecordsKept.refl : RecordsKept s s := fun _ => ⟨fun h => h, fun r hr => ⟨r, hr, rfl⟩⟩

theorem RecordsKept.trans (h : RecordsKept s t) (h' : RecordsKept t u) : RecordsKept s u := fun p => by
  refine ⟨fun hd => (h p).1 ((h' p).1 hd), fun r hr => ?_⟩
  obtain ⟨r', hr', e⟩ := (h' p).2 r hr
  obtain ⟨r'', hr'', e'⟩ := (h p).2 r' hr'
  exact ⟨r'', hr'', e.trans e'⟩

theorem recordsKept_of_plates (h : RecordsKept s t) (e : u.tracker.plates = t.tracker.plates) : RecordsKept s u := by
  simpa only [RecordsKept, dries, plateOf, e] using h

theorem RecordsKept.of_same (e : t.tracker.plates = s.tracker.plates) : RecordsKept s t :=
  recordsKept_of_plates .refl e

/-- A record may change in all but the stage to DRYING and the drawer slot. -/
theorem recordsKept_putPlate {p : PlateId} {r q : Plate} (h : RecordsKept s t) (hr : plateOf t p = some r)
    (hdrawer : q.drawerSlot = r.drawerSlot) (hstage : q.stage = .drying → r.stage = .drying) :
    RecordsKept s (putPlate p (some q) t) := by
  refine h.trans fun p' => ?_
  simp only [dries, plateOf_putPlate]
  split
  · next e =>
    subst e
    exact ⟨by simpa [hr] using hstage, fun r' hr' => ⟨r, hr, by simpa [← Option.some.inj hr'] using hdrawer⟩⟩
  · exact ⟨fun hd => hd, fun r' hr' => ⟨r', hr', rfl⟩⟩

theorem recordsKept_modPlate {p : PlateId} {f : Plate → Plate} (h : RecordsKept s t)
    (hdrawer : ∀ r, (f r).drawerSlot = r.drawerSlot) (hstage : ∀ r, (f r).stage = .drying → r.stage = .drying) :
    RecordsKept s (modPlate p f t) := by
  unfold modPlate
  split
  · exact h
  · next hr => exact recordsKept_putPlate h hr (hdrawer _) (hstage _)

theorem recordsKept_putSlotNat {i : PlateId} {o n : Nat} (h : RecordsKept s t) : RecordsKept s (putSlotNat i o n t) :=
  recordsKept_of_plates h (by simp)

theorem recordsKept_putSlot {i : PlateId} {o : Nat} {v : Word} (h : RecordsKept s t) :
    RecordsKept s (putSlot i o v t) :=
  recordsKept_of_plates h (by simp)

theorem recordsKept_setStage {p : PlateId} {st : Stage} (h : RecordsKept s t) (hst : st ≠ .drying) :
    RecordsKept s (setStage p st t) := by
  unfold setStage
  split
  · exact h
  · next r hr =>
    split
    · exact h
    · exact recordsKept_putSlotNat (recordsKept_putPlate h hr rfl fun e => absurd e hst)

theorem recordsKept_foldl {α : Type} (l : List α) (g : State → α → State)
    (hg : ∀ t a, RecordsKept s t → RecordsKept s (g t a)) (h : RecordsKept s t) : RecordsKept s (l.foldl g t) := by
  induction l generalizing t with
  | nil => exact h
  | cons a rest ih => exact ih (hg _ _ h)

/-- A plate that an event does not move, and whose slot state and record it leaves, comes to no new place. -/
theorem noGain_of {p : PlateId} (e : placeView t = placeView s) (hslot : slotState t p = slotState s p)
    (hrec : RecordsKept s t) : NoGain s t p := by
  simp only [placeView, Prod.mk.injEq] at e
  obtain ⟨hqueue, htrain, hrack, hdry, hdrawers, hmove, hpos1, hpos2, hask⟩ := e
  exact
    { queue := by rw [hqueue]
      train := by rw [htrain]
      rack := by simp only [rackPlates, hrack, Nat.le_refl]
      dry := by rw [hdry]
      move := by simp only [moved, hmove, imp_self]
      pos1 := by simp only [hpos1, imp_self]
      pos2 := by simp only [hpos2, imp_self]
      drawer := by simp only [cell, hdrawers, imp_self, implies_true]
      ask := fun pos b h => ⟨b, hask ▸ h⟩
      slot := hslot
      stage := (hrec p).1
      record := (hrec p).2 }

theorem keeps_of (e : placeView t = placeView s) (hslot : ∀ p, slotState t p = slotState s p)
    (hrec : RecordsKept s t) : Keeps s t := fun p => noGain_of e (hslot p) hrec

/-- Where a plate stands is read from the view. -/
theorem nowhere_of_view {p : PlateId} (e : placeView t = placeView s) (h : Nowhere s p) : Nowhere t p := by
  simp only [placeView, Prod.mk.injEq] at e
  obtain ⟨hqueue, htrain, hrack, hdry, hdrawers, hmove, hpos1, hpos2, hask⟩ := e
  refine ⟨hqueue ▸ h.queue, ?_, ?_, hdry ▸ h.dry, hask ▸ h.ask⟩
  · simpa only [workCount, rackPlates, moved, htrain, hrack, hmove, hpos1, hpos2] using h.work
  · simpa only [drawerPlates, hdrawers] using h.drawers

theorem keeps_of_run (e : placeView t = placeView s) (run : SlotRun 33 s.bus.ram t.bus.ram)
    (hrec : RecordsKept s t) : Keeps s t := keeps_of e run.slotState hrec

theorem slotState_of_ram (e : t.bus.ram = s.bus.ram) (p : PlateId) : slotState t p = slotState s p := by
  simp only [slotState, slotWord, ramRead, e]

theorem keeps_of_same (e : sameView t = sameView s) : Keeps s t := by
  simp only [sameView, Prod.mk.injEq] at e
  obtain ⟨hplaces, hplates, hram⟩ := e
  exact keeps_of hplaces (slotState_of_ram hram) (.of_same hplates)

/-! ## Records in the events of a plate -/

theorem recordsKept_closeStation {p : PlateId} {k : StationKind} {v : Plate → Verdict} (h : RecordsKept s t) :
    RecordsKept s (closeStation p k v t) := by
  unfold closeStation
  split
  · exact h
  · next r hr =>
    split
    · refine recordsKept_of_plates
        (t := putPlate p (some { r with dose := closedDose r.dose k (v r) }) t) ?_ (by simp)
      exact recordsKept_putPlate h hr rfl fun e => e
    · exact h

theorem recordsKept_closeTests (h : RecordsKept s t) : RecordsKept s (closeTests t) := by
  have htest (p : PlateId) (k : StationKind) (v : State) (hv : RecordsKept s v) : RecordsKept s (closeTest p k v) := by
    unfold closeTest
    (repeat' split)
    · exact hv
    · exact recordsKept_closeStation hv
    · exact hv
  exact recordsKept_foldl _ _ (fun v p hv => htest p .main _ (htest p .back v hv)) h

theorem changeLoad_plates (n : Nat) (s : State) : (changeLoad n s).tracker.plates = s.tracker.plates := by simp

theorem recordsKept_leaveWash {p : PlateId} (h : RecordsKept s t) : RecordsKept s (leaveWash p t) := by
  unfold leaveWash
  split
  · exact h
  · next r hr =>
    split
    · exact h
    · refine recordsKept_of_plates
        (recordsKept_putSlotNat (recordsKept_putSlotNat (recordsKept_putPlate h hr ?_ ?_))) (changeLoad_plates _ _)
      · rfl
      · exact fun e => e

theorem recordsKept_washTests (h : RecordsKept s t) : RecordsKept s (washTests t) := by
  have htest (p : PlateId) (v : State) (hv : RecordsKept s v) : RecordsKept s (washTest p v) := by
    have henter (head : Nat) : RecordsKept s (enterWash p head v) := by
      refine recordsKept_modPlate hv (fun r => ?_) (fun r => ?_)
      all_goals split <;> simp
    unfold washTest
    (repeat' split)
    · exact hv
    · exact recordsKept_leaveWash (henter _)
    · exact henter _
  exact recordsKept_foldl _ _ (fun v p hv => htest p v hv) h

theorem recordsKept_departTrain {p : PlateId} (h : RecordsKept s t) : RecordsKept s (departTrain p t) :=
  recordsKept_leaveWash (recordsKept_of_plates h (by simp))

theorem creditPlate_kept (s : State) (k : Bank) (n : Nat) (r : Plate) :
    (creditPlate s k n r).drawerSlot = r.drawerSlot ∧ (creditPlate s k n r).stage = r.stage := by
  unfold creditPlate
  (repeat' split) <;> exact ⟨rfl, rfl⟩

theorem recordsKept_creditTrain {k : Bank} {n : Nat} (h : RecordsKept s t) : RecordsKept s (creditTrain k n t) :=
  recordsKept_foldl _ _ (fun v _ hv => recordsKept_modPlate hv (fun r => (creditPlate_kept v k n r).1)
    (fun r e => (creditPlate_kept v k n r).2 ▸ e)) h

theorem recordsKept_endPlate {p : PlateId} {b : Bool} (h : RecordsKept s t) : RecordsKept s (endPlate p b t) := by
  have hclosed : RecordsKept s (closeIncomplete p .main (closeIncomplete p .back t)) :=
    recordsKept_closeStation (recordsKept_closeStation h)
  have hcompleted (d : Disposition) (v : State) (hv : RecordsKept s v) : RecordsKept s (completeSlot p d v) := by
    unfold completeSlot
    refine recordsKept_of_plates (t := modPlate p (fun r => { r with stage := .ended, disposition := some d }) v) ?_
      (by simp)
    exact recordsKept_modPlate hv (fun _ => rfl) (fun _ e => by simp at e)
  unfold endPlate
  dsimp only
  split
  · exact h
  · split
    · exact h
    · split
      · exact hclosed
      · exact hcompleted _ _ hclosed

theorem recordsKept_finishPlate {p : PlateId} {a c : Nat} {v : Verdict} (h : RecordsKept s t) :
    RecordsKept s (finishPlate p a c v t) := by
  unfold finishPlate
  exact recordsKept_putSlotNat (recordsKept_putSlotNat (recordsKept_putSlotNat
    (recordsKept_modPlate h (fun _ => rfl) (fun _ e => e))))

theorem recordsKept_finishOccupant {o : Option (PlateId × Mark)} {a c : Nat} {v : Verdict} (h : RecordsKept s t) :
    RecordsKept s (finishOccupant o a c v t) := by
  unfold finishOccupant
  split
  · exact h
  · exact recordsKept_finishPlate h

theorem recordsKept_spoilOccupant {o : Option (PlateId × Mark)} {a c : Nat} (h : RecordsKept s t) :
    RecordsKept s (spoilOccupant o a c t) := by
  unfold spoilOccupant
  split
  · exact recordsKept_finishPlate h
  all_goals exact h

/-! ## Events at the plates of the train -/

theorem keeps_closeStation {p : PlateId} {k : StationKind} {v : Plate → Verdict} : Keeps s (closeStation p k v s) :=
  keeps_of_run (by simp [placeView]) (slotRun_closeStation .refl) (recordsKept_closeStation .refl)

theorem keeps_closeTests : Keeps s (closeTests s) :=
  keeps_of_run (by simp [placeView]) (slotRun_closeTests .refl) (recordsKept_closeTests .refl)

theorem keeps_washTests : Keeps s (washTests s) :=
  keeps_of_run (by simp [placeView]) (slotRun_washTests .refl) (recordsKept_washTests .refl)

theorem keeps_conversion {k : Bank} {n : Nat} : Keeps s (conversion k n s) := by
  refine keeps_of (by simp [placeView]) (slotState_of_ram (by simp)) ?_
  unfold conversion
  dsimp only
  generalize sensorE (s.banks.get k) n = e
  refine recordsKept_of_plates (t := creditTrain k (e * sampleDt s.now (s.banks.get k))
    (putBank k (takeSample s.now n (s.banks.get k)) s)) ?_ (by simp)
  exact recordsKept_creditTrain (.of_same rfl)

/-- A plate that leaves the belt train comes to no other place. -/
theorem keeps_departTrain {p : PlateId} : Keeps s (departTrain p s) := by
  have hleft : Keeps s { s with tracker.train := s.tracker.train.erase p } := fun q =>
    { (NoGain.refl (s := s) (p := q)) with train := List.erase_sublist.count_le q }
  refine hleft.trans (keeps_of_run (by simp [placeView]) (slotRun_departTrain .refl) ?_)
  exact recordsKept_departTrain (t := s) (.of_same rfl)

theorem keeps_setStage {p : PlateId} {st : Stage} (hst : st ≠ .drying) : Keeps s (setStage p st s) :=
  keeps_of_run (by simp [placeView]) (slotRun_setStage .refl) (recordsKept_setStage .refl hst)

/-! ## Infeed and exit edges -/

theorem keeps_infeedHead {n : Nat} : Keeps s (infeedHead n s) := by
  refine keeps_of_run (by simp [placeView]) (slotRun_infeedHead .refl) ?_
  unfold infeedHead
  split
  · exact .refl
  · next p _ =>
    refine recordsKept_of_plates
      (t := setStage p .onBelt (modPlate p (fun r => { r with headLatch := some n }) s)) ?_ rfl
    exact recordsKept_setStage (recordsKept_modPlate .refl (fun _ => rfl) (fun _ e => e)) nofun

theorem keeps_infeedTail {n : Nat} : Keeps s (infeedTail n s) := by
  refine keeps_of_run (by simp [placeView]) (slotRun_infeedTail .refl) ?_
  unfold infeedTail
  dsimp only
  split
  · exact .refl
  · split
    · exact .refl
    · next p _ r hr =>
      split
      · split
        · exact recordsKept_putSlot (recordsKept_putSlotNat (recordsKept_putPlate .refl hr rfl fun e => e))
        · exact .refl
      · exact .refl

theorem keeps_exitHead {n : Nat} : Keeps s (exitHead n s) := by
  unfold exitHead
  (repeat' split)
  · exact keeps_of_same rfl
  · exact keeps_of (by simp [placeView]) (slotState_of_ram (by simp))
      (recordsKept_modPlate .refl (fun _ => rfl) (fun _ e => e))
  · exact keeps_of_same rfl

end

end Sys2Proof.Machine

/-! PROOFS. One place for each plate, continued: the shuttle, the drawers and the finishing chamber. -/

namespace Sys2Proof.Machine

section
variable {s t : State} {p : PlateId}

/-! ## The chamber's positions and what it asks for -/

/-- The chamber may change in all but its occupants, and may drop what it asks for. -/
theorem keeps_chamber {c : Chamber} (hpos1 : occupant c.pos1 = occupant s.chamber.pos1)
    (hpos2 : occupant c.pos2 = occupant s.chamber.pos2)
    (hask : ∀ p pos b, c.ask = .unload p pos b → ∃ b', s.chamber.ask = .unload p pos b') :
    Keeps s { s with chamber := c } := fun q =>
  { (NoGain.refl (s := s) (p := q)) with
    pos1 := fun h => hpos1 ▸ h
    pos2 := fun h => hpos2 ▸ h
    ask := hask q }

theorem occupant_markOccupant (m : Mark) (o : Option (PlateId × Mark)) : occupant (markOccupant m o) = occupant o := by
  cases o <;> rfl

theorem occupant_spoilMark (o : Option (PlateId × Mark)) : occupant (spoilMark o) = occupant o := by
  cases o <;> rfl

theorem occupant_of_markedAt {pass : Mark → Bool} {o : Option (PlateId × Mark)} {m : Mark}
    (h : markedAt pass o = some (p, m)) : occupant o = some p := by
  obtain ⟨rfl, -⟩ := Option.filter_eq_some_iff.mp h
  rfl

/-- The plate that is asked for stands at the position named. -/
theorem unloadAsk_occupant {pass : Mark → Bool} {c : Chamber} {pos : ChamberPos} {b : Bool}
    (h : unloadAsk pass c = .unload p pos b) :
    (match pos with | .one => occupant c.pos1 | .two => occupant c.pos2) = some p := by
  unfold unloadAsk at h
  split at h
  · next hmarked =>
    cases h
    exact occupant_of_markedAt hmarked
  · split at h
    · next hmarked =>
      cases h
      exact occupant_of_markedAt hmarked
    · cases h

/-- A plate with no place but the one at which it stands. -/
theorem PlateFits.alone_at (h : PlateFits s p) (hwork : 0 < workCount s p) :
    p ∉ s.admission.queue ∧ p ∉ drawerPlates s ∧ p ∉ s.drying.dryList ∧ workCount s p = 1 := by
  have honce := h.once
  refine ⟨List.count_eq_zero.mp (by omega), List.count_eq_zero.mp (by omega), fun hd => ?_, by omega⟩
  have hzero := (h.dryAlone hd).1
  omega

theorem oneIf_pos {o : Option PlateId} (h : o = some p) : oneIf o p = 1 := by simp [oneIf_eq, h]

theorem ne_of_oneIf {o : Option PlateId} (h : oneIf o p = 0) : o ≠ some p := by
  rintro rfl
  simp [oneIf_eq] at h

/-- The chamber asks to unload a plate of its batch (R166, R168). -/
theorem placesInv_askUnload {pass : Mark → Bool} (h : placesInv s) :
    placesInv { s with chamber.ask := unloadAsk pass s.chamber } := by
  refine (placesInv_iff _).mpr fun p => ?_
  have hfits := (placesInv_iff s).mp h p
  refine ⟨hfits.once, hfits.queued, hfits.active, hfits.dryOnce, hfits.dryAlone, hfits.home, fun pos b hask => ?_⟩
  have hat := unloadAsk_occupant hask
  have hwork : 0 < workCount s p := by
    unfold workCount
    cases pos
    · have := oneIf_pos (o := occupant s.chamber.pos1) hat
      omega
    · have := oneIf_pos (o := occupant s.chamber.pos2) hat
      omega
  obtain ⟨-, hdrawers, hdry, hone⟩ := hfits.alone_at hwork
  refine ⟨hfits.active (.inl hwork), hdry, ?_⟩
  unfold workCount at hone
  cases pos
  · have hpos1 := oneIf_pos (o := occupant s.chamber.pos1) hat
    have hzero : s.tracker.train.count p = 0 ∧ (rackPlates s).count p = 0 ∧ oneIf (moved s) p = 0 ∧
        oneIf (occupant s.chamber.pos2) p = 0 := by omega
    obtain ⟨htrain, hrack, hmove, hother⟩ := hzero
    exact ⟨List.count_eq_zero.mp htrain, List.count_eq_zero.mp hrack, hdrawers, ne_of_oneIf hmove, ne_of_oneIf hother⟩
  · have hpos2 := oneIf_pos (o := occupant s.chamber.pos2) hat
    have hzero : s.tracker.train.count p = 0 ∧ (rackPlates s).count p = 0 ∧ oneIf (moved s) p = 0 ∧
        oneIf (occupant s.chamber.pos1) p = 0 := by omega
    obtain ⟨htrain, hrack, hmove, hother⟩ := hzero
    exact ⟨List.count_eq_zero.mp htrain, List.count_eq_zero.mp hrack, hdrawers, ne_of_oneIf hmove, ne_of_oneIf hother⟩

/-- The chamber may change in all but its occupants, and may ask for no unload. -/
theorem placesInv_notAsking {c : Chamber} (h : placesInv s) (hpos1 : occupant c.pos1 = occupant s.chamber.pos1)
    (hpos2 : occupant c.pos2 = occupant s.chamber.pos2) (hask : ∀ p pos b, c.ask ≠ .unload p pos b) :
    placesInv { s with chamber := c } :=
  (keeps_chamber hpos1 hpos2 fun p pos b e => absurd e (hask p pos b)).inv h

theorem placesInv_sameAsk {c : Chamber} (h : placesInv s) (hpos1 : occupant c.pos1 = occupant s.chamber.pos1)
    (hpos2 : occupant c.pos2 = occupant s.chamber.pos2) (hask : c.ask = s.chamber.ask) :
    placesInv { s with chamber := c } :=
  (keeps_chamber hpos1 hpos2 fun _ _ b e => ⟨b, hask ▸ e⟩).inv h

theorem placesInv_unloadNext (h : placesInv s) : placesInv (unloadNext s) := by
  unfold unloadNext
  dsimp only
  split
  · exact h
  · split
    · split
      · exact placesInv_notAsking h rfl rfl (by simp)
      · exact placesInv_askUnload h
    · split
      · split
        · exact placesInv_notAsking h rfl rfl (by simp)
        · exact placesInv_notAsking h rfl rfl (by simp)
      · exact placesInv_askUnload h
    all_goals exact h

theorem placesInv_enterReady (h : placesInv s) : placesInv (enterReady s) :=
  placesInv_notAsking h rfl rfl (by simp)

theorem keeps_finishPlate {a c : Nat} {v : Verdict} : Keeps s (finishPlate p a c v s) :=
  keeps_of_run (by simp [placeView]) (slotRun_finishPlate .refl) (recordsKept_finishPlate .refl)

theorem placesInv_endBatch {v : Verdict} (h : placesInv s) : placesInv (endBatch v s) := by
  have hfinished (a u : Nat) : Keeps s (finishOccupant s.chamber.pos2 a u v (finishOccupant s.chamber.pos1 a u v s)) :=
    keeps_of_run (by simp [placeView]) (slotRun_finishOccupant (slotRun_finishOccupant .refl))
      (recordsKept_finishOccupant (recordsKept_finishOccupant .refl))
  unfold endBatch
  dsimp only
  refine placesInv_unloadNext (placesInv_sameAsk ((hfinished _ _).inv h) ?_ ?_ ?_)
  · simp [occupant_markOccupant]
  · simp [occupant_markOccupant]
  · simp

theorem placesInv_enterExposing (h : placesInv s) : placesInv (enterExposing s) := by
  unfold enterExposing
  dsimp only
  split
  · exact placesInv_endBatch (placesInv_sameAsk h rfl rfl rfl)
  · exact placesInv_sameAsk h rfl rfl rfl

theorem placesInv_startExposure (h : placesInv s) : placesInv (startExposure s) := by
  unfold startExposure
  dsimp only
  split
  · exact placesInv_notAsking h rfl rfl (by simp)
  · exact placesInv_enterExposing (placesInv_notAsking h rfl rfl (by simp))

theorem keeps_suspendBatch : Keeps s (suspendBatch s) := by
  unfold suspendBatch
  dsimp only
  split
  · exact keeps_chamber rfl rfl fun _ _ b e => ⟨b, e⟩
  · exact .refl

theorem placesInv_resumeBatch (h : placesInv s) : placesInv (resumeBatch s) := by
  unfold resumeBatch
  split
  · exact placesInv_enterExposing h
  · exact h

theorem placesInv_chamberFault (h : placesInv s) : placesInv (chamberFault s) := by
  have hspoilt (a u : Nat) : Keeps s (spoilOccupant s.chamber.pos2 a u (spoilOccupant s.chamber.pos1 a u s)) :=
    keeps_of_run (by simp [placeView]) (slotRun_spoilOccupant (slotRun_spoilOccupant .refl))
      (recordsKept_spoilOccupant (recordsKept_spoilOccupant .refl))
  unfold chamberFault
  dsimp only
  have hask (v : Ask) : ∀ p pos b, (match v with
      | .load _ _ => Ask.none | .unload p q m => .unload p q m | .none => .none) = .unload p pos b →
      v = .unload p pos b := by
    intro p pos b e
    cases v <;> first | exact e | cases e
  have hfault (u : State) (hu : placesInv u) : placesInv (latch .handling u) :=
    Keeps.inv (keeps_of_same (by simp [sameView, placeView])) hu
  refine placesInv_unloadNext (hfault _ (Keeps.inv (keeps_chamber ?_ ?_ fun p pos b e => ⟨b, ?_⟩)
    ((hspoilt (if exposureStarted s.chamber then reportedDose s.chamber.accA else 0)
      (if exposureStarted s.chamber then reportedDose s.chamber.accC else 0)).inv h)))
  · simp [occupant_spoilMark]
  · simp [occupant_spoilMark]
  · simpa using hask s.chamber.ask p pos b e

theorem placesInv_creditGroups {n : Nat} (h : placesInv s) : placesInv (creditGroups n s) := by
  have hcredited (c : Chamber) (hpos1 : c.pos1 = s.chamber.pos1) (hpos2 : c.pos2 = s.chamber.pos2)
      (hask : c.ask = s.chamber.ask) :
      placesInv (if c.onA && c.onC then endBatch .inTol { s with chamber := c } else { s with chamber := c }) := by
    have hkept : placesInv { s with chamber := c } := placesInv_sameAsk h (by rw [hpos1]) (by rw [hpos2]) hask
    split
    · exact placesInv_endBatch hkept
    · exact hkept
  unfold creditGroups
  dsimp only
  split
  · refine hcredited _ ?_ ?_ ?_
    all_goals (repeat' split) <;> rfl
  · exact h

theorem placesInv_testTubes (h : placesInv s) : placesInv (testTubes s) := by
  unfold testTubes
  dsimp only
  (repeat' split)
  case h_1.isTrue.isTrue => exact placesInv_sameAsk h rfl rfl rfl
  case h_1.isTrue.isFalse.isTrue => exact placesInv_chamberFault h
  all_goals first | exact h | exact placesInv_chamberFault h

theorem placesInv_testDoor (h : placesInv s) : placesInv (testDoor s) := by
  unfold testDoor
  split
  · exact placesInv_resumeBatch h
  · exact keeps_suspendBatch.inv h

end

end Sys2Proof.Machine

/-! PROOFS. One place for each plate, continued: the plates that move between the rack, the shuttle, the drawers and the
batch. -/

namespace Sys2Proof.Machine

section
variable {s t : State} {p : PlateId}

theorem fits_of (h : placesInv s) (p : PlateId) : PlateFits s p := (placesInv_iff s).mp h p

/-- An ACTIVE plate is not in the queue. -/
theorem PlateFits.not_queued (h : PlateFits s p) (hactive : slotState s p = .active) : p ∉ s.admission.queue := by
  intro hp
  have := h.queued hp
  simp [hactive] at this

/-! ## The grant -/

theorem oneIf_zero {o : Option PlateId} (h : o ≠ some p) : oneIf o p = 0 := by simp [oneIf_eq, h]

theorem workCount_board {k : MoveKind} {a b : Place} {x : Bool} (q : PlateId) :
    workCount (board k p a b x s) q = s.tracker.train.count q + (rackPlates s).count q + oneIf (some p) q +
      oneIf (occupant s.chamber.pos1) q + oneIf (occupant s.chamber.pos2) q := by
  simp [workCount, board, rackPlates, moved]

/-- What boarding leaves: all but the stage of the plate and the shuttle's move. -/
theorem noGain_board {k : MoveKind} {a b : Place} {x : Bool} {q : PlateId} (hq : q ≠ p) :
    NoGain s (board k p a b x s) q := by
  have hstaged : NoGain s (setStage p .inShuttle s) q :=
    keeps_setStage (st := .inShuttle) nofun q
  have hordered : Keeps (setStage p .inShuttle s) (takeOrder .shuttle (setStage p .inShuttle s)) :=
    keeps_of_same (by simp [sameView, placeView])
  have hother : NoGain (takeOrder .shuttle (setStage p .inShuttle s)) (board k p a b x s) q :=
    { (NoGain.refl (s := takeOrder .shuttle (setStage p .inShuttle s)) (p := q)) with
      move := fun h => absurd (Option.some.inj h).symm hq }
  exact (hstaged.trans (hordered q)).trans hother

/-- An ACTIVE plate that has left its place boards the shuttle (R144). -/
theorem placesInv_board {k : MoveKind} {a b : Place} {x : Bool} (h : placesInv s) (hout : Nowhere s p)
    (hactive : slotState s p = .active) : placesInv (board k p a b x s) := by
  refine placesInv_of_others h (fun q hq => noGain_board hq) ?_
  obtain ⟨hqueue, hwork, hdrawers, hdry, hask⟩ := hout
  have hslot : slotState (board k p a b x s) p = .active :=
    (SlotRun.slotState (slotRun_board .refl) p).trans hactive
  have hdrawers' : p ∉ drawerPlates (board k p a b x s) := by simpa [drawerPlates, board] using hdrawers
  have hdry' : p ∉ (board k p a b x s).drying.dryList := by simpa [board] using hdry
  refine ⟨?_, fun hp => absurd ?_ hqueue, fun _ => hslot, ?_, fun hp => absurd hp hdry', fun y hy => ?_,
    fun pos b' ha => absurd ?_ (hask pos b')⟩
  · rw [workCount_board, List.count_eq_zero.mpr hdrawers', oneIf_pos rfl]
    unfold workCount at hwork
    simp [board, List.count_eq_zero.mpr hqueue]
    omega
  · simpa [board] using hp
  · rw [List.count_eq_zero.mpr hdry']
    exact Nat.zero_le _
  · exact absurd ((mem_drawerPlates _ p).mpr ⟨y, hy⟩) hdrawers'
  · simpa [board] using ha

/-- A plate that stood in a work place and has left it stands nowhere. -/
theorem Nowhere.of_left (hfits : PlateFits s p) (h : NoGain s t p) (hwork : 0 < workCount s p)
    (hleft : workCount t p = 0) (hask : ∀ pos b, t.chamber.ask ≠ .unload p pos b) : Nowhere t p := by
  obtain ⟨hqueue, hdrawers, hdry, -⟩ := hfits.alone_at hwork
  exact ⟨fun hp => hqueue (mem_of_count_le h.queue hp), hleft, fun hp => hdrawers (mem_of_count_le h.drawers hp),
    fun hp => hdry (mem_of_count_le h.dry hp), hask⟩

theorem placesInv_grantStore (h : placesInv s) (hg : grantStore s = some t) : placesInv t := by
  obtain ⟨p, rest, dm, rfl, hrack, -⟩ := grantStore_some _ _ hg
  have hlist : rackPlates s = p :: rackPlates { s with drying.rack := rest } := by
    simp [rackPlates, hrack]
  have hkept : Keeps s { s with drying.rack := rest } := fun q =>
    { (NoGain.refl (s := s) (p := q)) with
      rack := by
        rw [hlist]
        exact List.count_le_count_cons }
  have hfits := fits_of h p
  have hwork : workCount s p = workCount { s with drying.rack := rest } p + 1 := by
    simp only [workCount, hlist, List.count_cons_self]
    simp only [moved]
    omega
  have hone := (hfits.alone_at (by omega)).2.2.2
  refine placesInv_board (hkept.inv h) (Nowhere.of_left hfits (hkept p) (by omega) (by omega) fun pos b hask => ?_)
    (hfits.active (.inl (by omega)))
  obtain ⟨-, -, -, hnot, -⟩ := hfits.asked pos b hask
  exact hnot (by simp [hlist])

theorem clearPos_keeps (pos : ChamberPos) : Keeps s { s with chamber := { clearPos pos s.chamber with ask := .none } } := by
  intro q
  cases pos
  · exact { (NoGain.refl (s := s) (p := q)) with pos1 := nofun, ask := fun _ _ => nofun }
  · exact { (NoGain.refl (s := s) (p := q)) with pos2 := nofun, ask := fun _ _ => nofun }

theorem placesInv_grantUnload (h : placesInv s) (hg : grantUnload s = some t) : placesInv t := by
  obtain ⟨p, pos, x, rfl, hask, -⟩ := grantUnload_some _ _ hg
  have hfits := fits_of h p
  obtain ⟨hactive, hdry, htrain, hrack, hdrawers, hmove, hother⟩ := hfits.asked pos x hask
  refine placesInv_board ((clearPos_keeps pos).inv h) ⟨hfits.not_queued hactive, ?_, hdrawers, hdry, fun _ _ => nofun⟩
    hactive
  have htrain' := List.count_eq_zero.mpr htrain
  have hrack' := List.count_eq_zero.mpr hrack
  have hmove' := oneIf_zero hmove
  cases pos
  · have hother' := oneIf_zero hother
    have hnone : oneIf (occupant none) p = 0 := rfl
    simp only [rackPlates, moved] at hrack' hmove'
    simp [workCount, rackPlates, moved, clearPos, htrain', hrack', hmove', hother', hnone]
  · have hother' := oneIf_zero hother
    have hnone : oneIf (occupant none) p = 0 := rfl
    simp only [rackPlates, moved] at hrack' hmove'
    simp [workCount, rackPlates, moved, clearPos, htrain', hrack', hmove', hother', hnone]

/-! ## Drawer slots -/

theorem cell_putDrawerSlot (d : Fin 6) (m : Fin 4) (o : Option PlateId) (s : State) (x : Fin 6 × Fin 4) :
    cell (putDrawerSlot d m o s) x = if x = (d, m) then o else cell s x := by
  obtain ⟨d', m'⟩ := x
  simp only [cell, putDrawerSlot, Fin.getElem_fin, Vector.getElem_set, Prod.mk.injEq, Fin.ext_iff]
  by_cases hd : d.val = d'.val
  · by_cases hm : m.val = m'.val
    · simp [hd, hm]
    · simp [hd, hm, Ne.symm hm]
  · simp [hd, Ne.symm hd]

theorem loadCandidate_mem {cls : Option (Nat × Nat)} (h : loadCandidate s cls = some p) : p ∈ s.drying.dryList :=
  List.mem_of_find?_eq_some h

theorem keeps_takeFromDrawer {r : Plate} {d : Fin 6} {m : Fin 4} (hr : plateOf s p = some r) :
    Keeps s (takeFromDrawer p r d m s) := by
  have hcell (x : Fin 6 × Fin 4) : cell (takeFromDrawer p r d m s) x = if x = (d, m) then none else cell s x :=
    cell_putDrawerSlot d m none s x
  have hrecords : RecordsKept s (takeFromDrawer p r d m s) := by
    unfold takeFromDrawer
    exact recordsKept_putSlotNat (recordsKept_putPlate (.of_same (by simp)) hr rfl fun e => e)
  intro q
  have hother := NoGain.refl (s := s) (p := q)
  exact
    { queue := by simp [takeFromDrawer]
      train := by simp [takeFromDrawer]
      rack := by simp [takeFromDrawer, rackPlates]
      dry := by
        simp only [takeFromDrawer, putSlotNat_frame, putPlate_drying, giveBackPlace_frame, putDrawerSlot_frame]
        exact List.erase_sublist.count_le q
      move := by simp [takeFromDrawer, moved]
      pos1 := by simp [takeFromDrawer]
      pos2 := by simp [takeFromDrawer]
      drawer := fun x hx => by
        rw [hcell] at hx
        split at hx
        · cases hx
        · exact hx
      ask := fun pos b hask => ⟨b, by simpa [takeFromDrawer] using hask⟩
      slot := SlotRun.slotState (slotRun_takeFromDrawer .refl) q
      stage := (hrecords q).1
      record := (hrecords q).2 }

theorem keeps_loadGranted {pos : ChamberPos} : Keeps s (loadGranted pos p s) := by
  unfold loadGranted
  cases pos <;> exact keeps_chamber rfl rfl (by simp)

theorem placesInv_grantLoad (h : placesInv s) (hg : grantLoad s = some t) : placesInv t := by
  obtain ⟨pos, cls, p, r, d, m, rfl, -, hcandidate, hr, hslot⟩ := grantLoad_some _ _ hg
  have hfits := fits_of h p
  have hmem := loadCandidate_mem hcandidate
  have hactive := hfits.active (.inr (.inr hmem))
  have htaken : Keeps s (loadGranted pos p (takeFromDrawer p r d m s)) :=
    (keeps_takeFromDrawer hr).trans keeps_loadGranted
  have hcell (x : Fin 6 × Fin 4) : cell (loadGranted pos p (takeFromDrawer p r d m s)) x =
      if x = (d, m) then none else cell s x := by
    rw [← cell_putDrawerSlot]
    cases pos <;> rfl
  refine placesInv_board (htaken.inv h) ⟨fun hp => ?_, ?_, fun hp => ?_, ?_, ?_⟩ ((htaken p).slot.trans hactive)
  · exact hfits.not_queued hactive (mem_of_count_le (htaken p).queue hp)
  · exact Nat.le_zero.mp ((htaken p).work.trans (Nat.le_of_eq (hfits.dryAlone hmem).1))
  · obtain ⟨x, hx⟩ := (mem_drawerPlates _ p).mp hp
    rw [hcell] at hx
    split at hx
    · cases hx
    · next hne =>
      have hhome := hfits.home x hx r hr
      rw [hslot] at hhome
      exact hne (Option.some.inj hhome).symm
  · have hlist : (loadGranted pos p (takeFromDrawer p r d m s)).drying.dryList = s.drying.dryList.erase p := by
      cases pos <;> simp [loadGranted, takeFromDrawer]
    rw [hlist]
    refine List.count_eq_zero.mp ?_
    rw [List.count_erase_self]
    have := hfits.dryOnce
    omega
  · intro pos' b
    cases pos <;> simp [loadGranted]

theorem placesInv_grant (h : placesInv s) : placesInv (grant s) := by
  unfold grant
  (repeat' split)
  · exact placesInv_grantStore h ‹_›
  · exact placesInv_grantUnload h ‹_›
  · exact placesInv_grantLoad h ‹_›
  · exact h
  · exact h

theorem placesInv_handlingTests (h : placesInv s) : placesInv (handlingTests s) := by
  have hsecond : placesInv (withdrawSecondAsk s) := by
    unfold withdrawSecondAsk
    split
    · split
      · exact placesInv_startExposure h
      · exact h
    · exact h
  have hlight (u : State) (hu : placesInv u) : placesInv (lightTubes u) := by
    unfold lightTubes
    dsimp only
    split
    · exact placesInv_sameAsk (s := takeOrder .finisher u) (Keeps.inv (keeps_of_same (by simp [sameView, placeView])) hu)
        rfl rfl rfl
    · exact hu
  exact placesInv_grant (hlight _ hsecond)

end

end Sys2Proof.Machine

/-! PROOFS. One place for each plate, continued: the ends of moves, the ends of plates and the station reports. -/

namespace Sys2Proof.Machine

section
variable {s t : State} {p : PlateId}

/-! ## The end of a plate that stands nowhere (R17) -/

@[simp] theorem slotState_latch (c : Attn) (s : State) (q : PlateId) : slotState (latch c s) q = slotState s q :=
  slotState_of_ram (by simp) q

theorem slotState_completeSlot (d : Disposition) (s : State) (p q : PlateId) :
    slotState (completeSlot p d s) q = if q = p then .done else slotState s q := by
  have hrun : SlotRun 33 s.bus.ram (putSlotNat p oReason (dispositionCode d) (putSlot32 p oCompletion
      s.supervisor.lineTime (putSlotNat p oStage (stageCode .ended)
        (modPlate p (fun r => { r with stage := .ended, disposition := some d }) s)))).bus.ram :=
    slotRun_putSlotNat (slotRun_putSlot32 (slotRun_putSlotNat (by simp) (by simp) (by simp)) (by simp) (by simp))
      (by simp) (by simp)
  unfold completeSlot
  dsimp only
  rw [slotState_latch, slotState_setSlotState]
  split
  · rfl
  · exact hrun.slotState q

theorem slotState_endPlate_other {b : Bool} {q : PlateId} (hq : q ≠ p) :
    slotState (endPlate p b s) q = slotState s q := by
  have hclosed : slotState (closeIncomplete p .main (closeIncomplete p .back s)) q = slotState s q :=
    SlotRun.slotState (slotRun_closeIncomplete (slotRun_closeIncomplete .refl)) q
  unfold endPlate
  dsimp only
  split
  · rfl
  · split
    · rfl
    · split
      · exact hclosed
      · rw [slotState_completeSlot, if_neg hq]
        exact hclosed

theorem placeView_endPlate {b : Bool} : placeView (endPlate p b s) = placeView s := by simp [placeView]

theorem placesInv_endPlate {b : Bool} (h : placesInv s) (hout : Nowhere s p) : placesInv (endPlate p b s) :=
  placesInv_of_others h
    (fun _ hq => noGain_of placeView_endPlate (slotState_endPlate_other hq) (recordsKept_endPlate .refl))
    (nowhere_of_view placeView_endPlate hout).fits

/-! ## The end of a move (R147, R148) -/

/-- The state after the move has ended. -/
def moveEnded (s : State) : State := { s with shuttle.move := none, shuttle.timer := none }

theorem keeps_moveEnded : Keeps s (moveEnded s) := fun q =>
  { (NoGain.refl (s := s) (p := q)) with move := nofun }

theorem nowhere_moveEnded {m : Move} (h : placesInv s) (hmove : s.shuttle.move = some m) :
    Nowhere (moveEnded s) m.plate ∧ slotState (moveEnded s) m.plate = .active := by
  have hfits := fits_of h m.plate
  have haboard : moved s = some m.plate := by simp [moved, hmove]
  have hone := oneIf_pos haboard
  have hwork : workCount s m.plate = workCount (moveEnded s) m.plate + 1 := by
    have hnone : oneIf (moved (moveEnded s)) m.plate = 0 := rfl
    have hrest : workCount (moveEnded s) m.plate = s.tracker.train.count m.plate + (rackPlates s).count m.plate +
      oneIf (moved (moveEnded s)) m.plate + oneIf (occupant s.chamber.pos1) m.plate +
      oneIf (occupant s.chamber.pos2) m.plate := rfl
    unfold workCount at hrest ⊢
    omega
  have hall := (hfits.alone_at (by omega)).2.2.2
  refine ⟨Nowhere.of_left hfits (keeps_moveEnded _) (by omega) (by omega) fun pos b hask => ?_,
    hfits.active (.inl (by omega))⟩
  obtain ⟨-, -, -, -, -, hnot, -⟩ := hfits.asked pos b hask
  exact hnot haboard

theorem plateOf_stored {d : Fin 6} {m : Fin 4} (s : State) (p q : PlateId) (r : Plate)
    (hr : plateOf (storeCompleted p (.slot d m) s) q = some r) :
    ∃ r', plateOf s q = some r' ∧ (if q = p then r.drawerSlot = some (d, m) else r = r') := by
  simp only [storeCompleted, plateOf_setStage] at hr
  have hput (u : State) (o : Nat) (v : Word) (i : PlateId) : plateOf (putSlot i o v u) = plateOf u := by
    funext j
    simp [plateOf]
  have hslot (o : Option PlateId) : plateOf (putDrawerSlot d m o s) = plateOf s := by
    funext j
    simp [plateOf]
  simp only [hput, plateOf_modPlate, hslot] at hr
  by_cases hq : q = p
  · subst hq
    cases hp : plateOf s q with
    | none => simp [hp] at hr
    | some r' =>
      refine ⟨r', rfl, ?_⟩
      simp only [hp, if_true, Option.map_some, Option.some.injEq] at hr
      split at hr <;> simp [← hr]
  · simp only [hq, if_false] at hr
    exact ⟨r, hr, by simp [hq]⟩

/-- A stored plate stands in its drawer slot, with the slot in its record (R147). -/
theorem placesInv_storeCompleted {dest : Place} (h : placesInv s) (hout : Nowhere s p)
    (hactive : slotState s p = .active) : placesInv (storeCompleted p dest s) := by
  cases dest with
  | rack => exact h
  | chamber => exact h
  | output => exact h
  | slot d m =>
    have hcell (x : Fin 6 × Fin 4) : cell (storeCompleted p (.slot d m) s) x = if x = (d, m) then some p else cell s x := by
      rw [← cell_putDrawerSlot]
      simp [cell, storeCompleted]
    have hslot (q : PlateId) : slotState (storeCompleted p (.slot d m) s) q = slotState s q :=
      SlotRun.slotState (slotRun_storeCompleted .refl) q
    obtain ⟨hqueue, hwork, hdrawers, hdry, hask⟩ := hout
    refine placesInv_of_others h (p := p) (fun q hq => ?_) ?_
    · have hrecord (r : Plate) (hr : plateOf (storeCompleted p (.slot d m) s) q = some r) : plateOf s q = some r := by
        obtain ⟨r', hr', e⟩ := plateOf_stored s p q r hr
        rw [if_neg hq] at e
        exact e ▸ hr'
      exact
        { queue := by simp
          train := by simp
          rack := by simp [rackPlates]
          dry := by simp
          move := by simp [moved]
          pos1 := by simp
          pos2 := by simp
          drawer := fun x hx => by
            rw [hcell] at hx
            split at hx
            · exact absurd (Option.some.inj hx).symm hq
            · exact hx
          ask := fun pos b ha => ⟨b, by simpa using ha⟩
          slot := hslot q
          stage := fun hd => by
            obtain ⟨r, hr, hst⟩ := Option.map_eq_some_iff.mp hd
            exact Option.map_eq_some_iff.mpr ⟨r, hrecord r hr, hst⟩
          record := fun r hr => ⟨r, hrecord r hr, rfl⟩ }
    · have honly (x : Fin 6 × Fin 4) (hx : cell (storeCompleted p (.slot d m) s) x = some p) : x = (d, m) := by
        rw [hcell] at hx
        by_contra hne
        rw [if_neg hne] at hx
        exact hdrawers ((mem_drawerPlates s p).mpr ⟨x, hx⟩)
      have hqueue' : p ∉ (storeCompleted p (.slot d m) s).admission.queue := by simpa using hqueue
      have hdry' : p ∉ (storeCompleted p (.slot d m) s).drying.dryList := by simpa using hdry
      have hwork' : workCount (storeCompleted p (.slot d m) s) p = 0 := by
        simpa [workCount, rackPlates, moved] using hwork
      refine ⟨?_, fun hp => absurd hp hqueue', fun _ => (hslot p).trans hactive, ?_, fun hp => absurd hp hdry',
        fun x hx r hr => ?_, fun pos b ha => absurd ?_ (hask pos b)⟩
      · rw [List.count_eq_zero.mpr hqueue', hwork']
        simpa using count_drawerPlates_le_one (d, m) honly
      · rw [List.count_eq_zero.mpr hdry']
        exact Nat.zero_le _
      · obtain ⟨r', -, e⟩ := plateOf_stored s p p r hr
        rw [if_pos rfl] at e
        rw [honly x hx, e]
      · simpa using ha

/-- A plate enters a position of the batch (R147). -/
theorem placesInv_enterPos {pos : ChamberPos} {k : Mark} (h : placesInv s) (hout : Nowhere s p)
    (hactive : slotState s p = .active) : placesInv { s with chamber := enterPos pos p k s.chamber } := by
  obtain ⟨hqueue, hwork, hdrawers, hdry, hask⟩ := hout
  refine placesInv_of_others h (p := p) (fun q hq => ?_) ?_
  · cases pos
    · exact { (NoGain.refl (s := s) (p := q)) with pos1 := fun e => absurd (Option.some.inj e).symm hq }
    · exact { (NoGain.refl (s := s) (p := q)) with pos2 := fun e => absurd (Option.some.inj e).symm hq }
  · have hone : workCount { s with chamber := enterPos pos p k s.chamber } p = 1 := by
      have hin : oneIf (some p) p = 1 := oneIf_pos rfl
      unfold workCount at hwork
      cases pos
      · have hfive : workCount { s with chamber := enterPos .one p k s.chamber } p = s.tracker.train.count p +
          (rackPlates s).count p + oneIf (moved s) p + oneIf (some p) p + oneIf (occupant s.chamber.pos2) p := rfl
        omega
      · have hfive : workCount { s with chamber := enterPos .two p k s.chamber } p = s.tracker.train.count p +
          (rackPlates s).count p + oneIf (moved s) p + oneIf (occupant s.chamber.pos1) p + oneIf (some p) p := rfl
        omega
    have hsameAsk : (enterPos pos p k s.chamber).ask = s.chamber.ask := by cases pos <;> rfl
    refine ⟨?_, fun hp => absurd hp hqueue, fun _ => hactive, ?_, fun hp => absurd hp hdry, fun x hx => ?_,
      fun pos' b ha => absurd (hsameAsk ▸ ha) (hask pos' b)⟩
    · rw [hone]
      have hq := List.count_eq_zero.mpr hqueue
      have hd : (drawerPlates { s with chamber := enterPos pos p k s.chamber }).count p = 0 :=
        List.count_eq_zero.mpr hdrawers
      dsimp only at hd ⊢
      omega
    · exact (List.count_eq_zero.mpr hdry).trans_le (Nat.zero_le _)
    · exact absurd ((mem_drawerPlates s p).mpr ⟨x, hx⟩) hdrawers

theorem placesInv_loadCompleted {pos : ChamberPos} (h : placesInv s) (hout : Nowhere s p)
    (hactive : slotState s p = .active) : placesInv (loadCompleted pos p s) := by
  have hstaged : Keeps s (setStage p .inChamber s) := keeps_setStage (st := .inChamber) nofun
  have hentered (k : Mark) : placesInv { setStage p .inChamber s with
      chamber := enterPos pos p k (setStage p .inChamber s).chamber } :=
    placesInv_enterPos (hstaged.inv h) (nowhere_of_view (by simp [placeView]) hout) ((hstaged p).slot.trans hactive)
  unfold loadCompleted
  dsimp only
  (repeat' split)
  · exact placesInv_unloadNext (keeps_finishPlate.inv (hentered .spoiled))
  · exact placesInv_notAsking (s := { setStage p .inChamber s with
      chamber := enterPos .one p .undecided (setStage p .inChamber s).chamber }) (hentered .undecided) rfl rfl (by simp)
  · exact placesInv_startExposure (hentered .undecided)
  · exact placesInv_startExposure (hentered .undecided)

theorem placesInv_loadFailed {pos : ChamberPos} (h : placesInv s) : placesInv (loadFailed pos s) := by
  unfold loadFailed
  (repeat' split)
  · exact placesInv_unloadNext h
  · exact placesInv_enterReady (placesInv_sameAsk h rfl rfl rfl)
  · exact placesInv_startExposure h

theorem placesInv_completeMove {m : Move} (h : placesInv s) (hmove : s.shuttle.move = some m) :
    placesInv (completeMove m s) := by
  obtain ⟨hout, hactive⟩ := nowhere_moveEnded h hmove
  have hended : placesInv (moveEnded s) := keeps_moveEnded.inv h
  have hstate (u : State) (x : ShuttleState) (hu : placesInv u) : placesInv { u with shuttle.state := x } :=
    Keeps.inv (keeps_of_same rfl) hu
  unfold completeMove
  refine hstate _ _ ?_
  dsimp only
  split
  · exact placesInv_storeCompleted hended hout hactive
  · exact placesInv_loadCompleted hended hout hactive
  · exact placesInv_unloadNext (placesInv_endPlate hended hout)

theorem placesInv_failMove {m : Move} (h : placesInv s) (hmove : s.shuttle.move = some m) :
    placesInv (failMove m s) := by
  have hended : placesInv (endPlate m.plate true (moveEnded s)) :=
    placesInv_endPlate (keeps_moveEnded.inv h) (nowhere_moveEnded h hmove).1
  have hfault (u : State) (hu : placesInv u) : placesInv (latch .handling { u with shuttle.state := .faulted }) :=
    Keeps.inv (keeps_of_same (by simp [sameView, placeView])) hu
  unfold failMove
  refine hfault _ ?_
  dsimp only
  split
  · exact Keeps.inv (keeps_of_same rfl) hended
  · exact placesInv_loadFailed hended
  · exact placesInv_unloadNext hended

theorem placesInv_failCurrentMove (h : placesInv s) : placesInv (failCurrentMove s) := by
  unfold failCurrentMove
  split
  · exact h
  · next hmove => exact placesInv_failMove h hmove

/-! ## Station reports -/

theorem placesInv_takeShuttleReport {a b c : Bool} {r : OrderResult} {d : Vector Byte 6} (h : placesInv s) :
    placesInv (takeShuttleReport a b c r d s) := by
  have hunload (x : Bool) (u : State) (hu : placesInv u) : placesInv (testUnload x u) := by
    unfold testUnload
    split
    · exact hu
    · exact placesInv_grant hu
  have hmove (n : Nat) (u : State) (hu : placesInv u) : placesInv (testMove n r u) := by
    unfold testMove
    split
    · exact hu
    · next hcurrent =>
      split
      · split
        · exact placesInv_completeMove hu hcurrent
        · exact placesInv_failMove hu hcurrent
        · exact hu
      · exact hu
  have hrest (u : State) (hu : placesInv u) : placesInv (endShuttleReset a b c (evalShuttle u)) :=
    Keeps.inv (keeps_of_same (by simp [sameView, placeView])) hu
  exact placesInv_handlingTests (hrest _ (hmove _ _ (hunload _ _ (Keeps.inv (keeps_of_same rfl) h))))

/-- A drawer record may change in all but what its slots hold. -/
theorem keeps_putDrawer {d : Fin 6} {w : Drawer} (hw : w.slots = s.drying.drawers[d].slots) :
    Keeps s (putDrawer d w s) := fun q =>
  { (NoGain.refl (s := s) (p := q)) with
    drawer := fun x hx => by
      obtain ⟨d', m⟩ := x
      simp only [cell, putDrawer, Fin.getElem_fin, Vector.getElem_set] at hx ⊢
      split at hx
      · next e => simpa [hw, ← e] using hx
      · exact hx }

/-- A plate of a drawer stands nowhere else (R147). -/
theorem PlateFits.in_drawer (h : PlateFits s p) {x : Fin 6 × Fin 4} (hx : cell s x = some p) :
    slotState s p = .active ∧ p ∉ s.admission.queue ∧ workCount s p = 0 ∧
      ∀ pos b, s.chamber.ask ≠ .unload p pos b := by
  have hmem : p ∈ drawerPlates s := (mem_drawerPlates s p).mpr ⟨x, hx⟩
  have honce := h.once
  have hpos := List.count_pos_iff.mpr hmem
  refine ⟨h.active (.inr (.inl hmem)), List.count_eq_zero.mp (by omega), by omega, fun pos b hask => ?_⟩
  obtain ⟨-, -, -, -, hnot, -⟩ := h.asked pos b hask
  exact hnot hmem

/-- A resident at 0 joins the dry list and is DRY (R137). -/
theorem placesInv_joinDryList {r q : Plate} {n : Nat} (h : placesInv s) {x : Fin 6 × Fin 4} (hx : cell s x = some p)
    (hr : plateOf s p = some r) (hdrying : r.stage = .drying) (hdrawer : q.drawerSlot = r.drawerSlot)
    (hstage : q.stage = r.stage) :
    placesInv (setStage p .dry { putPlate p (some q) s with
      drying.dryOrder := n, drying.dryList := s.drying.dryList ++ [p] }) := by
  have hfits := fits_of h p
  obtain ⟨hactive, hqueue, hwork, hask⟩ := hfits.in_drawer hx
  have hdry : p ∉ s.drying.dryList := fun hp => (hfits.dryAlone hp).2 (by simp [dries, hr, hdrying])
  have hput : Keeps s (putPlate p (some q) s) :=
    keeps_of rfl (slotState_of_ram rfl) (recordsKept_putPlate .refl hr hdrawer fun e => hstage ▸ e)
  have hjoined (p' : PlateId) (hp' : p' ≠ p) : NoGain (putPlate p (some q) s) { putPlate p (some q) s with
      drying.dryOrder := n, drying.dryList := s.drying.dryList ++ [p] } p' :=
    { (NoGain.refl (s := putPlate p (some q) s) (p := p')) with dry := by simp [List.count_append, hp'.symm] }
  have hkept (u : State) : Keeps u (setStage p .dry u) := keeps_setStage (st := .dry) nofun
  refine placesInv_of_others h (p := p) (fun p' hp' => ((hput p').trans (hjoined p' hp')).trans (hkept _ p')) ?_
  have hslot : slotState (setStage p .dry { putPlate p (some q) s with
      drying.dryOrder := n, drying.dryList := s.drying.dryList ++ [p] }) p = .active :=
    (hkept _ p).slot.trans ((hput p).slot.trans hactive)
  have hstaged (v : State) (hv : plateOf v p = some q) :
      plateOf (setStage p .dry v) p = some { q with stage := .dry } := by
    have hq : q.stage ≠ .ended := by rw [hstage, hdrying]; nofun
    simp [plateOf_setStage, hv, hq]
  have hrecord := hstaged { putPlate p (some q) s with
    drying.dryOrder := n, drying.dryList := s.drying.dryList ++ [p] }
      ((plateOf_putPlate p p (some q) s).trans (if_pos rfl))
  generalize hu : setStage p .dry { putPlate p (some q) s with
      drying.dryOrder := n, drying.dryList := s.drying.dryList ++ [p] } = u at hslot hrecord
  have hplaces : placeView u = (s.admission.queue, s.tracker.train, s.drying.rack, s.drying.dryList ++ [p],
      s.drying.drawers, s.shuttle.move, s.chamber.pos1, s.chamber.pos2, s.chamber.ask) := by
    simp [← hu, placeView]
  simp only [placeView, Prod.mk.injEq] at hplaces
  obtain ⟨equeue, etrain, erack, edry, edrawers, emove, epos1, epos2, eask⟩ := hplaces
  have hwork' : workCount u p = 0 := by
    simpa only [workCount, rackPlates, moved, etrain, erack, emove, epos1, epos2] using hwork
  have hdrawers' : drawerPlates u = drawerPlates s := by simp only [drawerPlates, edrawers]
  refine ⟨?_, fun hp => absurd (equeue ▸ hp) hqueue, fun _ => hslot, ?_, fun _ => ⟨hwork', by simp [dries, hrecord]⟩,
    fun y hy r' hr' => ?_, fun pos b ha => absurd (eask ▸ ha) (hask pos b)⟩
  · have honce := hfits.once
    rw [equeue, hwork', hdrawers']
    omega
  · rw [edry, List.count_append, List.count_eq_zero.mpr hdry]
    simp
  · have hcell : cell s y = some p := by simpa only [cell, edrawers] using hy
    have e : r' = { q with stage := .dry } := Option.some.inj (hr'.symm.trans hrecord)
    rw [e]
    exact hdrawer.trans (hfits.home y hcell r hr)

/-- The dry clock of a resident (R136, R137). -/
theorem placesInv_dryResident {n : Nat} (h : placesInv s) {x : Fin 6 × Fin 4} (hx : cell s x = some p) :
    placesInv (dryResident n p s) := by
  unfold dryResident
  split
  · exact h
  · next r hr =>
    dsimp only
    split
    · next hdrying =>
      split
      · exact placesInv_joinDryList h hx hr hdrying rfl rfl
      · refine Keeps.inv (s := s) (keeps_of rfl (slotState_of_ram rfl) ?_) h
        exact recordsKept_putPlate .refl hr rfl fun e => e
    · exact h

@[simp] theorem dryResident_drawers (n : Nat) (p : PlateId) (s : State) :
    (dryResident n p s).drying.drawers = s.drying.drawers := by
  unfold dryResident
  dsimp only
  (repeat' split) <;> simp

theorem placesInv_dryClockStep {d : Fin 6} {n : Nat} (h : placesInv s) : placesInv (dryClockStep d n s) := by
  have hslots (l : List (Fin 4)) (u : State) (hu : placesInv u) (e : u.drying.drawers = s.drying.drawers) :
      placesInv (l.foldl (fun t m => match s.drying.drawers[d].slots[m] with
        | none => t
        | some p => dryResident n p t) u) := by
    induction l generalizing u with
    | nil => exact hu
    | cons m rest ih =>
      rw [List.foldl_cons]
      cases hm : s.drying.drawers[d].slots[m] with
      | none => exact ih u hu e
      | some p =>
        refine ih _ (placesInv_dryResident hu (x := (d, m)) ?_) (by simpa using e)
        simpa [cell, e] using hm
  exact hslots _ s h rfl

theorem placesInv_takeDrawerReport {d : Fin 6} {b : Vector Byte 6} (h : placesInv s) :
    placesInv (takeDrawerReport d b s) := by
  have hrecord (w : Drawer) (u : State) (hw : w.slots = u.drying.drawers[d].slots) (hu : placesInv u) :
      placesInv (putDrawer d w u) := (keeps_putDrawer hw).inv hu
  unfold takeDrawerReport
  dsimp only
  refine placesInv_handlingTests (hrecord _ _ rfl ?_)
  split
  · exact placesInv_dryClockStep (hrecord _ _ rfl h)
  · exact hrecord _ _ rfl h

theorem placesInv_takeFinisherReport {d : Vector Byte 6} (h : placesInv s) : placesInv (takeFinisherReport d s) := by
  unfold takeFinisherReport
  exact placesInv_handlingTests (placesInv_testDoor (placesInv_testTubes (placesInv_creditGroups
    (placesInv_sameAsk h rfl rfl rfl))))

end

end Sys2Proof.Machine

/-! PROOFS. One place for each plate, continued: the link, the line state, samples and edges. -/

namespace Sys2Proof.Machine

section
variable {s t : State} {p : PlateId}

/-! ## The link and the line state -/

theorem placesInv_same (h : placesInv s) (e : sameView t = sameView s) : placesInv t := (keeps_of_same e).inv h

theorem placesInv_foldl {α : Type} (l : List α) (g : State → α → State)
    (hg : ∀ u a, placesInv u → placesInv (g u a)) (h : placesInv s) : placesInv (l.foldl g s) := by
  induction l generalizing s with
  | nil => exact h
  | cons a rest ih => exact ih (hg _ _ h)

theorem placesInv_drawerNodeChanged {d : Fin 6} (h : placesInv s) : placesInv (drawerNodeChanged d s) :=
  Keeps.inv (keeps_putDrawer rfl) h

theorem placesInv_takeAssignment (h : placesInv s) : placesInv (takeAssignment s) := by
  have htold (st : Station) (u : State) (hu : placesInv u) : placesInv (toldLeft st u) := by
    unfold toldLeft
    split
    · exact placesInv_same hu (by simp [sameView, placeView])
    · exact hu
    · exact placesInv_same hu (by simp [sameView, placeView])
    · exact hu
    · exact placesInv_drawerNodeChanged hu
    · exact hu
  refine placesInv_handlingTests (placesInv_foldl _ _ (fun u n hu => ?_) (placesInv_same h rfl))
  dsimp only
  split
  · exact htold _ _ hu
  · exact hu

theorem placesInv_startPass (h : placesInv s) : placesInv (startPass s) := by
  have hassigned := placesInv_takeAssignment h
  unfold startPass
  generalize takeAssignment s = t at hassigned ⊢
  dsimp only
  (repeat' split) <;> exact placesInv_same hassigned rfl

theorem placesInv_endPass (h : placesInv s) : placesInv (endPass s) := by
  unfold endPass
  (repeat' split)
  · exact placesInv_startPass h
  · exact placesInv_same h rfl
  · exact placesInv_same h rfl

theorem placesInv_linkContinuous (h : placesInv s) : placesInv (linkContinuous s) := by
  unfold linkContinuous
  split
  case h_3 => exact placesInv_startPass (placesInv_same h rfl)
  all_goals exact placesInv_same h rfl

theorem placesInv_linkSingle (h : placesInv s) : placesInv (linkSingle s) := by
  unfold linkSingle
  split
  case h_3 => exact placesInv_startPass (placesInv_same h rfl)
  all_goals exact placesInv_same h rfl

theorem placesInv_setLine {l : LineState} (h : placesInv s) : placesInv (setLine l s) :=
  placesInv_same h (by simp [sameView, placeView])

theorem placesInv_idleIfDrained (h : placesInv s) : placesInv (idleIfDrained s) :=
  placesInv_same h (by simp [sameView, placeView])

/-! ## Plates that leave the train -/

/-- A plate of the train that leaves it stands nowhere. -/
theorem nowhere_departTrain (h : placesInv s) (hp : p ∈ s.tracker.train) :
    Nowhere (departTrain p s) p ∧ slotState (departTrain p s) p = .active := by
  have hfits := fits_of h p
  have hcount := List.count_pos_iff.mpr hp
  have hwork : workCount s p = workCount (departTrain p s) p + 1 := by
    simp only [workCount, departTrain_train, List.count_erase_self]
    simp only [rackPlates, moved, departTrain_frame]
    omega
  have hall := (hfits.alone_at (by omega)).2.2.2
  refine ⟨Nowhere.of_left hfits (keeps_departTrain p) (by omega) (by omega) fun pos b hask => ?_,
    (keeps_departTrain p).slot.trans (hfits.active (.inl (by omega)))⟩
  obtain ⟨-, -, hnot, -⟩ := hfits.asked pos b (by simpa using hask)
  exact hnot hp

theorem placesInv_spoilFromTrain (h : placesInv s) (hp : p ∈ s.tracker.train) : placesInv (spoilFromTrain p s) := by
  have hgiven : placesInv (giveBackPlace (departTrain p s)) := placesInv_same (keeps_departTrain.inv h) rfl
  exact placesInv_endPlate hgiven (nowhere_of_view (s := departTrain p s) rfl (nowhere_departTrain h hp).1)

theorem placesInv_spoilTrain (h : placesInv s) : placesInv (spoilTrain s) := by
  have hall (train : List PlateId) (u : State) (hu : placesInv u) (e : u.tracker.train = train) :
      placesInv (train.foldl (fun v p => spoilFromTrain p v) u) := by
    induction train generalizing u with
    | nil => exact hu
    | cons p rest ih =>
      exact ih _ (placesInv_spoilFromTrain hu (e ▸ List.mem_cons_self)) (by simp [e])
  exact hall _ s h rfl

theorem placesInv_stopLine {c : HaltCause} {a : Attn} {l : LineState} (h : placesInv s) :
    placesInv (stopLine c a l s) := by
  have hspoilt : placesInv (spoilTrain (closeGate s)) := placesInv_spoilTrain (placesInv_same h rfl)
  exact placesInv_same hspoilt (by simp [sameView, placeView, stopLine])

theorem placesInv_raiseHalt {c : HaltCause} (h : placesInv s) : placesInv (raiseHalt c s) := by
  unfold raiseHalt
  split
  case h_4 | h_5 => exact h
  all_goals exact placesInv_stopLine h

theorem placesInv_safeStations (h : placesInv s) : placesInv (safeStations s) := by
  have hcancelled : placesInv (cancelReplenish { s with safety.lineSafe := true }) :=
    placesInv_same h (by simp [sameView, placeView])
  exact placesInv_linkContinuous (placesInv_same (keeps_suspendBatch.inv hcancelled) (by simp [sameView, placeView]))

theorem placesInv_enterSafe {c : HaltCause} (h : placesInv s) : placesInv (enterSafe c s) := by
  unfold enterSafe
  split
  case h_4 => exact placesInv_safeStations (placesInv_setLine (placesInv_same h (by simp [sameView, placeView])))
  case h_5 => exact h
  all_goals exact placesInv_safeStations (placesInv_stopLine h)

/-! ## The queue -/

theorem count_insertBehindRush (s : State) (p q : PlateId) (l : List PlateId) :
    (insertBehindRush s p l).count q = l.count q + if q = p then 1 else 0 := by
  unfold insertBehindRush
  have hsplit : (l.takeWhile (isRush s)).count q + (l.dropWhile (isRush s)).count q = l.count q := by
    rw [← List.count_append, List.takeWhile_append_dropWhile]
  rw [List.count_append, List.count_cons]
  simp only [beq_iff_eq, eq_comm (a := p)]
  omega

theorem count_joinQueue (s : State) (p q : PlateId) :
    (joinQueue p s).admission.queue.count q = s.admission.queue.count q + if q = p then 1 else 0 := by
  have hqueue : (joinQueue p s).admission.queue =
      if isRush s p then insertBehindRush s p s.admission.queue else s.admission.queue ++ [p] := by
    simp [joinQueue, setQueue]
  rw [hqueue]
  split
  · exact count_insertBehindRush s p q _
  · simp [List.count_append, List.count_singleton, eq_comm (a := p)]

theorem count_rejoinQueue (s : State) (p q : PlateId) :
    (rejoinQueue p s).admission.queue.count q = s.admission.queue.count q + if q = p then 1 else 0 := by
  have hqueue : (rejoinQueue p s).admission.queue =
      if isRush s p then p :: s.admission.queue else insertBehindRush s p s.admission.queue := by
    simp [rejoinQueue, setQueue]
  rw [hqueue]
  split
  · simp [List.count_cons, eq_comm (a := p)]
  · exact count_insertBehindRush s p q _

/-- A plate that stands nowhere joins the queue with its slot QUEUED (R10, R33). -/
theorem placesInv_queued (h : placesInv s) (hout : Nowhere s p)
    (hqueue : ∀ q, t.admission.queue.count q = s.admission.queue.count q + if q = p then 1 else 0)
    (hview : placeView { t with admission.queue := s.admission.queue } = placeView s)
    (hslot : ∀ q, slotState t q = if q = p then .queued else slotState s q)
    (hrecord : ∀ q, q ≠ p → plateOf t q = plateOf s q) : placesInv t := by
  simp only [placeView, Prod.mk.injEq] at hview
  obtain ⟨-, htrain, hrack, hdry, hdrawers, hmove, hpos1, hpos2, hask⟩ := hview
  refine placesInv_of_others h (p := p) (fun q hq => ?_) ?_
  · exact
      { queue := by simp [hqueue, hq]
        train := by rw [htrain]
        rack := by simp only [rackPlates, hrack, Nat.le_refl]
        dry := by rw [hdry]
        move := by simp only [moved, hmove, imp_self]
        pos1 := by simp only [hpos1, imp_self]
        pos2 := by simp only [hpos2, imp_self]
        drawer := by simp only [cell, hdrawers, imp_self, implies_true]
        ask := fun pos b ha => ⟨b, hask ▸ ha⟩
        slot := by rw [hslot, if_neg hq]
        stage := by simp only [dries, hrecord q hq, imp_self]
        record := fun r hr => ⟨r, hrecord q hq ▸ hr, rfl⟩ }
  · obtain ⟨hnot, hwork, hplaces, hlist, hno⟩ := hout
    have hwork' : workCount t p = 0 := by
      simpa only [workCount, rackPlates, moved, htrain, hrack, hmove, hpos1, hpos2] using hwork
    have hplaces' : p ∉ drawerPlates t := by simpa only [drawerPlates, hdrawers] using hplaces
    refine ⟨?_, fun _ => by simp [hslot], ?_, ?_, fun hp => absurd (hdry ▸ hp) hlist, fun x hx => ?_,
      fun pos b ha => absurd (hask ▸ ha) (hno pos b)⟩
    · rw [hqueue, List.count_eq_zero.mpr hnot, hwork', List.count_eq_zero.mpr hplaces']
      simp
    · rintro (hp | hp | hp)
      · omega
      · exact absurd hp hplaces'
      · exact absurd (hdry ▸ hp) hlist
    · rw [hdry, List.count_eq_zero.mpr hlist]
      exact Nat.zero_le _
    · exact absurd ((mem_drawerPlates t p).mpr ⟨x, hx⟩) hplaces'

/-- A plate that stands nowhere takes the end of the train with its slot ACTIVE (R41). -/
theorem placesInv_trained (h : placesInv s) (hout : Nowhere s p)
    (htrain : t.tracker.train = s.tracker.train ++ [p])
    (hview : placeView { t with tracker.train := s.tracker.train } = placeView s)
    (hslot : ∀ q, slotState t q = if q = p then .active else slotState s q)
    (hrecord : ∀ q, q ≠ p → plateOf t q = plateOf s q) : placesInv t := by
  simp only [placeView, Prod.mk.injEq] at hview
  obtain ⟨hqueue, -, hrack, hdry, hdrawers, hmove, hpos1, hpos2, hask⟩ := hview
  refine placesInv_of_others h (p := p) (fun q hq => ?_) ?_
  · exact
      { queue := by rw [hqueue]
        train := by simp [htrain, List.count_append, hq.symm]
        rack := by simp only [rackPlates, hrack, Nat.le_refl]
        dry := by rw [hdry]
        move := by simp only [moved, hmove, imp_self]
        pos1 := by simp only [hpos1, imp_self]
        pos2 := by simp only [hpos2, imp_self]
        drawer := by simp only [cell, hdrawers, imp_self, implies_true]
        ask := fun pos b ha => ⟨b, hask ▸ ha⟩
        slot := by rw [hslot, if_neg hq]
        stage := by simp only [dries, hrecord q hq, imp_self]
        record := fun r hr => ⟨r, hrecord q hq ▸ hr, rfl⟩ }
  · obtain ⟨hnot, hwork, hplaces, hlist, hno⟩ := hout
    have hwork' : workCount t p = workCount s p + 1 := by
      simp only [workCount, rackPlates, moved, htrain, hrack, hmove, hpos1, hpos2, List.count_append,
        List.count_singleton_self]
      omega
    have hplaces' : p ∉ drawerPlates t := by simpa only [drawerPlates, hdrawers] using hplaces
    refine ⟨?_, fun hp => absurd (hqueue ▸ hp) hnot, fun _ => by simp [hslot], ?_,
      fun hp => absurd (hdry ▸ hp) hlist, fun x hx => ?_, fun pos b ha => absurd (hask ▸ ha) (hno pos b)⟩
    · rw [hqueue, List.count_eq_zero.mpr hnot, hwork', List.count_eq_zero.mpr hplaces']
      omega
    · rw [hdry, List.count_eq_zero.mpr hlist]
      exact Nat.zero_le _
    · exact absurd ((mem_drawerPlates t p).mpr ⟨x, hx⟩) hplaces'

/-- A plate whose slot is neither QUEUED nor ACTIVE stands nowhere. -/
theorem nowhere_of_slot (h : placesInv s) (hqueued : slotState s p ≠ .queued) (hactive : slotState s p ≠ .active) :
    Nowhere s p := by
  have hfits := fits_of h p
  refine ⟨fun hp => hqueued (hfits.queued hp), ?_, fun hp => hactive (hfits.active (.inr (.inl hp))),
    fun hp => hactive (hfits.active (.inr (.inr hp))), fun pos b ha => hactive (hfits.asked pos b ha).1⟩
  by_contra hwork
  exact hactive (hfits.active (.inl (Nat.pos_of_ne_zero hwork)))

theorem keeps_setQueue {l : List PlateId} (hl : ∀ q, l.count q ≤ s.admission.queue.count q) : Keeps s (setQueue l s) := by
  have hleft : Keeps s { s with admission.queue := l } := fun q =>
    { (NoGain.refl (s := s) (p := q)) with queue := hl q }
  exact hleft.trans (keeps_of_same (by simp [sameView, placeView, setQueue]))

/-- A plate with its slot QUEUED that leaves the queue stands nowhere. -/
theorem nowhere_dequeued (h : placesInv s) (hqueued : slotState s p = .queued) :
    Keeps s (setQueue (s.admission.queue.erase p) s) ∧ Nowhere (setQueue (s.admission.queue.erase p) s) p := by
  have hkept : Keeps s (setQueue (s.admission.queue.erase p) s) := keeps_setQueue fun q => List.erase_sublist.count_le q
  have hfits := (hkept p).fits (fits_of h p)
  have hnot : ¬ slotState (setQueue (s.admission.queue.erase p) s) p = .active := by
    rw [(hkept p).slot, hqueued]
    nofun
  have hqueue : p ∉ (setQueue (s.admission.queue.erase p) s).admission.queue := by
    have honce := (fits_of h p).once
    refine List.count_eq_zero.mp ?_
    have hlist : (setQueue (s.admission.queue.erase p) s).admission.queue = s.admission.queue.erase p := by
      simp [setQueue]
    rw [hlist, List.count_erase_self]
    omega
  refine ⟨hkept, hqueue, ?_, fun hp => hnot (hfits.active (.inr (.inl hp))),
    fun hp => hnot (hfits.active (.inr (.inr hp))), fun pos b ha => hnot (hfits.asked pos b ha).1⟩
  by_contra hwork
  exact hnot (hfits.active (.inl (Nat.pos_of_ne_zero hwork)))

/-! ## Release and misfeed -/

theorem plateOf_of_plates (e : t.tracker.plates = s.tracker.plates) (q : PlateId) : plateOf t q = plateOf s q := by
  simp only [plateOf, e]

@[simp] theorem plateOf_putSlot (i : PlateId) (o : Nat) (v : Word) (s : State) (q : PlateId) :
    plateOf (putSlot i o v s) q = plateOf s q := plateOf_of_plates (by simp) q

@[simp] theorem plateOf_putSlotNat (i : PlateId) (o n : Nat) (s : State) (q : PlateId) :
    plateOf (putSlotNat i o n s) q = plateOf s q := plateOf_of_plates (by simp) q

@[simp] theorem plateOf_setSlotState (i : PlateId) (st : SlotState) (s : State) (q : PlateId) :
    plateOf (setSlotState i st s) q = plateOf s q := plateOf_of_plates (by simp) q

theorem keeps_setHold {r : HoldReason} : Keeps s (setHold r s) :=
  keeps_of_run (by simp [placeView]) (slotRun_setHold .refl) (.of_same (by simp))

theorem placesInv_release {rest : List PlateId} (h : placesInv s) (hhead : s.admission.queue = p :: rest) :
    placesInv (release p s) := by
  have hqueued := (fits_of h p).queued (hhead ▸ List.mem_cons_self)
  obtain ⟨hkept, hout⟩ := nowhere_dequeued h hqueued
  unfold release
  dsimp only
  refine keeps_setHold.inv (placesInv_trained (hkept.inv h) hout ?_ ?_ (fun q => ?_) (fun q hq => ?_))
  · simp
  · simp [placeView]
  · rw [slotState_setSlotState]
    split
    · rfl
    · refine SlotRun.slotState (slotRun_putSlotNat (slotRun_putSlotNat (slotRun_putSlotNat ?_ ?_ ?_) ?_ ?_) ?_ ?_) q
      · exact slotRun_setStage (by simp)
      all_goals simp
  · simp only [plateOf_setSlotState, plateOf_putSlotNat]
    exact (plateOf_setStage p q .releasing _).trans ((if_neg hq).trans ((plateOf_modPlate p q _ _).trans (if_neg hq)))

theorem placesInv_misfeed (h : placesInv s) : placesInv (misfeed s) := by
  unfold misfeed
  split
  · exact placesInv_same h rfl
  · next p hp =>
    have hmem : p ∈ s.tracker.train := List.mem_of_find?_eq_some hp
    have hclosed : placesInv (closeGate s) := placesInv_same h rfl
    obtain ⟨hout, -⟩ := nowhere_departTrain hclosed (p := p) hmem
    unfold misfeedReturn
    dsimp only
    have hshown (u : State) (hu : placesInv u) : placesInv (showHold p u) :=
      Keeps.inv (keeps_of_run (by simp [placeView]) (slotRun_showHold .refl) (.of_same (by simp))) hu
    refine placesInv_idleIfDrained (hshown _ (placesInv_queued (keeps_departTrain.inv hclosed) hout (fun q => ?_) ?_
      (fun q => ?_) (fun q hq => ?_)))
    · simpa using count_rejoinQueue (departTrain p (closeGate s)) p q
    · simp [placeView]
    · rw [slotState_setSlotState]
      split
      · rfl
      · refine SlotRun.slotState (slotRun_putSlotNat (slotRun_putSlotNat ?_ ?_ ?_) ?_ ?_) q
        · exact slotRun_setStage (by simp)
        all_goals simp
    · simp only [plateOf_setSlotState, plateOf_putSlotNat]
      have hrejoined : plateOf (rejoinQueue p (departTrain p (closeGate s))) q =
          plateOf (departTrain p (closeGate s)) q := plateOf_of_plates (by simp) q
      refine Eq.trans ?_ hrejoined
      generalize rejoinQueue p (departTrain p (closeGate s)) = v
      exact (plateOf_setStage p q .queued _).trans ((if_neg hq).trans ((plateOf_modPlate p q _ _).trans (if_neg hq)))

/-! ## Samples and edges -/

theorem placesInv_evaluate (h : placesInv s) : placesInv (evaluate s) := by
  have hrules : placesInv (epochRules (misfeedSteps s)) := placesInv_same h (by simp [sameView, placeView])
  unfold evaluate
  dsimp only
  generalize epochRules (misfeedSteps s) = t at hrules ⊢
  split
  · exact keeps_setHold.inv hrules
  · next hhead =>
    split
    · exact keeps_setHold.inv hrules
    · exact placesInv_release hrules hhead

theorem placesInv_handOn (h : placesInv s) : placesInv (handOn s) := by
  have hmissing : placesInv (missingTest s) := by
    unfold missingTest
    split
    · exact h
    · next p rest htrain =>
      have hspoilt : placesInv (spoilFromTrain p s) := placesInv_spoilFromTrain h (htrain ▸ List.mem_cons_self)
      (repeat' split)
      case isTrue => exact placesInv_idleIfDrained hspoilt
      all_goals exact h
  have hclaimed : placesInv (claimTests (missingTest s)) := placesInv_same hmissing (by simp [sameView, placeView])
  exact placesInv_evaluate (keeps_washTests.inv (keeps_closeTests.inv hclaimed))

theorem placesInv_goodSample {n : Nat} (h : placesInv s) : placesInv (goodSample n s) := by
  unfold goodSample testConditions
  dsimp only
  split
  · exact placesInv_raiseHalt (placesInv_same h (by simp [sameView, placeView]))
  · exact placesInv_same h (by simp [sameView, placeView])

theorem placesInv_vernierFault (h : placesInv s) : placesInv (vernierFault s) := by
  unfold vernierFault
  dsimp only
  split
  · exact placesInv_raiseHalt (placesInv_same h rfl)
  · exact placesInv_same h rfl

theorem placesInv_positionSample {r : Option (Word × Word)} (h : placesInv s) : placesInv (positionSample r s) := by
  have hstarted : placesInv { s with transport.watchdog := s.now + 10 } := placesInv_same h rfl
  have hopen (n : Nat) (u : State) (hu : placesInv u) : placesInv (openRuns n u) :=
    placesInv_same hu (by simp [sameView, placeView])
  unfold positionSample
  dsimp only
  (repeat' split)
  · exact placesInv_handOn (placesInv_vernierFault hstarted)
  · exact hopen _ _ (placesInv_handOn (placesInv_goodSample hstarted))
  · exact placesInv_handOn (placesInv_vernierFault hstarted)

theorem placesInv_takeScaleWord {r : Reader} {w : Word} (h : placesInv s) : placesInv (takeScaleWord r w s) := by
  unfold takeScaleWord
  cases r
  all_goals
    dsimp only
    split
    · exact placesInv_positionSample (placesInv_same h rfl)
    all_goals exact placesInv_same h rfl

/-- A confirmed plate goes from the train to the rack (R50). -/
theorem placesInv_rackPlate (h : placesInv s) (hp : p ∈ s.tracker.train) : placesInv (rackPlate p s) := by
  have hclosed : Keeps s (closeNormally p .main (closeNormally p .back s)) :=
    keeps_closeStation.trans keeps_closeStation
  have hmem : p ∈ (closeNormally p .main (closeNormally p .back s)).tracker.train := by simpa using hp
  obtain ⟨hout, hactive⟩ := nowhere_departTrain (hclosed.inv h) hmem
  have hleft : placesInv (departTrain p (closeNormally p .main (closeNormally p .back s))) :=
    keeps_departTrain.inv (hclosed.inv h)
  unfold rackPlate
  dsimp only
  generalize departTrain p (closeNormally p .main (closeNormally p .back s)) = u at hout hactive hleft
  have hstaged : Keeps u (setStage p .racked u) := keeps_setStage (st := .racked) nofun
  have hstagedInv := hstaged.inv hleft
  have hout' : Nowhere (setStage p .racked u) p := nowhere_of_view (by simp [placeView]) hout
  have hactive' := (hstaged p).slot.trans hactive
  generalize setStage p .racked u = v at hstagedInv hout' hactive'
  have hrack (q : PlateId) : (rackPlates { v with drying.rack := v.drying.rack ++ [.plate p] }).count q =
      (rackPlates v).count q + if q = p then 1 else 0 := by
    simp [rackPlates, List.filterMap_append, List.count_append, List.count_singleton, eq_comm (a := p)]
  refine placesInv_idleIfDrained (placesInv_of_others hstagedInv (p := p) (fun q hq => ?_) ?_)
  · exact { (NoGain.refl (s := v) (p := q)) with rack := by simp [hrack, hq] }
  · obtain ⟨hqueue, hwork, hdrawers, hdry, hask⟩ := hout'
    have hone : workCount { v with drying.rack := v.drying.rack ++ [.plate p] } p = workCount v p + 1 := by
      simp only [workCount, hrack, if_true]
      simp only [moved]
      omega
    refine ⟨?_, fun hp => absurd hp hqueue, fun _ => hactive', ?_, fun hp => absurd hp hdry, fun x hx => ?_,
      fun pos b ha => absurd ha (hask pos b)⟩
    · have hq := List.count_eq_zero.mpr hqueue
      have hd : (drawerPlates { v with drying.rack := v.drying.rack ++ [.plate p] }).count p = 0 :=
        List.count_eq_zero.mpr hdrawers
      rw [hone, hwork, hd]
      dsimp only
      omega
    · exact (List.count_eq_zero.mpr hdry).trans_le (Nat.zero_le _)
    · exact absurd ((mem_drawerPlates v p).mpr ⟨x, hx⟩) hdrawers

theorem confirmedHead_mem (hp : confirmedHead s = some p) : p ∈ s.tracker.train := by
  unfold confirmedHead at hp
  split at hp
  · cases hp
  · next htrain =>
    split at hp
    · cases hp
    · split at hp
      · cases hp
        exact htrain ▸ List.mem_cons_self
      · cases hp

theorem placesInv_exitTail (h : placesInv s) : placesInv (exitTail s) := by
  have hstray (u : State) (hu : placesInv u) : placesInv { u with drying.rack := u.drying.rack ++ [.stray] } :=
    Keeps.inv (fun q => { (NoGain.refl (s := u) (p := q)) with rack := by simp [rackPlates] }) hu
  unfold exitTail
  split
  · next hp =>
    split
    · exact placesInv_rackPlate h (confirmedHead_mem hp)
    · exact placesInv_raiseHalt h
  · have hmarked : placesInv { s with tracker.strayPending := false } := placesInv_same h rfl
    unfold strayTail
    dsimp only
    split
    · exact placesInv_same (hstray _ hmarked) (by simp [sameView, placeView])
    · exact placesInv_raiseHalt (placesInv_same hmarked (by simp [sameView, placeView]))

theorem placesInv_settleSensor {k : Sensor} (h : placesInv s) : placesInv (settleSensor k s) := by
  have hput (u : SensorUnit) : placesInv (putSensorUnit k u s) := placesInv_same h (by simp [sameView, placeView])
  have hedge (b : Bool) (n : Nat) (u : State) (hu : placesInv u) : placesInv (deliverEdge k b n u) := by
    unfold deliverEdge
    split
    · exact keeps_infeedHead.inv hu
    · exact keeps_infeedTail.inv hu
    · exact keeps_exitHead.inv hu
    · exact placesInv_handlingTests (placesInv_exitTail hu)
  unfold settleSensor
  dsimp only
  split
  · exact hput _
  · exact hedge _ _ _ (hput _)

end

end Sys2Proof.Machine

/-! PROOFS. One place for each plate, continued: intake, link visits, host accesses and resets; every command keeps it. -/

namespace Sys2Proof.Machine

section
variable {s t : State} {p : PlateId}

/-! ## Ticket intake -/

/-- A plate that stands nowhere may get another slot state and another record. -/
theorem placesInv_reslot (h : placesInv s) (hout : Nowhere s p) (hview : placeView t = placeView s)
    (hslot : ∀ q, q ≠ p → slotState t q = slotState s q) (hrecord : ∀ q, q ≠ p → plateOf t q = plateOf s q) :
    placesInv t := by
  refine placesInv_of_others h (p := p) (fun q hq => ?_) (nowhere_of_view hview hout).fits
  have hview' := hview
  simp only [placeView, Prod.mk.injEq] at hview'
  obtain ⟨hqueue, htrain, hrack, hdry, hdrawers, hmove, hpos1, hpos2, hask⟩ := hview'
  exact
    { queue := by rw [hqueue]
      train := by rw [htrain]
      rack := by simp only [rackPlates, hrack, Nat.le_refl]
      dry := by rw [hdry]
      move := by simp only [moved, hmove, imp_self]
      pos1 := by simp only [hpos1, imp_self]
      pos2 := by simp only [hpos2, imp_self]
      drawer := by simp only [cell, hdrawers, imp_self, implies_true]
      ask := fun pos b ha => ⟨b, hask ▸ ha⟩
      slot := hslot q hq
      stage := by simp only [dries, hrecord q hq, imp_self]
      record := fun r hr => ⟨r, hrecord q hq ▸ hr, rfl⟩ }

theorem slotState_resolveQueued (i : PlateId) (why : Reason) (s : State) (q : PlateId) :
    slotState (resolveQueued i why s) q = if q = i then .refused else slotState s q := by
  unfold resolveQueued
  rw [slotState_setSlotState]
  split
  · rfl
  · refine SlotRun.slotState (slotRun_putSlotNat (slotRun_putSlotNat (slotRun_putSlotNat ?_ ?_ ?_) ?_ ?_) ?_ ?_) q
    all_goals simp

theorem plateOf_resolveQueued_other (i : PlateId) (why : Reason) (s : State) {q : PlateId} (hq : q ≠ i) :
    plateOf (resolveQueued i why s) q = plateOf s q := by
  unfold resolveQueued
  simp only [plateOf_setSlotState, plateOf_putSlotNat]
  exact (plateOf_modPlate i q _ s).trans (if_neg hq)

theorem placesInv_withdrawTicket (h : placesInv s) (hqueued : slotState s p = .queued) :
    placesInv (withdrawTicket p s) := by
  obtain ⟨hkept, hout⟩ := nowhere_dequeued h hqueued
  have hhold (u : State) : Keeps u (holdIfEmpty u) :=
    keeps_of_run (by simp [placeView]) (slotRun_holdIfEmpty .refl) (.of_same (by simp))
  have hout' : Nowhere (holdIfEmpty (setQueue (s.admission.queue.erase p) s)) p :=
    nowhere_of_view (by simp [placeView]) hout
  have hresolved : placesInv (resolveQueued p .withdrawn (holdIfEmpty (setQueue (s.admission.queue.erase p) s))) :=
    placesInv_reslot ((hhold _).inv (hkept.inv h)) hout' (by simp [placeView])
      (fun q hq => by rw [slotState_resolveQueued, if_neg hq]) (fun q hq => plateOf_resolveQueued_other _ _ _ hq)
  exact placesInv_same hresolved (by simp [sameView, placeView, withdrawTicket])

theorem placesInv_postTicket (h : placesInv s) (hfree : slotState s p = .free) : placesInv (postTicket p s) := by
  have hout : Nowhere s p := nowhere_of_slot h (by simp [hfree]) (by simp [hfree])
  unfold postTicket
  dsimp only
  split
  · next why _ =>
    refine placesInv_reslot h hout (by simp [placeView]) (fun q hq => ?_) (fun q hq => plateOf_of_plates (by simp) q)
    unfold refuseTicket
    rw [slotState_latch, slotState_setSlotState, if_neg hq]
    exact SlotRun.slotState (slotRun_putSlotNat .refl (by simp) (by simp)) q
  · unfold acceptTicket
    dsimp only
    generalize freshPlate _ _ _ = r
    have hshown (u : State) (hu : placesInv u) : placesInv (showHold p u) :=
      Keeps.inv (keeps_of_run (by simp [placeView]) (slotRun_showHold .refl) (.of_same (by simp))) hu
    refine hshown _ (placesInv_queued h hout (fun q => ?_) ?_ (fun q => ?_) (fun q hq => ?_))
    · simpa using count_joinQueue (putPlate p (some r) { s with intake.order := next32 s.intake.order }) p q
    · simp [placeView]
    · rw [slotState_setSlotState]
      split
      · rfl
      · refine SlotRun.slotState (slotRun_putSlotNat (slotRun_putSlot32 ?_ ?_ ?_) ?_ ?_) q
        all_goals simp
    · simp only [plateOf_setSlotState, plateOf_putSlotNat]
      have hjoined (u : State) : plateOf (joinQueue p u) q = plateOf u q := plateOf_of_plates (by simp) q
      exact (hjoined _).trans ((plateOf_putPlate p q (some r) _).trans (if_neg hq))

theorem placesInv_returnSlot (h : placesInv s) (hqueued : slotState s p ≠ .queued) (hactive : slotState s p ≠ .active) :
    placesInv (returnSlot p s) := by
  have hrun : SlotRun 33 s.bus.ram (reportOffsets.foldl (fun t o => putSlot p o 0 t) s).bus.ram :=
    slotRun_putSlots reportOffsets (by decide) .refl
  have hcleared (f : State → PlateId → Option Plate) (hf : ∀ u o v i, f (putSlot i o v u) = f u) :
      f (reportOffsets.foldl (fun t o => putSlot p o 0 t) s) = f s := foldl_keeps f _ (fun u o => hf u o 0 p) _ _
  have hplates := hcleared plateOf fun u o v i => by
    funext q
    simp
  refine placesInv_reslot h (nowhere_of_slot h hqueued hactive) (by simp [placeView]) (fun q hq => ?_)
    (fun q hq => ?_)
  · have hput (u : State) : slotState (putPlate p none u) q = slotState u q := slotState_of_ram rfl q
    unfold returnSlot
    rw [hput, slotState_setSlotState, if_neg hq]
    exact hrun.slotState q
  · unfold returnSlot
    rw [plateOf_putPlate, if_neg hq, plateOf_setSlotState, hplates]

theorem placesInv_actOnRequest {code : Nat} (h : placesInv s) : placesInv (actOnRequest p code s) := by
  unfold actOnRequest
  split
  next hslot => exact placesInv_postTicket h hslot
  next hslot => exact placesInv_withdrawTicket h hslot
  next hslot =>
    refine Keeps.inv (s := s) (keeps_of_run (by simp [placeView]) ?_ ?_) h
    · unfold withdrawLate
      exact slotRun_putSlot (by simp) (by simp) (by simp)
    · unfold withdrawLate
      exact recordsKept_putSlot (recordsKept_modPlate .refl (fun _ => rfl) (fun _ e => e))
  next hslot => exact placesInv_returnSlot h (by simp [hslot]) (by simp [hslot])
  next hslot => exact placesInv_returnSlot h (by simp [hslot]) (by simp [hslot])
  next => exact placesInv_same h (by simp [sameView, placeView])

theorem placesInv_sweepStep (h : placesInv s) : placesInv (sweepStep s) := by
  have hnext (i : PlateId) (u : State) (hu : placesInv u) : placesInv (nextSlot i u) :=
    placesInv_same hu (by simp [sameView, placeView])
  unfold sweepStep
  split
  · exact h
  · refine hnext _ _ ?_
    unfold visitSlot
    dsimp only
    (repeat' split)
    · exact h
    · exact h
    · refine placesInv_actOnRequest (Keeps.inv (s := s) (keeps_of (by simp [placeView]) (fun q => ?_) (.of_same (by simp))) h)
      exact slotState_setLastTaken _ _ _ _ (lowByte_lt _)

/-! ## Link visits -/

theorem placesInv_visitOutcome {f : Byte → Judged} (h : placesInv s) : placesInv (visitOutcome f s) := by
  have hlost (st : Station) (u : State) (hu : placesInv u) : placesInv (toldLost st u) := by
    unfold toldLost
    split
    · exact placesInv_same (placesInv_raiseHalt (c := .driveLost) hu) (by simp [sameView, placeView])
    · exact placesInv_raiseHalt hu
    · exact placesInv_handlingTests (placesInv_same (placesInv_failCurrentMove hu) (by simp [sameView, placeView]))
    · unfold finisherLost
      refine placesInv_handlingTests ?_
      (repeat' split) <;> first | exact hu | exact placesInv_chamberFault hu
    · exact placesInv_handlingTests (placesInv_drawerNodeChanged hu)
    · exact hu
  have hmissed (n : Fin 15) (b : Bool) : placesInv (notGood n b s) := by
    unfold notGood
    dsimp only
    split
    · exact hlost _ _ (placesInv_same h (by simp [sameView, placeView]))
    · exact placesInv_same h rfl
  have hpresent (st : Station) (u : State) (hu : placesInv u) : placesInv (toldPresent st u) := by
    unfold toldPresent
    split
    · exact hu
    · exact placesInv_same hu (by simp [sameView, placeView])
    · exact placesInv_handlingTests (placesInv_same hu (by simp [sameView, placeView]))
    · exact placesInv_handlingTests hu
    · exact placesInv_handlingTests (placesInv_drawerNodeChanged hu)
    · exact hu
  have hdeliver (st : Station) (b : Bool) (x : Byte) (d : Vector Byte 6) (u : State) (hu : placesInv u) :
      placesInv (deliver st b x d u) := by
    have hcounted (v : State) (hv : placesInv v) : placesInv { v with freeCount := v.freeCount + 1 } :=
      placesInv_same hv rfl
    unfold deliver
    refine hcounted _ ?_
    split
    · exact placesInv_same hu (by simp [sameView, placeView])
    · exact placesInv_same hu (by simp [sameView, placeView])
    · exact placesInv_takeShuttleReport hu
    · exact placesInv_takeFinisherReport hu
    · exact placesInv_takeDrawerReport hu
    · exact hu
  have hgood (n : Fin 15) (b : Bool) (c : NodeCmd) (x : Byte) (d : Vector Byte 6) :
      placesInv (goodOutcome n b c x d s) := by
    have hput (r : NodeRec) : placesInv (putNode n r s) := placesInv_same h rfl
    unfold goodOutcome
    dsimp only
    have htold : placesInv (if s.link.nodes[n].state = .present then putNode n (goodNode x d s.link.nodes[n]) s
        else toldPresent s.link.nodes[n].station (putNode n (goodNode x d s.link.nodes[n]) s)) := by
      split
      · exact hput _
      · exact hpresent _ _ (hput _)
    have hdelivered := hdeliver s.link.nodes[n].station (c == .reset) x d _ htold
    generalize deliver s.link.nodes[n].station (c == .reset) x d _ = u at hdelivered ⊢
    split
    · exact placesInv_same hdelivered rfl
    · exact hdelivered
  unfold visitOutcome
  split
  · exact h
  · exact h
  · have hend (n : Fin 15) (u : State) (hu : placesInv u) : placesInv (endVisit n u) := by
      unfold endVisit
      dsimp only
      split
      · exact placesInv_endPass hu
      · exact placesInv_same hu rfl
    refine hend _ _ ?_
    split
    · exact hmissed _ _
    · exact hmissed _ _
    · exact hmissed _ _
    · exact hgood _ _ _ _ _

/-! ## Line commands -/

theorem mem_plateIds (q : PlateId) : q ∈ plateIds := by
  revert q
  decide

/-- Every QUEUED slot is REFUSED, and no other slot changes state (R20, R21). -/
theorem slotState_resolveQueuedSlots (why : Reason) (s : State) (q : PlateId) :
    slotState (resolveQueuedSlots why s) q = if slotState s q = .queued then .refused else slotState s q := by
  have hfold (l : List PlateId) (u : State) : slotState (l.foldl (fun t i => resolveQueued i why t) u) q =
      if q ∈ l then .refused else slotState u q := by
    induction l generalizing u with
    | nil => rfl
    | cons i rest ih =>
      rw [List.foldl_cons, ih, slotState_resolveQueued]
      by_cases hq : q = i <;> simp [hq]
  have hlatch (b : Bool) (u : State) : slotState (latchIf b .slot u) q = slotState u q :=
    slotState_of_ram (by simp) q
  unfold resolveQueuedSlots
  dsimp only
  rw [hlatch, hfold]
  simp [List.mem_filter, mem_plateIds]

theorem recordsKept_resolveQueuedSlots (why : Reason) (s : State) : RecordsKept s (resolveQueuedSlots why s) := by
  unfold resolveQueuedSlots
  dsimp only
  have hlatched (b : Bool) (u : State) (hu : RecordsKept s u) : RecordsKept s (latchIf b .slot u) :=
    recordsKept_of_plates hu (by simp)
  refine hlatched _ _ (recordsKept_foldl _ _ (fun u i hu => ?_) .refl)
  refine recordsKept_of_plates (t := modPlate i (fun r => { r with stage := .ended }) u) ?_ (by simp [resolveQueued])
  exact recordsKept_modPlate hu (fun _ => rfl) (fun _ e => by simp at e)

theorem placesInv_leaveSafe (h : placesInv s) : placesInv (leaveSafe s) := by
  unfold leaveSafe
  dsimp only
  refine placesInv_handlingTests (placesInv_resumeBatch (placesInv_same h ?_))
  simp [sameView, placeView]

theorem keeps_clearStrays : Keeps s (clearStrays s) := fun q =>
  { (NoGain.refl (s := s) (p := q)) with
    rack := by
      simp only [clearStrays, rackPlates, List.filterMap_filter]
      refine Nat.le_of_eq (congrArg (List.count q) (List.filterMap_congr fun e _ => ?_))
      cases e <;> simp }

theorem placesInv_lineReset (h : placesInv s) : placesInv (lineReset s) := by
  have hemptied : placesInv (setQueue [] (resolveQueuedSlots .lineReset s)) := by
    have hplaces : (placeView (setQueue [] (resolveQueuedSlots .lineReset s))).2 = (placeView s).2 := by
      simp [placeView, setQueue]
    have hslot (q : PlateId) : slotState (setQueue [] (resolveQueuedSlots .lineReset s)) q =
        if slotState s q = .queued then .refused else slotState s q :=
      (slotState_of_ram (s := resolveQueuedSlots .lineReset s) (by simp [setQueue]) q).trans
        (slotState_resolveQueuedSlots _ _ _)
    have hrecord : RecordsKept s (setQueue [] (resolveQueuedSlots .lineReset s)) :=
      recordsKept_of_plates (recordsKept_resolveQueuedSlots .lineReset s) (by simp [setQueue])
    have hqueue : (setQueue [] (resolveQueuedSlots .lineReset s)).admission.queue = [] := by simp [setQueue]
    generalize setQueue [] (resolveQueuedSlots .lineReset s) = t at hplaces hslot hrecord hqueue
    have hview : placeView t = placeView { s with admission.queue := [] } := Prod.ext hqueue hplaces
    refine (placesInv_iff t).mpr fun q => ?_
    by_cases hqueued : slotState s q = .queued
    · obtain ⟨hkept, hout⟩ := nowhere_dequeued h hqueued
      refine (nowhere_of_view hview ?_).fits
      refine ⟨List.not_mem_nil, ?_, ?_, ?_, ?_⟩
      · simpa [workCount, rackPlates, moved, setQueue] using hout.work
      · simpa [drawerPlates, setQueue] using hout.drawers
      · simpa [setQueue] using hout.dry
      · simpa [setQueue] using hout.ask
    · have hleft : NoGain s { s with admission.queue := [] } q :=
        { (NoGain.refl (s := s) (p := q)) with queue := Nat.zero_le _ }
      have hsame : NoGain { s with admission.queue := [] } t q :=
        noGain_of hview ((hslot q).trans (if_neg hqueued)) hrecord
      exact (hleft.trans hsame).fits (fits_of h q)
  have hhold : Keeps (setQueue [] (resolveQueuedSlots .lineReset s))
      (holdIfEmpty (setQueue [] (resolveQueuedSlots .lineReset s))) :=
    keeps_of_run (by simp [placeView]) (slotRun_holdIfEmpty .refl) (.of_same (by simp))
  unfold lineReset
  dsimp only
  exact placesInv_handlingTests (placesInv_setLine (placesInv_same (keeps_clearStrays.inv (hhold.inv hemptied)) rfl))

theorem placesInv_lineCommand (code : Word) (h : placesInv s) : placesInv (lineCommand code s) :=
  lineCommand_keeps placesInv code h
    (outcome := fun _ _ ht => placesInv_same ht rfl)
    (start := fun _ _ => placesInv_linkContinuous (placesInv_setLine (placesInv_same h rfl)))
    (restart := fun _ => placesInv_setLine h)
    (drain := fun _ => placesInv_idleIfDrained (placesInv_setLine h))
    (halt := fun _ _ => placesInv_raiseHalt h)
    (resume := fun _ => placesInv_setLine (placesInv_same h rfl))
    (release := fun _ => placesInv_leaveSafe h)
    (reset := fun _ => placesInv_lineReset h)
    (single := placesInv_linkSingle h) (continuous := placesInv_linkContinuous h)
    (shuttleReset := placesInv_same h rfl)
    (rackClear := placesInv_handlingTests (keeps_clearStrays.inv h))
    (chamberReset := fun _ => placesInv_handlingTests (placesInv_unloadNext (placesInv_same h rfl)))

/-! ## Host accesses -/

/-- The host's words are no slot state words. -/
theorem placesInv_ramWrite {a : Nat} {v : Word} (h : placesInv s) (ha : inTickets a = true → slotOffset a < 32) :
    placesInv (ramWrite a v s) := by
  refine Keeps.inv (s := s) (keeps_of rfl (fun q => ?_) (.of_same rfl)) h
  have hne : slotBase q + oState ≠ a := by
    rintro rfl
    have hlow := ha (inTickets_slotBase_add q (by decide))
    rw [slotOffset_slotBase_add q (by decide)] at hlow
    simp [oState] at hlow
  simp only [slotState, slotWord, ramRead_ramWrite, if_neg hne]

theorem not_inTickets_of_low {a : Nat} (h : a < 0x0400) : inTickets a = true → slotOffset a < 32 := by
  intro ht
  simp only [inTickets, Bool.and_eq_true, decide_eq_true_eq] at ht
  omega

theorem not_inTickets_of_high {a : Nat} (h : 0x1000 ≤ a) : inTickets a = true → slotOffset a < 32 := by
  intro ht
  simp only [inTickets, Bool.and_eq_true, decide_eq_true_eq] at ht
  omega

theorem placesInv_requested (h : placesInv s) (ht : Requested s t) : placesInv t := by
  cases ht
  case loaded => exact placesInv_same h (by simp [sameView, placeView])
  case finished => exact placesInv_same h (by simp [sameView, placeView])
  case wordRead => exact placesInv_same h (by simp [sameView, placeView])
  case ignored => exact placesInv_same h (by simp [sameView, placeView])
  case begun => exact placesInv_same h rfl

theorem placesInv_writeHeader {a : Nat} {v : Word} (h : placesInv s) : placesInv (writeHeader a v s) := by
  have hwrite (b : Nat) (w : Word) (u : State) (hu : placesInv u) (hb : b < 0x0400) : placesInv (ramWrite b w u) :=
    placesInv_ramWrite hu (not_inTickets_of_low hb)
  unfold writeHeader
  split
  · exact placesInv_same h rfl
  · split
    · next ha => exact placesInv_same (hwrite a v s h (by omega)) (by simp [sameView, placeView])
    · split
      · exact hwrite _ _ _ (placesInv_same h rfl) (by decide)
      · split
        · exact placesInv_same (hwrite 0x0022 (w16 (clampNat 0 48 v.toNat)) { s with
            admission.mark := clampNat 0 48 v.toNat } (placesInv_same h rfl) (by decide))
            (by simp [sameView, placeView, writeMark])
        · split
          · exact placesInv_same (hwrite 0x0023 (w16 (clampNat 0 60 v.toNat)) { s with
              bus.hbTimeout := clampNat 0 60 v.toNat } (placesInv_same h rfl) (by decide))
              (by simp [sameView, placeView, writeTimeout])
          · split
            · unfold writeLoadEntry
              split
              · exact placesInv_same (hwrite 0x0024 v s h (by decide)) (by simp [sameView, placeView])
              · exact placesInv_same h (by simp [sameView, placeView])
            · exact placesInv_same h (by simp [sameView, placeView])

theorem placesInv_routeWrite {a : Nat} {v : Word} (h : placesInv s) : placesInv (routeWrite a v s) := by
  have hdiscard : placesInv (countDiscard s) := placesInv_same h (by simp [sameView, placeView])
  unfold routeWrite
  split
  · exact placesInv_writeHeader h
  · split
    · next ha => exact placesInv_ramWrite h (not_inTickets_of_low ha)
    · split
      · unfold writeTicket
        split
        · next ho => exact placesInv_ramWrite h fun _ => by omega
        · split
          · next ho =>
            split
            · exact placesInv_ramWrite h fun _ => by omega
            · exact hdiscard
          · split
            · next ho => exact placesInv_ramWrite h fun _ => ho
            · exact hdiscard
      · next ha =>
        have hwrite : placesInv (ramWrite a v s) := placesInv_ramWrite h (not_inTickets_of_high (by omega))
        split
        · exact placesInv_same h (by simp [sameView, placeView])
        · split
          · unfold writeService
            split
            · exact placesInv_requested hwrite (requestOp_requested _ _)
            · split
              · exact hwrite
              · exact hdiscard
          · split
            · exact hwrite
            · unfold writeRegister
              (repeat' split)
              · exact placesInv_lineCommand v h
              all_goals exact placesInv_same h (by simp [sameView, placeView])

theorem placesInv_busWrite {a : BusAddr} {v : Word} (h : placesInv s) : placesInv (busWrite a v s) := by
  have hunheld : placesInv { s with bus.hold := none } := placesInv_same h rfl
  unfold busWrite
  dsimp only
  split
  · exact placesInv_same h rfl
  · split
    · next b w _ =>
      split
      · next hpair =>
        have hlow : inTickets b = true ∧ slotOffset b = 2 := by
          simpa [isJobLow] using hpair.2
        unfold commitPair
        split
        · refine placesInv_ramWrite (placesInv_ramWrite hunheld fun _ => by omega) fun _ => ?_
          have hoffset := hlow.2
          simp only [slotOffset] at hoffset ⊢
          omega
        · exact placesInv_same hunheld (by simp [sameView, placeView])
      · exact placesInv_routeWrite hunheld
    · exact placesInv_routeWrite hunheld

/-! ## Resets and safety inputs -/

/-- A state with no plate anywhere has one place for each. -/
theorem placesInv_of_reset (h : placeView s = placeView State.reset) : placesInv s := by
  have hnowhere (p : PlateId) : Nowhere State.reset p := by
    refine ⟨List.not_mem_nil, rfl, ?_, List.not_mem_nil, nofun⟩
    have hnone : drawerPlates State.reset = [] := by decide
    simp [hnone]
  exact (placesInv_iff s).mpr fun p => (nowhere_of_view h (hnowhere p)).fits

theorem placeView_bringUp (load : State → Nat) (s : State) : placeView (bringUp load s) = placeView s := by
  simp [placeView, bringUp]

theorem placesInv_powerOn : placesInv (powerOn s) := placesInv_of_reset ((placeView_bringUp _ _).trans rfl)

theorem placesInv_pinReset : placesInv (pinReset s) := by
  refine placesInv_of_reset ((placeView_bringUp _ _).trans ?_)
  have hresolved (u : State) : placeView (resolveSlots u) = placeView u := by
    have hlatch (b : Bool) (w : State) : placeView (latchIf b .slot w) = placeView w := by simp [placeView]
    simp only [resolveSlots, resolveQueuedSlots]
    rw [hlatch, foldl_keeps placeView _ (by simp [placeView]), hlatch, foldl_keeps placeView _ (by simp [placeView])]
  rw [hresolved]
  simp [placeView, pinBase, resetBase]

theorem placesInv_safetySettled {i : SafetyInput} (h : placesInv s) : placesInv (safetySettled i s) := by
  have hcover (b : Bool) (u : State) (hu : placesInv u) : placesInv (settledCover b u) := by
    have htaken : placesInv (syncBanks { u with safety.coverClosed := b }) :=
      placesInv_same hu (by simp [sameView, placeView])
    unfold settledCover
    dsimp only
    split
    · exact placesInv_enterSafe htaken
    · exact htaken
  have hestop (b : Bool) (u : State) (hu : placesInv u) : placesInv (settledEstop b u) := by
    unfold settledEstop
    dsimp only
    split
    · exact placesInv_enterSafe (placesInv_same hu rfl)
    · exact placesInv_same hu rfl
  unfold safetySettled
  cases i
  all_goals
    dsimp only
    split
  · exact placesInv_same h rfl
  · exact hestop _ _ (placesInv_same h rfl)
  · exact placesInv_same h rfl
  · exact hcover _ _ (placesInv_same h rfl)

end

/-! ## Every command -/

theorem placesInv_nextState (c : Instr) {s : State} (h : placesInv s) : placesInv (nextState c s) := by
  have same (t : State) (e : sameView t = sameView s) : placesInv t := placesInv_same h e
  have later (d : Nat) (u : State) (hu : placesInv u) : placesInv (advanceTo d u) :=
    placesInv_same hu (by simp [sameView, placeView])
  have expiry (timer : Option Nat) (effect : State → State) (heff : ∀ t, placesInv t → placesInv (effect t)) :
      placesInv (onExpiry timer effect s) :=
    onExpiry_keeps placesInv timer effect h fun d => heff _ (later d s h)
  cases c with
  | powerOnReset => exact placesInv_powerOn
  | pinReset => exact placesInv_pinReset
  | pairedWordLatch a => exact same (busRead a s) (by simp [sameView, placeView])
  | attnCauseRead => exact same (busRead 0x3FFB s) (by simp [sameView, placeView])
  | hostWordWrite | writeHold | postingCount | attentionInterval | queueMark | heartbeatTimeout | solventLoadEntry
  | protectCounterClear | checkCountClear | attnMaskWrite | heartbeat | registerWriteIgnored | start | drain | halt
  | resume | safeRelease | resetLine | linkSingle | linkContinuous | shuttleReset | rackClear | chamberReset
  | unknownCommand | read | write | erase | loadLive | saveOffsets | unknownOperation => exact placesInv_busWrite h
  | writeComplete => exact same (completeWrite s) (by simp [sameView, placeView])
  | eraseComplete => exact same (completeErase s) (by simp [sameView, placeView])
  | saveOffsetsComplete => exact same (completeSave s) (by simp [sameView, placeView])
  | intakeTimerExpiry => exact same (intakeTick s) (by simp [sameView, placeView])
  | lineTimeTimer => exact same (lineTick s) (by simp [sameView, placeView])
  | sensorInputChange k b => exact same (sensorChange k b s) (by simp [sameView, placeView])
  | conversionCompletion k raw => exact keeps_conversion.inv h
  | pwmPeriodStart k => exact same (pwmStart k s) (by simp [sameView, placeView])
  | onTimeSecond k => exact same (onTimeTick k s) (by simp [sameView, placeView])
  | linkVisit => exact same (nextVisit s) (by simp [sameView, placeView])
  | safetyInputChange i b => exact same (safetyChange i b s) (by simp [sameView, placeView])
  | sweepVisit => exact placesInv_sweepStep h
  | scaleWord r w b => exact placesInv_takeScaleWord (s := { s with pins.plateReady := b }) (placesInv_same h rfl)
  | scaleWatchdogExpiry b =>
    exact placesInv_positionSample (later s.transport.watchdog { s with pins.plateReady := b } (placesInv_same h rfl))
  | responseFrame bytes => exact placesInv_visitOutcome h
  | responseTimeout => exact placesInv_visitOutcome h
  | estopAssertedAtReset =>
    change placesInv (deliverEstopAtReset s)
    unfold deliverEstopAtReset settledEstop
    split
    · exact placesInv_enterSafe (placesInv_same h rfl)
    · exact h
  | heartbeatTimerExpiry =>
    exact expiry _ _ fun t ht => placesInv_same ht (by simp [sameView, placeView])
  | settleTimerExpiry k => exact expiry _ _ fun t ht => placesInv_settleSensor ht
  | misfeedTimerExpiry => exact expiry _ _ fun t ht => placesInv_misfeed ht
  | holdOffTimerExpiry | retryTimerExpiry =>
    exact expiry _ _ fun t ht => placesInv_same ht (by simp [sameView, placeView])
  | passTimerExpiry =>
    exact expiry _ _ fun t ht => by
      unfold passTimerExpired
      dsimp only
      (repeat' split)
      · exact placesInv_startPass (placesInv_same ht rfl)
      all_goals exact placesInv_same ht rfl
  | safetySettleExpiry i => exact expiry _ _ fun t ht => placesInv_safetySettled ht
  | moveTimerExpiry =>
    exact expiry _ _ fun t ht => placesInv_handlingTests (placesInv_failCurrentMove (placesInv_same ht rfl))
  | ignitionTimerExpiry =>
    exact expiry _ _ fun t ht => by
      unfold ignitionExpired
      dsimp only
      split
      · exact placesInv_handlingTests (placesInv_chamberFault (placesInv_same ht rfl))
      · exact placesInv_same ht rfl
  | stabilizingTimerExpiry =>
    exact expiry _ _ fun t ht => by
      unfold stabilizingExpired
      dsimp only
      split
      · exact placesInv_handlingTests (placesInv_enterReady (placesInv_same ht rfl))
      · exact placesInv_same ht rfl
  | idleTimerExpiry =>
    exact expiry _ _ fun t ht => by
      unfold idleExpired
      dsimp only
      split
      · exact placesInv_handlingTests (placesInv_notAsking (s := { t with chamber.idle := none })
          (placesInv_same ht rfl) rfl rfl (by simp))
      · exact placesInv_same ht rfl
  | secondPlateTimerExpiry =>
    exact expiry _ _ fun t ht => by
      unfold secondExpired
      dsimp only
      split
      · exact placesInv_handlingTests (placesInv_startExposure (placesInv_same ht rfl))
      · exact placesInv_same ht rfl
  | openShutterTimerExpiry =>
    exact expiry _ _ fun t ht => by
      unfold openShutterExpired
      dsimp only
      split
      · exact placesInv_handlingTests (placesInv_endBatch (placesInv_same ht rfl))
      · exact placesInv_same ht rfl

/-- Settles O7: plate by plate, an event either brings the plate to no new place, or takes it from its one place to
another with the slot state of that place. -/
theorem stepKeepsPlatesInOnePlace : Obligations.StepKeepsPlatesInOnePlace := fun _ _ h hstep =>
  step_keeps placesInv (fun _ _ ht => placesInv_same ht (by simp [sameView, placeView]))
    (fun _ _ ht => placesInv_same ht rfl) (fun c _ ht => placesInv_nextState c ht) h hstep

end Sys2Proof.Machine

/-! PROOFS. The host's bus: where a host write goes, the write hold, and reads (chapter 10). -/

namespace Sys2Proof.Machine

section
variable {s : State} {a : BusAddr} {v : Word}

/-! ## Latching and counting -/

/-- Latching a cause adds its bit (R194). -/
theorem latchedBits_latch (c : Attn) (s : State) : latchedBits (bitIf true (attnBit c)) s (latch c s) := by
  unfold latchedBits latch driveAttn
  dsimp only
  (repeat' split) <;> rfl

/-- Latching a cause changes nothing but the attention set, line and timer (R194, R196). -/
theorem exceptAttn_latch (c : Attn) (s : State) : exceptAttn s (latch c s) = s := by
  unfold exceptAttn latch driveAttn
  dsimp only
  (repeat' split) <;> rfl

/-- A discarded write or request is counted once, with PROTECT (R188). -/
theorem discarded_countDiscard (s : State) : discarded s (countDiscard s) := by
  refine ⟨?_, latchedBits_latch .protect _, ?_⟩
  · simp [countDiscard, satAdd]
  · unfold exceptAttn countDiscard latch driveAttn
    dsimp only
    (repeat' split) <;> rfl

/-! ## Host writes -/

/-- The hold is not that of the low word before an address. -/
def notPaired (s : State) (a : Nat) : Prop := ∀ b w, s.bus.hold = some (b, w) → a = b + 1 → isJobLow b = false

/-- A host write that neither is of a low word of a job reference nor pairs with the one held goes its own way, and empties
the hold (R188, R191). -/
theorem busWrite_alone (hlow : isJobLow a.toNat = false) (hpair : notPaired s a.toNat) :
    busWrite a v s = routeWrite a.toNat v (unheld s) := by
  unfold busWrite
  rw [if_neg (by simp [hlow])]
  split
  · next b w hhold =>
    rw [if_neg]
    · rfl
    · rintro ⟨hnext, hjob⟩
      simp [hpair b w hhold hnext] at hjob
  · rfl

/-- Only the address of offset 3 of a slot follows a low word of a job reference. -/
theorem isJobLow_pred {b : Nat} (h : isJobLow b = true) : inTickets (b + 1) = true ∧ slotOffset (b + 1) = 3 := by
  simp only [isJobLow, inTickets, slotOffset, Bool.and_eq_true, decide_eq_true_eq, beq_iff_eq] at h ⊢
  omega

theorem notPaired_of_outside (h : inTickets a.toNat = false) : notPaired s a.toNat := by
  intro b w _ hnext
  by_contra hjob
  have hin := (isJobLow_pred (by simpa using hjob)).1
  rw [← hnext, h] at hin
  cases hin

theorem notPaired_of_offset (h : slotOffset a.toNat ≠ 3) : notPaired s a.toNat := by
  intro b w _ hnext
  by_contra hjob
  exact h (hnext ▸ (isJobLow_pred (by simpa using hjob)).2)

theorem notPaired_of_hold (h : isJobLow (a.toNat - 1) = true → (s.bus.hold.map fun x => x.1) ≠ some (a.toNat - 1)) :
    notPaired s a.toNat := by
  intro b w hhold hnext
  have hb : a.toNat - 1 = b := by omega
  rw [hb, hhold] at h
  by_contra hjob
  exact h (by simpa using hjob) rfl

/-- Where a host write to a ticket word goes (R188, R189). -/
theorem routeWrite_ticket {b : Nat} (h : inTickets b = true) : routeWrite b v s = writeTicket b v s := by
  simp only [inTickets, Bool.and_eq_true, decide_eq_true_eq] at h
  unfold routeWrite
  rw [if_neg (by omega), if_neg (by omega), if_pos (by omega)]

/-- A host write of an open word enters it (R186, R188, R189). -/
theorem routeWrite_open {b : Nat} (h : openToHost s b = true) : routeWrite b v (unheld s) = ramWrite b v (unheld s) := by
  simp only [openToHost, Bool.or_eq_true, Bool.and_eq_true, decide_eq_true_eq, beq_iff_eq] at h
  obtain ((((⟨hlo, hhi⟩ | ⟨hlo, hhi⟩) | he) | he) | ⟨hin, hoff⟩) | ⟨⟨⟨⟨hin, hoff⟩, hne⟩, hfree⟩, -⟩ := h
  · unfold routeWrite
    rw [if_neg (by omega), if_pos (by omega)]
  · unfold routeWrite
    rw [if_neg (by omega), if_neg (by omega), if_neg (by omega), if_neg (by omega), if_neg (by omega), if_pos (by omega)]
  · subst he; rfl
  · subst he; rfl
  · rw [routeWrite_ticket hin]
    unfold writeTicket
    rcases hoff with h0 | ⟨hlo, hhi⟩
    · rw [if_pos h0]
    · rw [if_neg (by omega), if_neg (by omega), if_pos hhi]
  · rw [routeWrite_ticket hin]
    unfold writeTicket
    have hstate : slotState (unheld s) (slotOfAddr b) = .free := hfree
    by_cases h0 : slotOffset b = 0
    · rw [if_pos h0]
    · rw [if_neg h0, if_pos hoff, if_pos hstate]

/-- A host write of a word of the part, or of a ticket word of a slot that is not FREE, is discarded (R188, R189). -/
theorem routeWrite_closed {b : Nat} (h : partOwned b = true ∨ closedToHost s b = true) :
    routeWrite b v (unheld s) = countDiscard (unheld s) := by
  rcases h with h | h
  · simp only [partOwned, Bool.or_eq_true, Bool.and_eq_true, decide_eq_true_eq, bne_iff_ne, ne_eq, Bool.not_eq_true',
      Bool.and_eq_false_iff, decide_eq_false_iff_not, Option.isNone_iff_eq_none] at h
    obtain ((⟨⟨hlo, hc⟩, hset⟩ | ⟨hin, hoff⟩) | ⟨⟨hlo, hhi⟩, hnode⟩) | ⟨hlo, hhi⟩ := h
    · unfold routeWrite writeHeader
      rw [if_pos hlo, if_neg hc, if_neg (by omega), if_neg (by omega), if_neg (by omega), if_neg (by omega),
        if_neg (by omega)]
    · rw [routeWrite_ticket hin]
      unfold writeTicket
      rw [if_neg (by omega), if_neg (by omega), if_neg (by omega)]
    · unfold routeWrite writeLivePage
      rw [if_neg (by omega), if_neg (by omega), if_neg (by omega), if_pos hhi, hnode]
    · unfold routeWrite writeService
      rw [if_neg (by omega), if_neg (by omega), if_neg (by omega), if_neg (by omega), if_pos hhi, if_neg (by omega),
        if_neg (by omega)]
  · simp only [closedToHost, Bool.and_eq_true, decide_eq_true_eq, bne_iff_ne, ne_eq] at h
    obtain ⟨⟨⟨⟨⟨hin, hlo⟩, hoff⟩, hne⟩, hstate⟩, -⟩ := h
    rw [routeWrite_ticket hin]
    unfold writeTicket
    have hstate' : ¬ slotState (unheld s) (slotOfAddr b) = .free := hstate
    rw [if_neg (by omega), if_pos hoff, if_neg hstate']

theorem isJobLow_false_of_outside {b : Nat} (h : inTickets b = false) : isJobLow b = false := by
  simp [isJobLow, h]

theorem isJobLow_false_of_offset {b : Nat} (h : slotOffset b ≠ 2) : isJobLow b = false := by
  simp [isJobLow, h]

theorem inTickets_false {b : Nat} (h : b < 0x0400 ∨ 0x1000 ≤ b) : inTickets b = false := by
  simp only [inTickets, Bool.and_eq_false_iff, decide_eq_false_iff_not]
  omega

/-- An open word is written alone. -/
theorem openToHost_alone (h : openToHost s a.toNat = true) : isJobLow a.toNat = false ∧ notPaired s a.toNat := by
  have outside (hb : a.toNat < 0x0400 ∨ 0x1000 ≤ a.toNat) : isJobLow a.toNat = false ∧ notPaired s a.toNat :=
    ⟨isJobLow_false_of_outside (inTickets_false hb), notPaired_of_outside (inTickets_false hb)⟩
  simp only [openToHost, Bool.or_eq_true, Bool.and_eq_true, decide_eq_true_eq, beq_iff_eq, bne_iff_ne, ne_eq,
    Bool.not_eq_true', Bool.and_eq_false_iff, beq_eq_false_iff_ne] at h
  obtain ((((⟨hlo, hhi⟩ | ⟨hlo, hhi⟩) | he) | he) | ⟨hin, hoff⟩) | ⟨⟨⟨⟨hin, hoff⟩, hne⟩, hfree⟩, hhold⟩ := h
  · exact outside (.inl hhi)
  · exact outside (.inr (by omega))
  · exact outside (.inr (by omega))
  · exact outside (.inr (by omega))
  · exact ⟨isJobLow_false_of_offset (by omega), notPaired_of_offset (by omega)⟩
  · refine ⟨isJobLow_false_of_offset hne, notPaired_of_hold fun hjob => ?_⟩
    simpa [hjob] using hhold

/-- A closed word is written alone. -/
theorem closed_alone (h : partOwned a.toNat = true ∨ closedToHost s a.toNat = true) :
    isJobLow a.toNat = false ∧ notPaired s a.toNat := by
  have outside (hb : a.toNat < 0x0400 ∨ 0x1000 ≤ a.toNat) : isJobLow a.toNat = false ∧ notPaired s a.toNat :=
    ⟨isJobLow_false_of_outside (inTickets_false hb), notPaired_of_outside (inTickets_false hb)⟩
  rcases h with h | h
  · simp only [partOwned, Bool.or_eq_true, Bool.and_eq_true, decide_eq_true_eq] at h
    obtain ((⟨⟨hlo, -⟩, -⟩ | ⟨hin, hoff⟩) | ⟨⟨hlo, hhi⟩, -⟩) | ⟨hlo, hhi⟩ := h
    · exact outside (.inl (by omega))
    · exact ⟨isJobLow_false_of_offset (by omega), notPaired_of_offset (by omega)⟩
    · exact outside (.inr hlo)
    · exact outside (.inr (by omega))
  · simp only [closedToHost, Bool.and_eq_true, decide_eq_true_eq, bne_iff_ne, ne_eq, Bool.not_eq_true',
      Bool.and_eq_false_iff, beq_eq_false_iff_ne] at h
    obtain ⟨⟨⟨⟨⟨hin, hlo⟩, hoff⟩, hne⟩, hstate⟩, hhold⟩ := h
    refine ⟨isJobLow_false_of_offset hne, notPaired_of_hold fun hjob => ?_⟩
    simpa [hjob] using hhold

/-- A write of one RAM word. -/
theorem ramWrite_effect (b : Nat) (v : Word) (s : State) :
    ramRead (ramWrite b v (unheld s)) b = v ∧ ramKeptOutside [b] s (ramWrite b v (unheld s)) ∧
      exceptRam s (ramWrite b v (unheld s)) = unheld s := by
  refine ⟨by simp, fun c hc => ?_, rfl⟩
  rw [ramRead_ramWrite, if_neg (by simpa using hc)]
  rfl

end

/-- Settles O11: an open word goes past the hold to its own write, and a closed one to the discard. -/
theorem hostWordWritesGoWhereTheyMay : Obligations.HostWordWritesGoWhereTheyMay := by
  unfold Obligations.HostWordWritesGoWhereTheyMay
  refine ⟨fun a v s h => ⟨busWrite a v s, rfl, ?_⟩, fun a v s h => ⟨busWrite a v s, rfl, ?_⟩⟩
  · obtain ⟨hlow, hpair⟩ := openToHost_alone h
    rw [busWrite_alone hlow hpair, routeWrite_open h]
    exact ramWrite_effect _ _ _
  · obtain ⟨hlow, hpair⟩ := closed_alone h
    rw [busWrite_alone hlow hpair, routeWrite_closed h]
    exact discarded_countDiscard _

/-! ## Job references (R191) -/

/-- The write of the high word commits the pair held. -/
theorem busWrite_pair {a : BusAddr} {b : Nat} {v w : Word} {s : State} (hb : isJobLow b = true) (ha : a.toNat = b + 1)
    (hhold : s.bus.hold = some (b, w)) : busWrite a v s = commitPair b w v (unheld s) := by
  have hlow : isJobLow a.toNat = false := by
    rw [ha]
    exact isJobLow_false_of_offset (by rw [(isJobLow_pred hb).2]; decide)
  unfold busWrite
  rw [if_neg (by simp [hlow]), hhold]
  exact if_pos ⟨ha, hb⟩

/-- The slot of a job reference's two words is one slot. -/
theorem slotOfAddr_succ {b : Nat} (h : isJobLow b = true) : slotOfAddr (b + 1) = slotOfAddr b := by
  simp only [isJobLow, inTickets, slotOffset, Bool.and_eq_true, decide_eq_true_eq, beq_iff_eq] at h
  have hsame : (b + 1 - 0x0400) / 64 = (b - 0x0400) / 64 := by omega
  unfold slotOfAddr
  rw [hsame]

/-- A high word of a job reference taken alone is a ticket word of its slot (R189). -/
theorem busWrite_highAlone {a : BusAddr} {b : Nat} {v : Word} {s : State} (hb : isJobLow b = true)
    (ha : a.toNat = b + 1) (hhold : s.bus.hold = none) :
    busWrite a v s = if slotState s (slotOfAddr b) = .free then ramWrite (b + 1) v s else countDiscard s := by
  obtain ⟨hin, hoff⟩ := isJobLow_pred hb
  have hunheld : unheld s = s := by rw [unheld, ← hhold]
  rw [busWrite_alone (by rw [ha]; exact isJobLow_false_of_offset (by rw [hoff]; decide)), ha, routeWrite_ticket hin,
    hunheld]
  · unfold writeTicket
    rw [if_neg (by omega), if_pos (by omega), slotOfAddr_succ hb]
  · intro b' w h'
    rw [hhold] at h'
    cases h'

/-- Settles O12: the low word waits in the hold, and the high word finds it there or not. -/
theorem jobReferenceIsCommittedAsAPair : Obligations.JobReferenceIsCommittedAsAPair := by
  unfold Obligations.JobReferenceIsCommittedAsAPair
  refine ⟨fun a v s ha => ?_, fun a b v w s hb ha hhold => ⟨fun hfree => ?_, fun hbusy => ?_⟩,
    fun a b v s hb ha hhold => ⟨fun hfree => ?_, fun hbusy => ?_⟩⟩
  · change Host.Outcome.next (busWrite a v s) = _
    unfold busWrite
    rw [if_pos ha]
  · refine ⟨busWrite a v s, rfl, ?_⟩
    have hfree' : slotState (unheld s) (slotOfAddr b) = .free := hfree
    rw [busWrite_pair hb ha hhold]
    unfold commitPair
    rw [if_pos hfree']
    refine ⟨?_, by simp, fun c hc => ?_, rfl⟩
    · rw [ramRead_ramWrite, if_neg (by omega), ramRead_ramWrite, if_pos rfl]
    · simp only [List.mem_cons, List.not_mem_nil, or_false, not_or] at hc
      rw [ramRead_ramWrite, if_neg hc.2, ramRead_ramWrite, if_neg hc.1]
      rfl
  · refine ⟨busWrite a v s, rfl, ?_⟩
    have hbusy' : ¬ slotState (unheld s) (slotOfAddr b) = .free := hbusy
    rw [busWrite_pair hb ha hhold]
    unfold commitPair
    rw [if_neg hbusy']
    exact discarded_countDiscard _
  · refine ⟨busWrite a v s, rfl, ?_⟩
    rw [busWrite_highAlone hb ha hhold, if_pos hfree]
    refine ⟨by simp, fun c hc => ?_, rfl⟩
    rw [ramRead_ramWrite, if_neg (by simpa using hc)]
  · refine ⟨busWrite a v s, rfl, ?_⟩
    rw [busWrite_highAlone hb ha hhold, if_neg hbusy]
    exact discarded_countDiscard _

/-! ## Reads (R190, R194) -/

/-- What a host read of a word other than ATTN_CAUSE does. -/
theorem busRead_plain {a : BusAddr} {s : State} (h : a.toNat ≠ 0x3FFB) :
    busRead a s = { s with bus.dataOut := readValue s a.toNat, bus.capture := captureAfter s a.toNat } := by
  unfold busRead readEffect
  rw [if_neg h]

/-- No 32-bit field ends at ATTN_CAUSE, and none begins at the high word of another. -/
theorem isLow32_facts {b : Nat} (h : isLow32 b = true) : b + 1 ≠ 0x3FFB ∧ b ≠ 0x3FFB ∧ isLow32 (b + 1) = false ∧
    isLow32 (b - 1) = false := by
  simp only [isLow32, Bool.or_eq_true, Bool.and_eq_true, beq_iff_eq] at h
  have hcases : (inTickets b = true ∧ (slotOffset b = 2 ∨ slotOffset b = 38 ∨ slotOffset b = 56)) ∨
      b ∈ [0x000E, 0x0010, 0x1008, 0x1018, 0x1028, 0x1030, 0x10A6, 0x10A8] := by
    simp only [List.mem_cons, List.not_mem_nil, or_false]
    grind
  rcases hcases with ⟨hin, hoff⟩ | hb
  · simp only [isLow32, inTickets, slotOffset, Bool.or_eq_false_iff, Bool.and_eq_false_iff, Bool.and_eq_true,
      decide_eq_true_eq, decide_eq_false_iff_not, beq_eq_false_iff_ne, ne_eq] at hin hoff ⊢
    omega
  · simp only [List.mem_cons, List.not_mem_nil, or_false] at hb
    rcases hb with rfl | rfl | rfl | rfl | rfl | rfl | rfl | rfl
    all_goals decide

/-- A read of a word that is not the one captured returns it as it stands. -/
theorem readValue_plain {s : State} {b : Nat} (h : ∀ w, s.bus.capture ≠ some (b, w) ∨ isLow32 (b - 1) = false) :
    readValue s b = readWord s b := by
  unfold readValue
  split
  · next c w hc =>
    rw [if_neg]
    rintro ⟨rfl, hlow⟩
    rcases h w with h | h
    · exact h hc
    · simp [hlow] at h
  · rfl

/-- Settles O13: a read returns its word or the word captured, captures a high word after a low one, and has an effect at
ATTN_CAUSE alone. -/
theorem readsReturnTheirWords : Obligations.ReadsReturnTheirWords := by
  unfold Obligations.ReadsReturnTheirWords
  refine ⟨fun a b s hlow hb => ⟨?_, fun u hu => ?_⟩, fun a s hlow hne hcapture => ?_, fun s => ?_⟩
  · obtain ⟨-, hne, -, hpred⟩ := isLow32_facts hlow
    change Host.Outcome.next (busRead a s) = _
    rw [busRead_plain hne, readValue_plain fun _ => .inr hpred, captureAfter, if_pos hlow]
  · obtain ⟨hne, -, hsucc, -⟩ := isLow32_facts hlow
    change Host.Outcome.next (busRead b u) = _
    have hvalue : readValue u (a.toNat + 1) = readWord s (a.toNat + 1) := by
      unfold readValue
      rw [hu]
      exact if_pos ⟨rfl, hlow⟩
    rw [busRead_plain (by rw [hb]; exact hne), hb, hvalue, captureAfter, if_neg (by simp [hsucc])]
  · change Host.Outcome.next (busRead a s) = _
    have hother (w : Word) : s.bus.capture ≠ some (a.toNat, w) := fun hc => hcapture (by simp [hc])
    rw [busRead_plain hne, readValue_plain fun w => .inl (hother w), captureAfter, if_neg (by simp [hlow])]
  · have hcause : readValue s 0x3FFB = s.bus.latched := (readValue_plain fun _ => .inr (by decide)).trans rfl
    change Host.Outcome.next (busRead 0x3FFB s) = _
    unfold busRead
    change Host.Outcome.next (readEffect 0x3FFB { s with
      bus.dataOut := readValue s 0x3FFB, bus.capture := captureAfter s 0x3FFB }) = _
    rw [hcause]
    rfl

end Sys2Proof.Machine

/-! PROOFS. The attention line, the settings of the header, the heartbeat and the timers that always run (chapters 1, 2, 6
and 10). -/

namespace Sys2Proof.Machine

section
variable {s : State} {a : BusAddr} {v : Word}

/-- A host write outside the ticket slots goes its own way, and empties the hold. -/
theorem busWrite_outside (h : a.toNat < 0x0400 ∨ 0x1000 ≤ a.toNat) :
    busWrite a v s = routeWrite a.toNat v (unheld s) :=
  busWrite_alone (isJobLow_false_of_outside (inTickets_false h)) (notPaired_of_outside (inTickets_false h))

/-! ## Bits of a word -/

theorem getLsbD_bitIf (n i : Nat) (h : i < 16) : (bitIf true n).getLsbD i = decide (n = i) := by
  simp only [bitIf, if_true, BitVec.getLsbD_ofNat, h, decide_true, Bool.true_and, Nat.testBit_two_pow]

/-- A word has no bit of the urgent causes. -/
theorem urgentBits_eq_zero (x : Word) : x &&& 0x001F = 0 ↔ urgentCauses.any (fun c => x.getLsbD (attnBit c)) = false := by
  constructor
  · intro h
    have hbit (i : Nat) (hi : i < 5) : x[i] = false := by
      have e := congrArg (fun w : Word => w.getLsbD i) h
      interval_cases i <;> simpa using e
    simp [urgentCauses, attnBit, hbit]
  · intro h
    simp only [urgentCauses, attnBit, List.any_cons, List.any_nil, Bool.or_eq_false_iff] at h
    obtain ⟨h0, h1, h2, h3, h4, -⟩ := h
    refine BitVec.eq_of_getLsbD_eq fun i hi => ?_
    interval_cases i <;> simp_all

/-- A word has no bit of the routine causes. -/
theorem routineBits_eq_zero (x : Word) :
    x &&& 0xFF00 = 0 ↔ routineCauses.any (fun c => x.getLsbD (attnBit c)) = false := by
  constructor
  · intro h
    have hbit (i : Nat) (hlo : 8 ≤ i) (hi : i < 16) : x[i] = false := by
      have e := congrArg (fun w : Word => w.getLsbD i) h
      interval_cases i <;> simpa using e
    simp [routineCauses, attnBit, hbit]
  · intro h
    simp only [routineCauses, attnBit, List.any_cons, List.any_nil, Bool.or_eq_false_iff] at h
    obtain ⟨h8, h9, h10, h11, h12, h13, h14, h15, -⟩ := h
    refine BitVec.eq_of_getLsbD_eq fun i hi => ?_
    interval_cases i <;> simp_all

/-! ## Driving ATTN# (R195 to R197) -/

/-- Enabled urgent causes assert ATTN# and leave the hold-off timer (R196). -/
theorem driveCauses_urgent {bits : Word} {l : List Attn} {t : State} (hurgent : ∀ c ∈ l, attnUrgent c = true)
    (henabled : ∀ c, bits.getLsbD (attnBit c) = true → t.bus.mask.getLsbD (attnBit c) = true) :
    driveCauses bits l t = { t with bus.attn := t.bus.attn || l.any fun c => bits.getLsbD (attnBit c) } := by
  induction l generalizing t with
  | nil => simp [driveCauses]
  | cons c rest ih =>
    have hrest : ∀ c ∈ rest, attnUrgent c = true := fun d hd => hurgent d (List.mem_cons_of_mem _ hd)
    by_cases hbit : bits.getLsbD (attnBit c) = true
    · have hdriven : driveAttn c t = { t with bus.attn := true } := by
        unfold driveAttn
        rw [hurgent c List.mem_cons_self, henabled c hbit]
        cases hattn : t.bus.attn
        · rfl
        · simp [← hattn]
      have hstep : driveCauses bits (c :: rest) t = driveCauses bits rest { t with bus.attn := true } := by
        simp [driveCauses, hbit, hdriven]
      rw [hstep, ih (t := { t with bus.attn := true }) hrest henabled]
      simp [hbit]
    · have hstep : driveCauses bits (c :: rest) t = driveCauses bits rest t := by simp [driveCauses, hbit]
      rw [hstep, ih hrest henabled]
      simp [hbit]

/-- An enabled routine cause asserts a released ATTN# with the hold-off timer stopped, and starts the timer (R197). -/
theorem driveCauses_routine {bits : Word} {l : List Attn} {t : State} (hroutine : ∀ c ∈ l, attnUrgent c = false)
    (henabled : ∀ c, bits.getLsbD (attnBit c) = true → t.bus.mask.getLsbD (attnBit c) = true) :
    driveCauses bits l t =
      if t.bus.attn = false ∧ t.bus.holdOff = none ∧ (l.any fun c => bits.getLsbD (attnBit c)) = true then
        { t with bus.attn := true, bus.holdOff := some (t.now + t.bus.interval) }
      else t := by
  induction l generalizing t with
  | nil => simp [driveCauses]
  | cons c rest ih =>
    have hrest : ∀ c ∈ rest, attnUrgent c = false := fun d hd => hroutine d (List.mem_cons_of_mem _ hd)
    by_cases hbit : bits.getLsbD (attnBit c) = true
    · have hdriven : driveAttn c t = if t.bus.attn = false ∧ t.bus.holdOff = none then
          { t with bus.attn := true, bus.holdOff := some (t.now + t.bus.interval) } else t := by
        unfold driveAttn
        rw [hroutine c List.mem_cons_self, henabled c hbit]
        cases hattn : t.bus.attn <;> cases hhold : t.bus.holdOff <;> simp
      have hstep : driveCauses bits (c :: rest) t = driveCauses bits rest (driveAttn c t) := by
        simp [driveCauses, hbit]
      rw [hstep, hdriven]
      by_cases hfree : t.bus.attn = false ∧ t.bus.holdOff = none
      · rw [if_pos hfree, ih (t := { t with bus.attn := true, bus.holdOff := some (t.now + t.bus.interval) }) hrest
          henabled]
        simp [hfree, hbit]
      · rw [if_neg hfree, ih hrest henabled, if_neg (fun h => hfree ⟨h.1, h.2.1⟩), if_neg (fun h => hfree ⟨h.1, h.2.1⟩)]
    · have hstep : driveCauses bits (c :: rest) t = driveCauses bits rest t := by simp [driveCauses, hbit]
      rw [hstep, ih hrest henabled]
      simp [hbit]

end

/-- What a write of ATTN_MASK does, with the newly enabled causes of each kind in either order (R195). -/
theorem writeMask_eq (v : Word) (s : State) :
    (let newly := s.bus.latched &&& (v &&& attnValid) &&& ~~~ s.bus.mask
     let urgent := urgentCauses.any fun c => newly.getLsbD (attnBit c)
     let routine := routineCauses.any fun c => newly.getLsbD (attnBit c)
     ∃ attn holdOff, writeMask v s = { s with
         bus.mask := v &&& attnValid, freeCount := s.freeCount + 1, bus.attn := attn, bus.holdOff := holdOff } ∧
       (attn = true ↔ s.bus.attn = true ∨ urgent = true ∨ (routine = true ∧ s.bus.holdOff = none)) ∧
       (s.bus.attn = true ∨ routine = false ∨ s.bus.holdOff ≠ none → holdOff = s.bus.holdOff) ∧
       (s.bus.attn = false → routine = true → urgent = false → s.bus.holdOff = none →
         holdOff = some (s.now + s.bus.interval))) := by
  have henabled (c : Attn) (hc : (s.bus.latched &&& (v &&& attnValid) &&& ~~~ s.bus.mask).getLsbD (attnBit c) = true) :
      (v &&& attnValid).getLsbD (attnBit c) = true := by
    simp only [BitVec.getLsbD_and, Bool.and_eq_true] at hc ⊢
    exact hc.1.2
  unfold writeMask
  dsimp only
  generalize hnewly : s.bus.latched &&& (v &&& attnValid) &&& ~~~ s.bus.mask = newly at henabled
  have hurgent : ∀ c ∈ urgentCauses, attnUrgent c = true := by decide
  have hroutine : ∀ c ∈ routineCauses, attnUrgent c = false := by decide
  split
  · rw [driveCauses_urgent (t := { s with bus.mask := v &&& attnValid, freeCount := s.freeCount + 1 }) hurgent henabled,
      driveCauses_routine (t := { s with
        bus.mask := v &&& attnValid, freeCount := s.freeCount + 1
        bus.attn := s.bus.attn || urgentCauses.any fun c => newly.getLsbD (attnBit c) }) hroutine henabled]
    split
    · next hdriven =>
      obtain ⟨hattn, hhold, hany⟩ := hdriven
      refine ⟨true, some (s.now + s.bus.interval), rfl, ?_, ?_, ?_⟩
      all_goals simp_all
    · next hdriven =>
      refine ⟨s.bus.attn || urgentCauses.any fun c => newly.getLsbD (attnBit c), s.bus.holdOff, rfl, ?_, ?_, ?_⟩
      all_goals simp only [Bool.or_eq_true, Bool.or_eq_false_iff] at hdriven ⊢
      all_goals grind
  · rw [driveCauses_routine (t := { s with bus.mask := v &&& attnValid, freeCount := s.freeCount + 1 }) hroutine henabled]
    split
    · next hdriven =>
      obtain ⟨hattn, hhold, hany⟩ := hdriven
      rw [driveCauses_urgent (t := { s with
        bus.mask := v &&& attnValid, freeCount := s.freeCount + 1
        bus.attn := true, bus.holdOff := some (s.now + s.bus.interval) }) hurgent henabled]
      refine ⟨true, some (s.now + s.bus.interval), rfl, ?_, ?_, ?_⟩
      all_goals simp_all
    · next hdriven =>
      rw [driveCauses_urgent (t := { s with bus.mask := v &&& attnValid, freeCount := s.freeCount + 1 }) hurgent henabled]
      refine ⟨s.bus.attn || urgentCauses.any fun c => newly.getLsbD (attnBit c), s.bus.holdOff, rfl, ?_, ?_, ?_⟩
      all_goals simp only [Bool.or_eq_true] at hdriven ⊢
      all_goals grind

/-- Settles O15: each order of the two kinds asserts ATTN# alike. -/
theorem attnMaskWriteSetsTheEnables : Obligations.AttnMaskWriteSetsTheEnables := by
  unfold Obligations.AttnMaskWriteSetsTheEnables
  intro v s
  refine ⟨busWrite 0x3FFC v s, rfl, ?_⟩
  have hwrite : busWrite 0x3FFC v s = writeMask v (unheld s) :=
    (busWrite_outside (.inr (by decide))).trans rfl
  obtain ⟨attn, holdOff, hstate, hattn, hkept, hstarted⟩ := writeMask_eq v (unheld s)
  rw [hwrite, hstate]
  have hassoc : s.bus.latched &&& v &&& attnValid &&& ~~~ s.bus.mask =
      s.bus.latched &&& (v &&& attnValid) &&& ~~~ s.bus.mask := by rw [BitVec.and_assoc s.bus.latched]
  dsimp only [unheld] at hattn hkept hstarted ⊢
  rw [hassoc, ne_eq, ne_eq, urgentBits_eq_zero, routineBits_eq_zero]
  simp only [Bool.not_eq_false]
  exact ⟨rfl, trivial, hattn, hkept, hstarted, rfl⟩

/-- The time after `advanceTo` (log entry 2). -/
theorem advanceTo_now (d : Nat) (s : State) : (advanceTo d s).now = max s.now d := by
  unfold advanceTo
  split
  · simp only [mapBanks_now]
    omega
  · omega

theorem exec_holdOff {d : Nat} {s : State} (h : s.bus.holdOff = some d) :
    exec .holdOffTimerExpiry s = .next (holdOffExpired (advanceTo d s)) := by
  change Host.Outcome.next (onExpiry s.bus.holdOff holdOffExpired s) = _
  rw [h]
  rfl

/-- Settles O16, by the branches of driving ATTN# for one cause. -/
theorem latchAndHoldOffDriveTheAttentionLine : Obligations.LatchAndHoldOffDriveTheAttentionLine := by
  unfold Obligations.LatchAndHoldOffDriveTheAttentionLine
  refine ⟨fun c s => ⟨latchedBits_latch c s, exceptAttn_latch c s, fun hstands => ?_, fun hattn hmask => ⟨fun hurgent => ?_,
    fun hroutine hhold => ?_, fun hroutine hhold => ?_⟩⟩, fun d s hhold => ⟨fun hattn hany => ?_, fun hnone => ?_⟩⟩
  · have hnot : (s.bus.mask.getLsbD (attnBit c) && !s.bus.attn) = false := by
      rcases hstands with h | h <;> simp [h]
    simp [latch, driveAttn, hnot]
  · simp [latch, driveAttn, hmask, hattn, hurgent]
  · simp [latch, driveAttn, hmask, hattn, hroutine, hhold]
  · obtain ⟨d, hd⟩ := Option.ne_none_iff_exists'.mp hhold
    simp [latch, driveAttn, hmask, hattn, hroutine, hd]
  · rw [exec_holdOff hhold]
    unfold holdOffExpired
    rw [if_pos (by simpa [attnRoutineBits, hattn] using hany)]
    simp [advanceTo_now]
  · rw [exec_holdOff hhold]
    unfold holdOffExpired
    rw [if_neg]
    rcases hnone with h | h
    · simp [h]
    · simpa [attnRoutineBits] using fun _ => h

/-! ## The header's settings (R184, R188, R192, R193) -/

theorem clampNat_eq (lo hi x : Nat) (h : lo ≤ hi) : clampNat lo hi x = max lo (min hi x) := by
  unfold clampNat
  (repeat' split) <;> omega

/-- A setting shows its clamped value in its word. -/
theorem setting_word {t : State} {b : Nat} {w : Word} (s : State) (h : t.bus.ram = cellsWrite 0 s.bus.ram b w) :
    ramRead t b = w ∧ ramKeptOutside [b] s t := by
  have hread (c : Nat) : ramRead t c = if c = b then w else ramRead s c := by
    rw [← ramRead_ramWrite]
    simp only [ramRead, h, ramWrite]
  refine ⟨by simp [hread], fun c hc => ?_⟩
  rw [hread, if_neg (by simpa using hc)]

theorem busWrite_header {b : Nat} {v : Word} {s : State} (h : b < 0x40) :
    busWrite (BitVec.ofNat 14 b) v s = writeHeader b v (unheld s) := by
  have hb : (BitVec.ofNat 14 b).toNat = b := Nat.mod_eq_of_lt (by omega)
  rw [busWrite_outside (.inl (by omega)), hb]
  exact if_pos h

/-- What latching QUEUE_LOW with a change to low leaves (R34). -/
theorem latchIf_effect (p : Bool) (c : Attn) (s : State) :
    exceptAttn s (latchIf p c s) = s ∧ (if p = true then latchedBits (bitIf true (attnBit c)) s (latchIf p c s)
      else latchIf p c s = s) := by
  unfold latchIf
  cases p
  · exact ⟨rfl, rfl⟩
  · exact ⟨exceptAttn_latch c s, latchedBits_latch c s⟩

theorem checkCountNode_addr (n : Fin 15) : checkCountNode (checkCountAddr n) = some n := by
  revert n
  decide

/-- A write of the queue mark (R34, R192). -/
theorem writeMark_effect (v : Word) (s : State) :
    (let t := writeMark v (unheld s)
     let n := clampNat 0 48 v.toNat
     let low := queueLowOf s.admission.queue.length n
     t.admission = { s.admission with mark := n, queueLow := low } ∧ ramRead t 0x0022 = w16 n ∧
     ramKeptOutside [0x0022] s t ∧
     (if low = true ∧ s.admission.queueLow = false then latchedBits 0x0200 s t
      else exceptRam s { t with admission := s.admission } = unheld s) ∧
     { exceptAttn s (exceptRam s t) with admission := s.admission } = unheld s) := by
  dsimp only
  generalize hn : clampNat 0 48 v.toNat = n
  generalize hlow : queueLowOf s.admission.queue.length n = low
  have hmark : writeMark v (unheld s) = latchIf (low && !s.admission.queueLow) .queueLow
      { ramWrite 0x0022 (w16 n) { unheld s with admission.mark := n } with admission.queueLow := low } := by
    rw [← hlow, ← hn]
    rfl
  obtain ⟨hexcept, hbits⟩ := latchIf_effect (low && !s.admission.queueLow) .queueLow
    { ramWrite 0x0022 (w16 n) { unheld s with admission.mark := n } with admission.queueLow := low }
  rw [← hmark] at hexcept hbits
  have hadmission : (writeMark v (unheld s)).admission = { s.admission with mark := n, queueLow := low } := by
    rw [hmark]
    simp [unheld]
  obtain ⟨hword, hkept⟩ := setting_word (t := writeMark v (unheld s)) (b := 0x0022) (w := w16 n) s (by
    rw [hmark]
    simp [unheld])
  generalize writeMark v (unheld s) = t at hexcept hbits hadmission hword hkept
  refine ⟨hadmission, hword, hkept, ?_, ?_⟩
  · split
    · next hset =>
      rw [if_pos (by simp [hset])] at hbits
      exact hbits
    · next hset =>
      rw [if_neg (by simpa using hset)] at hbits
      rw [hbits]
      rfl
  · exact congrArg (fun x => { exceptRam s x with admission := s.admission }) hexcept

theorem busWrite_checkCount (n : Fin 15) (v : Word) (s : State) :
    busWrite (BitVec.ofNat 14 (checkCountAddr n)) v s = putNode n { s.link.nodes[n] with check := 0 } (unheld s) := by
  have hlo : 0x10C2 ≤ checkCountAddr n ∧ checkCountAddr n < 0x10EF := by
    unfold checkCountAddr
    omega
  have haddr : (BitVec.ofNat 14 (checkCountAddr n)).toNat = checkCountAddr n := Nat.mod_eq_of_lt (by omega)
  rw [busWrite_outside (.inr (by omega)), haddr]
  unfold routeWrite writeLivePage
  rw [if_neg (by omega), if_neg (by omega), if_neg (by omega), if_pos (by omega), checkCountNode_addr]
  rfl

/-- Settles O17: each word's write, past the hold, by the branch of its address. -/
theorem headerWritesActByTheirWords : Obligations.HeaderWritesActByTheirWords := by
  unfold Obligations.HeaderWritesActByTheirWords
  refine ⟨fun v s => ⟨_, rfl, ?_⟩, fun v s => ⟨_, rfl, ?_⟩, fun v s => ⟨_, rfl, ?_⟩, fun v s => ?_, fun n v s => ⟨_, rfl, ?_⟩,
    fun a v s ha => ?_⟩
  · have hwrite : busWrite 0x0021 v s = writeInterval v (unheld s) := busWrite_header (b := 0x21) (by decide)
    rw [hwrite, ← clampNat_eq 100 5000 _ (by decide)]
    obtain ⟨hword, hrest⟩ := setting_word (t := writeInterval v (unheld s)) s rfl
    exact ⟨rfl, hword, hrest, rfl⟩
  · have hwrite : busWrite 0x0022 v s = writeMark v (unheld s) := busWrite_header (b := 0x22) (by decide)
    have hclamp : clampNat 0 48 v.toNat = min 48 v.toNat := (clampNat_eq 0 48 _ (by decide)).trans (Nat.zero_max _)
    rw [hwrite]
    dsimp only
    rw [← hclamp]
    have hlow : decide (clampNat 0 48 v.toNat ≠ 0 ∧ s.admission.queue.length < clampNat 0 48 v.toNat) =
        queueLowOf s.admission.queue.length (clampNat 0 48 v.toNat) := Bool.decide_and _ _
    rw [hlow]
    exact writeMark_effect v s
  · have hwrite : busWrite 0x0023 v s = writeTimeout v (unheld s) := busWrite_header (b := 0x23) (by decide)
    have hclamp : clampNat 0 60 v.toNat = min 60 v.toNat := (clampNat_eq 0 60 _ (by decide)).trans (Nat.zero_max _)
    rw [hwrite]
    dsimp only
    rw [← hclamp]
    obtain ⟨hword, hrest⟩ := setting_word (t := writeTimeout v (unheld s)) s rfl
    exact ⟨rfl, rfl, hword, hrest, rfl⟩
  · exact congrArg Host.Outcome.next (busWrite_header (b := 0x0C) (by decide))
  · have hwrite : busWrite (BitVec.ofNat 14 (checkCountAddr n)) v s =
        putNode n { s.link.nodes[n] with check := 0 } (unheld s) := busWrite_checkCount n v s
    rw [hwrite]
    refine ⟨by simp, fun m hm => ?_, rfl⟩
    rw [nodes_putNode, if_neg hm]
    rfl
  · have hreg : a.toNat = 0x3FF8 ∨ a.toNat = 0x3FFA ∨ a.toNat = 0x3FFB := by
      simpa [Instr.wellFormed, ignoredRegister, or_assoc] using ha
    change Host.Outcome.next (busWrite a v s) = _
    rw [busWrite_outside (.inr (by omega))]
    rcases hreg with e | e | e
    all_goals rw [e]; rfl

end Sys2Proof.Machine

/-! PROOFS. The machine's queue and time, the heartbeat and the timers that always run, the solvent load entry. -/

namespace Sys2Proof.Machine

/-! ## The queue and time -/

/-- Settles O1: by the definition of a step. -/
theorem stepRunsFrontCommand : Obligations.StepRunsFrontCommand := by
  intro c rest s hqueue
  simp only [step, hqueue]

/-- The on-time remainder of a bank when time passes (R85). -/
theorem advanceTo_onRem (d : Nat) (s : State) (k : Bank) : ((advanceTo d s).banks.get k).onRem =
    (s.banks.get k).onRem + if 0 < (s.banks.get k).duty then d - s.now else 0 := by
  unfold advanceTo
  split
  · rw [mapBanks_banks, PerBank.get_mapAll]
    unfold runOnTime
    split <;> simp
  · next hpast =>
    have hzero : d - s.now = 0 := by omega
    simp [hzero]

/-- The time changes nothing but itself and the on-time remainders (log entry 2). -/
theorem exceptTime_advanceTo (d : Nat) (s : State) : exceptTime s (advanceTo d s) = s := by
  have hbank (n : Nat) (b : BankUnit) : { runOnTime n b with onRem := b.onRem } = b := by
    unfold runOnTime
    split <;> rfl
  unfold advanceTo exceptTime
  split
  · simp only [mapBanks, PerBank.mapAll, hbank]
  · rfl

/-- Settles O2: a step of time is `advanceTo` by one millisecond. -/
theorem emptyQueueStepLetsTimePass : Obligations.EmptyQueueStepLetsTimePass := by
  unfold Obligations.EmptyQueueStepLetsTimePass
  refine ⟨fun s hqueue => ⟨advanceTo (s.now + 1) s, ?_, ?_, fun k => ?_, exceptTime_advanceTo _ _⟩,
    fun d s => ⟨advanceTo_now d s, advanceTo_onRem d s, exceptTime_advanceTo d s⟩⟩
  · simp only [step, hqueue]
  · rw [advanceTo_now]
    omega
  · rw [advanceTo_onRem, Nat.add_sub_cancel_left]

/-! ## The heartbeat and the timers that always run -/

/-- A bank that stands as it must is left alone (R69). -/
theorem syncBank_of_follows {f : Bool} {b : BankUnit} (now : Nat) (h : bankFollows f b) : syncBank now f b = b := by
  have hforced := h.1
  unfold syncBank
  cases f
  · rw [if_neg (by simp), if_neg (by simpa using hforced)]
  · rw [if_pos rfl, if_pos (by simpa using hforced)]

/-- A new line state that forces the banks as the old one changes no bank. -/
theorem setLine_of_banksAs {l : LineState} {s : State} (h : banksAs (bankForced { s with supervisor.line := l }) s) :
    setLine l s = { s with supervisor.line := l } := by
  have hbk := syncBank_of_follows s.now (h .bk)
  have hm1 := syncBank_of_follows s.now (h .m1)
  have hm2 := syncBank_of_follows s.now (h .m2)
  have hbanks : s.banks.mapAll (syncBank s.now (bankForced { s with supervisor.line := l })) = s.banks := by
    dsimp only [PerBank.get] at hbk hm1 hm2
    simp only [PerBank.mapAll, hbk, hm1, hm2]
  unfold setLine syncBanks mapBanks
  dsimp only
  rw [hbanks]

/-- Line states that stand, or not, alike force the banks alike (R69). -/
theorem bankForced_setLine_eq {l : LineState} {s : State} (hl : l ≠ .halted ∧ l ≠ .safe)
    (hs : s.supervisor.line ≠ .halted ∧ s.supervisor.line ≠ .safe) :
    bankForced { s with supervisor.line := l } = bankForced s := by
  have hmoves (x : LineState) (h : x ≠ .halted ∧ x ≠ .safe) (t : State) (e : t.supervisor.line = x) :
      lineStands t = false := by
    unfold lineStands
    rw [e]
    cases x <;> simp_all
  simp only [bankForced, hmoves l hl { s with supervisor.line := l } rfl, hmoves _ hs s rfl]

/-- Among the line states that do not force the banks off a change is one of the line state alone. -/
theorem setLine_unforced {l : LineState} {s : State} (hl : l ≠ .halted ∧ l ≠ .safe)
    (hs : s.supervisor.line ≠ .halted ∧ s.supervisor.line ≠ .safe) (hbanks : banksFollow s) :
    setLine l s = { s with supervisor.line := l } :=
  setLine_of_banksAs (by
    rw [bankForced_setLine_eq hl hs]
    exact (banksFollow_iff s).mp hbanks)

/-- Draining with plates on the belt (R25). -/
theorem startDraining_train {s : State} (hline : s.supervisor.line = .running) (hbanks : banksFollow s)
    (htrain : s.tracker.train ≠ []) : startDraining s = { s with supervisor.line := .draining } := by
  unfold startDraining
  rw [setLine_unforced (l := .draining) ⟨nofun, nofun⟩ (by simp [hline]) hbanks]
  unfold idleIfDrained
  exact if_neg fun h => htrain h.2

/-- Draining with an empty belt: IDLE at once, with the epoch ended and the demand 0 (R25, R26). -/
theorem startDraining_empty {s : State} (hline : s.supervisor.line = .running) (hbanks : banksFollow s)
    (htrain : s.tracker.train = []) : startDraining s = { endEpoch s with supervisor.line := .idle } := by
  have hdraining : setLine .draining s = { s with supervisor.line := .draining } :=
    setLine_unforced ⟨nofun, nofun⟩ (by simp [hline]) hbanks
  have hepoch : endEpoch { s with supervisor.line := .draining } =
      { endEpoch s with supervisor.line := .draining } := by
    unfold endEpoch giveDemand
    dsimp only
    split <;> rfl
  unfold startDraining
  rw [hdraining]
  unfold idleIfDrained
  rw [if_pos ⟨rfl, htrain⟩]
  unfold drainedToIdle
  have hfollow : banksFollow (endEpoch { s with supervisor.line := .draining }) := by
    refine (banksFollow_iff _).mpr ?_
    have hforced : bankForced (endEpoch { s with supervisor.line := .draining }) = bankForced s :=
      (bankForced_eq (s := { s with supervisor.line := .draining }) (by simp) (by simp)).trans
        (bankForced_setLine_eq ⟨nofun, nofun⟩ (by simp [hline]))
    rw [hforced]
    exact banksAs_of_eq ((banksFollow_iff s).mp hbanks) (by simp)
  rw [setLine_unforced (l := .idle) ⟨nofun, nofun⟩ (by simp) hfollow, hepoch]

theorem banksFollow_advanceTo {d : Nat} {s : State} (h : banksFollow s) : banksFollow (advanceTo d s) := by
  have hforced : bankForced (advanceTo d s) = bankForced s := bankForced_eq (by simp) (by simp)
  rw [banksFollow_iff, hforced]
  unfold advanceTo
  split
  · refine banksAs_mapBanks (f := bankForced s) (s := { s with now := d }) (fun b hb => ?_) ((banksFollow_iff s).mp h)
    unfold runOnTime
    split <;> exact hb
  · exact (banksFollow_iff s).mp h

theorem exec_heartbeatExpired {d : Nat} {s : State} (h : s.bus.hbTimer = some d) :
    exec .heartbeatTimerExpiry s = .next (heartbeatLapse { advanceTo d s with
      bus.hbTimer := if s.bus.hbTimeout = 0 then none else some (max s.now d + s.bus.hbTimeout * 1000) }) := by
  change Host.Outcome.next (onExpiry s.bus.hbTimer heartbeatExpired s) = _
  rw [h]
  change Host.Outcome.next (heartbeatLapse { advanceTo d s with
    bus.hbTimer := if (advanceTo d s).bus.hbTimeout = 0 then none
      else some ((advanceTo d s).now + (advanceTo d s).bus.hbTimeout * 1000) }) = _
  have htimeout : (advanceTo d s).bus.hbTimeout = s.bus.hbTimeout := by simp
  simp only [advanceTo_now, htimeout]

/-- What latching a cause does to the state: its bit joins the set, the line and the timer are driven. -/
theorem latch_eq (c : Attn) (s : State) : ∃ attn holdOff, latch c s = { s with
    bus.latched := s.bus.latched ||| bitIf true (attnBit c), bus.attn := attn, bus.holdOff := holdOff } := by
  refine ⟨(latch c s).bus.attn, (latch c s).bus.holdOff, ?_⟩
  have hrest := exceptAttn_latch c s
  have hbits : (latch c s).bus.latched = _ := latchedBits_latch c s
  rw [← hbits]
  exact (congrArg (fun t => { t with
    bus.latched := (latch c s).bus.latched, bus.attn := (latch c s).bus.attn
    bus.holdOff := (latch c s).bus.holdOff }) hrest)

/-- The end of an epoch changes the transport and the mark of the epoch (R26, R38). -/
theorem endEpoch_eq (s : State) : endEpoch s = { s with
    transport := (endEpoch s).transport, admission.epochCurrent := false } := by
  unfold endEpoch giveDemand
  dsimp only
  split <;> rfl

/-- A posting count seen (R4). -/
theorem seePostingCount_eq (v : Word) (s : State) : seePostingCount v s = { s with
    intake := if v = s.intake.lastSeen then s.intake
      else if s.intake.sweep = none then { s.intake with lastSeen := v, sweep := some 0 }
      else { s.intake with lastSeen := v, sweepPending := true } } := by
  unfold seePostingCount callSweep
  cases s.intake.sweep <;> dsimp only <;> split <;> rfl

/-- Settles O18: each timer's expiry by its effect, and a lapse by the line state. -/
theorem heartbeatAndTimersAct : Obligations.HeartbeatAndTimersAct := by
  unfold Obligations.HeartbeatAndTimersAct
  refine ⟨fun v s => ?_, fun d s hd => ?_, fun v s => ⟨_, rfl, ?_⟩, fun s => ?_, fun s => ?_⟩
  · exact congrArg Host.Outcome.next (busWrite_outside (a := 0x3FFD) (.inr (by decide)))
  · rw [exec_heartbeatExpired hd]
    generalize hu : { advanceTo d s with
      bus.hbTimer := if s.bus.hbTimeout = 0 then none else some (max s.now d + s.bus.hbTimeout * 1000) } = u
    dsimp only
    have hline : u.supervisor.line = s.supervisor.line := by simp [← hu]
    have htrain : u.tracker.train = s.tracker.train := by simp [← hu]
    have hlatched : u.bus.latched = s.bus.latched := by simp [← hu]
    refine ⟨fun hnot => ?_, fun hrunning hbanks => ⟨latch .hostSilent (startDraining u), ?_, ?_, fun hplates => ?_,
      fun hempty => ?_⟩⟩
    · unfold heartbeatLapse
      rw [hline]
      split
      · next h => exact absurd h hnot
      all_goals rfl
    · unfold heartbeatLapse
      rw [hline, hrunning]
    · have hbits := latchedBits_latch .hostSilent (startDraining u)
      simpa [latchedBits, hlatched, attnBit, bitIf] using hbits
    · have hfollow : banksFollow u := hu ▸ banksFollow_advanceTo hbanks
      rw [startDraining_train (hline.trans hrunning) hfollow (by rwa [htrain])]
      obtain ⟨attn, holdOff, hlatch⟩ := latch_eq .hostSilent { u with supervisor.line := .draining }
      rw [hlatch]
      rfl
    · have hfollow : banksFollow u := hu ▸ banksFollow_advanceTo hbanks
      rw [startDraining_empty (hline.trans hrunning) hfollow (by rwa [htrain])]
      have hdemand : (endEpoch u).transport.demand = 0 := endEpoch_demand u
      obtain ⟨attn, holdOff, hlatch⟩ := latch_eq .hostSilent { endEpoch u with supervisor.line := .idle }
      rw [hlatch, endEpoch_eq]
      refine ⟨rfl, hdemand, rfl, ?_⟩
      change { u with supervisor.line := .running } = u
      rw [← hline.trans hrunning]
  · have hwrite : busWrite 0x0020 v s = seePostingCount v (ramWrite 0x0020 v (unheld s)) :=
      busWrite_header (b := 0x20) (by decide)
    rw [hwrite, seePostingCount_eq]
    obtain ⟨hword, hrest⟩ := setting_word (t := ramWrite 0x0020 v (unheld s)) (b := 0x20) (w := v) s rfl
    exact ⟨hword, hrest, rfl, rfl⟩
  · change Host.Outcome.next (intakeTick s) = _
    unfold intakeTick callSweep
    have hintake : (advanceTo s.intake.timer s).intake = s.intake := by simp
    dsimp only
    rw [hintake]
    cases hsweep : s.intake.sweep <;> rfl
  · rfl

/-! ## The solvent load entry (R119, R121, R122, R128) -/

theorem latchIf_eq (p : Bool) (c : Attn) (s : State) : ∃ attn holdOff, latchIf p c s = { s with
    bus.latched := s.bus.latched ||| bitIf p (attnBit c), bus.attn := attn, bus.holdOff := holdOff } := by
  cases p
  · exact ⟨s.bus.attn, s.bus.holdOff, by simp [latchIf, bitIf]⟩
  · exact latch_eq c s

/-- No order can be issued: the cycle is PENDING (R123). -/
theorem orderOrPend_absent {s : State} (h : canReplenish s = false) :
    orderOrPend s = { s with wash.replenish := .pending } := by
  simp [orderOrPend, h]

/-- An order is issued under the next order number, and SOLVENT latched (R122, R123). -/
theorem orderOrPend_issued {s : State} (h : canReplenish s = true) : ∃ attn holdOff, orderOrPend s = { s with
    link.nodes := (takeOrder .wash s).link.nodes, wash.outstanding := some (nextOrder s .wash)
    wash.portion := s.wash.replPortion, wash.replenish := .ordered
    bus.latched := s.bus.latched ||| bitIf true 12, bus.attn := attn, bus.holdOff := holdOff } := by
  have horder : takeOrder .wash s = { s with link.nodes := (takeOrder .wash s).link.nodes } := by
    unfold takeOrder
    split <;> rfl
  have hstate : orderOrPend s = latch .solvent { s with
      link.nodes := (takeOrder .wash s).link.nodes, wash.outstanding := some (nextOrder s .wash)
      wash.portion := s.wash.replPortion, wash.replenish := .ordered } := by
    unfold orderOrPend
    rw [if_pos h]
    dsimp only
    rw [horder]
  rw [hstate]
  exact latch_eq .solvent _

/-- What a new load does to the cycle: one that waits closes below the stop level, an idle one opens from the
regeneration threshold on, and any other stands (R122). -/
theorem openCycle_closeCycle_cases (s : State) :
    ((s.wash.replenish = .pending ∨ s.wash.replenish = .retryWait) ∧ s.wash.load < s.wash.regen - 2000 ∧
      openCycle (closeCycle s) = { s with wash.replenish := .idle, wash.retry := none }) ∨
    (s.wash.replenish = .idle ∧ s.wash.regen ≤ s.wash.load ∧ openCycle (closeCycle s) = orderOrPend s) ∨
    (¬ ((s.wash.replenish = .pending ∨ s.wash.replenish = .retryWait) ∧ s.wash.load < s.wash.regen - 2000) ∧
      ¬ (s.wash.replenish = .idle ∧ s.wash.regen ≤ s.wash.load) ∧ openCycle (closeCycle s) = s) := by
  unfold closeCycle stopLevel
  by_cases hclose : (s.wash.replenish = .pending ∨ s.wash.replenish = .retryWait) ∧ s.wash.load < s.wash.regen - 2000
  · rw [if_pos hclose]
    exact .inl ⟨hclose.1, hclose.2, if_neg fun h => absurd (show s.wash.regen ≤ s.wash.load from h.2) (by omega)⟩
  · rw [if_neg hclose]
    by_cases hopen : s.wash.replenish = .idle ∧ s.wash.regen ≤ s.wash.load
    · exact .inr (.inl ⟨hopen.1, hopen.2, if_pos hopen⟩)
    · exact .inr (.inr ⟨hclose, hopen, if_neg hopen⟩)

theorem getLsbD_or_bitIf (x : Word) {p : Bool} (h : p = true) : (x ||| bitIf p 12).getLsbD 12 = true := by
  subst h
  rw [BitVec.getLsbD_or, getLsbD_bitIf _ _ (by decide)]
  simp

/-- What a change of the solvent load changes, and where it leaves the cycle (R119, R121, R122). -/
theorem changeLoad_effect (load : Nat) (s : State) :
    ∃ w nodes latched attn holdOff, changeLoad load s = { s with
        wash := w, link.nodes := nodes, bus.latched := latched, bus.attn := attn, bus.holdOff := holdOff } ∧
      w.load = load ∧ w.hold = solventHoldAfter load s.wash.hard s.wash.hold ∧
      (w.hold = true ∧ s.wash.hold = false → latched.getLsbD 12 = true) ∧
      (s.wash.replenish = .pending ∨ s.wash.replenish = .retryWait → load < s.wash.regen - 2000 →
        w.replenish = .idle ∧ w.retry = none) ∧
      (s.wash.replenish = .idle → load < s.wash.regen → w.replenish = .idle) ∧
      (s.wash.replenish = .idle → s.wash.regen ≤ load → canReplenish s = false → w.replenish = .pending) ∧
      (s.wash.replenish = .idle → s.wash.regen ≤ load → canReplenish s = true →
        w.replenish = .ordered ∧ w.outstanding = some (nextOrder s .wash) ∧ w.portion = s.wash.replPortion ∧
          latched.getLsbD 12 = true) ∧
      (s.wash.replenish = .ordered ∨ s.wash.replenish = .active →
        w.replenish = s.wash.replenish ∧ w.outstanding = s.wash.outstanding) := by
  generalize hafter : solventHoldAfter load s.wash.hard s.wash.hold = hold
  obtain ⟨attn, holdOff, hhold⟩ := latchIf_eq (hold && !s.wash.hold) .solvent
    { s with wash.load := load, wash.hold := hold }
  have hevaluated : evalSolventHold { s with wash.load := load } =
      latchIf (hold && !s.wash.hold) .solvent { s with wash.load := load, wash.hold := hold } := by
    unfold evalSolventHold
    dsimp only
    rw [hafter]
  have hload : changeLoad load s = openCycle (closeCycle _) :=
    congrArg (fun t => openCycle (closeCycle t)) (hevaluated.trans hhold)
  have hset (x : Word) (h : hold = true ∧ s.wash.hold = false) :
      (x ||| bitIf (hold && !s.wash.hold) 12).getLsbD 12 = true := getLsbD_or_bitIf x (by simp [h])
  rcases openCycle_closeCycle_cases { s with
      wash.load := load, wash.hold := hold
      bus.latched := s.bus.latched ||| bitIf (hold && !s.wash.hold) 12, bus.attn := attn
      bus.holdOff := holdOff } with ⟨hwaiting, hlow, hclosed⟩ | ⟨hidle, hlevel, hopened⟩ | ⟨hstays, hshut, hsame⟩
  · refine ⟨_, _, _, _, _, hload.trans hclosed, rfl, rfl, hset _, fun _ _ => ⟨rfl, rfl⟩, fun _ _ => rfl, fun hidle => ?_,
      fun hidle => ?_, fun hbusy => ?_⟩
    · rcases hwaiting with h | h <;> exact absurd (hidle.symm.trans h) (by decide)
    · rcases hwaiting with h | h <;> exact absurd (hidle.symm.trans h) (by decide)
    · rcases hwaiting with h | h <;> rcases hbusy with h' | h' <;> exact absurd (h'.symm.trans h) (by decide)
  · have hnotWaiting : ¬ (s.wash.replenish = .pending ∨ s.wash.replenish = .retryWait) := by
      simp [show s.wash.replenish = .idle from hidle]
    have hnotBusy : ¬ (s.wash.replenish = .ordered ∨ s.wash.replenish = .active) := by
      simp [show s.wash.replenish = .idle from hidle]
    cases hcan : canReplenish s
    · exact ⟨_, _, _, _, _, hload.trans (hopened.trans (orderOrPend_absent hcan)), rfl, rfl, hset _, fun h => absurd h hnotWaiting,
        fun _ hbelow => absurd hbelow (Nat.not_lt.mpr hlevel), fun _ _ _ => rfl, nofun, fun h => absurd h hnotBusy⟩
    · obtain ⟨attn', holdOff', hissued⟩ := orderOrPend_issued (s := { s with
        wash.load := load, wash.hold := hold
        bus.latched := s.bus.latched ||| bitIf (hold && !s.wash.hold) 12, bus.attn := attn
        bus.holdOff := holdOff }) hcan
      exact ⟨_, _, _, _, _, hload.trans (hopened.trans hissued), rfl, rfl, fun _ => getLsbD_or_bitIf _ rfl, fun h => absurd h hnotWaiting,
        fun _ hbelow => absurd hbelow (Nat.not_lt.mpr hlevel), nofun,
        fun _ _ _ => ⟨rfl, rfl, rfl, getLsbD_or_bitIf _ rfl⟩, fun h => absurd h hnotBusy⟩
  · exact ⟨_, _, _, _, _, hload.trans hsame, rfl, rfl, hset _, fun hwaits hbelow => absurd ⟨hwaits, hbelow⟩ hstays,
      fun hidle _ => hidle, fun hidle hlevel => absurd ⟨hidle, hlevel⟩ hshut,
      fun hidle hlevel => absurd ⟨hidle, hlevel⟩ hshut, fun _ => ⟨rfl, rfl⟩⟩

/-- Settles O19, by what a change of the load does. -/
theorem solventLoadEntrySetsTheLoad : Obligations.SolventLoadEntrySetsTheLoad := by
  unfold Obligations.SolventLoadEntrySetsTheLoad
  have hwrite (v : Word) (s : State) : exec (.solventLoadEntry v) s = .next (writeLoadEntry v (unheld s)) :=
    congrArg Host.Outcome.next (busWrite_header (b := 0x24) (by decide))
  refine ⟨fun v s hline => ⟨_, hwrite v s, ?_⟩, fun v s hidle hhalted => ⟨_, hwrite v s, ?_⟩⟩
  · have htaken : writeLoadEntry v (unheld s) = changeLoad v.toNat (ramWrite 0x0024 v (unheld s)) := by
      unfold writeLoadEntry
      refine if_pos ?_
      change idleOrHalted s = true
      rcases hline with h | h <;> simp [idleOrHalted, h]
    have hcan : canReplenish (ramWrite 0x0024 v (unheld s)) = isPresent s .wash := by
      change (isPresent s .wash && !isSafe s) = _
      rcases hline with h | h <;> simp [isSafe, h]
    obtain ⟨w, nodes, latched, attn, holdOff, hstate, hload, hhold, hset, hclose, hidle, hpending, hordered, hbusy⟩ :=
      changeLoad_effect v.toNat (ramWrite 0x0024 v (unheld s))
    obtain ⟨hword, hrest⟩ := setting_word (t := ramWrite 0x0024 v (unheld s)) (b := 0x24) (w := v) s rfl
    rw [hcan] at hpending hordered
    rw [htaken, hstate]
    refine ⟨hload, hword, hrest, fun h => ?_, fun h => ?_, fun hlo hhi => ?_, hset, hclose, hidle, hpending, hordered,
      hbusy, rfl⟩
    all_goals
      refine hhold.trans ?_
      change solventHoldAfter v.toNat s.wash.hard s.wash.hold = _
      unfold solventHoldAfter
    · exact if_pos h
    · rw [if_neg (by omega), if_pos h]
    · rw [if_neg (by omega), if_neg (by omega)]
  · have hdiscarded : writeLoadEntry v (unheld s) = countDiscard (unheld s) := by
      unfold writeLoadEntry
      refine if_neg ?_
      change ¬ idleOrHalted s = true
      unfold idleOrHalted
      split <;> simp_all
    rw [hdiscarded]
    exact discarded_countDiscard _

end Sys2Proof.Machine

/-! PROOFS. The line commands (chapter 2): each refused, and START, DRAIN, LINK and the handling commands taken. -/

namespace Sys2Proof.Machine

/-! ## A command is a write of its code -/

theorem exec_lineCommand (code : Word) (s : State) :
    busWrite 0x3FF9 code s = lineCommand code (unheld s) := busWrite_outside (.inr (by decide))

section
variable {s : State}

/-! ## The commands refused -/

theorem cmdStart_refused (hidle : s.supervisor.line ≠ .idle) (hdraining : s.supervisor.line ≠ .draining) :
    cmdStart s = setOutcome .refusedState s := by
  unfold cmdStart
  split <;> first | rfl | contradiction

theorem cmdStart_cover (hidle : s.supervisor.line = .idle) (hcover : s.safety.coverClosed = false) :
    cmdStart s = setOutcome .refusedCover s := by
  simp only [cmdStart, hidle, hcover, if_true]

theorem cmdStart_cal (hidle : s.supervisor.line = .idle) (hcover : s.safety.coverClosed = true)
    (hcal : s.cal.state = .default) : cmdStart s = setOutcome .refusedCal s := by
  simp [cmdStart, hidle, hcover, hcal]

theorem cmdDrain_refused (h : s.supervisor.line ≠ .running) : cmdDrain s = setOutcome .refusedState s := by
  unfold cmdDrain
  split
  · contradiction
  all_goals rfl

theorem cmdHalt_refused (h : s.supervisor.line = .halted ∨ s.supervisor.line = .safe) :
    cmdHalt s = setOutcome .refusedState s := by
  rcases h with h | h <;> simp only [cmdHalt, h]

theorem cmdResume_refused (h : s.supervisor.line ≠ .halted) : cmdResume s = setOutcome .refusedState s := by
  unfold cmdResume
  split
  · contradiction
  all_goals rfl

theorem cmdSafeRelease_refused (h : s.supervisor.line ≠ .safe) : cmdSafeRelease s = setOutcome .refusedState s := by
  unfold cmdSafeRelease
  split
  · contradiction
  all_goals rfl

theorem cmdSafeRelease_estop (h : s.supervisor.line = .safe) (hestop : s.safety.estop = true) :
    cmdSafeRelease s = setOutcome .refusedState s := by
  simp only [cmdSafeRelease, h, hestop, if_true]

theorem cmdSafeRelease_cover (h : s.supervisor.line = .safe) (hestop : s.safety.estop = false)
    (hcover : s.safety.coverClosed = false) : cmdSafeRelease s = setOutcome .refusedCover s := by
  simp [cmdSafeRelease, h, hestop, hcover]

theorem idleOrHalted_iff (s : State) :
    idleOrHalted s = true ↔ s.supervisor.line = .idle ∨ s.supervisor.line = .halted := by
  unfold idleOrHalted
  split <;> simp_all

theorem not_idleOrHalted (hidle : s.supervisor.line ≠ .idle) (hhalted : s.supervisor.line ≠ .halted) :
    ¬ idleOrHalted s = true := fun h => ((idleOrHalted_iff s).mp h).elim hidle hhalted

theorem cmdShuttleReset_refused (h : s.shuttle.state ≠ .faulted ∨ s.supervisor.line = .safe) :
    cmdShuttleReset s = setOutcome .refusedState s := by
  refine if_neg fun hboth => ?_
  rcases h with h | h
  · exact h hboth.1
  · simp [isSafe, h] at hboth

theorem cmdChamberReset_refused (h : s.chamber.state ≠ .faulted) :
    cmdChamberReset s = setOutcome .refusedState s := if_neg h

/-- A code that names no command gives UNKNOWN (R23). -/
theorem lineCommand_unknown {code : Word} (h : code.toNat = 0 ∨ 11 < code.toNat) :
    lineCommand code s = setOutcome .unknown s := by
  unfold lineCommand
  split <;> first | omega | rfl

/-- Settles O25: the condition of each refusal. -/
theorem refusedLineCommandsChangeOnlyTheOutcome : Obligations.RefusedLineCommandsChangeOnlyTheOutcome := by
  unfold Obligations.RefusedLineCommandsChangeOnlyTheOutcome
  intro s
  have hexec {c : Instr} {code : Word} {o : CmdOutcome} (hc : exec c s = .next (busWrite 0x3FF9 code s))
      (h : lineCommand code (unheld s) = setOutcome o (unheld s)) :
      exec c s = .next { unheld s with supervisor.outcome := o } := by
    rw [hc, exec_lineCommand, h]
    rfl
  refine ⟨fun hidle hdraining => hexec (code := 1) rfl (cmdStart_refused hidle hdraining),
    fun hidle hcover => hexec (code := 1) rfl (cmdStart_cover hidle hcover),
    fun hidle hcover hcal => hexec (code := 1) rfl (cmdStart_cal hidle hcover hcal),
    fun h => hexec (code := 2) rfl (cmdDrain_refused h), fun h => hexec (code := 3) rfl (cmdHalt_refused h),
    fun h => hexec (code := 4) rfl (cmdResume_refused h), fun h => hexec (code := 5) rfl (cmdSafeRelease_refused h),
    fun h hestop => hexec (code := 5) rfl (cmdSafeRelease_estop h hestop),
    fun h hestop hcover => hexec (code := 5) rfl (cmdSafeRelease_cover h hestop hcover),
    fun hidle hhalted => ⟨hexec (code := 6) rfl (if_neg (not_idleOrHalted hidle hhalted)),
      hexec (code := 7) rfl (if_neg (not_idleOrHalted hidle hhalted))⟩,
    fun h => hexec (code := 9) rfl (cmdShuttleReset_refused h), fun h => hexec (code := 11) rfl (cmdChamberReset_refused h),
    fun code hcode => hexec (code := code) rfl (lineCommand_unknown ?_)⟩
  simpa [Instr.wellFormed] using hcode

end

/-! ## The handling tests and the orders they issue -/

/-- The tests have nothing to do: the shuttle is not READY, a DARK chamber has no eligible plate, and none is LOADING. -/
theorem handlingTests_idle {s : State} (hshuttle : s.shuttle.state ≠ .ready) (hloading : s.chamber.state ≠ .loading)
    (hdark : s.chamber.state = .dark → loadCandidate s none = none) : handlingTests s = s := by
  have hask : withdrawSecondAsk s = s := by
    unfold withdrawSecondAsk
    split
    · contradiction
    · rfl
  have hlight : lightTubes s = s := if_neg fun h => by simp [hdark h.1] at h
  unfold handlingTests
  rw [hask, hlight, grant_of_not_ready s hshuttle]

/-- The records of the nodes, but for the last order issued. -/
def nodesView (s : State) (n : Fin 15) : NodeRec := { s.link.nodes[n] with issued := none }

theorem nodesView_of_link {s t : State} (h : t.link = s.link) : nodesView t = nodesView s := by
  unfold nodesView
  rw [h]

@[simp] theorem nodesView_takeOrder (st : Station) (s : State) : nodesView (takeOrder st s) = nodesView s := by
  unfold takeOrder
  split
  · rfl
  · next n _ =>
    funext m
    unfold nodesView
    rw [nodes_putNode]
    split
    · next h =>
      subst h
      rfl
    · rfl

theorem nodesView_board (kind : MoveKind) (p : PlateId) (src dst : Place) (spoiled : Bool) (s : State) :
    nodesView (board kind p src dst spoiled s) = nodesView s := by
  have hstage : (setStage p .inShuttle s).link = s.link := by simp
  exact (nodesView_takeOrder .shuttle _).trans (nodesView_of_link hstage)

@[simp] theorem nodesView_grant (s : State) : nodesView (grant s) = nodesView s := by
  refine grant_keeps nodesView s (fun p rest dm => ?_) (fun p pos sp => ?_) fun pos p r d m => ?_
  · exact nodesView_board ..
  · exact nodesView_board ..
  · exact (nodesView_board ..).trans (nodesView_of_link (by simp))

@[simp] theorem nodesView_lightTubes (s : State) : nodesView (lightTubes s) = nodesView s := by
  unfold lightTubes
  split
  · exact nodesView_takeOrder .finisher s
  · rfl

@[simp] theorem nodesView_handlingTests (s : State) : nodesView (handlingTests s) = nodesView s := by
  unfold handlingTests
  rw [nodesView_grant, nodesView_lightTubes]
  exact nodesView_of_link (by simp)

/-- At the start of a pass every node gets the record of its assignment (R172). -/
theorem nodesView_takeAssignment (s : State) (n : Fin 15) : nodesView (takeAssignment s) n =
    { (reassigned (assignedStation s.link.lastNode s.link.assign n) s.link.nodes[n]) with issued := none } := by
  unfold takeAssignment
  dsimp only
  rw [nodesView_handlingTests]
  have hlink := foldl_keeps (fun t : State => t.link) (fun (u : State) (m : Fin 15) =>
    let r : NodeRec := s.link.nodes[m]
    if r.state = .present ∧ r.station ≠ assignedStation s.link.lastNode s.link.assign m then toldLeft r.station u else u)
    (fun t m => by dsimp only; split <;> simp) nodeIds
    { s with link.nodes := Vector.ofFn fun n : Fin 15 =>
        reassigned (assignedStation s.link.lastNode s.link.assign n) s.link.nodes[n] }
  exact (congrFun (nodesView_of_link hlink) n).trans (by simp [nodesView])

theorem reassigned_station (st : Station) (r : NodeRec) : (reassigned st r).station = st := by
  unfold reassigned
  split
  · assumption
  · split
    · next h => exact h.symm
    · rfl

/-- The stations in force after the start of a pass are the assigned ones (R172). -/
theorem takeAssignment_station (s : State) (n : Fin 15) : (takeAssignment s).link.nodes[n].station =
    assignedStation s.link.lastNode s.link.assign n :=
  (congrArg NodeRec.station (nodesView_takeAssignment s n)).trans (reassigned_station _ _)

/-- The first node visited by a pass, by the assignment alone. -/
theorem nextVisited_takeAssignment {s t : State} (hlast : t.link.lastNode = s.link.lastNode)
    (hassign : t.link.assign = s.link.assign) (k : Nat) :
    nextVisited (takeAssignment t) k = nextVisited (takeAssignment s) k := by
  unfold nextVisited
  simp only [takeAssignment_station, hlast, hassign]

/-- A pass with a node to visit: its first visit is next and its timer runs (R172, R173). -/
theorem startPass_visits {s : State} (h : nextVisited (takeAssignment s) 0 ≠ none) : startPass s =
    { takeAssignment s with link := { (takeAssignment s).link with
        passTimer := some (s.now + 20), further := false, revisit := none, phase := .guard 0 } } := by
  have hnow : (takeAssignment s).now = s.now := by simp
  rw [← hnow]
  exact if_pos (Option.isSome_iff_ne_none.mpr h)

/-- A pass in CONTINUOUS leaves the mode and has its timer run. -/
theorem startPass_continuous {s : State} (h : s.link.mode = .continuous) :
    (startPass s).link.mode = .continuous ∧ (startPass s).link.passTimer = some (s.now + 20) := by
  have hmode : (takeAssignment s).link.mode = .continuous := (by simp : _ = s.link.mode).trans h
  have hnow : (takeAssignment s).now = s.now := by simp
  unfold startPass
  generalize takeAssignment s = t at hmode hnow
  rw [← hnow]
  dsimp only
  split
  · exact ⟨hmode, rfl⟩
  · rw [hmode]
    exact ⟨rfl, rfl⟩

/-! ## START and DRAIN taken -/

theorem exec_of_command {c : Instr} {code : Word} {s : State} (h : exec c s = .next (busWrite 0x3FF9 code s)) :
    exec c s = .next (lineCommand code (unheld s)) := by
  rw [h, exec_lineCommand]

section
variable {s : State}

theorem cmdStart_draining (h : s.supervisor.line = .draining) (hbanks : banksFollow s) :
    cmdStart s = { s with supervisor.line := .running, supervisor.outcome := .accepted } := by
  have hset : setLine .running s = { s with supervisor.line := .running } :=
    setLine_unforced (l := .running) ⟨nofun, nofun⟩ (by simp [h]) hbanks
  simp only [cmdStart, h, hset]
  rfl

theorem cmdStart_idle (h : s.supervisor.line = .idle) (hcover : s.safety.coverClosed = true)
    (hcal : s.cal.state = .valid) (hbanks : banksFollow s) : cmdStart s = setOutcome .accepted
      (linkContinuous { s with supervisor.line := .running, admission.epochCurrent := false }) := by
  have hset : setLine .running { s with admission.epochCurrent := false } =
      { s with supervisor.line := .running, admission.epochCurrent := false } :=
    setLine_unforced (l := .running) (s := { s with admission.epochCurrent := false }) ⟨nofun, nofun⟩ (by simp [h])
      hbanks
  simp [cmdStart, h, hcover, hcal, hset]

theorem cmdDrain_running (h : s.supervisor.line = .running) :
    cmdDrain s = setOutcome .accepted (startDraining s) := by
  simp only [cmdDrain, h]

theorem giveDemand_zero (s : State) (h : s.transport.demand ≠ 0) : giveDemand 0 s = { s with
    transport.demand := 0, transport.beltState := .stopped, transport.speedFlag := false
    transport.settleRun := none, transport.deviationRun := none, transport.stallRun := none } := by
  unfold giveDemand
  rw [if_neg fun e => h e.symm]
  rfl

end

/-- Settles O26: neither forces the banks, so a change of line state changes them not. -/
theorem startAndDrainRunAndEmptyTheLine : Obligations.StartAndDrainRunAndEmptyTheLine := by
  unfold Obligations.StartAndDrainRunAndEmptyTheLine
  have hstart (s : State) : exec .start s = .next (cmdStart (unheld s)) := exec_of_command (code := 1) rfl
  have hdrain (s : State) : exec .drain s = .next (cmdDrain (unheld s)) := exec_of_command (code := 2) rfl
  refine ⟨fun s hbanks => ⟨fun hline => ?_, fun hline hcover hcal => ⟨fun hmode => ?_, fun hmode => ?_, fun hmode => ?_⟩⟩,
    fun s hbanks hline => ⟨fun htrain => ?_, fun htrain hdemand => ?_, fun htrain hdemand => ?_⟩⟩
  · rw [hstart, cmdStart_draining (s := unheld s) hline hbanks]
  · rw [hstart, cmdStart_idle (s := unheld s) hline hcover hcal hbanks]
    unfold linkContinuous
    dsimp only [unheld]
    rw [hmode]
    rfl
  · rw [hstart, cmdStart_idle (s := unheld s) hline hcover hcal hbanks]
    unfold linkContinuous
    dsimp only [unheld]
    rw [hmode]
    rfl
  · rw [hstart, cmdStart_idle (s := unheld s) hline hcover hcal hbanks]
    have hpass : linkContinuous { unheld s with supervisor.line := .running, admission.epochCurrent := false } =
        startPass { unheld s with
          supervisor.line := .running, admission.epochCurrent := false, link.mode := .continuous } := by
      unfold linkContinuous
      dsimp only [unheld]
      rw [hmode]
    rw [hpass]
    obtain ⟨hnew, htimer⟩ := startPass_continuous (s := { unheld s with
      supervisor.line := .running, admission.epochCurrent := false, link.mode := .continuous }) rfl
    refine ⟨_, rfl, ?_, rfl, ?_, hnew, htimer, ?_⟩
    · simp [setOutcome]
    · simp [setOutcome]
    · simp [setOutcome, unheld]
  · rw [hdrain, cmdDrain_running (s := unheld s) hline, startDraining_train (s := unheld s) hline hbanks htrain]
    rfl
  · rw [hdrain, cmdDrain_running (s := unheld s) hline, startDraining_empty (s := unheld s) hline hbanks htrain]
    have hsame : endEpoch (unheld s) = { unheld s with admission.epochCurrent := false } := by
      refine if_pos ?_
      exact hdemand.symm
    rw [hsame]
    rfl
  · rw [hdrain, cmdDrain_running (s := unheld s) hline, startDraining_empty (s := unheld s) hline hbanks htrain]
    have hzero : endEpoch (unheld s) = _ :=
      giveDemand_zero { unheld s with admission.epochCurrent := false } hdemand
    rw [hzero]
    rfl

/-! ## The link and handling commands taken -/

/-- The tests put no entry into the rack. -/
theorem mem_rack_handlingTests {s : State} {e : RackEntry} (h : e ∈ (handlingTests s).drying.rack) :
    e ∈ s.drying.rack := by
  have hunit : (lightTubes (withdrawSecondAsk s)).drying = s.drying := by simp
  unfold handlingTests at h
  generalize lightTubes (withdrawSecondAsk s) = u at h hunit
  rw [← hunit]
  unfold grant at h
  split at h
  · split at h
    · next t ht =>
      obtain ⟨p, rest, dm, rfl, hrack, -⟩ := grantStore_some u t ht
      have hrest : (board .store p .rack (.slot dm.1 dm.2) false { u with drying.rack := rest }).drying.rack = rest := by
        simp
      rw [hrack]
      exact List.mem_cons_of_mem _ (hrest ▸ h)
    · split at h
      · next t ht =>
        obtain ⟨p, pos, sp, rfl, -⟩ := grantUnload_some u t ht
        simpa using h
      · split at h
        · next t ht =>
          obtain ⟨pos, cls, p, r, d, m, rfl, -⟩ := grantLoad_some u t ht
          simpa using h
        · exact h
  · exact h

theorem stray_notMem_clearStrays (s : State) : RackEntry.stray ∉ (clearStrays s).drying.rack := by
  simp [clearStrays]

section
variable {s : State}

theorem cmdLinkSingle_taken (h : s.supervisor.line = .idle ∨ s.supervisor.line = .halted) :
    cmdLinkSingle s = setOutcome .accepted (linkSingle s) := if_pos ((idleOrHalted_iff s).mpr h)

theorem linkSingle_continuous (h : s.link.mode = .continuous) :
    linkSingle s = { s with link.mode := .single, link.further := true } := by
  simp only [linkSingle, h]

theorem linkSingle_single (h : s.link.mode = .single) : linkSingle s = s := by
  simp only [linkSingle, h]

theorem linkSingle_stopped (h : s.link.mode = .stopped) : linkSingle s = startPass { s with link.mode := .single } := by
  simp only [linkSingle, h]

theorem linkContinuous_continuous (h : s.link.mode = .continuous) : linkContinuous s = s := by
  simp only [linkContinuous, h]

theorem linkContinuous_single (h : s.link.mode = .single) :
    linkContinuous s = { s with link.mode := .continuous, link.further := false } := by
  simp only [linkContinuous, h]

theorem linkContinuous_stopped (h : s.link.mode = .stopped) :
    linkContinuous s = startPass { s with link.mode := .continuous } := by
  simp only [linkContinuous, h]

/-- A pass of another mode visits the same nodes. -/
theorem startPass_mode (m : ScanMode) (h : nextVisited (takeAssignment s) 0 ≠ none) :
    (let t := startPass { unheld s with link.mode := m }
     t.supervisor = s.supervisor ∧ t.link.mode = m ∧ t.link.further = false ∧ t.link.phase = .guard 0 ∧
      t.link.passTimer = some (s.now + 20) ∧ t.transport.demand = s.transport.demand) := by
  have hvisited : nextVisited (takeAssignment { unheld s with link.mode := m }) 0 ≠ none := by
    rwa [nextVisited_takeAssignment (s := s) (t := { unheld s with link.mode := m }) rfl rfl]
  dsimp only
  rw [startPass_visits hvisited]
  refine ⟨by simp [unheld], by simp, rfl, rfl, rfl, by simp [unheld]⟩

theorem cmdShuttleReset_taken (h : s.shuttle.state = .faulted) (hline : s.supervisor.line ≠ .safe) :
    cmdShuttleReset s = setOutcome .accepted { s with shuttle.resetRequested := true } :=
  if_pos ⟨h, by simp [isSafe, hline]⟩

/-- CHAMBER_RESET taken where the tests that follow have nothing to do (R168). -/
theorem cmdChamberReset_idle {u : State} (h : s.chamber.state = .faulted)
    (hnext : unloadNext { s with chamber.resetAccepted := true } = u) (hshuttle : u.shuttle.state ≠ .ready)
    (hloading : u.chamber.state ≠ .loading) (hdark : u.chamber.state = .dark → loadCandidate u none = none) :
    cmdChamberReset s = setOutcome .accepted u := by
  rw [← handlingTests_idle hshuttle hloading hdark, ← hnext]
  exact if_pos h

/-- A FAULTED chamber without plates and with its reset accepted becomes DARK (R168). -/
theorem unloadNext_reset_dark (h : s.chamber.state = .faulted) (hmove : chamberMove s = false)
    (hempty : batchEmpty s.chamber = true) (hreset : s.chamber.resetAccepted = true) :
    unloadNext s = { s with
      chamber.state := .dark, chamber.batchClass := none, chamber.ask := .none, chamber.resetAccepted := false } := by
  simp [unloadNext, hmove, h, hempty, hreset]

/-- A FAULTED chamber with plates asks for the lowest one that may go (R167, R168). -/
theorem unloadNext_faulted_ask (h : s.chamber.state = .faulted) (hmove : chamberMove s = false)
    (hempty : batchEmpty s.chamber = false) : unloadNext s = { s with
      chamber.ask := unloadAsk (fun m => m == .finished || s.chamber.resetAccepted) s.chamber } := by
  simp [unloadNext, hmove, h, hempty]

end

/-- Settles O30: each command by its mode, unit state and chamber contents. -/
theorem linkAndHandlingCommandsAct : Obligations.LinkAndHandlingCommandsAct := by
  unfold Obligations.LinkAndHandlingCommandsAct
  have hsingle (s : State) : exec .linkSingle s = .next (cmdLinkSingle (unheld s)) := exec_of_command (code := 7) rfl
  have hcontinuous (s : State) : exec .linkContinuous s = .next (setOutcome .accepted (linkContinuous (unheld s))) :=
    exec_of_command (code := 8) rfl
  have hrack (s : State) : exec .rackClear s = .next (setOutcome .accepted (handlingTests (clearStrays (unheld s)))) :=
    exec_of_command (code := 10) rfl
  have hreset (s : State) : exec .chamberReset s = .next (cmdChamberReset (unheld s)) := exec_of_command (code := 11) rfl
  have hunload (s : State) (ask : Ask) (hfault : s.chamber.state = .faulted) (hshuttle : s.shuttle.state ≠ .ready)
      (hmove : chamberMove s = false) (hplates : batchEmpty s.chamber = false)
      (hask : unloadAsk (fun m => m == .finished || true) { s.chamber with resetAccepted := true } = ask) :
      exec .chamberReset s = .next { unheld s with
        supervisor.outcome := .accepted, chamber.resetAccepted := true, chamber.ask := ask } := by
    subst hask
    have hnext := unloadNext_faulted_ask (s := { unheld s with chamber.resetAccepted := true }) hfault hmove hplates
    exact (hreset s).trans (congrArg Host.Outcome.next (cmdChamberReset_idle (s := unheld s) hfault hnext hshuttle
      (fun h => absurd (hfault.symm.trans h) (by decide)) fun h => absurd (hfault.symm.trans h) (by decide)))
  refine ⟨fun s => ⟨fun hline => ⟨fun hmode => ?_, fun hmode => ?_, fun hmode hvisits => ?_⟩, fun hmode => ?_,
    fun hmode => ?_, fun hmode hvisits => ?_⟩, fun s => ⟨fun hfault hline => ?_, fun hshuttle hdark hloading => ?_, ?_,
    fun hfault hshuttle hmove hone htwo hnone => ?_, fun hfault hshuttle hmove => ⟨fun p m hone => ?_,
    fun p m hone htwo => ?_⟩⟩⟩
  · rw [hsingle, cmdLinkSingle_taken (s := unheld s) hline, linkSingle_continuous (s := unheld s) hmode]
    rfl
  · rw [hsingle, cmdLinkSingle_taken (s := unheld s) hline, linkSingle_single (s := unheld s) hmode]
    rfl
  · rw [hsingle, cmdLinkSingle_taken (s := unheld s) hline, linkSingle_stopped (s := unheld s) hmode]
    obtain ⟨hsupervisor, hnew, hfurther, hphase, htimer, hdemand⟩ := startPass_mode .single hvisits
    generalize startPass { unheld s with link.mode := .single } = t at *
    exact ⟨_, rfl, congrArg (fun v => { v with outcome := .accepted }) hsupervisor, hnew, hfurther, hphase, htimer, hdemand⟩
  · rw [hcontinuous, linkContinuous_continuous (s := unheld s) hmode]
    rfl
  · rw [hcontinuous, linkContinuous_single (s := unheld s) hmode]
    rfl
  · rw [hcontinuous, linkContinuous_stopped (s := unheld s) hmode]
    obtain ⟨hsupervisor, hnew, hfurther, hphase, htimer, hdemand⟩ := startPass_mode .continuous hvisits
    generalize startPass { unheld s with link.mode := .continuous } = t at *
    exact ⟨_, rfl, congrArg (fun v => { v with outcome := .accepted }) hsupervisor, hnew, hphase, htimer⟩
  · exact (exec_of_command (code := 9) rfl).trans
      (congrArg Host.Outcome.next (cmdShuttleReset_taken (s := unheld s) hfault hline))
  · rw [hrack, handlingTests_idle (s := clearStrays (unheld s)) hshuttle hloading fun h => absurd h hdark]
    rfl
  · refine ⟨_, hrack s, fun h => stray_notMem_clearStrays _ (mem_rack_handlingTests h), ?_⟩
    simp [setOutcome, clearStrays, unheld]
  · have hnext := unloadNext_reset_dark (s := { unheld s with chamber.resetAccepted := true }) hfault hmove
      (by simp [batchEmpty, unheld, hone, htwo]) rfl
    exact (hreset s).trans (congrArg Host.Outcome.next (cmdChamberReset_idle (s := unheld s) hfault hnext hshuttle
      nofun fun _ => hnone))
  · exact hunload s (.unload p .one (decide (m = .spoiled))) hfault hshuttle hmove (by simp [batchEmpty, hone])
      (by cases m <;> simp [unloadAsk, markedAt, hone, Option.filter])
  · exact hunload s (.unload p .two (decide (m = .spoiled))) hfault hshuttle hmove (by simp [batchEmpty, hone, htwo])
      (by cases m <;> simp [unloadAsk, markedAt, hone, htwo, Option.filter])

end Sys2Proof.Machine

/-! PROOFS. Ticket intake (chapter 1): the visit of a sweep, the refused and the accepted POST, WITHDRAW and RETURN. -/

namespace Sys2Proof.Machine

section
variable {s t : State} {as : List Nat} {i : PlateId}

/-! ## The words of the RAM that an event writes -/

theorem ramKept_refl : ramKeptOutside as s s := fun _ _ => rfl

theorem ramKept_write {a : Nat} {v : Word} (ha : a ∈ as) (h : ramKeptOutside as s t) :
    ramKeptOutside as s (ramWrite a v t) := fun b hb => by
  rw [ramRead_ramWrite, if_neg fun e : b = a => hb (e ▸ ha), h b hb]

theorem ramKept_of_ram {u : State} (e : u.bus.ram = t.bus.ram) (h : ramKeptOutside as s t) : ramKeptOutside as s u :=
  fun b hb => (ramRead_congr e b).trans (h b hb)

/-! ## The visit of a sweep -/

theorem nextSlot_eq (i : PlateId) (s : State) : nextSlot i s = { s with intake := intakeAfterVisit i s.intake } := by
  unfold nextSlot intakeAfterVisit
  (repeat' split) <;> rfl

/-- A visit is to the slot of the sweep, which then goes on. -/
theorem exec_sweepVisit (h : s.intake.sweep = some i) : exec .sweepVisit s =
    .next { visitSlot i s with intake := intakeAfterVisit i (visitSlot i s).intake } := by
  change Host.Outcome.next (sweepStep s) = _
  unfold sweepStep
  simp only [h]
  rw [nextSlot_eq]

/-- A visit with a new request records it as taken and acts on it (R5). -/
theorem visitSlot_new {code sq : Nat} (h : newRequest s i code sq) :
    visitSlot i s = actOnRequest i code (setLastTaken i sq s) := by
  obtain ⟨hcode, hhigh, hlow, hsq⟩ := h
  unfold visitSlot
  dsimp only
  rw [hhigh, hlow, if_neg hcode, if_neg hsq]

theorem newRequest_lt {code sq : Nat} (h : newRequest s i code sq) : sq < 256 := by
  obtain ⟨-, -, hlow, -⟩ := h
  exact hlow ▸ lowByte_lt _

/-- A request out of turn is discarded (R14). -/
theorem actOnRequest_outOfTurn {code : Nat} (h : (code = 1 ∧ slotState s i ≠ .free) ∨
    (code = 2 ∧ slotState s i ≠ .queued ∧ slotState s i ≠ .active) ∨
    (code = 3 ∧ slotState s i ≠ .done ∧ slotState s i ≠ .refused) ∨ 4 ≤ code) :
    actOnRequest i code s = countDiscard s := by
  unfold actOnRequest
  split
  all_goals first | rfl | (exfalso; simp_all)

end

/-- Settles O20: the three ways of a visit that acts on nothing. -/
theorem sweepVisitFindsNoNewRequestOrOneOutOfTurn : Obligations.SweepVisitFindsNoNewRequestOrOneOutOfTurn := by
  unfold Obligations.SweepVisitFindsNoNewRequestOrOneOutOfTurn
  refine ⟨fun s hsweep => ?_, fun i s hsweep hold => ?_, fun i code sq s hsweep hnew hturn => ?_⟩
  · change Host.Outcome.next (sweepStep s) = _
    simp only [sweepStep, hsweep]
  · have hnothing : visitSlot i s = s := by
      unfold visitSlot
      dsimp only [oRequest]
      split
      · rfl
      · next hcode => exact if_pos (hold.resolve_left hcode)
    rw [exec_sweepVisit hsweep, hnothing]
  · have hsq := newRequest_lt hnew
    have hvisit : visitSlot i s = countDiscard (setLastTaken i sq s) := by
      rw [visitSlot_new hnew]
      exact actOnRequest_outOfTurn (by rwa [slotState_setLastTaken _ _ _ _ hsq])
    rw [exec_sweepVisit hsweep, hvisit]
    have hram : (countDiscard (setLastTaken i sq s)).bus.ram = (setLastTaken i sq s).bus.ram := by simp
    have hintake : (countDiscard (setLastTaken i sq s)).intake = s.intake := by simp
    obtain ⟨hcount, hbits, hrest⟩ := discarded_countDiscard (setLastTaken i sq s)
    refine ⟨_, rfl, ?_, ?_, ?_, ⟨hcount, hbits, ?_⟩, ?_⟩
    · refine (lastTaken_congr hram i).trans ?_
      rw [lastTaken_setLastTaken _ _ _ _ hsq, if_pos rfl]
    · exact (slotState_congr hram i).trans (slotState_setLastTaken _ _ _ _ hsq)
    · exact ramKept_of_ram (u := { countDiscard (setLastTaken i sq s) with intake := _ }) hram
        (ramKept_write (t := s) (by simp [oState]) ramKept_refl)
    · exact congrArg (fun v => { exceptRam s v with intake := s.intake }) hrest
    · rw [hintake]

/-! ## Validation (R7) -/

theorem within_iff (lo hi x : Nat) : within lo hi x = true ↔ lo ≤ x ∧ x ≤ hi := by
  simp [within]

theorem recipeUsable_iff (r : RecipeWords) : recipeUsable r = true ↔ r.valid = 1 ∧ 200 ≤ r.speed ∧ r.speed ≤ 3000 ∧
    r.backDose ≤ 60000 ∧ r.mainDose ≤ 60000 ∧ 10 ≤ r.tolerance ∧ r.tolerance ≤ 200 ∧ 10 ≤ r.dryTime ∧ r.dryTime ≤ 600 := by
  simp [recipeUsable, within_iff, and_assoc]

/-- The checks with a VALID calibration, in their order (R7). -/
theorem validate_valid {s : State} (h : s.cal.state = .valid) (t : TicketWords) (r : RecipeWords) : validate s t r =
    if ¬ (t.recipe ≤ 31 ∧ recipeUsable r = true) then some .badRecipe
    else if ¬ (within 200 1500 t.length = true ∧ within 200 1300 t.width = true) then some .badSize
    else if ¬ within 100 4000 t.depth = true then some .badDepth
    else if ¬ within 0 1000 t.coverage = true then some .badCoverage
    else if doseReachable s t r = false then some .doseUnreachable
    else none := by
  unfold validate
  simp only [h, ne_eq, not_true_eq_false, if_false, ← Bool.not_eq_true, Bool.and_eq_true, decide_eq_true_eq]

/-- A refused POST shows the reason, in a REFUSED slot, with SLOT latched (R9). -/
theorem refuseTicket_effect (i : PlateId) (why : Reason) (s : State) :
    (let t := refuseTicket i why s
     slotState t i = .refused ∧ lastTaken t i = lastTaken s i ∧ slotWord t i 33 = w16 (reasonCode why) ∧
     ramKeptOutside [slotBase i + 32, slotBase i + 33] s t ∧ latchedBits 0x0100 s t ∧ t.intake = s.intake ∧
     exceptAttn s (exceptRam s t) = s) := by
  generalize hu : setSlotState i .refused (putSlotNat i oReason (reasonCode why) s) = u
  have hreason : slotWord u i 33 = w16 (reasonCode why) := by
    rw [← hu, slotWord_setSlotState _ _ _ _ _ (by decide), if_neg (by simp)]
    exact (slotWord_putSlot i i oReason oReason _ s (by decide) (by decide)).trans (if_pos ⟨rfl, rfl⟩)
  have hlast : lastTaken u i = lastTaken s i := by
    rw [← hu, lastTaken_setSlotState]
    exact lastTaken_putSlot i i oReason _ s (by decide) (by decide)
  have hstate : slotState u i = .refused := by rw [← hu, slotState_setSlotState, if_pos rfl]
  have hkept : ramKeptOutside [slotBase i + 32, slotBase i + 33] s u := by
    rw [← hu]
    exact ramKept_write (by simp [oState]) (ramKept_write (by simp [oReason]) ramKept_refl)
  have hrest : u = { s with bus.ram := u.bus.ram } := by
    rw [← hu]
    rfl
  obtain ⟨attn, holdOff, hlatch⟩ := latch_eq .slot u
  have hrefused : refuseTicket i why s = _ := (congrArg (latch .slot) hu).trans hlatch
  dsimp only
  rw [hrefused]
  refine ⟨hstate, hlast, hreason, hkept, ?_, ?_, ?_⟩
  · rw [hrest]
    rfl
  · rw [hrest]
  · rw [hrest]
    rfl

theorem newRequest_taken {s : State} {i : PlateId} {code sq : Nat} (h : newRequest s i code sq) :
    lastTaken (setLastTaken i sq s) i = sq ∧ slotState (setLastTaken i sq s) i = slotState s i :=
  have hsq := newRequest_lt h
  ⟨(lastTaken_setLastTaken i i sq s hsq).trans (if_pos rfl), slotState_setLastTaken i i sq s hsq⟩

/-- Recording a request as taken leaves the recipe table and the ticket. -/
theorem snapshot_setLastTaken (i : PlateId) (sq : Nat) (s : State) :
    ticketAt (setLastTaken i sq s) i = ticketAt s i ∧ recipeAt (setLastTaken i sq s) = recipeAt s := by
  have hslot (o : Nat) (ho : o < 32) : slotWord (setLastTaken i sq s) i o = slotWord s i o := by
    refine (slotWord_putSlot i i oState o _ s (by decide) (by omega)).trans (if_neg fun h => ?_)
    have h32 : o = 32 := h.2
    omega
  have hrecipe (n o : Nat) (hn : n ≤ 31) (ho : o < 24) :
      recipeWord (setLastTaken i sq s) n o = recipeWord s n o := by
    unfold recipeWord setLastTaken putSlot
    rw [ramRead_ramWrite, if_neg]
    simp only [slotBase, recipeBase]
    omega
  refine ⟨?_, funext fun n => ?_⟩
  · unfold ticketAt
    simp only [hslot _ (by decide : oRecipe < 32), hslot _ (by decide : oLength < 32), hslot _ (by decide : oWidth < 32),
      hslot _ (by decide : oDepth < 32), hslot _ (by decide : oCoverage < 32), hslot _ (by decide : oTicketFlags < 32)]
  · unfold recipeAt
    split
    · next hn =>
      simp only [hrecipe n 0 hn (by decide), hrecipe n 3 hn (by decide), hrecipe n 4 hn (by decide),
        hrecipe n 5 hn (by decide), hrecipe n 6 hn (by decide), hrecipe n 7 hn (by decide), hrecipe n 8 hn (by decide),
        hrecipe n 9 hn (by decide)]
    · rfl

/-- A new POST in a FREE slot, by its validation (R6 to R10). -/
theorem visitSlot_post {s : State} {i : PlateId} {sq : Nat} (hnew : newRequest s i 1 sq) (hfree : slotState s i = .free) :
    visitSlot i s =
      match validate s (ticketAt s i) (recipeAt s (ticketAt s i).recipe) with
      | some why => refuseTicket i why (setLastTaken i sq s)
      | none => acceptTicket i (ticketAt s i) (recipeAt s (ticketAt s i).recipe) (setLastTaken i sq s) := by
  obtain ⟨hticket, hrecipe⟩ := snapshot_setLastTaken i sq s
  rw [visitSlot_new hnew]
  unfold actOnRequest
  rw [(newRequest_taken hnew).2, hfree]
  dsimp only [postTicket]
  rw [hticket, hrecipe]
  rfl

/-- Settles O21: the checks in their order, and the refusal. -/
theorem validationGivesTheFirstFailingCheck : Obligations.ValidationGivesTheFirstFailingCheck := by
  unfold Obligations.ValidationGivesTheFirstFailingCheck
  refine ⟨fun s t r => ⟨fun h => ?_, fun h => ?_⟩, fun i sq why s hsweep hnew hfree hwhy => ?_⟩
  · unfold validate
    exact if_pos (by simp [h])
  · have hrecipe : (t.recipe ≤ 31 ∧ r.valid = 1 ∧ 200 ≤ r.speed ∧ r.speed ≤ 3000 ∧ r.backDose ≤ 60000 ∧
        r.mainDose ≤ 60000 ∧ 10 ≤ r.tolerance ∧ r.tolerance ≤ 200 ∧ 10 ≤ r.dryTime ∧ r.dryTime ≤ 600) ↔
        t.recipe ≤ 31 ∧ recipeUsable r = true := by rw [recipeUsable_iff]
    have hsize : (200 ≤ t.length ∧ t.length ≤ 1500 ∧ 200 ≤ t.width ∧ t.width ≤ 1300) ↔
        within 200 1500 t.length = true ∧ within 200 1300 t.width = true := by simp only [within_iff, and_assoc]
    have hdepth : (100 ≤ t.depth ∧ t.depth ≤ 4000) ↔ within 100 4000 t.depth = true := (within_iff ..).symm
    have hcoverage : t.coverage ≤ 1000 ↔ within 0 1000 t.coverage = true := by simp [within_iff]
    have hover : 1000 < t.coverage ↔ ¬ within 0 1000 t.coverage = true := by rw [← hcoverage, Nat.not_le]
    dsimp only
    rw [hrecipe, hsize, hdepth, hcoverage, hover, validate_valid h]
    refine ⟨fun h1 => if_pos h1, fun h1 h2 => ?_, fun h1 h2 h3 => ?_, fun h1 h2 h3 h4 => ?_, fun h1 h2 h3 h4 h5 => ?_,
      fun h1 h2 h3 h4 h5 => ?_⟩
    · rw [if_neg (not_not.mpr h1), if_pos h2]
    · rw [if_neg (not_not.mpr h1), if_neg (not_not.mpr h2), if_pos h3]
    · rw [if_neg (not_not.mpr h1), if_neg (not_not.mpr h2), if_neg (not_not.mpr h3), if_pos h4]
    · rw [if_neg (not_not.mpr h1), if_neg (not_not.mpr h2), if_neg (not_not.mpr h3), if_neg (not_not.mpr h4), if_pos h5]
    · rw [if_neg (not_not.mpr h1), if_neg (not_not.mpr h2), if_neg (not_not.mpr h3), if_neg (not_not.mpr h4),
        if_neg (by simp [h5])]
  · obtain ⟨hstate, hlast, hreason, hkept, hbits, hintake, hrest⟩ := refuseTicket_effect i why (setLastTaken i sq s)
    obtain ⟨htaken, -⟩ := newRequest_taken hnew
    rw [exec_sweepVisit hsweep, visitSlot_post hnew hfree, hwhy]
    dsimp only
    generalize refuseTicket i why (setLastTaken i sq s) = u at *
    refine ⟨_, rfl, hstate, hlast.trans htaken, hreason, fun a ha => ?_, hbits, congrArg (intakeAfterVisit i) hintake, ?_⟩
    · exact (hkept a ha).trans (ramKept_write (as := [slotBase i + 32, slotBase i + 33]) (by simp [oState]) ramKept_refl a ha)
    · exact congrArg (fun v => exceptRam s { v with intake := s.intake }) hrest

/-! ## Acceptance (R10, R11, R33, R34) -/

/-- A change of the queue: the queue count and the queue-low state follow (R34). -/
theorem setQueue_eq (q : List PlateId) (s : State) : ∃ attn holdOff, setQueue q s = { s with
    admission.queue := q, admission.queueLow := queueLowOf q.length s.admission.mark
    bus.latched := s.bus.latched ||| bitIf (queueLowOf q.length s.admission.mark && !s.admission.queueLow) 9
    bus.attn := attn, bus.holdOff := holdOff } :=
  latchIf_eq (queueLowOf q.length s.admission.mark && !s.admission.queueLow) .queueLow
    { s with admission.queue := q, admission.queueLow := queueLowOf q.length s.admission.mark }

/-- A RUSH plate goes behind the last RUSH entry of the queue (R33). -/
theorem insertBehindRush_append {s : State} {i : PlateId} {front back : List PlateId}
    (hfront : ∀ p ∈ front, isRush s p = true) (hback : ∀ p ∈ back, isRush s p = false) :
    insertBehindRush s i (front ++ back) = front ++ i :: back := by
  have htake : (front ++ back).takeWhile (isRush s) = front := by
    rw [List.takeWhile_append_of_pos hfront]
    cases back with
    | nil => simp
    | cons p rest => simp [hback p List.mem_cons_self]
  have hdrop : (front ++ back).dropWhile (isRush s) = back := by
    rw [List.dropWhile_append_of_pos hfront]
    cases back with
    | nil => rfl
    | cons p rest => simp [hback p List.mem_cons_self]
  unfold insertBehindRush
  rw [htake, hdrop]

theorem isRush_putPlate_other {s : State} {i p : PlateId} {r : Option Plate} (h : p ≠ i) :
    isRush (putPlate i r s) p = isRush s p := by
  unfold isRush
  rw [plateOf_putPlate, if_neg h]

/-- The words that acceptance writes into the slot (R10, R11). -/
def showAccepted (i : PlateId) (n : Nat) (s : State) : State :=
  showHold i (setSlotState i .queued (putSlotNat i oStage (stageCode .queued) (putSlot32 i oOrder n s)))

theorem showAccepted_ram (i : PlateId) (n : Nat) (s : State) :
    showAccepted i n s = { s with bus.ram := (showAccepted i n s).bus.ram } := rfl

theorem showAccepted_words (i : PlateId) (n : Nat) (s : State) :
    (let u := showAccepted i n s
     slotState u i = .queued ∧ lastTaken u i = lastTaken s i ∧ slotWord u i 35 = 1 ∧
     slotWord u i 34 = w16 (holdCode s.admission.holdReason) ∧ slotWord u i 38 = lowWord n ∧
     slotWord u i 39 = highWord n ∧
     ramKeptOutside [slotBase i + 32, slotBase i + 34, slotBase i + 35, slotBase i + 38, slotBase i + 39] s u) := by
  have hput (o p : Nat) (v : Word) (u : State) (ho : o < 64) (hp : p < 64) :
      slotWord (putSlot i o v u) i p = if p = o then v else slotWord u i p := by
    simpa using slotWord_putSlot i i o p v u ho hp
  have hset (p : Nat) (u : State) (hp : p < 64) (h : p ≠ 32) :
      slotWord (setSlotState i .queued u) i p = slotWord u i p :=
    (slotWord_setSlotState i i .queued p u hp).trans (if_neg fun e => h e.2)
  dsimp only [showAccepted, showHold, putSlotNat, putSlot32, oHold, oStage, oOrder]
  refine ⟨?_, ?_, ?_, ?_, ?_, ?_, ?_⟩
  · rw [slotState_putSlot _ _ _ _ _ (by decide) (by decide), slotState_setSlotState, if_pos rfl]
  · rw [lastTaken_putSlot _ _ _ _ _ (by decide) (by decide), lastTaken_setSlotState,
      lastTaken_putSlot _ _ _ _ _ (by decide) (by decide), lastTaken_putSlot _ _ _ _ _ (by decide) (by decide),
      lastTaken_putSlot _ _ _ _ _ (by decide) (by decide)]
  · rw [hput _ _ _ _ (by decide) (by decide), if_neg (by decide), hset _ _ (by decide) (by decide),
      hput _ _ _ _ (by decide) (by decide), if_pos rfl]
    rfl
  · rw [hput _ _ _ _ (by decide) (by decide), if_pos rfl]
    rfl
  · rw [hput _ _ _ _ (by decide) (by decide), if_neg (by decide), hset _ _ (by decide) (by decide),
      hput _ _ _ _ (by decide) (by decide), if_neg (by decide), hput _ _ _ _ (by decide) (by decide), if_neg (by decide),
      hput _ _ _ _ (by decide) (by decide), if_pos rfl]
  · rw [hput _ _ _ _ (by decide) (by decide), if_neg (by decide), hset _ _ (by decide) (by decide),
      hput _ _ _ _ (by decide) (by decide), if_neg (by decide), hput _ _ _ _ (by decide) (by decide), if_pos rfl]
  · exact ramKept_write (by simp) (ramKept_write (by simp [oState]) (ramKept_write (by simp) (ramKept_write (by simp)
      (ramKept_write (by simp) ramKept_refl))))

/-- Acceptance: its counter, record and queue place, and the words of its slot (R10, R11). -/
theorem acceptTicket_eq (i : PlateId) (t : TicketWords) (r : RecipeWords) (s : State) :
    (let n := next32 s.intake.order
     let v := putPlate i (some (freshPlate t r n)) s
     let q := if t.rush then insertBehindRush v i s.admission.queue else s.admission.queue ++ [i]
     let low := queueLowOf (s.admission.queue.length + 1) s.admission.mark
     ∃ attn holdOff, acceptTicket i t r s = showAccepted i n { v with
         intake.order := n, admission.queue := q, admission.queueLow := low
         bus.latched := s.bus.latched ||| bitIf (low && !s.admission.queueLow) 9, bus.attn := attn
         bus.holdOff := holdOff }) := by
  dsimp only
  generalize hn : next32 s.intake.order = n
  generalize hv : putPlate i (some (freshPlate t r n)) s = v
  generalize hq : (if t.rush then insertBehindRush v i s.admission.queue else s.admission.queue ++ [i]) = q
  have hlength : q.length = s.admission.queue.length + 1 := by
    have hsplit := congrArg List.length (List.takeWhile_append_dropWhile (p := isRush v) (l := s.admission.queue))
    rw [← hq]
    split
    · simp only [insertBehindRush, List.length_append, List.length_cons] at hsplit ⊢
      omega
    · simp
  obtain ⟨attn, holdOff, hqueued⟩ := setQueue_eq q { v with intake.order := n }
  have hrush : isRush { v with intake.order := n } i = t.rush := by
    have hrecord : plateOf { v with intake.order := n } i = some (freshPlate t r n) := by
      have hput := plateOf_putPlate i i (some (freshPlate t r n)) s
      rw [if_pos rfl, hv] at hput
      exact hput
    unfold isRush
    rw [hrecord]
    rfl
  have hjoin : joinQueue i { v with intake.order := n } = setQueue q { v with intake.order := n } := by
    have hadmission : v.admission.queue = s.admission.queue := by rw [← hv]; rfl
    unfold joinQueue
    rw [hrush, ← hq]
    dsimp only
    rw [hadmission]
    rfl
  have haccept : acceptTicket i t r s = showAccepted i n (joinQueue i { v with intake.order := n }) := by
    rw [← hv, ← hn]
    rfl
  refine ⟨attn, holdOff, ?_⟩
  rw [haccept, hjoin, hqueued, hlength, ← hv]
  rfl

/-- Settles O23, by what acceptance does to the state with the request taken. -/
theorem postThatPassesIsAccepted : Obligations.PostThatPassesIsAccepted := by
  unfold Obligations.PostThatPassesIsAccepted
  intro i sq s hsweep hnew hfree hpass hqueue
  obtain ⟨htaken, -⟩ := newRequest_taken hnew
  obtain ⟨attn, holdOff, haccept⟩ := acceptTicket_eq i (ticketAt s i) (recipeAt s (ticketAt s i).recipe) (setLastTaken i sq s)
  rw [exec_sweepVisit hsweep, visitSlot_post hnew hfree, hpass]
  dsimp only
  have hword : ramKeptOutside [slotBase i + 32, slotBase i + 34, slotBase i + 35, slotBase i + 38, slotBase i + 39] s
      (setLastTaken i sq s) := ramKept_write (by simp [oState]) ramKept_refl
  have hrest : setLastTaken i sq s = { s with bus.ram := (setLastTaken i sq s).bus.ram } := rfl
  generalize setLastTaken i sq s = w at *
  generalize w.bus.ram = ram at hrest
  subst hrest
  generalize hr : freshPlate (ticketAt s i) (recipeAt s (ticketAt s i).recipe) ((s.intake.order + 1) % 4294967296) = r
  have hfresh : freshPlate (ticketAt s i) (recipeAt s (ticketAt s i).recipe) (next32 s.intake.order) = r := by
    rw [← hr]
    rfl
  have hrush : (ticketAt s i).rush = r.rush := by rw [← hr]; rfl
  have hdry : r.dryRemaining = r.dryTime * 60000 := by rw [← hr]; rfl
  have hstage : r.stage = .queued := by rw [← hr]; rfl
  have hisRush (p : PlateId) (hp : p ≠ i) : isRush (putPlate i (some r) { s with bus.ram := ram }) p = isRush s p :=
    isRush_putPlate_other hp
  rw [haccept, hfresh, hrush, showAccepted_ram]
  obtain ⟨hstate, hlast, hshown, hhold, hlow, hhigh, hkept⟩ := showAccepted_words i (next32 s.intake.order)
    { putPlate i (some r) { s with bus.ram := ram } with
      intake.order := next32 s.intake.order
      admission.queue :=
        if r.rush = true then insertBehindRush (putPlate i (some r) { s with bus.ram := ram }) i s.admission.queue
        else s.admission.queue ++ [i]
      admission.queueLow := queueLowOf (s.admission.queue.length + 1) s.admission.mark
      bus.latched := s.bus.latched |||
        bitIf (queueLowOf (s.admission.queue.length + 1) s.admission.mark && !s.admission.queueLow) 9
      bus.attn := attn, bus.holdOff := holdOff }
  dsimp only at hstate hlast hshown hhold hlow hhigh hkept
  generalize showAccepted i (next32 s.intake.order) _ = u at *
  refine ⟨_, rfl, rfl, ?_, fun p hp => ?_, hdry, hstage, fun h => if_neg (by simp [h]),
    fun h front back hsplit hfront hback => (if_pos h).trans ?_, (Bool.decide_and _ _).symm, fun h => ?_, hstate,
    hlast.trans htaken, hshown, hhold, hlow, hhigh, fun a ha => (hkept a ha).trans (hword a ha), rfl⟩
  · exact (plateOf_putPlate i i (some r) s).trans (if_pos rfl)
  · exact (plateOf_putPlate i p (some r) s).trans (if_neg hp)
  · have hother (p : PlateId) (hp : p ∈ front ++ back) : p ≠ i := fun e => hqueue (by rw [hsplit]; exact e ▸ hp)
    rw [show ({ s with bus.ram := ram } : State).admission.queue = front ++ back from hsplit]
    exact insertBehindRush_append
      (fun p hp => (hisRush p (hother p (List.mem_append_left _ hp))).trans (hfront p hp))
      (fun p hp => (hisRush p (hother p (List.mem_append_right _ hp))).trans (hback p hp))
  · have hbit : (queueLowOf (s.admission.queue.length + 1) s.admission.mark && !s.admission.queueLow) = false := by
      rw [h, Bool.decide_and]
      unfold queueLowOf
      by_cases hmark : s.admission.mark ≠ 0
      · by_cases hcount : s.admission.queue.length + 1 < s.admission.mark
        · simp [hmark, hcount, Nat.lt_of_succ_lt hcount]
        · simp [hcount]
      · simp [hmark]
    change s.bus.latched ||| bitIf
      (queueLowOf (s.admission.queue.length + 1) s.admission.mark && !s.admission.queueLow) 9 = s.bus.latched
    rw [hbit]
    exact BitVec.or_zero

/-! ## WITHDRAW and RETURN (R12, R13) -/

theorem modPlate_eq (p : PlateId) (f : Plate → Plate) (s : State) :
    modPlate p f s = { s with tracker.plates := (modPlate p f s).tracker.plates } := by
  unfold modPlate
  split <;> rfl

section
variable (i : PlateId) (o : Nat) (v : Word) (s : State)

theorem slotWord_putSlot_here (ho : o < 64) : slotWord (putSlot i o v s) i o = v :=
  (slotWord_putSlot i i o o v s ho ho).trans (if_pos ⟨rfl, rfl⟩)

theorem slotWord_putSlot_else {p : Nat} (ho : o < 64) (hp : p < 64) (h : p ≠ o) :
    slotWord (putSlot i o v s) i p = slotWord s i p :=
  (slotWord_putSlot i i o p v s ho hp).trans (if_neg fun e => h e.2)

theorem slotWord_setSlotState_else {p : Nat} (st : SlotState) (hp : p < 64) (h : p ≠ 32) :
    slotWord (setSlotState i st s) i p = slotWord s i p :=
  (slotWord_setSlotState i i st p s hp).trans (if_neg fun e => h e.2)

end

/-- A QUEUED slot resolved: its words, its record, and nothing else (R10, R12, R20, R21). -/
theorem resolveQueued_effect (i : PlateId) (why : Reason) (s : State) :
    (let t := resolveQueued i why s
     slotState t i = .refused ∧ lastTaken t i = lastTaken s i ∧ slotWord t i 33 = w16 (reasonCode why) ∧
     slotWord t i 34 = 0 ∧ slotWord t i 35 = 9 ∧
     plateOf t i = (plateOf s i).map (fun r => { r with stage := .ended }) ∧
     (∀ p : PlateId, p ≠ i → plateOf t p = plateOf s p) ∧
     ramKeptOutside [slotBase i + 32, slotBase i + 33, slotBase i + 34, slotBase i + 35] s t ∧
     t = { s with bus.ram := t.bus.ram, tracker.plates := t.tracker.plates }) := by
  have hrecord (p : PlateId) : plateOf (resolveQueued i why s) p =
      if p = i then (plateOf s i).map (fun r => { r with stage := .ended }) else plateOf s p := by
    have hmod := plateOf_modPlate i p (fun r => { r with stage := .ended }) s
    rw [← hmod]
    rfl
  have hram : (modPlate i (fun r => { r with stage := .ended }) s).bus.ram = s.bus.ram := by simp
  have hmod := modPlate_eq i (fun r => { r with stage := .ended }) s
  dsimp only
  refine ⟨by rw [slotState_resolveQueued, if_pos rfl], ?_, ?_, ?_, ?_, (hrecord i).trans (if_pos rfl),
    fun p hp => (hrecord p).trans (if_neg hp), ?_, ?_⟩
  all_goals unfold resolveQueued putSlotNat
  all_goals generalize modPlate i (fun r => { r with stage := .ended }) s = u at hram hmod ⊢
  · rw [lastTaken_setSlotState, lastTaken_putSlot _ _ _ _ _ (by decide) (by decide),
      lastTaken_putSlot _ _ _ _ _ (by decide) (by decide), lastTaken_putSlot _ _ _ _ _ (by decide) (by decide)]
    exact lastTaken_congr hram i
  · rw [slotWord_setSlotState_else _ _ _ (by decide) (by decide), slotWord_putSlot_else _ _ _ _ (by decide) (by decide)
      (by decide), slotWord_putSlot_else _ _ _ _ (by decide) (by decide) (by decide)]
    exact slotWord_putSlot_here i 33 _ u (by decide)
  · rw [slotWord_setSlotState_else _ _ _ (by decide) (by decide)]
    exact slotWord_putSlot_here i 34 _ _ (by decide)
  · rw [slotWord_setSlotState_else _ _ _ (by decide) (by decide), slotWord_putSlot_else _ _ _ _ (by decide) (by decide)
      (by decide)]
    exact slotWord_putSlot_here i 35 _ _ (by decide)
  · exact ramKept_write (by simp [oState]) (ramKept_write (by simp [oHold]) (ramKept_write (by simp [oStage])
      (ramKept_write (by simp [oReason]) (ramKept_of_ram hram ramKept_refl))))
  · rw [hmod]
    rfl

/-- An empty queue has the hold reason NONE (R36). -/
theorem holdIfEmpty_eq (s : State) : ∃ reason latched attn holdOff, holdIfEmpty s = { s with
    admission.holdReason := reason, bus.latched := latched, bus.attn := attn, bus.holdOff := holdOff } := by
  unfold holdIfEmpty
  split
  · next hqueue =>
    unfold setHold
    split
    · exact ⟨_, _, _, _, rfl⟩
    · rw [hqueue]
      obtain ⟨attn, holdOff, h⟩ := latch_eq .hold { s with admission.holdReason := .none }
      exact ⟨_, _, _, _, h⟩
  · exact ⟨_, _, _, _, rfl⟩

/-- A queue that loses a plate: the queue-low state and the reason of an empty queue follow (R34, R36). -/
theorem holdIfEmpty_setQueue_eq (q : List PlateId) (s : State) : ∃ low reason latched attn holdOff,
    holdIfEmpty (setQueue q s) = { s with
      admission.queue := q, admission.queueLow := low, admission.holdReason := reason
      bus.latched := latched, bus.attn := attn, bus.holdOff := holdOff } := by
  obtain ⟨attn, holdOff, hqueue⟩ := setQueue_eq q s
  obtain ⟨reason, latched, attn', holdOff', hhold⟩ := holdIfEmpty_eq (setQueue q s)
  rw [hhold, hqueue]
  exact ⟨_, _, _, _, _, rfl⟩

/-- The report words cleared, and no others. -/
theorem slotWord_cleared (i : PlateId) {p : Nat} (hp : p < 64) {l : List Nat} (hl : ∀ o ∈ l, o < 64) (s : State) :
    slotWord (l.foldl (fun t o => putSlot i o 0 t) s) i p = if p ∈ l then 0 else slotWord s i p := by
  induction l generalizing s with
  | nil => simp
  | cons o rest ih =>
    rw [List.foldl_cons, ih fun q hq => hl q (List.mem_cons_of_mem _ hq)]
    by_cases hrest : p ∈ rest
    · simp [hrest]
    · by_cases heq : p = o
      · subst heq
        rw [if_neg hrest, if_pos List.mem_cons_self, slotWord_putSlot_here i p 0 s hp]
      · rw [if_neg hrest, if_neg (by simp [heq, hrest]),
          slotWord_putSlot_else i o 0 s (hl o List.mem_cons_self) hp heq]

theorem ramKept_cleared (i : PlateId) {as : List Nat} {l : List Nat} (hl : ∀ o ∈ l, slotBase i + o ∈ as) (s : State) :
    ramKeptOutside as s (l.foldl (fun t o => putSlot i o 0 t) s) := by
  have hfold (u : State) (hu : ramKeptOutside as s u) : ramKeptOutside as s (l.foldl (fun t o => putSlot i o 0 t) u) := by
    induction l generalizing u with
    | nil => exact hu
    | cons o rest ih =>
      exact ih (fun q hq => hl q (List.mem_cons_of_mem _ hq)) _ (ramKept_write (hl o List.mem_cons_self) hu)
  exact hfold s ramKept_refl

theorem cleared_ram (i : PlateId) (l : List Nat) (s : State) :
    l.foldl (fun t o => putSlot i o 0 t) s = { s with bus.ram := (l.foldl (fun t o => putSlot i o 0 t) s).bus.ram } := by
  induction l generalizing s with
  | nil => rfl
  | cons o rest ih => exact ih (putSlot i o 0 s)

/-- A slot returned: free, its report words 0, its record gone (R13). -/
theorem returnSlot_effect (i : PlateId) (s : State) :
    (let t := returnSlot i s
     slotState t i = .free ∧ lastTaken t i = lastTaken s i ∧ (∀ o, 33 ≤ o → o ≤ 57 → slotWord t i o = 0) ∧
     plateOf t i = none ∧ (∀ p : PlateId, p ≠ i → plateOf t p = plateOf s p) ∧
     ramKeptOutside ((List.range 26).map fun o => slotBase i + 32 + o) s t ∧
     { exceptRam s t with tracker.plates := s.tracker.plates } = s) := by
  have hlt : ∀ o ∈ reportOffsets, o < 64 := by decide
  have hword := slotWord_cleared i (p := 32) (by decide) hlt s
  rw [if_neg (by decide)] at hword
  have hlast : lastTaken (reportOffsets.foldl (fun t o => putSlot i o 0 t) s) i = lastTaken s i := by
    unfold lastTaken oState
    rw [hword]
  have hram := cleared_ram i reportOffsets s
  have hkept : ramKeptOutside ((List.range 26).map fun o => slotBase i + 32 + o) s
      (reportOffsets.foldl (fun t o => putSlot i o 0 t) s) := ramKept_cleared i (fun o ho => by
    simp only [reportOffsets, List.mem_cons, List.not_mem_nil, or_false] at ho
    simp only [List.mem_map, List.mem_range]
    exact ⟨o - 32, by omega, by omega⟩) s
  have hzero (o : Nat) (hlo : 33 ≤ o) (hhi : o ≤ 57) :
      slotWord (reportOffsets.foldl (fun t o => putSlot i o 0 t) s) i o = 0 := by
    refine (slotWord_cleared i (p := o) (by omega) hlt s).trans (if_pos ?_)
    simp only [reportOffsets, List.mem_cons, List.not_mem_nil, or_false]
    omega
  dsimp only
  unfold returnSlot
  generalize reportOffsets.foldl (fun t o => putSlot i o 0 t) s = u at *
  refine ⟨?_, ?_, fun o hlo hhi => ?_, ?_, fun p hp => ?_, ?_, ?_⟩
  · exact (slotState_setSlotState i i .free u).trans (if_pos rfl)
  · exact (lastTaken_setSlotState i i .free u).trans hlast
  · exact (slotWord_setSlotState_else i u .free (by omega) (by omega)).trans (hzero o hlo hhi)
  · rw [plateOf_putPlate, if_pos rfl]
  · rw [plateOf_putPlate, if_neg hp, hram]
    rfl
  · exact ramKept_write (t := u) (by simp [oState]) hkept
  · rw [hram]
    rfl

theorem getLsbD_or_slot (x : Word) : (x ||| bitIf true (attnBit .slot)).getLsbD 8 = true := by
  rw [BitVec.getLsbD_or, getLsbD_bitIf _ _ (by decide)]
  simp [attnBit]

/-- Settles O24: each request in the state of its slot. -/
theorem withdrawAndReturnInTheirSlotStates : Obligations.WithdrawAndReturnInTheirSlotStates := by
  unfold Obligations.WithdrawAndReturnInTheirSlotStates
  have hword (i : PlateId) (sq : Nat) (s : State) {as : List Nat} (h : slotBase i + 32 ∈ as) :
      ramKeptOutside as s (setLastTaken i sq s) := ramKept_write h ramKept_refl
  have hrest (i : PlateId) (sq : Nat) (s : State) :
      setLastTaken i sq s = { s with bus.ram := (setLastTaken i sq s).bus.ram } := rfl
  refine ⟨fun i sq s hsweep hnew hslot => ?_, fun i sq s hsweep hnew hslot => ?_, fun i sq s hsweep hnew hslot => ?_⟩
  · obtain ⟨htaken, hstate⟩ := newRequest_taken hnew
    have hact : visitSlot i s = withdrawTicket i (setLastTaken i sq s) := by
      rw [visitSlot_new hnew]
      unfold actOnRequest
      rw [hstate, hslot]
      rfl
    obtain ⟨low, reason, latched, attn, holdOff, hqueue⟩ :=
      holdIfEmpty_setQueue_eq ((setLastTaken i sq s).admission.queue.erase i) (setLastTaken i sq s)
    obtain ⟨hrefused, hlast, hreason, hhold, hended, hrecord, hothers, hkept, hsame⟩ := resolveQueued_effect i .withdrawn
      (holdIfEmpty (setQueue ((setLastTaken i sq s).admission.queue.erase i) (setLastTaken i sq s)))
    obtain ⟨attn', holdOff', hlatch⟩ := latch_eq .slot (resolveQueued i .withdrawn
      (holdIfEmpty (setQueue ((setLastTaken i sq s).admission.queue.erase i) (setLastTaken i sq s))))
    rw [exec_sweepVisit hsweep, hact]
    unfold withdrawTicket
    rw [hlatch]
    generalize resolveQueued i .withdrawn _ = u at *
    generalize holdIfEmpty _ = v at *
    have hram : v.bus.ram = (setLastTaken i sq s).bus.ram := by rw [hqueue]
    have hplates (p : PlateId) : plateOf v p = plateOf s p := by
      rw [hqueue]
      rfl
    rw [hplates i] at hrecord
    rw [hqueue] at hsame
    refine ⟨_, rfl, ?_, hrefused, hlast.trans ((lastTaken_congr hram i).trans htaken), hreason, hhold, hended, ?_, hrecord,
      fun p hp => (hothers p hp).trans (hplates p), fun a ha => (hkept a ha).trans ((ramRead_congr hram a).trans
      (hword i sq s (by simp) a ha)), ?_, ?_⟩
    · rw [hsame]
      rfl
    · exact getLsbD_or_slot _
    · rw [hsame]
      rfl
    · rw [hsame]
      rfl
  · obtain ⟨htaken, hstate⟩ := newRequest_taken hnew
    have hact : visitSlot i s = withdrawLate i (setLastTaken i sq s) := by
      rw [visitSlot_new hnew]
      unfold actOnRequest
      rw [hstate, hslot]
      rfl
    rw [exec_sweepVisit hsweep, hact]
    have hflags : slotWord (setLastTaken i sq s) i oFlags = slotWord s i oFlags :=
      slotWord_putSlot_else i oState _ s (by decide) (by decide) (by decide)
    have hmod (p : PlateId) := plateOf_modPlate i p (fun r => { r with lateWithdraw := true }) (setLastTaken i sq s)
    have heq := modPlate_eq i (fun r => { r with lateWithdraw := true }) (setLastTaken i sq s)
    have hram : (modPlate i (fun r => { r with lateWithdraw := true }) (setLastTaken i sq s)).bus.ram =
      (setLastTaken i sq s).bus.ram := by simp
    unfold withdrawLate
    rw [hflags]
    generalize modPlate i (fun r => { r with lateWithdraw := true }) (setLastTaken i sq s) = u at *
    refine ⟨_, rfl, ?_, ?_, slotWord_putSlot_here i oFlags _ u (by decide), (hmod i).trans (if_pos rfl), fun p hp =>
      (hmod p).trans (if_neg hp), ramKept_write (t := u) (by simp [oFlags]) (ramKept_of_ram hram (hword i sq s (by simp))), ?_, ?_⟩
    · exact (slotState_putSlot i i oFlags _ u (by decide) (by decide)).trans
        ((slotState_congr hram i).trans (hstate.trans hslot))
    · exact (lastTaken_putSlot i i oFlags _ u (by decide) (by decide)).trans ((lastTaken_congr hram i).trans htaken)
    · rw [heq]
      rfl
    · rw [heq]
      rfl
  · obtain ⟨htaken, hstate⟩ := newRequest_taken hnew
    have hact : visitSlot i s = returnSlot i (setLastTaken i sq s) := by
      rw [visitSlot_new hnew]
      unfold actOnRequest
      rcases hslot with h | h <;> (rw [hstate, h]; rfl)
    obtain ⟨hfree, hlast, hwords, hrecord, hothers, hkept, hsame⟩ := returnSlot_effect i (setLastTaken i sq s)
    rw [exec_sweepVisit hsweep, hact]
    generalize returnSlot i (setLastTaken i sq s) = u at *
    have hintake : u.intake = s.intake := by
      have h := congrArg State.intake hsame
      exact h
    refine ⟨_, rfl, hfree, hlast.trans htaken, hwords, hrecord, hothers, fun a ha => (hkept a ha).trans ?_,
      congrArg (intakeAfterVisit i) hintake, ?_⟩
    · refine hword i sq s ?_ a ha
      simp only [List.mem_map, List.mem_range]
      exact ⟨0, by omega, by omega⟩
    · exact congrArg (fun v => exceptRam s { v with intake := s.intake }) hsame

end Sys2Proof.Machine

/-! PROOFS. The end of a plate (R17, R45, R106), its departure from the train (R46, R118), and the stop of the line
(R28). -/

namespace Sys2Proof.Machine

/-- From `s` to `t` the records and the slot words of the plates that are not in a list stand. -/
def OthersStand (l : List PlateId) (s t : State) : Prop :=
  ∀ q, q ∉ l → plateOf t q = plateOf s q ∧ ∀ o : Fin 64, slotWord t q o.val = slotWord s q o.val

section
variable {s t u : State} {l : List PlateId} {p : PlateId}

theorem OthersStand.refl : OthersStand l s s := fun _ _ => ⟨rfl, fun _ => rfl⟩

theorem OthersStand.trans (h : OthersStand l s t) (h' : OthersStand l t u) : OthersStand l s u := fun q hq =>
  ⟨(h' q hq).1.trans (h q hq).1, fun o => ((h' q hq).2 o).trans ((h q hq).2 o)⟩

theorem OthersStand.mono {m : List PlateId} (h : OthersStand l s t) (hsub : ∀ q ∈ l, q ∈ m) : OthersStand m s t :=
  fun q hq => h q fun hl => hq (hsub q hl)

theorem othersStand_of_eq (h : OthersStand l s t) (hram : u.bus.ram = t.bus.ram)
    (hplates : u.tracker.plates = t.tracker.plates) : OthersStand l s u :=
  h.trans fun q _ => ⟨by simp only [plateOf, hplates], fun o => slotWord_congr hram q o.val⟩

theorem othersStand_putSlot {o : Nat} {v : Word} (hp : p ∈ l) (ho : o < 64) (h : OthersStand l s t) :
    OthersStand l s (putSlot p o v t) := h.trans fun q hq => by
  refine ⟨rfl, fun o' => (slotWord_putSlot p q o o'.val v t ho o'.isLt).trans (if_neg fun e => ?_)⟩
  exact hq (e.1 ▸ hp)

theorem othersStand_putPlate {r : Option Plate} (hp : p ∈ l) (h : OthersStand l s t) :
    OthersStand l s (putPlate p r t) := h.trans fun q hq =>
  ⟨(plateOf_putPlate p q r t).trans (if_neg fun e : q = p => hq (e ▸ hp)), fun _ => rfl⟩

theorem othersStand_modPlate {f : Plate → Plate} (hp : p ∈ l) (h : OthersStand l s t) :
    OthersStand l s (modPlate p f t) := by
  unfold modPlate
  split
  · exact h
  · exact othersStand_putPlate hp h

theorem othersStand_setSlotState {st : SlotState} (hp : p ∈ l) (h : OthersStand l s t) :
    OthersStand l s (setSlotState p st t) := othersStand_putSlot hp (by decide) h

theorem othersStand_latch {c : Attn} (h : OthersStand l s t) : OthersStand l s (latch c t) :=
  othersStand_of_eq h (by simp) (by simp)

/-! ## A station closed INCOMPLETE (R106) -/

/-- A dose record with a station closed INCOMPLETE, if it was open. -/
def closedIncomplete (st : StationKind) (d : DoseRecord) : DoseRecord :=
  if (stationOf d st).isOpen then closedDose d st .incomplete else d

theorem othersStand_showStation {st : StationKind} {v : Verdict} {lo hi : Nat} (hp : p ∈ l) (h : OthersStand l s t) :
    OthersStand l s (showStation p st v lo hi t) := by
  cases st
  all_goals
    exact othersStand_putSlot hp (by decide) (othersStand_putSlot hp (by decide) (othersStand_putSlot hp (by decide) h))

theorem othersStand_closeIncomplete {st : StationKind} (hp : p ∈ l) (h : OthersStand l s t) :
    OthersStand l s (closeIncomplete p st t) := by
  unfold closeIncomplete closeStation
  split
  · exact h
  · split
    · exact othersStand_showStation hp (othersStand_putPlate hp h)
    · exact h

theorem plateOf_showStation (p q : PlateId) (st : StationKind) (v : Verdict) (lo hi : Nat) (s : State) :
    plateOf (showStation p st v lo hi s) q = plateOf s q := by
  cases st <;> rfl

theorem plateOf_closeIncomplete {st : StationKind} {r : Plate} (hr : plateOf s p = some r) :
    plateOf (closeIncomplete p st s) p = some { r with dose := closedIncomplete st r.dose } := by
  unfold closeIncomplete closeStation closedIncomplete
  rw [hr]
  dsimp only
  split
  · rw [plateOf_showStation, plateOf_putPlate, if_pos rfl]
  · exact hr

/-! ## The slot of an ended plate (R17) -/

theorem completeSlot_effect {r : Plate} (d : Disposition) (hr : plateOf s p = some r) :
    (let t := completeSlot p d s
     plateOf t p = some { r with stage := .ended, disposition := some d } ∧ slotState t p = .done ∧
     lastTaken t p = lastTaken s p ∧ slotWord t p 33 = w16 (dispositionCode d) ∧ slotWord t p 35 = 9 ∧
     slotWord t p 56 = lowWord s.supervisor.lineTime ∧ slotWord t p 57 = highWord s.supervisor.lineTime ∧
     t.bus.latched.getLsbD 8 = true ∧ OthersStand [p] s t) := by
  generalize hu : setSlotState p .done (putSlotNat p oReason (dispositionCode d) (putSlot32 p oCompletion
    s.supervisor.lineTime (putSlotNat p oStage (stageCode .ended)
      (modPlate p (fun r => { r with stage := .ended, disposition := some d }) s)))) = u
  have hmod (q : PlateId) : plateOf u q = plateOf (modPlate p (fun r => { r with stage := .ended, disposition := some d }) s) q := by
    rw [← hu]
    rfl
  have hlast : lastTaken u p = lastTaken s p := by
    rw [← hu, lastTaken_setSlotState]
    simp only [putSlotNat, putSlot32]
    rw [lastTaken_putSlot _ _ _ _ _ (by decide) (by decide), lastTaken_putSlot _ _ _ _ _ (by decide) (by decide),
      lastTaken_putSlot _ _ _ _ _ (by decide) (by decide), lastTaken_putSlot _ _ _ _ _ (by decide) (by decide)]
    exact lastTaken_congr (by simp) p
  have hwords : slotWord u p 33 = w16 (dispositionCode d) ∧ slotWord u p 35 = w16 9 ∧
      slotWord u p 56 = lowWord s.supervisor.lineTime ∧ slotWord u p 57 = highWord s.supervisor.lineTime := by
    rw [← hu]
    simp [slotWord_setSlotState, slotWord_putSlot, putSlotNat, putSlot32, oReason, oCompletion, oStage, stageCode]
  obtain ⟨hreason, hstage, hlow, hhigh⟩ := hwords
  have hothers : OthersStand [p] s u := by
    rw [← hu]
    exact othersStand_setSlotState (by simp) (othersStand_putSlot (by simp) (by decide) (othersStand_putSlot (by simp)
      (by decide) (othersStand_putSlot (by simp) (by decide) (othersStand_putSlot (by simp) (by decide)
        (othersStand_modPlate (by simp) .refl)))))
  have hstate : slotState u p = .done := by rw [← hu, slotState_setSlotState, if_pos rfl]
  have hcomplete : completeSlot p d s = latch .slot u := by
    rw [← hu]
    unfold completeSlot
    have htime : (modPlate p (fun r => { r with stage := .ended, disposition := some d }) s).supervisor.lineTime =
      s.supervisor.lineTime := by simp
    rfl
  obtain ⟨attn, holdOff, hlatch⟩ := latch_eq .slot u
  have hstands : OthersStand [p] s (latch .slot u) := othersStand_latch hothers
  rw [hcomplete]
  rw [hlatch] at hstands ⊢
  refine ⟨?_, hstate, hlast, hreason, hstage, hlow, hhigh, getLsbD_or_slot _, hstands⟩
  refine (hmod p).trans ?_
  rw [plateOf_modPlate, if_pos rfl, hr]
  rfl

/-! ## The end of a plate -/

/-- The dose record of an ended plate: the stations still open closed INCOMPLETE (R106). -/
def endedDose (d : DoseRecord) : DoseRecord := closedIncomplete .main (closedIncomplete .back d)

/-- The disposition of an ended plate (R17). -/
def endedAs (spoiled : Bool) (r : Plate) : Disposition :=
  if spoiled then .spoiled else finishedDisposition { r with dose := endedDose r.dose }

theorem endPlate_eq {r : Plate} {b : Bool} (hr : plateOf s p = some r) (hstage : r.stage ≠ .ended) :
    endPlate p b s = completeSlot p (endedAs b r) (closeIncomplete p .main (closeIncomplete p .back s)) := by
  have hclosed := plateOf_closeIncomplete (st := .main) (plateOf_closeIncomplete (st := .back) hr)
  unfold endPlate
  rw [hr]
  dsimp only
  rw [if_neg hstage, hclosed]
  rfl

/-- A plate that has not ended ends: its record, its slot, and nothing of any other plate (R17). -/
theorem endPlate_effect {r : Plate} (b : Bool) (hr : plateOf s p = some r) (hstage : r.stage ≠ .ended) :
    (let t := endPlate p b s
     plateOf t p = some { r with dose := endedDose r.dose, stage := .ended, disposition := some (endedAs b r) } ∧
     slotState t p = .done ∧ lastTaken t p = lastTaken s p ∧
     slotWord t p 33 = w16 (dispositionCode (endedAs b r)) ∧ slotWord t p 35 = 9 ∧
     slotWord t p 56 = lowWord s.supervisor.lineTime ∧ slotWord t p 57 = highWord s.supervisor.lineTime ∧
     t.bus.latched.getLsbD 8 = true ∧ OthersStand [p] s t) := by
  have hclosed := plateOf_closeIncomplete (st := .main) (plateOf_closeIncomplete (st := .back) hr)
  have hrun : SlotRun 33 s.bus.ram (closeIncomplete p .main (closeIncomplete p .back s)).bus.ram :=
    slotRun_closeIncomplete (slotRun_closeIncomplete .refl)
  have htime : (closeIncomplete p .main (closeIncomplete p .back s)).supervisor.lineTime = s.supervisor.lineTime := by
    simp
  have hothers : OthersStand [p] s (closeIncomplete p .main (closeIncomplete p .back s)) :=
    othersStand_closeIncomplete (by simp) (othersStand_closeIncomplete (by simp) .refl)
  obtain ⟨hrecord, hdone, hlast, hreason, hended, hlow, hhigh, hbit, hstands⟩ := completeSlot_effect (endedAs b r) hclosed
  rw [endPlate_eq hr hstage]
  rw [htime] at hlow hhigh
  exact ⟨hrecord, hdone, hlast.trans (hrun.lastTaken p), hreason, hended, hlow, hhigh, hbit, hothers.trans hstands⟩

/-! ## The departure from the train (R46, R118) -/

/-- A plate that has not entered the wash adds nothing (R118). -/
theorem leaveWash_outside {r : Plate} (hr : plateOf s p = some r) (h : r.entryLoad = none) : leaveWash p s = s := by
  unfold leaveWash
  simp only [hr, h]

/-- A plate leaves the wash: its figures, its slot and the load (R118, R119). -/
theorem leaveWash_inside {r : Plate} {e : Nat} (hr : plateOf s p = some r) (h : r.entryLoad = some e) :
    leaveWash p s = changeLoad (satAdd 65535 s.wash.load (loadAdded s r))
      (putSlotNat p oLoadAdded (min 65535 (loadAdded s r)) (putSlotNat p oEntryLoad e
        (putPlate p (some { r with entryLoad := none, washFigures := some (e, loadAdded s r) }) s))) := by
  unfold leaveWash
  simp only [hr, h]

theorem othersStand_changeLoad {x : Nat} (h : OthersStand l s t) : OthersStand l s (changeLoad x t) :=
  othersStand_of_eq h (by simp) (by simp)

theorem othersStand_leaveWash (hp : p ∈ l) (h : OthersStand l s t) : OthersStand l s (leaveWash p t) := by
  unfold leaveWash
  split
  · exact h
  · split
    · exact h
    · exact othersStand_changeLoad (othersStand_putSlot hp (by decide) (othersStand_putSlot hp (by decide)
        (othersStand_putPlate hp h)))

theorem othersStand_departTrain (hp : p ∈ l) (h : OthersStand l s t) : OthersStand l s (departTrain p t) :=
  othersStand_leaveWash hp (othersStand_of_eq h rfl rfl)

/-- A plate that leaves the train keeps its record but for the wash. -/
theorem plateOf_departTrain {r : Plate} (hr : plateOf s p = some r) :
    ∃ e w, plateOf (departTrain p s) p = some { r with entryLoad := e, washFigures := w } := by
  have hr' : plateOf (mapBanks (dropPlate s.now p) { s with tracker.train := s.tracker.train.erase p }) p = some r := hr
  unfold departTrain
  cases hentry : r.entryLoad with
  | none =>
    rw [leaveWash_outside hr' hentry]
    exact ⟨r.entryLoad, r.washFigures, hr'⟩
  | some e =>
    rw [leaveWash_inside hr' hentry]
    have hload (x : Nat) (u : State) : plateOf (changeLoad x u) p = plateOf u p := by
      simp only [plateOf, changeLoad_frame]
    exact ⟨none, _, (hload _ _).trans ((plateOf_putPlate p p _ _).trans (if_pos rfl))⟩

/-- What of a spoiled plate's record and slot is said (R17, R28). -/
def SpoiledAt (r : Plate) (time : Nat) (t : State) (p : PlateId) : Prop :=
  slotState t p = .done ∧ slotWord t p 33 = 18 ∧ slotWord t p 35 = 9 ∧
    slotWord t p 56 = lowWord time ∧ slotWord t p 57 = highWord time ∧
    ∃ q, plateOf t p = some q ∧ q.stage = .ended ∧ q.disposition = some .spoiled ∧ q.dose = endedDose r.dose

theorem spoilFromTrain_effect {r : Plate} (hr : plateOf s p = some r) (hstage : r.stage ≠ .ended) :
    (let t := spoilFromTrain p s
     SpoiledAt r s.supervisor.lineTime t p ∧ t.bus.latched.getLsbD 8 = true ∧ OthersStand [p] s t) := by
  obtain ⟨e, w, hleft⟩ := plateOf_departTrain hr
  have hleft' : plateOf (giveBackPlace (departTrain p s)) p = some { r with entryLoad := e, washFigures := w } := hleft
  have htime : (giveBackPlace (departTrain p s)).supervisor.lineTime = s.supervisor.lineTime := by simp
  have hothers : OthersStand [p] s (giveBackPlace (departTrain p s)) :=
    othersStand_of_eq (othersStand_departTrain (by simp) .refl) rfl rfl
  obtain ⟨hrecord, hdone, -, hreason, hended, hlow, hhigh, hbit, hstands⟩ := endPlate_effect true hleft' hstage
  rw [htime] at hlow hhigh
  exact ⟨⟨hdone, hreason, hended, hlow, hhigh, _, hrecord, rfl, rfl, rfl⟩, hbit, hothers.trans hstands⟩

/-- Plates spoiled one after another: each ends, the others stand. -/
theorem spoil_foldl {l : List PlateId} (hnodup : l.Nodup) (hlive : ∀ p ∈ l, ∃ r, plateOf s p = some r ∧ r.stage ≠ .ended) :
    (let t := l.foldl (fun t p => spoilFromTrain p t) s
     (∀ p ∈ l, ∀ r, plateOf s p = some r → SpoiledAt r s.supervisor.lineTime t p) ∧ OthersStand l s t) := by
  induction l generalizing s with
  | nil => exact ⟨by simp, .refl⟩
  | cons p rest ih =>
    obtain ⟨hout, hrest⟩ := List.nodup_cons.mp hnodup
    obtain ⟨r, hr, hstage⟩ := hlive p List.mem_cons_self
    obtain ⟨hspoiled, -, hstands⟩ := spoilFromTrain_effect hr hstage
    have hkept (q : PlateId) (hq : q ∈ rest) : plateOf (spoilFromTrain p s) q = plateOf s q :=
      (hstands q (by simpa using fun e : q = p => hout (e ▸ hq))).1
    have htime : (spoilFromTrain p s).supervisor.lineTime = s.supervisor.lineTime := by simp
    obtain ⟨hends, hothers⟩ := ih (s := spoilFromTrain p s) hrest fun q hq => by
      rw [hkept q hq]
      exact hlive q (List.mem_cons_of_mem _ hq)
    rw [htime] at hends
    refine ⟨fun q hq x hx => ?_, (hstands.mono (by simp)).trans (hothers.mono fun q hq => List.mem_cons_of_mem _ hq)⟩
    rcases List.mem_cons.mp hq with rfl | hq'
    · obtain rfl := Option.some.inj (hr.symm.trans hx)
      obtain ⟨hdone, hreason, hended, hlow, hhigh, y, hy, hys⟩ := hspoiled
      obtain ⟨hrecord, hwords⟩ := hothers q hout
      refine ⟨?_, ?_, ?_, ?_, ?_, y, hrecord.trans hy, hys⟩
      · unfold slotState
        exact (congrArg (fun v => slotStateOfCode (highByte v)) (hwords ⟨32, by decide⟩)).trans hdone
      · exact (hwords ⟨33, by decide⟩).trans hreason
      · exact (hwords ⟨35, by decide⟩).trans hended
      · exact (hwords ⟨56, by decide⟩).trans hlow
      · exact (hwords ⟨57, by decide⟩).trans hhigh
    · exact hends q hq' x ((hkept q hq').trans hx)

theorem commitments_spoil_foldl (l : List PlateId) (s : State) :
    (l.foldl (fun t p => spoilFromTrain p t) s).admission.commitments = s.admission.commitments - l.length := by
  induction l generalizing s with
  | nil => rfl
  | cons p rest ih =>
    have hone : (spoilFromTrain p s).admission.commitments = s.admission.commitments - 1 := by
      simp [spoilFromTrain, giveBackPlace]
    rw [List.foldl_cons, ih, hone, List.length_cons, Nat.sub_sub, Nat.add_comm]

/-! ## The banks at a stop -/

/-- What may leave a claim set leaves FORCED_OFF as it is. -/
theorem dropPlate_forced (now : Nat) (p : PlateId) (b : BankUnit) :
    (dropPlate now p b).state = .forcedOff ↔ b.state = .forcedOff := by
  unfold dropPlate dropClaim
  dsimp only
  split
  · split
    · unfold emptyClaims
      dsimp only
      split <;> simp_all
    · rfl
  · rfl

theorem forced_departTrain (p : PlateId) (s : State) (k : Bank) :
    ((departTrain p s).banks.get k).state = .forcedOff ↔ (s.banks.get k).state = .forcedOff := by
  have hbanks : (departTrain p s).banks = s.banks.mapAll (dropPlate s.now p) := by simp [departTrain]
  rw [hbanks, PerBank.get_mapAll]
  exact dropPlate_forced _ _ _

theorem forced_spoilFromTrain (p : PlateId) (s : State) (k : Bank) :
    ((spoilFromTrain p s).banks.get k).state = .forcedOff ↔ (s.banks.get k).state = .forcedOff := by
  have hbanks : (spoilFromTrain p s).banks = (departTrain p s).banks := by simp [spoilFromTrain, giveBackPlace]
  rw [hbanks]
  exact forced_departTrain p s k

theorem forced_spoilTrain (s : State) (k : Bank) :
    ((spoilTrain s).banks.get k).state = .forcedOff ↔ (s.banks.get k).state = .forcedOff := by
  have hfold (l : List PlateId) (u : State) : ((l.foldl (fun t p => spoilFromTrain p t) u).banks.get k).state = .forcedOff ↔
      (u.banks.get k).state = .forcedOff := by
    induction l generalizing u with
    | nil => rfl
    | cons p rest ih => exact (ih (spoilFromTrain p u)).trans (forced_spoilFromTrain p u k)
  exact hfold _ s

/-- A bank brought in line with a stop. -/
theorem syncBank_forced (now : Nat) (b : BankUnit) : (syncBank now true b).state = .forcedOff ∧
    (b.state ≠ .forcedOff →
      (syncBank now true b).duty = 0 ∧ (syncBank now true b).pwm = 0 ∧ (syncBank now true b).limited = false) := by
  unfold syncBank
  rw [if_pos rfl]
  split
  · next h => exact ⟨h, fun h' => absurd h h'⟩
  · refine ⟨rfl, fun _ => ⟨?_, rfl, rfl⟩⟩
    unfold forceOff setDuty
    dsimp only

theorem syncBank_of_forced {now : Nat} {b : BankUnit} (h : b.state = .forcedOff) : syncBank now true b = b := by
  unfold syncBank
  rw [if_pos rfl, if_pos h]

/-! ## The stop of the line (R28) -/

theorem bankForced_stopped {l : LineState} (h : l = .halted ∨ l = .safe) (s : State) :
    bankForced { s with supervisor.line := l } = true := by
  rcases h with rfl | rfl <;> simp [bankForced, lineStands]

theorem giveDemand_position (d : Nat) (s : State) : (giveDemand d s).transport.position = s.transport.position := by
  unfold giveDemand
  split <;> rfl

theorem getLsbD_latch (c : Attn) (s : State) : (latch c s).bus.latched.getLsbD (attnBit c) = true := by
  have hbits : (latch c s).bus.latched = _ := latchedBits_latch c s
  have hlt : attnBit c < 16 := by cases c <;> decide
  rw [hbits, BitVec.getLsbD_or, getLsbD_bitIf _ _ hlt]
  simp

theorem latch_supervisor (c : Attn) (s : State) : (latch c s).supervisor = s.supervisor := by simp

theorem spoilTrain_misfeedTimer (s : State) :
    (spoilTrain s).admission.misfeedTimer = s.admission.misfeedTimer :=
  foldl_keeps (fun t : State => t.admission.misfeedTimer) _
    (fun t p => by simp [spoilFromTrain, giveBackPlace]) s.tracker.train s

/-- The stop of the line, and what it leaves (R28, R29). -/
theorem stopLine_effect {cause : HaltCause} {attn : Attn} {line : LineState} (hline : line = .halted ∨ line = .safe)
    (s : State) :
    (let t := stopLine cause attn line s
     t.supervisor = { s.supervisor with line := line, cause := cause } ∧ t.bus.latched.getLsbD (attnBit attn) = true ∧
     t.admission.gateOpen = false ∧ t.admission.misfeedTimer = none ∧ t.tracker.train = [] ∧
     t.admission.commitments = s.admission.commitments - s.tracker.train.length ∧ t.admission.epochCurrent = false ∧
     t.admission.queue = s.admission.queue ∧ t.transport.demand = 0 ∧ t.transport.position = s.transport.position ∧
     (∀ k : Bank, (t.banks.get k).state = .forcedOff ∧ ((s.banks.get k).state ≠ .forcedOff →
       (t.banks.get k).duty = 0 ∧ (t.banks.get k).pwm = 0 ∧ (t.banks.get k).limited = false)) ∧
     t.bus.ram = (spoilTrain (closeGate s)).bus.ram ∧
     t.tracker.plates = (spoilTrain (closeGate s)).tracker.plates) := by
  generalize hu : endEpoch (spoilTrain (closeGate s)) = u
  have hstop : stopLine cause attn line s = setLine line (latch attn { forceBanks u with supervisor.cause := cause }) := by
    rw [← hu]
    rfl
  have hbank (k : Bank) : (setLine line (latch attn { forceBanks u with supervisor.cause := cause })).banks.get k =
      syncBank u.now true (u.banks.get k) := by
    have hforced := bankForced_stopped hline (latch attn { forceBanks u with supervisor.cause := cause })
    have hnow : (latch attn { forceBanks u with supervisor.cause := cause }).now = u.now := by simp [forceBanks]
    have hbanks : (latch attn { forceBanks u with supervisor.cause := cause }).banks =
        u.banks.mapAll (syncBank u.now true) := by simp [forceBanks]
    unfold setLine syncBanks
    dsimp only
    rw [hforced, mapBanks_banks, PerBank.get_mapAll, hbanks, PerBank.get_mapAll]
    exact syncBank_of_forced (syncBank_forced _ _).1
  have hforced (k : Bank) : (u.banks.get k).state = .forcedOff ↔ (s.banks.get k).state = .forcedOff := by
    have hbanks : u.banks = (spoilTrain (closeGate s)).banks := by simp [← hu]
    rw [hbanks, forced_spoilTrain]
    rfl
  dsimp only
  rw [hstop]
  have hsupervisor : u.supervisor = s.supervisor := by simp [← hu, closeGate]
  have hgate : u.admission.gateOpen = false ∧ u.admission.misfeedTimer = none := by
    rw [← hu, endEpoch_eq]
    exact ⟨by simp [closeGate], spoilTrain_misfeedTimer (closeGate s)⟩
  have hbit := getLsbD_latch attn { forceBanks u with supervisor.cause := cause }
  refine ⟨?_, ?_, ?_, ?_, ?_, ?_, ?_, ?_, ?_, ?_, fun k => ?_, ?_, ?_⟩
  · have hforce : (forceBanks u).supervisor = s.supervisor := by simp [forceBanks, hsupervisor]
    have hlatch : (latch attn { forceBanks u with supervisor.cause := cause }).supervisor =
        { (forceBanks u).supervisor with cause := cause } := by rw [latch_supervisor]
    have hcause : (latch attn { forceBanks u with supervisor.cause := cause }).supervisor =
        { s.supervisor with cause := cause } :=
      hlatch.trans (congrArg (fun v : Supervisor => { v with cause := cause }) hforce)
    have hset (w : State) : (setLine line w).supervisor = { w.supervisor with line := line } := rfl
    rw [hset, hcause]
  · simpa using hbit
  · simpa [forceBanks] using hgate.1
  · simpa [forceBanks] using hgate.2
  · simp [forceBanks, ← hu]
  · have hcommitments : u.admission.commitments = (spoilTrain (closeGate s)).admission.commitments := by simp [← hu]
    simp only [setLine_frame, latch_frame, forceBanks_frame]
    exact hcommitments.trans (commitments_spoil_foldl _ _)
  · simp [forceBanks, ← hu]
  · simp [forceBanks, ← hu, closeGate]
  · simp [forceBanks, ← hu]
  · have hposition : u.transport.position = (spoilTrain (closeGate s)).transport.position := by
      rw [← hu]
      exact giveDemand_position 0 _
    have hspoiled : (spoilTrain (closeGate s)).transport = s.transport := by simp [closeGate]
    rw [hspoiled] at hposition
    simpa using hposition
  · rw [hbank k]
    obtain ⟨hstate, hoff⟩ := syncBank_forced u.now (u.banks.get k)
    exact ⟨hstate, fun h => hoff fun h' => h ((hforced k).mp h')⟩
  · simp [forceBanks, ← hu]
  · simp [forceBanks, ← hu]

theorem raiseHalt_moving {cause : HaltCause} (hhalted : s.supervisor.line ≠ .halted) (hsafe : s.supervisor.line ≠ .safe) :
    raiseHalt cause s = stopLine cause .halt .halted s := by
  unfold raiseHalt
  split <;> first | rfl | contradiction

theorem cmdHalt_taken (hhalted : s.supervisor.line ≠ .halted) (hsafe : s.supervisor.line ≠ .safe) :
    cmdHalt s = setOutcome .accepted (stopLine .command .halt .halted s) := by
  rw [← raiseHalt_moving hhalted hsafe]
  unfold cmdHalt
  split <;> first | rfl | contradiction

theorem endedDose_back (d : DoseRecord) (h : d.back.isOpen = true) : (endedDose d).back.verdict = some .incomplete := by
  have hback : (closedIncomplete .back d).back.verdict = some .incomplete := by
    simp [closedIncomplete, stationOf, h, closedDose]
  unfold endedDose
  generalize closedIncomplete .back d = c at hback
  unfold closedIncomplete
  split
  · exact hback
  · exact hback

theorem endedDose_main (d : DoseRecord) (h : d.main.isOpen = true) : (endedDose d).main.verdict = some .incomplete := by
  have hmain : (closedIncomplete .back d).main.isOpen = true := by
    unfold closedIncomplete
    split <;> exact h
  unfold endedDose
  generalize closedIncomplete .back d = c at hmain
  simp [closedIncomplete, stationOf, hmain, closedDose]

end

/-- Settles O27: the stop of the line, with each plate of the train spoiled. -/
theorem haltSpoilsTheTrain : Obligations.HaltSpoilsTheTrain := by
  unfold Obligations.HaltSpoilsTheTrain
  intro s hhalted hsafe hnodup hlive
  have hexec : exec .halt s = .next (setOutcome .accepted (stopLine .command .halt .halted (unheld s))) :=
    (exec_of_command (code := 3) rfl).trans (congrArg Host.Outcome.next (cmdHalt_taken (s := unheld s) hhalted hsafe))
  obtain ⟨hsupervisor, hbit, hgate, htimer, htrain, hcommitments, hepoch, hqueue, hdemand, hposition, hbanks, hram, hplates⟩ :=
    stopLine_effect (cause := .command) (attn := .halt) (.inl rfl) (unheld s)
  obtain ⟨hspoiled, hothers⟩ := spoil_foldl (s := closeGate (unheld s)) (l := s.tracker.train) hnodup hlive
  have hstands : OthersStand s.tracker.train s (stopLine .command .halt .halted (unheld s)) :=
    othersStand_of_eq (hothers : OthersStand s.tracker.train (closeGate (unheld s)) (spoilTrain (closeGate (unheld s))))
      hram hplates
  have hunits : (stopLine .command .halt .halted (unheld s)).drying = s.drying ∧
      (stopLine .command .halt .halted (unheld s)).shuttle = s.shuttle ∧
      (stopLine .command .halt .halted (unheld s)).chamber = s.chamber ∧
      (stopLine .command .halt .halted (unheld s)).intake = s.intake ∧
      (stopLine .command .halt .halted (unheld s)).cal = s.cal ∧
      (stopLine .command .halt .halted (unheld s)).safety = s.safety ∧
      (stopLine .command .halt .halted (unheld s)).now = s.now := by simp [unheld]
  have hends (p : PlateId) (hp : p ∈ s.tracker.train) (r : Plate) (hr : plateOf s p = some r) :
      SpoiledAt r s.supervisor.lineTime (stopLine .command .halt .halted (unheld s)) p := by
    have h : SpoiledAt r s.supervisor.lineTime (spoilTrain (closeGate (unheld s))) p := hspoiled p hp r hr
    simp only [SpoiledAt, slotState, slotWord, plateOf, ramRead, hram, hplates] at h ⊢
    exact h
  generalize stopLine .command .halt .halted (unheld s) = t at *
  have htime : t.supervisor.lineTime = s.supervisor.lineTime := by rw [hsupervisor]; rfl
  refine ⟨_, hexec, congrArg Supervisor.line hsupervisor, congrArg Supervisor.cause hsupervisor, rfl, htime, hbit, hgate, htimer, htrain, hcommitments, hepoch, hqueue, hdemand, hposition,
    hbanks, fun p hp => ?_, hstands, hunits⟩
  obtain ⟨r, hr, -⟩ := hlive p hp
  obtain ⟨hdone, hreason, hended, hlow, hhigh, q, hq, hstage, hspoil, hdose⟩ := hends p hp r hr
  refine ⟨hdone, hreason, hended, hlow, hhigh, q, hq, hstage, hspoil, fun x hx hopen => ?_, fun x hx hopen => ?_⟩
  all_goals
    obtain rfl := Option.some.inj (hr.symm.trans hx)
    rw [hdose]
  · exact endedDose_back _ hopen
  · exact endedDose_main _ hopen

end Sys2Proof.Machine

/-! PROOFS. RESUME and SAFE_RELEASE, and RESET_LINE (R21, R30, R31). -/

namespace Sys2Proof.Machine

section
variable {s t : State}

/-! ## What depends on the node records but not on the orders issued -/

theorem nodeOf_of_view (h : nodesView t = nodesView s) (st : Station) : nodeOf t st = nodeOf s st := by
  have hstation (n : Fin 15) : t.link.nodes[n].station = s.link.nodes[n].station := by
    have e := congrArg NodeRec.station (congrFun h n)
    exact e
  simp only [nodeOf, hstation]

theorem stationState_of_view (h : nodesView t = nodesView s) (st : Station) : stationState t st = stationState s st := by
  have hstate (n : Fin 15) : t.link.nodes[n].state = s.link.nodes[n].state := by
    have e := congrArg NodeRec.state (congrFun h n)
    exact e
  unfold stationState
  rw [nodeOf_of_view h]
  split
  · rfl
  · exact hstate _

theorem isPresent_of_view (h : nodesView t = nodesView s) (st : Station) : isPresent t st = isPresent s st := by
  unfold isPresent
  rw [stationState_of_view h]

@[simp] theorem nodesView_latch (c : Attn) (s : State) : nodesView (latch c s) = nodesView s :=
  nodesView_of_link (by simp)

theorem nodesView_orderOrPend (s : State) : nodesView (orderOrPend s) = nodesView s := by
  unfold orderOrPend
  split
  · dsimp only
    rw [nodesView_latch]
    exact nodesView_takeOrder .wash s
  · rfl

theorem nodesView_orderIfWaiting (s : State) : nodesView (orderIfWaiting s) = nodesView s := by
  unfold orderIfWaiting
  split
  · exact nodesView_orderOrPend _
  · rfl

/-! ## The grant -/

theorem grant_of_store {u : State} (hready : s.shuttle.state = .ready) (h : grantStore s = some u) : grant s = u := by
  simp only [grant, hready, if_true, h]

theorem grant_of_unload {u : State} (hready : s.shuttle.state = .ready) (hstore : grantStore s = none)
    (h : grantUnload s = some u) : grant s = u := by
  simp only [grant, hready, if_true, hstore, h]

theorem grant_of_load {u : State} (hready : s.shuttle.state = .ready) (hstore : grantStore s = none)
    (hunload : grantUnload s = none) (h : grantLoad s = some u) : grant s = u := by
  simp only [grant, hready, if_true, hstore, hunload, h]

theorem grant_of_none (hstore : grantStore s = none) (hunload : grantUnload s = none) (hload : grantLoad s = none) :
    grant s = s := by
  simp only [grant, hstore, hunload, hload, ite_self]

/-- What the grant of a READY shuttle can be (R144). -/
theorem grant_cases (hready : s.shuttle.state = .ready) :
    (grantStore s = some (grant s)) ∨
    (grantStore s = none ∧ grantUnload s = some (grant s)) ∨
    (grantStore s = none ∧ grantUnload s = none ∧ grantLoad s = some (grant s)) ∨
    (grantStore s = none ∧ grantUnload s = none ∧ grantLoad s = none ∧ grant s = s) := by
  cases hstore : grantStore s with
  | some u => exact .inl (by rw [grant_of_store hready hstore])
  | none =>
    cases hunload : grantUnload s with
    | some u => exact .inr (.inl ⟨rfl, by rw [grant_of_unload hready hstore hunload]⟩)
    | none =>
      cases hload : grantLoad s with
      | some u => exact .inr (.inr (.inl ⟨rfl, rfl, by rw [grant_of_load hready hstore hunload hload]⟩))
      | none => exact .inr (.inr (.inr ⟨rfl, rfl, rfl, grant_of_none hstore hunload hload⟩))

/-- A READY shuttle stays READY or goes on a move. -/
theorem grant_shuttle (hready : s.shuttle.state = .ready) :
    (grant s).shuttle.state = .ready ∨ (grant s).shuttle.state = .moving := by
  rcases grant_cases hready with h | ⟨-, h⟩ | ⟨-, -, h⟩ | ⟨-, -, -, h⟩
  · obtain ⟨p, rest, dm, e, -⟩ := grantStore_some s _ h
    exact .inr (by rw [e]; rfl)
  · obtain ⟨p, pos, sp, e, -⟩ := grantUnload_some s _ h
    exact .inr (by rw [e]; rfl)
  · obtain ⟨pos, cls, p, r, d, m, e, -⟩ := grantLoad_some s _ h
    exact .inr (by rw [e]; rfl)
  · exact .inl (by rw [h]; exact hready)

/-- With nothing asked for the grant leaves the chamber. -/
theorem grant_chamber (h : s.chamber.ask = .none) : (grant s).chamber = s.chamber := by
  by_cases hready : s.shuttle.state = .ready
  · rcases grant_cases hready with h' | ⟨-, h'⟩ | ⟨-, -, h'⟩ | ⟨-, -, -, h'⟩
    · obtain ⟨p, rest, dm, e, -⟩ := grantStore_some s _ h'
      rw [e]
      simp
    · simp [grantUnload, h] at h'
    · simp [grantLoad, h] at h'
    · rw [h']
  · rw [grant_of_not_ready s hready]

/-- With no second LOAD asked for and the chamber not DARK the tests are the grant alone. -/
theorem handlingTests_grant (hdark : s.chamber.state ≠ .dark) (hask : ∀ cls, s.chamber.ask ≠ .load .two cls) :
    handlingTests s = grant s := by
  have hwithdraw : withdrawSecondAsk s = s := by
    unfold withdrawSecondAsk
    split
    · next cls _ h => exact absurd h (hask cls)
    · rfl
  have hlight : lightTubes s = s := if_neg fun h => hdark h.1
  unfold handlingTests
  rw [hwithdraw, hlight]

theorem handlingTests_shuttle (hready : s.shuttle.state = .ready) :
    (handlingTests s).shuttle.state = .ready ∨ (handlingTests s).shuttle.state = .moving :=
  grant_shuttle (s := lightTubes (withdrawSecondAsk s)) (by simpa using hready)

/-! ## RESUME and SAFE_RELEASE -/

theorem cmdResume_taken (h : s.supervisor.line = .halted) :
    cmdResume s = setOutcome .accepted (setLine .idle { s with supervisor.cause := .none }) := by
  simp only [cmdResume, h]

theorem cmdSafeRelease_taken (h : s.supervisor.line = .safe) (hestop : s.safety.estop = false)
    (hcover : s.safety.coverClosed = true) : cmdSafeRelease s = setOutcome .accepted (leaveSafe s) := by
  simp [cmdSafeRelease, h, hestop, hcover]

theorem bankForced_stands (h : s.supervisor.line = .halted ∨ s.supervisor.line = .safe) : bankForced s = true := by
  rcases h with h | h <;> simp [bankForced, lineStands, h]

/-- A bank that leaves FORCED_OFF without claims (R69). -/
theorem syncBank_leaves {now d : Nat} {b : BankUnit} (hstate : b.state = .forcedOff) (hclaims : b.claims = [])
    (hdark : b.darkStart = some d) :
    syncBank now false b = { b with state := if 200 ≤ now - d then .tracking else .dark } := by
  simp [syncBank, hstate, leaveForced, hclaims, darkLong, hdark]

theorem resumeBatch_resumes (h : s.chamber.state = .suspended) (hdoor : s.chamber.doorClosed = true)
    (hsafe : s.supervisor.line ≠ .safe) : resumeBatch s = enterExposing s :=
  if_pos ⟨h, hdoor, by simp [isSafe, hsafe]⟩

/-- The exposure goes on with the groups not on target open (R165). -/
theorem enterExposing_opens (h : (s.chamber.onA && s.chamber.onC) = false) : enterExposing s = { s with
    chamber.state := .exposing, chamber.openA := !s.chamber.onA, chamber.openC := !s.chamber.onC
    chamber.openDeadline := some (s.now + s.chamber.openStanding.getD 0), chamber.openStanding := none } := by
  unfold enterExposing
  dsimp only
  rw [if_neg (by simp [h])]

theorem evalShuttle_stopped (h : s.shuttle.state = .stopped) (hable : shuttleAble s = true) :
    evalShuttle s = { s with shuttle.state := .ready } := by
  simp [evalShuttle, h, hable]

end

/-- Settles O28: RESUME by whether COVER forces the banks, SAFE_RELEASE by what waits for it. -/
theorem resumeAndSafeReleaseLeaveTheStop : Obligations.ResumeAndSafeReleaseLeaveTheStop := by
  unfold Obligations.ResumeAndSafeReleaseLeaveTheStop
  refine ⟨fun s hline hbanks => ?_, fun s hline hestop hcover hbanks => ?_⟩
  · have hexec : exec .resume s = .next (setOutcome .accepted (setLine .idle { unheld s with supervisor.cause := .none })) :=
      (exec_of_command (code := 4) rfl).trans (congrArg Host.Outcome.next (cmdResume_taken (s := unheld s) hline))
    have hforced : banksAs true s := by
      have h := (banksFollow_iff s).mp hbanks
      rwa [bankForced_stands (.inl hline)] at h
    refine ⟨fun hcover => ?_, fun hcover => ⟨_, hexec, rfl, rfl, fun k d hclaims hdark => ?_⟩⟩
    · have hopen : bankForced { unheld s with supervisor.cause := .none, supervisor.line := .idle } = true := by
        simp [bankForced, unheld, hcover]
      rw [hexec, setLine_of_banksAs (l := .idle) (s := { unheld s with supervisor.cause := .none }) (by
        rw [hopen]
        exact hforced)]
      rfl
    · have hclosed : bankForced { unheld s with supervisor.cause := .none, supervisor.line := .idle } = false := by
        simp [bankForced, lineStands, unheld, hcover]
      have hstate : (s.banks.get k).state = .forcedOff := by
        have h := (hforced k).1
        simpa using h
      change (s.banks.mapAll (syncBank s.now (bankForced { unheld s with
        supervisor.cause := .none, supervisor.line := .idle }))).get k = _
      rw [hclosed, PerBank.get_mapAll]
      exact syncBank_leaves hstate hclaims hdark
  · have hexec : exec .safeRelease s = .next (setOutcome .accepted (leaveSafe (unheld s))) :=
      (exec_of_command (code := 5) rfl).trans
        (congrArg Host.Outcome.next (cmdSafeRelease_taken (s := unheld s) hline hestop hcover))
    have hforced : banksAs true s := by
      have h := (banksFollow_iff s).mp hbanks
      rwa [bankForced_stands (.inr hline)] at h
    have hleft : leaveSafe (unheld s) = handlingTests (resumeBatch (evalShuttle (orderIfWaiting { unheld s with
        safety.lineSafe := false, supervisor.line := .halted }))) := by
      unfold leaveSafe
      rw [setLine_of_banksAs (l := .halted) (s := { unheld s with safety.lineSafe := false }) (by
        rw [bankForced_stands (.inl rfl)]
        exact hforced)]
    generalize hu : { unheld s with safety.lineSafe := false, supervisor.line := .halted } = u at hleft
    have hpresent (st : Station) : isPresent u st = isPresent s st := by
      rw [← hu]
      rfl
    have hnext : nextOrder u .wash = nextOrder s .wash := by
      rw [← hu]
      rfl
    have hcan : canReplenish u = isPresent s .wash := by
      unfold canReplenish
      rw [hpresent, ← hu]
      simp [isSafe]
    have hwaits : cycleWaits u = true ↔ s.wash.replenish = .pending ∨ s.wash.replenish = .retryWait := by
      rw [← hu]
      simp [cycleWaits, unheld]
    refine ⟨_, hexec, ?_, ?_, ?_, ?_, ?_, ?_, ?_, ?_, fun hwaiting hwash => ?_, fun hnot => ?_,
      fun hstopped hshuttle hready hfault => ?_, fun hsuspended hdoor hon hask => ?_⟩
    all_goals rw [hleft]
    · have hsupervisor : (handlingTests (resumeBatch (evalShuttle (orderIfWaiting u)))).supervisor =
          { s.supervisor with line := .halted } := by simp [← hu, unheld]
      exact congrArg (fun v : Supervisor => { v with outcome := .accepted }) hsupervisor
    · simp [setOutcome, ← hu, unheld]
    · simp [setOutcome, ← hu, unheld]
    · simp [setOutcome, ← hu, unheld]
    · simp [setOutcome, ← hu, unheld]
    · simp [setOutcome, ← hu, unheld]
    · simp [setOutcome, ← hu, unheld]
    · simp [setOutcome, ← hu, unheld]
    · obtain ⟨attn, holdOff, hissued⟩ := orderOrPend_issued (s := { u with wash.retry := none }) (hcan.trans hwash)
      have horder : orderIfWaiting u = orderOrPend { u with wash.retry := none } := by
        unfold orderIfWaiting
        rw [hwaits.mpr hwaiting, hcan, hwash]
        rfl
      have hfinal : (handlingTests (resumeBatch (evalShuttle (orderIfWaiting u)))).wash = (orderIfWaiting u).wash ∧
          (handlingTests (resumeBatch (evalShuttle (orderIfWaiting u)))).bus.latched = (orderIfWaiting u).bus.latched := by
        simp
      have hordered : (orderIfWaiting u).wash = { s.wash with
          replenish := .ordered, outstanding := some (nextOrder s .wash), portion := s.wash.replPortion
          retry := none } := by
        rw [horder, hissued, ← hu]
        rfl
      have hbit : (orderIfWaiting u).bus.latched.getLsbD 12 = true := by
        rw [horder, hissued]
        exact getLsbD_or_bitIf _ rfl
      exact ⟨hfinal.1.trans hordered, (congrArg (fun v : Word => v.getLsbD 12) hfinal.2).trans hbit⟩
    · have horder : orderIfWaiting u = u := by
        unfold orderIfWaiting
        refine if_neg fun h => ?_
        rw [Bool.and_eq_true, hwaits, hcan] at h
        rcases hnot with hnot | hnot
        · exact h.1.elim hnot.1 hnot.2
        · simp [hnot] at h
      rw [horder]
      simp [setOutcome, ← hu, unheld]
    · have hable : shuttleAble (orderIfWaiting u) = true := by
        have hsame : (orderIfWaiting u).shuttle = s.shuttle ∧ (orderIfWaiting u).supervisor.line = .halted := by
          simp [← hu, unheld]
        have hnode : isPresent (orderIfWaiting u) .shuttle = true :=
          (isPresent_of_view (nodesView_orderIfWaiting u) .shuttle).trans ((hpresent .shuttle).trans hshuttle)
        unfold shuttleAble isSafe
        rw [hnode, hsame.1, hsame.2, hready, hfault]
        rfl
      have hstate : (orderIfWaiting u).shuttle.state = .stopped := by simpa [← hu, unheld] using hstopped
      rw [evalShuttle_stopped hstate hable]
      exact handlingTests_shuttle (s := resumeBatch { orderIfWaiting u with shuttle.state := .ready }) (by simp)
    · have hchamber : (evalShuttle (orderIfWaiting u)).chamber = s.chamber := by simp [← hu, unheld]
      have hhalted : (evalShuttle (orderIfWaiting u)).supervisor.line = .halted := by simp [← hu]
      generalize evalShuttle (orderIfWaiting u) = v at hchamber hhalted
      rw [resumeBatch_resumes (by rw [hchamber, hsuspended]) (by rw [hchamber, hdoor]) (by simp [hhalted]),
        enterExposing_opens (by simp [hchamber, hon])]
      have htests := handlingTests_grant (s := { v with
        chamber.state := .exposing, chamber.openA := !v.chamber.onA, chamber.openC := !v.chamber.onC
        chamber.openDeadline := some (v.now + v.chamber.openStanding.getD 0), chamber.openStanding := none })
        nofun (fun cls h => by simp [hchamber, hask] at h)
      have hgranted := grant_chamber (s := { v with
        chamber.state := .exposing, chamber.openA := !v.chamber.onA, chamber.openC := !v.chamber.onC
        chamber.openDeadline := some (v.now + v.chamber.openStanding.getD 0), chamber.openStanding := none })
        (by simp [hchamber, hask])
      dsimp only [setOutcome]
      rw [htests, hgranted]
      simp [hchamber, hon]

end Sys2Proof.Machine

/-! PROOFS. What the handling tests write into a slot, and RESET_LINE (R21, R31). -/

namespace Sys2Proof.Machine

/-- From `s` to `t` a word of a slot and the stage of its plate stand. -/
structure Stays (i : PlateId) (o : Nat) (s t : State) : Prop where
  word : slotWord t i o = slotWord s i o
  stage : (plateOf t i).map Plate.stage = (plateOf s i).map Plate.stage

section
variable {s t u : State} {i p : PlateId} {o : Nat}

theorem Stays.refl : Stays i o s s := ⟨rfl, rfl⟩

theorem Stays.trans (h : Stays i o s t) (h' : Stays i o t u) : Stays i o s u :=
  ⟨h'.word.trans h.word, h'.stage.trans h.stage⟩

theorem stays_of_eq (h : Stays i o s t) (hram : u.bus.ram = t.bus.ram) (hplates : u.tracker.plates = t.tracker.plates) :
    Stays i o s u := h.trans ⟨slotWord_congr hram i o, by simp only [plateOf, hplates]⟩

theorem stays_putSlot {p : PlateId} {a : Nat} {v : Word} (ho : o < 64) (ha : a < 64) (hne : o ≠ a) (h : Stays i o s t) :
    Stays i o s (putSlot p a v t) :=
  h.trans ⟨(slotWord_putSlot p i a o v t ha ho).trans (if_neg fun e => hne e.2), rfl⟩

theorem stays_putPlate {r q : Plate} (hr : plateOf t p = some r) (hstage : q.stage = r.stage) (h : Stays i o s t) :
    Stays i o s (putPlate p (some q) t) := h.trans ⟨rfl, by
  rw [plateOf_putPlate]
  split
  · next e => rw [e, hr, Option.map_some, Option.map_some, hstage]
  · rfl⟩

theorem stays_modPlate {f : Plate → Plate} (hstage : ∀ r, (f r).stage = r.stage) (h : Stays i o s t) :
    Stays i o s (modPlate p f t) := by
  unfold modPlate
  split
  · exact h
  · next hr => exact stays_putPlate hr (hstage _) h

theorem stays_finishPlate {x y : Nat} {v : Verdict} (ho : o < 64) (hne : o ∉ [51, 52, 53]) (h : Stays i o s t) :
    Stays i o s (finishPlate p x y v t) := by
  simp only [List.mem_cons, List.not_mem_nil, or_false, not_or] at hne
  obtain ⟨h51, h52, h53⟩ := hne
  exact stays_putSlot ho (by decide) h53 (stays_putSlot ho (by decide) h52 (stays_putSlot ho (by decide) h51
    (stays_modPlate (fun _ => rfl) h)))

theorem stays_finishOccupant {q : Option (PlateId × Mark)} {x y : Nat} {v : Verdict} (ho : o < 64)
    (hne : o ∉ [51, 52, 53]) (h : Stays i o s t) : Stays i o s (finishOccupant q x y v t) := by
  unfold finishOccupant
  split
  · exact h
  · exact stays_finishPlate ho hne h

theorem stays_unloadNext (h : Stays i o s t) : Stays i o s (unloadNext t) :=
  stays_of_eq h (by simp) (by simp)

theorem stays_endBatch {v : Verdict} (ho : o < 64) (hne : o ∉ [51, 52, 53]) (h : Stays i o s t) :
    Stays i o s (endBatch v t) :=
  stays_unloadNext (stays_of_eq (stays_finishOccupant ho hne (stays_finishOccupant ho hne h)) rfl rfl)

theorem stays_enterExposing (ho : o < 64) (hne : o ∉ [51, 52, 53]) (h : Stays i o s t) :
    Stays i o s (enterExposing t) := by
  unfold enterExposing
  dsimp only
  split
  · exact stays_endBatch ho hne (stays_of_eq h rfl rfl)
  · exact stays_of_eq h rfl rfl

theorem stays_startExposure (ho : o < 64) (hne : o ∉ [51, 52, 53]) (h : Stays i o s t) :
    Stays i o s (startExposure t) := by
  unfold startExposure
  dsimp only
  split
  · exact stays_of_eq h rfl rfl
  · exact stays_enterExposing ho hne (stays_of_eq h rfl rfl)

theorem stays_withdrawSecondAsk (ho : o < 64) (hne : o ∉ [51, 52, 53]) (h : Stays i o s t) :
    Stays i o s (withdrawSecondAsk t) := by
  unfold withdrawSecondAsk
  split
  · split
    · exact stays_startExposure ho hne h
    · exact h
  · exact h

theorem stays_lightTubes (h : Stays i o s t) : Stays i o s (lightTubes t) :=
  stays_of_eq h (by simp) (by simp)

theorem stays_takeFromDrawer {r : Plate} {d : Fin 6} {m : Fin 4} (ho : o < 64) (hne : o ≠ 50)
    (hr : plateOf t p = some r) (h : Stays i o s t) : Stays i o s (takeFromDrawer p r d m t) :=
  stays_putSlot ho (by decide) hne (stays_putPlate (t := giveBackPlace { putDrawerSlot d m none t with
    drying.dryList := (putDrawerSlot d m none t).drying.dryList.erase p }) hr rfl (stays_of_eq h rfl rfl))

/-- A plate that has ended takes no stage. -/
theorem setStage_ended {st : Stage} (h : ∀ r, plateOf s p = some r → r.stage = .ended) : setStage p st s = s := by
  unfold setStage
  split
  · rfl
  · next r hr => exact if_pos (h r hr)

/-- Boarding writes the stage of the plate aboard, and of that alone. -/
theorem slotWord_board {kind : MoveKind} {src dst : Place} {sp : Bool} (ho : o < 64)
    (h35 : o = 35 → (plateOf s i).map Plate.stage = none ∨ (plateOf s i).map Plate.stage = some .ended) :
    slotWord (board kind p src dst sp s) i o = slotWord s i o := by
  have hram : (board kind p src dst sp s).bus.ram = (setStage p .inShuttle s).bus.ram := by
    unfold board takeOrder
    dsimp only
    split <;> rfl
  refine (slotWord_congr hram i o).trans ?_
  by_cases hp : i = p
  · subst hp
    by_cases ho35 : o = 35
    · rw [setStage_ended]
      intro r hr
      rcases h35 ho35 with h | h
      · simp [hr] at h
      · simpa [hr] using h
    · unfold setStage
      split
      · rfl
      · split
        · rfl
        · exact (slotWord_putSlot i i oStage o _ _ (by decide) ho).trans (if_neg fun e => ho35 e.2)
  · unfold setStage
    split
    · rfl
    · split
      · rfl
      · exact (slotWord_putSlot p i oStage o _ _ (by decide) ho).trans (if_neg fun e => hp e.1)

/-- The words of a slot that the handling tests leave: all but the stage and the dry time of a plate taken aboard, and
the doses of a batch that ends. -/
theorem slotWord_handlingTests (ho : o < 64) (hne : o ∉ [50, 51, 52, 53])
    (h35 : o = 35 → (plateOf s i).map Plate.stage = none ∨ (plateOf s i).map Plate.stage = some .ended) :
    slotWord (handlingTests s) i o = slotWord s i o := by
  simp only [List.mem_cons, List.not_mem_nil, or_false, not_or] at hne
  obtain ⟨h50, h51, h52, h53⟩ := hne
  have htests : Stays i o s (lightTubes (withdrawSecondAsk s)) :=
    stays_lightTubes (stays_withdrawSecondAsk ho (by simp [h51, h52, h53]) .refl)
  unfold handlingTests
  generalize lightTubes (withdrawSecondAsk s) = u at htests
  have hu : o = 35 → (plateOf u i).map Plate.stage = none ∨ (plateOf u i).map Plate.stage = some .ended := by
    rw [htests.stage]
    exact h35
  by_cases hready : u.shuttle.state = .ready
  · rcases grant_cases hready with h | ⟨-, h⟩ | ⟨-, -, h⟩ | ⟨-, -, -, h⟩
    · obtain ⟨p, rest, dm, e, -⟩ := grantStore_some u _ h
      rw [e]
      exact (slotWord_board (s := { u with drying.rack := rest }) ho hu).trans htests.word
    · obtain ⟨p, pos, sp, e, -⟩ := grantUnload_some u _ h
      rw [e]
      exact (slotWord_board (s := { u with chamber := { clearPos pos u.chamber with ask := .none } }) ho hu).trans
        htests.word
    · obtain ⟨pos, cls, p, r, d, m, e, -, -, hr, -⟩ := grantLoad_some u _ h
      have htaken : Stays i o u (loadGranted pos p (takeFromDrawer p r d m u)) :=
        stays_of_eq (stays_takeFromDrawer ho h50 hr .refl) (by cases pos <;> rfl) (by cases pos <;> rfl)
      rw [e]
      refine (slotWord_board ho ?_).trans (htaken.word.trans htests.word)
      rw [htaken.stage]
      exact hu
    · rw [h]
      exact htests.word
  · rw [grant_of_not_ready u hready]
    exact htests.word

/-! ## The tests and the admission unit -/

/-- The tests change the commitments alone of the admission unit. -/
theorem admission_handlingTests (s : State) :
    { (handlingTests s).admission with commitments := s.admission.commitments } = s.admission := by
  have hunit : (lightTubes (withdrawSecondAsk s)).admission = s.admission := by simp
  have hgrant (u : State) : { (grant u).admission with commitments := 0 } = { u.admission with commitments := 0 } :=
    grant_keeps (fun t => { t.admission with commitments := 0 }) u (fun p rest dm => by simp) (fun p pos sp => by simp)
      fun pos p r d m => by simp [takeFromDrawer, giveBackPlace]
  have hboth := hgrant (lightTubes (withdrawSecondAsk s))
  rw [hunit] at hboth
  exact congrArg (fun v : Admission => { v with commitments := s.admission.commitments }) hboth

/-! ## The queued slots resolved (R20, R21) -/

/-- What of a resolved slot is said, from the state before (R20, R21). -/
def ResolvedAt (why : Reason) (s t : State) (i : PlateId) : Prop :=
  slotState t i = .refused ∧ lastTaken t i = lastTaken s i ∧ slotWord t i 33 = w16 (reasonCode why) ∧
    slotWord t i 34 = 0 ∧ slotWord t i 35 = 9 ∧
    plateOf t i = (plateOf s i).map fun r => { r with stage := .ended }

theorem ResolvedAt.of_others {why : Reason} {l : List PlateId} (h : ResolvedAt why s t i) (hout : i ∉ l)
    (hothers : OthersStand l t u) : ResolvedAt why s u i := by
  obtain ⟨hstate, hlast, hreason, hhold, hended, hrecord⟩ := h
  obtain ⟨hplate, hwords⟩ := hothers i hout
  have hword : slotWord u i 32 = slotWord t i 32 := hwords ⟨32, by decide⟩
  refine ⟨?_, ?_, (hwords ⟨33, by decide⟩).trans hreason, (hwords ⟨34, by decide⟩).trans hhold,
    (hwords ⟨35, by decide⟩).trans hended, hplate.trans hrecord⟩
  · exact (congrArg (fun v => slotStateOfCode (highByte v)) hword).trans hstate
  · exact (congrArg lowByte hword).trans hlast

theorem resolvedAt_resolveQueued (why : Reason) (s : State) (i : PlateId) :
    ResolvedAt why s (resolveQueued i why s) i ∧ OthersStand [i] s (resolveQueued i why s) := by
  obtain ⟨hstate, hlast, hreason, hhold, hended, hrecord, -⟩ := resolveQueued_effect i why s
  refine ⟨⟨hstate, hlast, hreason, hhold, hended, hrecord⟩, ?_⟩
  exact othersStand_setSlotState (by simp) (othersStand_putSlot (by simp) (by decide) (othersStand_putSlot (by simp)
    (by decide) (othersStand_putSlot (by simp) (by decide) (othersStand_modPlate (by simp) .refl))))

theorem resolve_foldl (why : Reason) (l : List PlateId) (s : State) :
    (let t := l.foldl (fun t i => resolveQueued i why t) s
     (∀ i ∈ l, ResolvedAt why s t i) ∧ OthersStand l s t ∧
     t = { s with bus.ram := t.bus.ram, tracker.plates := t.tracker.plates }) := by
  induction l generalizing s with
  | nil => exact ⟨by simp, .refl, rfl⟩
  | cons i rest ih =>
    obtain ⟨hfirst, hstands⟩ := resolvedAt_resolveQueued why s i
    obtain ⟨-, -, -, -, -, -, -, -, hsame⟩ := resolveQueued_effect i why s
    obtain ⟨hrest, hothers, hrestSame⟩ := ih (resolveQueued i why s)
    refine ⟨fun j hj => ?_, (hstands.mono (by simp)).trans (hothers.mono fun q hq => List.mem_cons_of_mem _ hq), ?_⟩
    · by_cases hin : j ∈ rest
      · obtain ⟨hstate, hlast, hreason, hhold, hended, hrecord⟩ := hrest j hin
        by_cases hji : j = i
        · subst hji
          obtain ⟨-, hlast', -, -, -, hrecord'⟩ := hfirst
          refine ⟨hstate, hlast.trans hlast', hreason, hhold, hended, hrecord.trans ?_⟩
          rw [hrecord', Option.map_map]
          rfl
        · obtain ⟨hplate, hwords⟩ := hstands j (by simpa using hji)
          have hword : slotWord (resolveQueued i why s) j 32 = slotWord s j 32 := hwords ⟨32, by decide⟩
          exact ⟨hstate, hlast.trans (congrArg lowByte hword), hreason, hhold, hended, hrecord.trans (by rw [hplate])⟩
      · obtain rfl : j = i := (List.mem_cons.mp hj).resolve_right hin
        exact hfirst.of_others hin hothers
    · exact hrestSame.trans (congrArg (fun v : State => { v with
        bus.ram := (rest.foldl (fun t i => resolveQueued i why t) (resolveQueued i why s)).bus.ram
        tracker.plates :=
          (rest.foldl (fun t i => resolveQueued i why t) (resolveQueued i why s)).tracker.plates }) hsame)

/-- The queued slots are resolved, the others stand, and SLOT is latched if there was one (R20, R21). -/
theorem resolveQueuedSlots_effect (why : Reason) (s : State) :
    (let t := resolveQueuedSlots why s
     (∀ i, slotState s i = .queued → ResolvedAt why s t i) ∧
     (∀ i, slotState s i ≠ .queued → plateOf t i = plateOf s i ∧ ∀ o : Fin 64, slotWord t i o.val = slotWord s i o.val) ∧
     ((∃ i, slotState s i = .queued) → t.bus.latched.getLsbD 8 = true) ∧
     ∃ attn holdOff, t = { s with
       bus.ram := t.bus.ram, tracker.plates := t.tracker.plates, bus.latched := t.bus.latched, bus.attn := attn
       bus.holdOff := holdOff }) := by
  have hmem (i : PlateId) : i ∈ plateIds.filter (fun i => slotState s i == .queued) ↔ slotState s i = .queued := by
    simp [mem_plateIds]
  obtain ⟨hin, hout, hsame⟩ := resolve_foldl why (plateIds.filter fun i => slotState s i == .queued) s
  obtain ⟨attn, holdOff, hlatch⟩ := latchIf_eq (!(plateIds.filter fun i => slotState s i == .queued).isEmpty) .slot
    ((plateIds.filter fun i => slotState s i == .queued).foldl (fun t i => resolveQueued i why t) s)
  dsimp only [resolveQueuedSlots]
  rw [hlatch]
  refine ⟨fun i hi => ?_, fun i hi => ?_, fun ⟨i, hi⟩ => ?_, attn, holdOff, ?_⟩
  · exact hin i ((hmem i).mpr hi)
  · exact hout i fun h => hi ((hmem i).mp h)
  · have hsome : (!(plateIds.filter fun i => slotState s i == .queued).isEmpty) = true := by
      simp only [Bool.not_eq_true', List.isEmpty_eq_false_iff]
      exact List.ne_nil_of_mem ((hmem i).mpr hi)
    rw [hsome]
    exact getLsbD_or_slot _
  · generalize (plateIds.filter fun i => slotState s i == .queued).foldl (fun t i => resolveQueued i why t) s = u at hsame
    rw [hsame]

/-! ## RESET_LINE -/

theorem getLsbD_or_left {x y : Word} {n : Nat} (h : x.getLsbD n = true) : (x ||| y).getLsbD n = true := by
  rw [BitVec.getLsbD_or, h, Bool.true_or]

/-- The queue emptied: no head, the hold reason NONE (R34, R36). -/
theorem emptyQueue_eq (s : State) : ∃ low latched attn holdOff, holdIfEmpty (setQueue [] s) = { s with
      admission.queue := [], admission.queueLow := low, admission.holdReason := .none
      bus.latched := latched, bus.attn := attn, bus.holdOff := holdOff } ∧
    (∀ n, s.bus.latched.getLsbD n = true → latched.getLsbD n = true) := by
  obtain ⟨attn, holdOff, hqueue⟩ := setQueue_eq [] s
  rw [hqueue]
  unfold holdIfEmpty
  rw [if_pos rfl]
  unfold setHold
  split
  · next h =>
    refine ⟨queueLowOf 0 s.admission.mark, s.bus.latched ||| bitIf (queueLowOf 0 s.admission.mark && !s.admission.queueLow) 9,
      attn, holdOff, ?_, fun n hn => getLsbD_or_left hn⟩
    have hreason : s.admission.holdReason = .none := h.symm
    rw [← hreason]
    rfl
  · obtain ⟨attn', holdOff', hlatch⟩ := latch_eq .hold { s with
      admission.queue := [], admission.queueLow := queueLowOf 0 s.admission.mark, admission.holdReason := .none
      bus.latched := s.bus.latched ||| bitIf (queueLowOf 0 s.admission.mark && !s.admission.queueLow) 9
      bus.attn := attn, bus.holdOff := holdOff }
    refine ⟨_, _, _, _, hlatch, fun n hn => ?_⟩
    exact getLsbD_or_left (getLsbD_or_left hn)

/-- What RESET_LINE has done when the handling tests follow (R21, R31). -/
theorem cmdResetLine_taken (h : s.supervisor.line = .idle ∨ s.supervisor.line = .halted) :
    cmdResetLine s = setOutcome .accepted (lineReset s) := if_pos ((idleOrHalted_iff s).mpr h)

end

/-- The state with which RESET_LINE's handling tests begin. -/
def lineResetBase (s : State) : State :=
  setLine .idle { clearNodeCounts (clearStrays (holdIfEmpty (setQueue [] (resolveQueuedSlots .lineReset s)))) with
    admission.misfeedHold := false, admission.misfeedArmed := false, supervisor.cause := .none }

/-- Settles O29: the queue is resolved, and the tests that follow write no word said. -/
theorem resetLineResolvesTheQueue : Obligations.ResetLineResolvesTheQueue := by
  unfold Obligations.ResetLineResolvesTheQueue
  intro s hline
  have hexec : exec .resetLine s = .next (setOutcome .accepted (handlingTests (lineResetBase (unheld s)))) :=
    (exec_of_command (code := 6) rfl).trans (congrArg Host.Outcome.next (cmdResetLine_taken (s := unheld s) hline))
  obtain ⟨hresolved, hstand, hslot, attn, holdOff, hsame⟩ := resolveQueuedSlots_effect .lineReset (unheld s)
  obtain ⟨low, latched, attn', holdOff', hempty, hlatched⟩ := emptyQueue_eq (resolveQueuedSlots .lineReset (unheld s))
  have hbase : lineResetBase (unheld s) = setLine .idle { clearNodeCounts (clearStrays (holdIfEmpty (setQueue []
      (resolveQueuedSlots .lineReset (unheld s))))) with
    admission.misfeedHold := false, admission.misfeedArmed := false, supervisor.cause := .none } := rfl
  rw [hempty] at hbase
  generalize resolveQueuedSlots .lineReset (unheld s) = u at *
  rw [hbase] at hexec
  have hadmission := admission_handlingTests (lineResetBase (unheld s))
  have hview := nodesView_handlingTests (lineResetBase (unheld s))
  have hframe : (handlingTests (lineResetBase (unheld s))).supervisor = (lineResetBase (unheld s)).supervisor ∧
      (handlingTests (lineResetBase (unheld s))).bus.latched = (lineResetBase (unheld s)).bus.latched ∧
      (handlingTests (lineResetBase (unheld s))).transport = (lineResetBase (unheld s)).transport ∧
      (handlingTests (lineResetBase (unheld s))).wash = (lineResetBase (unheld s)).wash ∧
      (handlingTests (lineResetBase (unheld s))).cal = (lineResetBase (unheld s)).cal ∧
      (handlingTests (lineResetBase (unheld s))).intake = (lineResetBase (unheld s)).intake ∧
      (handlingTests (lineResetBase (unheld s))).safety = (lineResetBase (unheld s)).safety ∧
      (handlingTests (lineResetBase (unheld s))).tracker.train = (lineResetBase (unheld s)).tracker.train := by simp
  have hrack (h : RackEntry.stray ∈ (handlingTests (lineResetBase (unheld s))).drying.rack) :
      RackEntry.stray ∈ (lineResetBase (unheld s)).drying.rack := mem_rack_handlingTests h
  have hword (i : PlateId) (o : Nat) (ho : o < 64) (hne : o ∉ [50, 51, 52, 53]) :=
    slotWord_handlingTests (s := lineResetBase (unheld s)) (i := i) ho hne
  rw [hbase] at hadmission hview hframe hrack hword
  generalize handlingTests (setLine .idle _) = t at *
  obtain ⟨hsupervisor, hbits, htransport, hwash, hcal, hintake, hsafety, htrain⟩ := hframe
  have hqueued (i : PlateId) (hi : slotState s i = .queued) (o : Nat) (ho : o < 64) (hne : o ∉ [50, 51, 52, 53]) :
      slotWord t i o = slotWord u i o := by
    refine hword i o ho hne fun _ => ?_
    obtain ⟨-, -, -, -, -, hrecord⟩ := hresolved i hi
    have hplate : (plateOf u i).map Plate.stage = ((plateOf s i).map fun r => { r with stage := .ended }).map Plate.stage :=
      congrArg _ hrecord
    cases hr : plateOf s i with
    | none => exact .inl (hplate.trans (by rw [hr]; rfl))
    | some r => exact .inr (hplate.trans (by rw [hr]; rfl))
  have hother (i : PlateId) (hi : slotState s i ≠ .queued) (o : Nat) (ho : o < 64) (hne : o ∉ [35, 50, 51, 52, 53]) :
      slotWord t i o = slotWord s i o := by
    rw [List.mem_cons, not_or] at hne
    exact (hword i o ho hne.2 fun h => absurd h hne.1).trans ((hstand i hi).2 ⟨o, ho⟩)
  have hnode (n : Fin 15) : nodesView t n =
      { s.link.nodes[n] with miss := 0, check := 0, issued := none } := by
    rw [hview, hsame]
    simp [nodesView, setLine, syncBanks, mapBanks, clearNodeCounts, clearStrays, unheld]
  refine ⟨_, hexec, ?_, ?_, ?_, ?_, ?_, ?_, fun h => ?_, fun n => ?_, fun i hi => ?_, fun i hi o ho => hother i hi o o.isLt ho,
    fun hsome => ?_, ?_, ?_, ?_, ?_, ?_, ?_⟩
  · have hline' : t.supervisor = { s.supervisor with line := .idle, cause := .none } := by
      rw [hsupervisor, hsame]
      rfl
    exact congrArg (fun v : Supervisor => { v with outcome := .accepted }) hline'
  · have h := congrArg Admission.queue hadmission
    exact h
  · have h := congrArg Admission.holdReason hadmission
    exact h
  · have h := congrArg Admission.misfeedHold hadmission
    exact h
  · have h := congrArg Admission.misfeedArmed hadmission
    exact h
  · have h := congrArg Admission.epochNo hadmission
    rw [hsame] at h
    exact h
  · exact stray_notMem_clearStrays _ (hrack h)
  · have hmiss := congrArg NodeRec.miss (hnode n)
    have hcheck := congrArg NodeRec.check (hnode n)
    have hstate := congrArg NodeRec.state (hnode n)
    exact ⟨hmiss, hcheck, hstate⟩
  · obtain ⟨hrefused, hlast, hreason, hhold, hended, -⟩ := hresolved i hi
    have hslotWord : slotWord t i 32 = slotWord u i 32 := hqueued i hi 32 (by decide) (by decide)
    exact ⟨(congrArg (fun v => slotStateOfCode (highByte v)) hslotWord).trans hrefused,
      (congrArg lowByte hslotWord).trans hlast, (hqueued i hi 33 (by decide) (by decide)).trans hreason,
      (hqueued i hi 34 (by decide) (by decide)).trans hhold, (hqueued i hi 35 (by decide) (by decide)).trans hended⟩
  · have hbit : latched.getLsbD 8 = true := hlatched 8 (hslot hsome)
    exact (congrArg (fun v : Word => v.getLsbD 8) hbits).trans hbit
  · refine htransport.trans ?_
    rw [hsame]
    rfl
  · refine hwash.trans ?_
    rw [hsame]
    rfl
  · refine hcal.trans ?_
    rw [hsame]
    rfl
  · refine hintake.trans ?_
    rw [hsame]
    rfl
  · refine hsafety.trans ?_
    rw [hsame]
    rfl
  · refine htrain.trans ?_
    rw [hsame]
    rfl

end Sys2Proof.Machine

/-! PROOFS. The calibration store (chapter 11): requests, completions and LOAD_LIVE. -/

namespace Sys2Proof.Machine

section
variable {s : State}

/-- A service request is a write of its code (R206). -/
theorem exec_request {c : Instr} {code : Word} (h : exec c s = .next (busWrite 0x1100 code s)) :
    exec c s = .next (requestOp code (ramWrite 0x1100 code (unheld s))) := by
  rw [h, busWrite_outside (.inr (by decide))]
  rfl

/-- The completion of an operation latches CAL and changes the service state alone (R206). -/
theorem finishOp_eq (r : OpResult) (s : State) : ∃ attn holdOff, finishOp r s = { s with
    cal := { s.cal with opState := .done, result := r, running := none }
    bus.latched := s.bus.latched ||| bitIf true 14, bus.attn := attn, bus.holdOff := holdOff } :=
  latch_eq .cal { s with cal := { s.cal with opState := .done, result := r, running := none } }

/-! ## The requests by their codes -/

theorem requestOp_busy {code : Word} (h : s.cal.opState = .busy) :
    requestOp code s = countDiscard { s with cal.result := .ignoredBusy } := if_pos h

theorem requestOp_read (h : s.cal.opState ≠ .busy) : requestOp 1 s = withAddr opRead s := if_neg h

theorem requestOp_write (h : s.cal.opState ≠ .busy) :
    requestOp 2 s = unlessLocked (withAddr fun a t => beginOp (.write a (serviceData t)) 5 t) s := if_neg h

theorem requestOp_erase (h : s.cal.opState ≠ .busy) :
    requestOp 3 s = unlessLocked (withAddr fun a t => beginOp (.erase a) 5 t) s := if_neg h

theorem requestOp_loadLive (h : s.cal.opState ≠ .busy) : requestOp 4 s = unlessLocked opLoadLive s := if_neg h

theorem requestOp_saveOffsets (h : s.cal.opState ≠ .busy) :
    requestOp 5 s = unlessLocked (fun t => beginOp (.save (liveOffsets t)) 15 t) s := if_neg h

theorem requestOp_unknown {code : Word} (h : s.cal.opState ≠ .busy) (hcode : code.toNat = 0 ∨ 5 < code.toNat) :
    requestOp code s = finishOp .locked s := by
  unfold requestOp
  rw [if_neg h]
  split <;> first | omega | rfl

theorem unlessLocked_free {op : State → State} (h : s.supervisor.line = .idle ∨ s.supervisor.line = .halted) :
    unlessLocked op s = op s := if_pos ((idleOrHalted_iff s).mpr h)

theorem unlessLocked_locked {op : State → State} (hidle : s.supervisor.line ≠ .idle)
    (hhalted : s.supervisor.line ≠ .halted) : unlessLocked op s = finishOp .locked s :=
  if_neg (not_idleOrHalted hidle hhalted)

theorem withAddr_good {op : Nat → State → State} (h : serviceAddr s ≤ 255) : withAddr op s = op (serviceAddr s) s :=
  if_neg (Nat.not_lt.mpr h)

theorem withAddr_bad {op : Nat → State → State} (h : 255 < serviceAddr s) : withAddr op s = finishOp .badAddress s :=
  if_pos h

/-- The operands of a request are the words as they stood. -/
theorem service_words (code : Word) (s : State) :
    serviceAddr (ramWrite 0x1100 code (unheld s)) = (ramRead s 0x1101).toNat ∧
    serviceData (ramWrite 0x1100 code (unheld s)) = ramRead s 0x1102 := by
  unfold serviceAddr serviceData
  simp only [ramRead_ramWrite]
  exact ⟨rfl, rfl⟩

/-- The operation word takes the code of a request (log entry 34). -/
theorem request_word (code : Word) (s : State) {t : State} (h : t.bus.ram = (ramWrite 0x1100 code (unheld s)).bus.ram) :
    ramRead t 0x1100 = code ∧ ramKeptOutside [0x1100] s t :=
  setting_word (t := t) (b := 0x1100) (w := code) s h

end

/-- Settles O31: each request by the store's state, the line state and the address. -/
theorem calRequestsBeginOrAreTurnedAway : Obligations.CalRequestsBeginOrAreTurnedAway := by
  unfold Obligations.CalRequestsBeginOrAreTurnedAway
  have hended {s : State} {c : Instr} {code : Word} {r : OpResult} (hc : exec c s = .next (busWrite 0x1100 code s))
      (h : requestOp code (ramWrite 0x1100 code (unheld s)) = finishOp r (ramWrite 0x1100 code (unheld s))) :
      ∃ t, exec c s = .next t ∧ t.cal = { s.cal with opState := .done, result := r, running := none } ∧
        ramRead t 0x1100 = code ∧ ramKeptOutside [0x1100] s t ∧ latchedBits 0x4000 s t ∧
        exceptAttn s { exceptRam s t with cal := s.cal } = unheld s := by
    obtain ⟨attn, holdOff, hfinish⟩ := finishOp_eq r (ramWrite 0x1100 code (unheld s))
    rw [hfinish] at h
    rw [exec_request hc, h]
    obtain ⟨hword, hkept⟩ := request_word code s (t := { ramWrite 0x1100 code (unheld s) with
      cal := { s.cal with opState := .done, result := r, running := none }
      bus.latched := s.bus.latched ||| bitIf true 14, bus.attn := attn, bus.holdOff := holdOff }) rfl
    exact ⟨_, rfl, rfl, hword, hkept, rfl, rfl⟩
  have hbegun {s : State} {c : Instr} {code : Word} {op : CalOp} {ms : Nat}
      (hc : exec c s = .next (busWrite 0x1100 code s))
      (h : requestOp code (ramWrite 0x1100 code (unheld s)) = beginOp op ms (ramWrite 0x1100 code (unheld s))) :
      ∃ t, exec c s = .next t ∧ t.cal = { s.cal with opState := .busy, running := some (op, s.now + ms) } ∧
        ramRead t 0x1100 = code ∧ ramKeptOutside [0x1100] s t ∧ { exceptRam s t with cal := s.cal } = unheld s := by
    rw [exec_request hc, h]
    obtain ⟨hword, hkept⟩ := request_word code s (t := beginOp op ms (ramWrite 0x1100 code (unheld s))) rfl
    exact ⟨_, rfl, rfl, hword, hkept, rfl⟩
  have hignored {s : State} {c : Instr} {code : Word} (hc : exec c s = .next (busWrite 0x1100 code s))
      (hbusy : s.cal.opState = .busy) : ∃ t, exec c s = .next t ∧ t.cal = { s.cal with result := .ignoredBusy } ∧
        ramRead t 0x1100 = code ∧ ramKeptOutside [0x1100] s t ∧
        discarded (unheld s) { exceptRam s t with cal := s.cal } := by
    have hcount := discarded_countDiscard { ramWrite 0x1100 code (unheld s) with cal.result := .ignoredBusy }
    have hframe : (countDiscard { ramWrite 0x1100 code (unheld s) with cal.result := .ignoredBusy }).cal =
          { s.cal with result := .ignoredBusy } ∧
        (countDiscard { ramWrite 0x1100 code (unheld s) with cal.result := .ignoredBusy }).bus.ram =
          (ramWrite 0x1100 code (unheld s)).bus.ram := ⟨by simp [unheld], by simp⟩
    rw [exec_request hc, requestOp_busy (s := ramWrite 0x1100 code (unheld s)) hbusy]
    generalize countDiscard { ramWrite 0x1100 code (unheld s) with cal.result := .ignoredBusy } = t at *
    obtain ⟨hcal, hram⟩ := hframe
    obtain ⟨hword, hkept⟩ := request_word code s hram
    obtain ⟨hprotect, hbits, hrest⟩ := hcount
    exact ⟨_, rfl, hcal, hword, hkept, hprotect, hbits,
      congrArg (fun v => { exceptRam s v with cal := s.cal }) hrest⟩
  refine ⟨fun s hfree => ⟨fun haddr => ?_, fun hline => ⟨fun haddr => ⟨?_, ?_⟩, ?_⟩⟩,
    fun s => ⟨fun hbusy => ⟨hignored rfl hbusy, hignored rfl hbusy, hignored rfl hbusy, hignored rfl hbusy,
      hignored rfl hbusy, fun code => hignored rfl hbusy⟩,
    fun hfree => ⟨fun code hcode => hended rfl (requestOp_unknown hfree ?_), fun hidle hhalted => ⟨?_, ?_, ?_, ?_⟩,
      fun haddr => ⟨?_, fun hline => ⟨?_, ?_⟩⟩⟩⟩⟩
  · obtain ⟨hgood, -⟩ := service_words 1 s
    have hread : requestOp 1 (ramWrite 0x1100 1 (unheld s)) = opRead (ramRead s 0x1101).toNat (ramWrite 0x1100 1 (unheld s)) := by
      rw [requestOp_read (s := ramWrite 0x1100 1 (unheld s)) hfree, withAddr_good (by rw [hgood]; exact haddr), hgood]
    obtain ⟨attn, holdOff, hfinish⟩ := finishOp_eq .ok { ramWrite 0x1100 1 (unheld s) with
      cal.readData := storeRead s (ramRead s 0x1101).toNat }
    have hexec : exec .read s = .next _ := (exec_request rfl).trans (congrArg Host.Outcome.next (hread.trans hfinish))
    obtain ⟨hword, hkept⟩ := request_word 1 s (t := { ramWrite 0x1100 1 (unheld s) with
      cal := { s.cal with
        opState := .done, result := .ok, readData := storeRead s (ramRead s 0x1101).toNat, running := none }
      bus.latched := s.bus.latched ||| bitIf true 14, bus.attn := attn, bus.holdOff := holdOff }) rfl
    exact ⟨_, hexec, rfl, hword, hkept, rfl, rfl⟩
  · obtain ⟨hgood, hdata⟩ := service_words 2 s
    refine hbegun (c := .write) rfl ?_
    rw [requestOp_write (s := ramWrite 0x1100 2 (unheld s)) hfree, unlessLocked_free (s := ramWrite 0x1100 2 (unheld s)) hline,
      withAddr_good (by rw [hgood]; exact haddr), hgood, hdata]
  · obtain ⟨hgood, -⟩ := service_words 3 s
    refine hbegun (c := .erase) rfl ?_
    rw [requestOp_erase (s := ramWrite 0x1100 3 (unheld s)) hfree, unlessLocked_free (s := ramWrite 0x1100 3 (unheld s)) hline,
      withAddr_good (by rw [hgood]; exact haddr), hgood]
  · refine hbegun (c := .saveOffsets) rfl ?_
    rw [requestOp_saveOffsets (s := ramWrite 0x1100 5 (unheld s)) hfree,
      unlessLocked_free (s := ramWrite 0x1100 5 (unheld s)) hline]
    rfl
  · simpa [Instr.wellFormed, Nat.pos_iff_ne_zero] using hcode
  · exact hended rfl ((requestOp_write (s := ramWrite 0x1100 2 (unheld s)) hfree).trans
      (unlessLocked_locked (s := ramWrite 0x1100 2 (unheld s)) hidle hhalted))
  · exact hended rfl ((requestOp_erase (s := ramWrite 0x1100 3 (unheld s)) hfree).trans
      (unlessLocked_locked (s := ramWrite 0x1100 3 (unheld s)) hidle hhalted))
  · exact hended rfl ((requestOp_loadLive (s := ramWrite 0x1100 4 (unheld s)) hfree).trans
      (unlessLocked_locked (s := ramWrite 0x1100 4 (unheld s)) hidle hhalted))
  · exact hended rfl ((requestOp_saveOffsets (s := ramWrite 0x1100 5 (unheld s)) hfree).trans
      (unlessLocked_locked (s := ramWrite 0x1100 5 (unheld s)) hidle hhalted))
  · exact hended rfl ((requestOp_read (s := ramWrite 0x1100 1 (unheld s)) hfree).trans
      (withAddr_bad (by rw [(service_words 1 s).1]; exact haddr)))
  · exact hended rfl ((requestOp_write (s := ramWrite 0x1100 2 (unheld s)) hfree).trans
      ((unlessLocked_free (s := ramWrite 0x1100 2 (unheld s)) hline).trans
        (withAddr_bad (by rw [(service_words 2 s).1]; exact haddr))))
  · exact hended rfl ((requestOp_erase (s := ramWrite 0x1100 3 (unheld s)) hfree).trans
      ((unlessLocked_free (s := ramWrite 0x1100 3 (unheld s)) hline).trans
        (withAddr_bad (by rw [(service_words 3 s).1]; exact haddr))))

/-! ## The completions (R207) -/

/-- What a completion leaves: DONE with OK, CAL latched, and only the store and the free count changed (R206). -/
theorem finishOp_ends {s u : State} {d : Nat} {store : Cells} {count : Nat}
    (hu : u = { advanceTo d s with cal.store := store, freeCount := count }) :
    (let t := finishOp .ok u
     t.cal.opState = .done ∧ t.cal.result = .ok ∧ t.cal.running = none ∧ t.cal.state = s.cal.state ∧
     t.cal.readData = s.cal.readData ∧ latchedBits 0x4000 s t ∧
     { exceptAttn s t with cal := s.cal, freeCount := s.freeCount } = advanceTo d s) ∧
    (finishOp .ok u).cal.store = u.cal.store := by
  have hframe : (advanceTo d s).cal = s.cal ∧ (advanceTo d s).bus = s.bus ∧ (advanceTo d s).freeCount = s.freeCount := by
    simp
  generalize advanceTo d s = v at *
  obtain ⟨hcal, hbus, hcount⟩ := hframe
  obtain ⟨attn, holdOff, hfinish⟩ := finishOp_eq .ok u
  rw [hfinish, hu]
  unfold latchedBits exceptAttn
  rw [← hcal, ← hbus, ← hcount]
  exact ⟨⟨rfl, rfl, rfl, rfl, rfl, rfl, rfl⟩, rfl⟩

/-- The time moves the on-time remainder of a bank, and nothing else of it (R85). -/
theorem advanceTo_bank (d : Nat) (s : State) (k : Bank) :
    ∃ n, (advanceTo d s).banks.get k = { s.banks.get k with onRem := n } := by
  unfold advanceTo
  split
  · rw [mapBanks_banks, PerBank.get_mapAll]
    unfold runOnTime
    split
    · exact ⟨_, rfl⟩
    · exact ⟨_, rfl⟩
  · exact ⟨_, rfl⟩

/-- The offset saved where the live one has not moved (R207). -/
theorem savedOffset_same (count place : Nat) (o : Int) : savedOffset count place o o = o := if_pos rfl

/-- Settles O32: the completion of each operation by what is running. -/
theorem calCompletionsWriteTheStore : Obligations.CalCompletionsWriteTheStore := by
  unfold Obligations.CalCompletionsWriteTheStore
  intro s d
  have hstore (a : Nat) : storeRead (advanceTo d s) a = storeRead s a := storeRead_congr (by simp) a
  refine ⟨fun a v hrun => ?_, fun a hrun => ?_, fun o hrun => ?_⟩
  · have hexec : exec .writeComplete s = .next (finishOp .ok (storeWrite a v (advanceTo d s))) := by
      change Host.Outcome.next (completeWrite s) = _
      simp only [completeWrite, hrun]
    obtain ⟨hends, hsame⟩ := finishOp_ends (s := s) (d := d) (u := storeWrite a v (advanceTo d s)) rfl
    have hread (b : Nat) := (storeRead_congr hsame b).trans (storeRead_storeWrite a b v (advanceTo d s))
    exact ⟨_, hexec, (hread a).trans (if_pos rfl), fun b hb => ((hread b).trans (if_neg hb)).trans (hstore b), hends⟩
  · have hexec : exec .eraseComplete s = .next (finishOp .ok (storeWrite a 0xFFFF (advanceTo d s))) := by
      change Host.Outcome.next (completeErase s) = _
      simp only [completeErase, hrun]
    obtain ⟨hends, hsame⟩ := finishOp_ends (s := s) (d := d) (u := storeWrite a 0xFFFF (advanceTo d s)) rfl
    have hread (b : Nat) := (storeRead_congr hsame b).trans (storeRead_storeWrite a b 0xFFFF (advanceTo d s))
    exact ⟨_, hexec, (hread a).trans (if_pos rfl), fun b hb => ((hread b).trans (if_neg hb)).trans (hstore b), hends⟩
  · have hexec : exec .saveOffsetsComplete s = .next (finishOp .ok (saveOffsetWords o (advanceTo d s))) := by
      change Host.Outcome.next (completeSave s) = _
      simp only [completeSave, hrun]
    obtain ⟨hends, hsame⟩ := finishOp_ends (s := s) (d := d) (u := saveOffsetWords o (advanceTo d s)) rfl
    have hoffset (k : Bank) : ((advanceTo d s).banks.get k).offset = (s.banks.get k).offset := by
      obtain ⟨n, hn⟩ := advanceTo_bank d s k
      rw [hn]
    have hread (b : Nat) : storeRead (finishOp .ok (saveOffsetWords o (advanceTo d s))) b =
        if b = 20 then wordOfInt (savedOffset (advanceTo d s).freeCount 2 o.m2 s.banks.m2.offset)
        else if b = 12 then wordOfInt (savedOffset (advanceTo d s).freeCount 1 o.m1 s.banks.m1.offset)
        else if b = 4 then wordOfInt (savedOffset (advanceTo d s).freeCount 0 o.bk s.banks.bk.offset)
        else storeRead s b := by
      have hbk := hoffset .bk
      have hm1 := hoffset .m1
      have hm2 := hoffset .m2
      rw [storeRead_congr hsame b, ← hstore b]
      simp only [PerBank.get] at hbk hm1 hm2
      simp only [saveOffsetWords, storeRead_storeWrite, liveOffsets, hbk, hm1, hm2]
      rfl
    refine ⟨_, hexec, fun h => ?_, fun h => ?_, fun h => ?_, fun b h4 h12 h20 => ?_, hends⟩
    all_goals rw [hread]
    · rw [if_neg (by decide), if_neg (by decide), if_pos rfl, h, savedOffset_same]
    · rw [if_neg (by decide), if_pos rfl, h, savedOffset_same]
    · rw [if_pos rfl, h, savedOffset_same]
    · rw [if_neg h20, if_neg h12, if_neg h4]

/-! ## LOAD_LIVE (R204, R207) -/

theorem wordIn_iff (lo hi : Nat) (w : Word) : wordIn lo hi w = true ↔ lo ≤ w.toNat ∧ w.toNat ≤ hi := by
  simp [wordIn]

/-- The range of a zero offset, as words (R204). -/
theorem offset_range (w : Word) : (decide (-1500 ≤ signedOf w) && decide (signedOf w ≤ 1499)) = true ↔
    w.toNat ≤ 1499 ∨ 64036 ≤ w.toNat := by
  have hlt : w.toNat < 65536 := w.isLt
  rw [Bool.and_eq_true, decide_eq_true_eq, decide_eq_true_eq]
  unfold signedOf
  split <;> omega

theorem liveNat_taken (s : State) (a old : Nat) :
    liveNat (takenItem s) a old = if itemOk a (storeRead s a) then (storeRead s a).toNat else old := by
  unfold liveNat takenItem
  cases itemOk a (storeRead s a) <;> rfl

/-- What an open cycle may change (R122). -/
theorem openCycle_eq (s : State) : ∃ outstanding portion replenish nodes latched attn holdOff, openCycle s = { s with
    wash.outstanding := outstanding, wash.portion := portion, wash.replenish := replenish, link.nodes := nodes
    bus.latched := latched, bus.attn := attn, bus.holdOff := holdOff } := by
  unfold openCycle
  split
  · cases hcan : canReplenish s with
    | true =>
      obtain ⟨attn, holdOff, h⟩ := orderOrPend_issued hcan
      exact ⟨_, _, _, _, _, _, _, h⟩
    | false => exact ⟨_, _, _, _, _, _, _, orderOrPend_absent hcan⟩
  · exact ⟨_, _, _, _, _, _, _, rfl⟩

theorem putBankLatching_eq (k : Bank) (b : BankUnit) (s : State) : ∃ latched attn holdOff, putBankLatching k b s =
    { putBank k b s with bus.latched := latched, bus.attn := attn, bus.holdOff := holdOff } := by
  obtain ⟨attn, holdOff, h⟩ := latchIf_eq ((b.limited && !(s.banks.get k).limited) ||
    (b.lampWeak && !(s.banks.get k).lampWeak) || (b.drift && !(s.banks.get k).drift)) .lamp (putBank k b s)
  exact ⟨_, _, _, h⟩

/-- A bank after a load of its items (R87). -/
def loadedBank (take : Nat → Option Word) (base : Nat) (b : BankUnit) : BankUnit :=
  liveLampWeak take base (liveBank take base b)

/-- What a load of live values changes (R87, R207). -/
theorem takeLive_eq (take : Nat → Option Word) (s : State) :
    ∃ hold outstanding portion replenish nodes latched attn holdOff, takeLive take s = { liveOthers take s with
      banks := { bk := loadedBank take 1 s.banks.bk, m1 := loadedBank take 9 s.banks.m1, m2 := loadedBank take 17 s.banks.m2 }
      wash.hold := hold, wash.outstanding := outstanding, wash.portion := portion, wash.replenish := replenish
      link.nodes := nodes, bus.latched := latched, bus.attn := attn, bus.holdOff := holdOff } := by
  let bank (k : Bank) (base : Nat) (t : State) : State := putBankLatching k (loadedBank take base (t.banks.get k)) t
  have hbank (k : Bank) (base : Nat) (t : State) : ∃ latched attn holdOff, bank k base t =
      { putBank k (loadedBank take base (t.banks.get k)) t with
        bus.latched := latched, bus.attn := attn, bus.holdOff := holdOff } := putBankLatching_eq k _ t
  have hload : takeLive take s = openCycle (evalSolventHold (liveOthers take (bank .m2 17 (bank .m1 9 (bank .bk 1 s))))) := rfl
  obtain ⟨l1, a1, h1, e1⟩ := hbank .bk 1 s
  obtain ⟨l2, a2, h2, e2⟩ := hbank .m1 9 (bank .bk 1 s)
  obtain ⟨l3, a3, h3, e3⟩ := hbank .m2 17 (bank .m1 9 (bank .bk 1 s))
  rw [hload, e3, e2, e1]
  generalize hu : liveOthers take _ = u
  obtain ⟨a4, h4, e4⟩ := latchIf_eq (solventHoldAfter u.wash.load u.wash.hard u.wash.hold && !u.wash.hold) .solvent
    { u with wash.hold := solventHoldAfter u.wash.load u.wash.hard u.wash.hold }
  have e5 : evalSolventHold u = _ := e4
  obtain ⟨outstanding, portion, replenish, nodes, l6, a6, h6, e6⟩ := openCycle_eq (evalSolventHold u)
  rw [e6, e5, ← hu]
  exact ⟨_, _, _, _, _, _, _, _, rfl⟩

theorem wordIn_zero (hi : Nat) (w : Word) : wordIn 0 hi w = true ↔ w.toNat ≤ hi := by
  simp [wordIn_iff]

/-- The items of the assignment are station codes (R204). -/
theorem itemOk_assign (n : Fin 15) (w : Word) : itemOk (38 + n.val) w = wordIn 0 10 w := by
  unfold itemOk
  rw [if_neg (by omega), if_neg (by omega), if_neg (by omega), if_neg (by omega), if_neg (by omega), if_neg (by omega),
    if_neg (by omega), if_neg (by omega), if_neg (by omega), if_neg (by omega), if_neg (by omega)]

/-- The ranges of a bank's eight items (R204). -/
theorem itemOk_bank (w : Word) {base : Nat} (h : base ∈ [1, 9, 17]) :
    (itemOk base w = true ↔ w.toNat ≤ 12287) ∧ (itemOk (base + 1) w = true ↔ w.toNat ≤ 12287) ∧
    (itemOk (base + 2) w = true ↔ w.toNat ≤ 4095) ∧
    (itemOk (base + 3) w = true ↔ w.toNat ≤ 1499 ∨ 64036 ≤ w.toNat) ∧
    (itemOk (base + 4) w = true ↔ 1 ≤ w.toNat ∧ w.toNat ≤ 8191) ∧
    (itemOk (base + 5) w = true ↔ 1 ≤ w.toNat ∧ w.toNat ≤ 255) ∧
    (itemOk (base + 6) w = true ↔ w.toNat ≤ 10000) ∧ (itemOk (base + 7) w = true ↔ w.toNat ≤ 20000) := by
  have hranges (j : Nat) (hj : base + j ≤ 24) (hmod : (base + j - 1) % 8 = j) : itemOk (base + j) w = bankItemOk j w := by
    unfold itemOk
    rw [if_pos hj, hmod]
  have hbase : base ≤ 17 ∧ (base - 1) % 8 = 0 ∧ 1 ≤ base := by
    fin_cases h <;> decide
  have h0 : itemOk base w = bankItemOk 0 w := hranges 0 (by omega) (by omega)
  rw [h0, hranges 1 (by omega) (by omega), hranges 2 (by omega) (by omega), hranges 3 (by omega) (by omega),
    hranges 4 (by omega) (by omega), hranges 5 (by omega) (by omega), hranges 6 (by omega) (by omega),
    hranges 7 (by omega) (by omega)]
  exact ⟨wordIn_zero _ w, wordIn_zero _ w, wordIn_zero _ w, offset_range w, wordIn_iff _ _ w, wordIn_iff _ _ w,
    wordIn_zero _ w, wordIn_zero _ w⟩

/-- A bank with the items loaded that lie in their ranges (R87, R207). -/
theorem loadedBank_taken (s : State) (base : Nat) (b : BankUnit) :
    (let ok (a : Nat) : Bool := itemOk a (storeRead s a)
     let nat (a old : Nat) : Nat := if ok a then (storeRead s a).toNat else old
     let c := loadedBank (takenItem s) base b
     c.w0 = nat base b.w0 ∧ c.w1 = nat (base + 1) b.w1 ∧ c.gain = nat (base + 2) b.gain ∧
     c.offset = (if ok (base + 3) then signedOf (storeRead s (base + 3)) else b.offset) ∧
     c.drift = (if ok (base + 3) then false else b.drift) ∧
     c.sensitivity = nat (base + 4) b.sensitivity ∧ c.regGain = nat (base + 5) b.regGain ∧
     c.rated = nat (base + 6) b.rated ∧ c.full = nat (base + 7) b.full ∧
     c.duty = b.duty ∧ c.state = b.state ∧ c.claims = b.claims) := by
  have hweak (c : BankUnit) : ∃ x, liveLampWeak (takenItem s) base c = { c with lampWeak := x } := by
    unfold liveLampWeak
    split
    · exact ⟨_, rfl⟩
    · exact ⟨c.lampWeak, rfl⟩
  obtain ⟨x, hx⟩ := hweak (liveBank (takenItem s) base b)
  dsimp only
  unfold loadedBank
  rw [hx]
  unfold liveBank
  simp only [liveNat_taken]
  by_cases hoffset : itemOk (base + 3) (storeRead s (base + 3)) = true
  · have htaken : takenItem s (base + 3) = some (storeRead s (base + 3)) := if_pos hoffset
    simp [htaken, hoffset]
  · have htaken : takenItem s (base + 3) = none := if_neg hoffset
    simp [htaken, hoffset]

theorem getLsbD_or_bit (x : Word) (n : Nat) (h : n < 16) : (x ||| bitIf true n).getLsbD n = true := by
  rw [BitVec.getLsbD_or, getLsbD_bitIf _ _ h]
  simp

/-- What a load takes, seen without the banks: the items alone (R87, R207). -/
theorem takeLive_liveOthers (take : Nat → Option Word) (s : State) :
    (let t := takeLive take s
     let u := liveOthers take s
     t.claimLead = u.claimLead ∧ t.admission = u.admission ∧ t.drying = u.drying ∧
     t.link.lastNode = u.link.lastNode ∧ t.link.assign = u.link.assign ∧
     t.wash.start = u.wash.start ∧ t.wash.stop = u.wash.stop ∧ t.wash.volume = u.wash.volume ∧
     t.wash.replPortion = u.wash.replPortion ∧ t.wash.regen = u.wash.regen ∧ t.wash.hard = u.wash.hard ∧
     t.wash.slope = u.wash.slope) := by
  obtain ⟨hold, outstanding, portion, replenish, nodes, latched, attn, holdOff, hlive⟩ := takeLive_eq take s
  dsimp only
  rw [hlive]
  exact ⟨rfl, rfl, rfl, rfl, rfl, rfl, rfl, rfl, rfl, rfl, rfl, rfl⟩

/-- The live values outside the banks after a load of the items in their ranges (R87, R204, R207). -/
theorem liveOthers_taken (s u : State) :
    (let ok (a : Nat) : Bool := itemOk a (storeRead s a)
     let nat (a old : Nat) : Nat := if ok a then (storeRead s a).toNat else old
     let t := liveOthers (takenItem s) u
     t.claimLead = nat 25 u.claimLead ∧ t.admission.smallGap = nat 26 u.admission.smallGap ∧
     t.admission.largeGap = nat 27 u.admission.largeGap ∧
     t.wash.start = nat 28 u.wash.start ∧ t.wash.stop = nat 29 u.wash.stop ∧
     t.wash.volume = nat 30 u.wash.volume ∧ t.wash.replPortion = nat 31 u.wash.replPortion ∧
     t.wash.regen = nat 32 u.wash.regen ∧ t.wash.hard = nat 33 u.wash.hard ∧ t.wash.slope = nat 34 u.wash.slope ∧
     t.drying.setpoint = nat 35 u.drying.setpoint ∧ t.drying.band = nat 36 u.drying.band ∧
     t.link.lastNode = nat 37 u.link.lastNode ∧
     (∀ n : Fin 15, t.link.assign[n] =
       if ok (38 + n.val) then stationOfCode (storeRead s (38 + n.val)).toNat else u.link.assign[n])) := by
  dsimp only
  unfold liveOthers
  refine ⟨liveNat_taken s 25 _, liveNat_taken s 26 _, liveNat_taken s 27 _, liveNat_taken s 28 _,
    liveNat_taken s 29 _, liveNat_taken s 30 _, liveNat_taken s 31 _, liveNat_taken s 32 _, liveNat_taken s 33 _,
    liveNat_taken s 34 _, liveNat_taken s 35 _, liveNat_taken s 36 _, liveNat_taken s 37 _, fun n => ?_⟩
  simp only [Fin.getElem_fin, Vector.getElem_ofFn]
  unfold takenItem
  cases itemOk (38 + n.val) (storeRead s (38 + n.val)) <;> rfl

/-- A load of live values leaves the rest of the machine (R207). -/
theorem takeLive_stands (take : Nat → Option Word) (s : State) :
    (let t := takeLive take s
     t.cal = s.cal ∧ t.wash.load = s.wash.load ∧ t.supervisor = s.supervisor ∧ t.tracker = s.tracker ∧
     t.transport = s.transport ∧ t.shuttle = s.shuttle ∧ t.chamber = s.chamber ∧ t.intake = s.intake) := by
  obtain ⟨hold, outstanding, portion, replenish, nodes, latched, attn, holdOff, hlive⟩ := takeLive_eq take s
  dsimp only
  rw [hlive]
  exact ⟨rfl, rfl, rfl, rfl, rfl, rfl, rfl, rfl⟩

/-- A load of live values loads each bank (R87). -/
theorem takeLive_banks (take : Nat → Option Word) (s : State) : (takeLive take s).banks =
    { bk := loadedBank take 1 s.banks.bk, m1 := loadedBank take 9 s.banks.m1, m2 := loadedBank take 17 s.banks.m2 } := by
  obtain ⟨hold, outstanding, portion, replenish, nodes, latched, attn, holdOff, hlive⟩ := takeLive_eq take s
  rw [hlive]

/-- What LOAD_LIVE of a marked store does (R207). -/
theorem opLoadLive_marked {s : State} (hmark : storeRead s 0 = 0x6D4B) :
    ∃ result calState, opLoadLive s = finishOp result (takeLive (takenItem s) { s with cal.state := calState }) ∧
      ((∀ a ∈ itemWords, itemOk a (storeRead s a) = true) → result = .ok ∧ calState = .valid) ∧
      ((∃ a ∈ itemWords, itemOk a (storeRead s a) = false) → result = .range ∧ calState = s.cal.state) := by
  have hmarked : storeMarked s = true := by
    unfold storeMarked
    rw [hmark]
    rfl
  have hall : allItemsOk s = true ↔ ∀ a ∈ itemWords, itemOk a (storeRead s a) = true := by
    unfold allItemsOk
    simp only [List.all_eq_true]
  unfold opLoadLive
  rw [if_pos hmarked]
  by_cases hok : allItemsOk s = true
  · rw [if_pos hok]
    refine ⟨_, _, rfl, fun _ => ⟨rfl, rfl⟩, fun ⟨a, ha, hbad⟩ => ?_⟩
    rw [hall.mp hok a ha] at hbad
    exact absurd hbad (by decide)
  · rw [if_neg hok]
    exact ⟨.range, s.cal.state, rfl, fun h => absurd (hall.mpr h) hok, fun _ => ⟨rfl, rfl⟩⟩

/-- Settles O33: the ranges by their items, the load item by item. -/
theorem loadLiveTakesTheItemsInRange : Obligations.LoadLiveTakesTheItemsInRange := by
  unfold Obligations.LoadLiveTakesTheItemsInRange
  have hrequest {s : State} (hfree : s.cal.opState ≠ .busy)
      (hline : s.supervisor.line = .idle ∨ s.supervisor.line = .halted) :
      exec .loadLive s = .next (opLoadLive (ramWrite 0x1100 4 (unheld s))) :=
    (exec_request rfl).trans (congrArg Host.Outcome.next
      ((requestOp_loadLive (s := ramWrite 0x1100 4 (unheld s)) hfree).trans
        (unlessLocked_free (s := ramWrite 0x1100 4 (unheld s)) hline)))
  refine ⟨fun w => ⟨fun base hbase => itemOk_bank w hbase, wordIn_zero _ w, wordIn_zero _ w, wordIn_zero _ w,
    wordIn_zero _ w, wordIn_zero _ w, wordIn_iff _ _ w, wordIn_iff _ _ w, rfl, rfl, wordIn_zero _ w, wordIn_zero _ w,
    wordIn_zero _ w, wordIn_iff _ _ w, fun n => by rw [itemOk_assign, wordIn_zero]⟩,
    fun s hfree hline => ⟨fun hmark => ?_, fun hmark => ?_⟩⟩
  · have hunmarked : opLoadLive (ramWrite 0x1100 4 (unheld s)) = finishOp .range (ramWrite 0x1100 4 (unheld s)) :=
      if_neg (by
        change ¬ ((storeRead s 0 == 0x6D4B) = true)
        simpa using hmark)
    obtain ⟨attn, holdOff, hfinish⟩ := finishOp_eq .range (ramWrite 0x1100 4 (unheld s))
    rw [hrequest hfree hline, hunmarked, hfinish]
    obtain ⟨-, hkept⟩ := request_word 4 s (t := { ramWrite 0x1100 4 (unheld s) with
      cal := { s.cal with opState := .done, result := .range, running := none }
      bus.latched := s.bus.latched ||| bitIf true 14, bus.attn := attn, bus.holdOff := holdOff }) rfl
    exact ⟨_, rfl, rfl, hkept, rfl, rfl⟩
  · have hexec := hrequest hfree hline
    obtain ⟨result, calState, hresult, hgood, hbad⟩ := opLoadLive_marked (s := ramWrite 0x1100 4 (unheld s)) hmark
    have hitems := liveOthers_taken s { ramWrite 0x1100 4 (unheld s) with cal.state := calState }
    have hothers := takeLive_liveOthers (takenItem s) { ramWrite 0x1100 4 (unheld s) with cal.state := calState }
    have hstands := takeLive_stands (takenItem s) { ramWrite 0x1100 4 (unheld s) with cal.state := calState }
    have hbanks := takeLive_banks (takenItem s) { ramWrite 0x1100 4 (unheld s) with cal.state := calState }
    have hload : opLoadLive (ramWrite 0x1100 4 (unheld s)) =
      finishOp result (takeLive (takenItem s) { ramWrite 0x1100 4 (unheld s) with cal.state := calState }) := hresult
    generalize takeLive (takenItem s) { ramWrite 0x1100 4 (unheld s) with cal.state := calState } = u at *
    generalize liveOthers (takenItem s) { ramWrite 0x1100 4 (unheld s) with cal.state := calState } = v at *
    obtain ⟨attn, holdOff, hfinish⟩ := finishOp_eq result u
    rw [hexec, hload, hfinish]
    obtain ⟨h25, h26, h27, h28, h29, h30, h31, h32, h33, h34, h35, h36, h37, h38⟩ := hitems
    obtain ⟨hlead, hadmission, hdrying, hlast, hassign, hstart, hstop, hvolume, hportion, hregen, hhard, hslope⟩ := hothers
    obtain ⟨hcal, hrest⟩ := hstands
    refine ⟨_, rfl, rfl, ?_, getLsbD_or_bit _ _ (by decide), fun h => ?_, fun h => ?_, ?_,
      hlead.trans h25, (congrArg Admission.smallGap hadmission).trans h26, (congrArg Admission.largeGap hadmission).trans h27,
      hstart.trans h28, hstop.trans h29, hvolume.trans h30, hportion.trans h31, hregen.trans h32, hhard.trans h33,
      hslope.trans h34, (congrArg Drying.setpoint hdrying).trans h35, (congrArg Drying.band hdrying).trans h36,
      hlast.trans h37, fun n => (congrArg (·[n]) hassign).trans (h38 n), hrest⟩
    · have e := congrArg CalStore.store hcal
      exact e
    · obtain ⟨hr, hc⟩ := hgood h
      have e := congrArg CalStore.state hcal
      exact ⟨hr, e.trans hc⟩
    · obtain ⟨hr, hc⟩ := hbad h
      have e := congrArg CalStore.state hcal
      exact ⟨hr, e.trans hc⟩
    · intro x hx
      dsimp only
      rw [hbanks]
      fin_cases hx
      · exact loadedBank_taken s 1 s.banks.bk
      · exact loadedBank_taken s 9 s.banks.m1
      · exact loadedBank_taken s 17 s.banks.m2

end Sys2Proof.Machine

/-! PROOFS. The banks' clocks, the debounce of the plate sensors, the owners' commands and the judgement of a
response (R56, R64, R83, R85, R145, R177). -/

namespace Sys2Proof.Machine

/-! ## The banks' clocks -/

/-- Settles O47. -/
theorem bankClocksCountTheDuty : Obligations.BankClocksCountTheDuty := by
  unfold Obligations.BankClocksCountTheDuty
  intro k s
  refine ⟨rfl, fun hduty hrem => congrArg Host.Outcome.next (if_pos ⟨hduty, hrem⟩), fun hduty => ?_⟩
  have htick : onTimeTick k s = _ := if_neg fun h => absurd h.1 (Nat.ne_of_gt hduty)
  refine congrArg Host.Outcome.next (htick.trans ?_)
  obtain ⟨n, hbank⟩ := advanceTo_bank (s.now + (1000 - (s.banks.get k).onRem)) s k
  dsimp only
  rw [hbank]
  rfl

/-! ## Debouncing (R56) -/

/-- Settles O39. -/
theorem sensorChangesAreDebounced : Obligations.SensorChangesAreDebounced := by
  unfold Obligations.SensorChangesAreDebounced
  intro s
  have hstands (k : Sensor) : exec (.sensorInputChange k (sensorPin s k)) s = .next s :=
    congrArg Host.Outcome.next (if_pos rfl)
  have hmoves (k : Sensor) : sensorPin s k ≠ !sensorPin s k := (Bool.not_ne_self _).symm
  have haway (a b : Bool) : (!a) ≠ b ↔ a = b := by
    cases a <;> cases b <;> decide
  have hchange (k : Sensor) : exec (.sensorInputChange k (!sensorPin s k)) s = .next (putSensorUnit k
      { sensorUnit s k with
        timer := some (s.now + 5)
        candidate := if sensorPin s k = (sensorUnit s k).settled ∧ (sensorUnit s k).candidate = none
          then some (beltPos s) else (sensorUnit s k).candidate } (putSensorPin k (!sensorPin s k) s)) := by
    refine congrArg Host.Outcome.next ((if_neg (hmoves k)).trans ?_)
    simp only [haway]
  have hchatter (k : Sensor) (d : Nat) (htimer : (sensorUnit s k).timer = some d)
      (hlevel : sensorPin s k = (sensorUnit s k).settled) : exec (.settleTimerExpiry k) s = .next
        (putSensorUnit k { sensorUnit s k with candidate := none, timer := none } (advanceTo d s)) := by
    change Host.Outcome.next (onExpiry (sensorUnit s k).timer (settleSensor k) s) = _
    rw [htimer]
    have hunit : sensorUnit (advanceTo d s) k = sensorUnit s k := by
      cases k <;> simp [sensorUnit]
    have hpin : sensorPin (advanceTo d s) k = sensorPin s k := by
      cases k <;> simp [sensorPin]
    have hsettle : settleSensor k (advanceTo d s) = _ := if_pos ((hpin.trans hlevel).trans (congrArg _ hunit.symm))
    exact congrArg Host.Outcome.next (hsettle.trans (by rw [hunit]))
  have hexpiry (d : Nat) : (advanceTo d s).transport = s.transport := by simp
  refine ⟨⟨hstands .infeed, hstands .exit⟩, ⟨hchange .infeed, hchange .exit⟩, fun d => ⟨fun ht hl => ?_, fun ht hl => ?_⟩⟩
  · rw [hchatter .infeed d ht hl]
    simp only [putSensorUnit, sensorUnit, hexpiry]
  · rw [hchatter .exit d ht hl]
    simp only [putSensorUnit, sensorUnit, hexpiry]

/-! ## The owners' commands (R64, R113, R114, R133, R145, R155) -/

/-- Settles O53. -/
theorem ownersGiveTheirCommands : Obligations.OwnersGiveTheirCommands := by
  unfold Obligations.OwnersGiveTheirCommands
  refine ⟨fun s => ?_, rfl, rfl, fun _ _ => rfl, rfl, rfl, rfl⟩
  have hruns : circulates s = decide (s.supervisor.line = .running ∨ s.supervisor.line = .draining) := by
    unfold circulates
    cases s.supervisor.line <;> rfl
  have hsafe (h : s.supervisor.line ≠ .safe) : isSafe s = false := decide_eq_false h
  have hmoves (h : s.shuttle.state ≠ .faulted ∨ s.shuttle.resetRequested = false) :
      ¬(s.shuttle.state = .faulted ∧ s.shuttle.resetRequested = true) := by
    rintro ⟨hf, hr⟩
    simp [hf, hr] at h
  refine ⟨fun h => if_pos h, fun h => if_neg h, fun h => ⟨if_pos (decide_eq_true h), if_pos (decide_eq_true h)⟩,
    fun h => ⟨fun hnone => ?_, fun n hsome => ?_, fun hstate hreset => ?_, fun hstate => ⟨fun hnone => ?_, fun m hsome => ?_⟩⟩,
    fun h => ?_, fun h => ?_, fun h => ?_, fun h => ?_, fun _ => rfl⟩
  · simp only [ownerDemand, washDemand, hsafe h, hnone, hruns]
    rfl
  · simp only [ownerDemand, washDemand, hsafe h, hsome, hruns]
    rfl
  · simp only [ownerDemand, shuttleDemand, hsafe h, hstate, hreset]
    rfl
  · simp only [ownerDemand, shuttleDemand, hsafe h, if_neg (hmoves hstate), hnone]
    rfl
  · simp only [ownerDemand, shuttleDemand, hsafe h, if_neg (hmoves hstate), hsome]
    rfl
  · rcases h with h | h <;> simp only [ownerDemand, finisherDemand, h] <;> rfl
  · simp only [ownerDemand, finisherDemand, h]
    rfl
  · simp only [ownerDemand, finisherDemand, h]
    rfl
  · rcases h with h | h | h | h | h <;> simp only [ownerDemand, finisherDemand, h] <;> rfl

/-! ## The judgement of a response (R177) -/

/-- The parity of a byte is that of the number of its ones. -/
theorem oddParity_eq_true (b : Byte) :
    oddParity b = true ↔ ((List.range 8).filter fun i => b.getLsbD i).length % 2 = 1 := by
  have hcount (f : Nat → Bool) : (f 0 ^^ f 1 ^^ f 2 ^^ f 3 ^^ f 4 ^^ f 5 ^^ f 6 ^^ f 7) = true ↔
      ((List.range 8).filter f).length % 2 = 1 := by
    have hones (l : List Nat) : (l.filter f).length % 2 = 1 ↔ (l.foldr (fun i x => f i ^^ x) false) = true := by
      induction l with
      | nil => simp
      | cons i l ih =>
        rw [List.foldr_cons, List.filter_cons]
        cases hi : f i with
        | false => simpa using ih
        | true =>
          rw [if_pos rfl, List.length_cons]
          cases hl : l.foldr (fun i x => f i ^^ x) false with
          | false =>
            have heven : ¬ (l.filter f).length % 2 = 1 := by simp [ih, hl]
            simp
            omega
          | true =>
            have hodd : (l.filter f).length % 2 = 1 := by simp [ih, hl]
            simp
            omega
    rw [hones]
    simp [List.range, List.range.loop]
  exact hcount b.getLsbD

/-- Settles O54. -/
theorem responsesAreJudged : Obligations.ResponsesAreJudged := by
  unfold Obligations.ResponsesAreJudged
  intro addr
  refine ⟨rfl, fun bs hne hshort => ?_, fun y echo stat d0 d1 d2 d3 d4 d5 check stops => ?_⟩
  · have hlen : ((bs.take 10).map fun b => b.data).length = bs.length := by simp; omega
    have hpos : 0 < bs.length := List.length_pos_iff.mpr hne
    unfold judge
    split
    · next heq =>
      rw [heq] at hlen
      exact absurd hlen (Nat.ne_of_lt hpos)
    · next heq =>
      rw [heq] at hlen
      exact absurd hlen.symm (Nat.ne_of_lt hshort)
    · rfl
  · have hlow : List.any [stops 0, stops 1, stops 2, stops 3, stops 4, stops 5, stops 6, stops 7, stops 8, stops 9]
        (fun b => !b) = false ↔ ∀ i : Fin 10, stops i = true := by
      simp [Fin.forall_fin_succ]
    have hjudge : judge addr [⟨y, stops 0⟩, ⟨echo, stops 1⟩, ⟨stat, stops 2⟩, ⟨d0, stops 3⟩, ⟨d1, stops 4⟩,
        ⟨d2, stops 5⟩, ⟨d3, stops 6⟩, ⟨d4, stops 7⟩, ⟨d5, stops 8⟩, ⟨check, stops 9⟩] =
        if List.any [stops 0, stops 1, stops 2, stops 3, stops 4, stops 5, stops 6, stops 7, stops 8, stops 9]
          (fun b => !b) = true then .checkError
        else if y ≠ 0x3A then .checkError
        else if check ≠ crc8 [echo, stat, d0, d1, d2, d3, d4, d5] then .checkError
        else if stat.getLsbD 0 ≠ oddParity d5 then .checkError
        else if echo ≠ addr then .echoMismatch
        else .good stat #v[d0, d1, d2, d3, d4, d5] := rfl
    have hparity : (stat.getLsbD 0 = true ↔ ((List.range 8).filter fun i => d5.getLsbD i).length % 2 = 1) ↔
        stat.getLsbD 0 = oddParity d5 := by
      rw [← oddParity_eq_true]
      exact Bool.eq_iff_iff.symm
    dsimp only
    rw [hjudge, hparity, ← hlow]
    refine ⟨fun hbad => ?_, fun ⟨hhigh, hsync, hcheck, hpar⟩ hecho => ?_, fun ⟨hhigh, hsync, hcheck, hpar⟩ hecho => ?_⟩
    · split
      · rfl
      · next hany =>
        split
        · rfl
        · next hsync =>
          split
          · rfl
          · next hcheck =>
            rw [if_pos]
            exact fun hpar => hbad ⟨Bool.eq_false_iff.mpr hany, not_not.mp hsync, not_not.mp hcheck, hpar⟩
    · rw [if_neg (by rw [hhigh]; decide), if_neg (not_not.mpr hsync), if_neg (not_not.mpr hcheck),
        if_neg (not_not.mpr hpar), if_pos hecho]
    · rw [if_neg (by rw [hhigh]; decide), if_neg (not_not.mpr hsync), if_neg (not_not.mpr hcheck),
        if_neg (not_not.mpr hpar), if_neg (not_not.mpr hecho)]

end Sys2Proof.Machine

/-! PROOFS. The safety inputs and the entry to SAFE (R29, R201, R202). -/

namespace Sys2Proof.Machine

section
variable {s t : State}

/-! ## A line that is SAFE gives the handling stations no work (R139, R149, R165) -/

/-- In SAFE no batch is exposed and the shuttle is not READY (R139, R165). -/
def handlingStands (s : State) : Prop :=
  s.supervisor.line = .safe ∧ s.shuttle.state ≠ .ready ∧ s.chamber.state ≠ .exposing

theorem handlingStands_of_eq (h : handlingStands s) (hline : t.supervisor.line = s.supervisor.line)
    (hshuttle : t.shuttle.state = s.shuttle.state) (hchamber : t.chamber.state = s.chamber.state) : handlingStands t :=
  ⟨hline.trans h.1, fun e => h.2.1 (hshuttle.symm.trans e), fun e => h.2.2 (hchamber.symm.trans e)⟩

theorem handlingStands_startExposure (h : handlingStands s) : handlingStands (startExposure s) := by
  obtain ⟨hline, hshuttle, -⟩ := h
  have hsafe : isSafe s = true := decide_eq_true hline
  have hsuspended : startExposure s = _ := if_pos (by rw [hsafe]; rfl)
  rw [hsuspended]
  exact ⟨hline, hshuttle, nofun⟩

theorem handlingStands_handlingTests (h : handlingStands s) : handlingStands (handlingTests s) := by
  have hask : handlingStands (withdrawSecondAsk s) := by
    unfold withdrawSecondAsk
    split
    · split
      · exact handlingStands_startExposure h
      · exact h
    · exact h
  have hlight : handlingStands (lightTubes (withdrawSecondAsk s)) := by
    unfold lightTubes
    split
    · exact ⟨by simpa using hask.1, by simpa using hask.2.1, nofun⟩
    · exact hask
  unfold handlingTests
  rwa [grant_of_not_ready _ hlight.2.1]

theorem shuttleAble_of_safe (h : s.supervisor.line = .safe) : shuttleAble s = false := by
  simp [shuttleAble, isSafe, h]

theorem handlingStands_evalShuttle (h : handlingStands s) : handlingStands (evalShuttle s) := by
  unfold evalShuttle
  rw [shuttleAble_of_safe h.1]
  split
  · exact h
  · next hready => exact absurd hready h.2.1
  · exact h
  · exact h

theorem handlingStands_toldLeft (st : Station) (h : handlingStands s) : handlingStands (toldLeft st s) := by
  cases st with
  | shuttle => exact handlingStands_evalShuttle h
  | wash => exact h
  | finisher => exact h
  | none => exact h
  | drive => exact handlingStands_of_eq h (by simp [toldLeft]) (by simp [toldLeft]) (by simp [toldLeft])
  | drawer d => exact handlingStands_of_eq h (by simp [toldLeft]) (by simp [toldLeft]) (by simp [toldLeft])

theorem handlingStands_takeAssignment (h : handlingStands s) : handlingStands (takeAssignment s) := by
  refine handlingStands_handlingTests ?_
  refine List.foldlRecOn (motive := handlingStands) nodeIds _ (handlingStands_of_eq h rfl rfl rfl) fun u hu n _ => ?_
  dsimp only
  split
  · exact handlingStands_toldLeft _ hu
  · exact hu

theorem handlingStands_linkContinuous (h : handlingStands s) : handlingStands (linkContinuous s) := by
  unfold linkContinuous
  split
  · exact h
  · exact handlingStands_of_eq h rfl rfl rfl
  · have htaken : handlingStands (takeAssignment { s with link.mode := .continuous }) :=
      handlingStands_takeAssignment (handlingStands_of_eq h rfl rfl rfl)
    unfold startPass
    dsimp only
    split
    · exact handlingStands_of_eq htaken rfl rfl rfl
    · split <;> exact handlingStands_of_eq htaken rfl rfl rfl

theorem linkContinuous_mode (s : State) : (linkContinuous s).link.mode = .continuous := by
  unfold linkContinuous
  split
  · assumption
  · rfl
  · have hmode : (takeAssignment { s with link.mode := .continuous }).link.mode = .continuous := by simp
    unfold startPass
    dsimp only
    split
    · exact hmode
    · rw [hmode]

/-! ## Entry to SAFE (R29) -/

theorem cancelReplenish_outstanding (s : State) : (cancelReplenish s).wash.outstanding = none := by
  unfold cancelReplenish
  split <;> rfl

/-- What every entry to SAFE does to the stations (R29). -/
theorem safeStations_effect (hline : s.supervisor.line = .safe) :
    (let t := safeStations s
     t.supervisor = s.supervisor ∧ t.safety = { s.safety with lineSafe := true } ∧ t.bus.latched = s.bus.latched ∧
     t.wash.outstanding = none ∧ t.shuttle.state ≠ .ready ∧ t.chamber.state ≠ .exposing ∧ t.link.mode = .continuous ∧
     t.tracker.train = s.tracker.train ∧ t.transport.demand = s.transport.demand ∧ t.banks = s.banks) := by
  have hstands : handlingStands (safeShuttle (suspendBatch (cancelReplenish { s with safety.lineSafe := true }))) := by
    refine ⟨by simpa using hline, ?_, ?_⟩
    · unfold safeShuttle
      split
      · nofun
      · next h => exact fun e => nomatch h.symm.trans e
      · next h => exact fun e => nomatch h.symm.trans e
      · next h => exact fun e => nomatch h.symm.trans e
    · have hchamber (u : State) : (safeShuttle u).chamber = u.chamber := by simp
      rw [hchamber]
      unfold suspendBatch
      dsimp only
      split
      · nofun
      · assumption
  obtain ⟨-, hshuttle, hchamber⟩ := handlingStands_linkContinuous hstands
  have houtstanding : (safeStations s).wash.outstanding = none := by
    have hcancelled := cancelReplenish_outstanding { s with safety.lineSafe := true }
    simpa [safeStations] using hcancelled
  exact ⟨by simp, by simp [safeStations], by simp, houtstanding, hshuttle, hchamber, linkContinuous_mode _, by simp,
    by simp [safeStations], by simp⟩

theorem banksFollow_setLine {f : Bool} {l : LineState} (h : banksAs f s) : banksFollow (setLine l s) := by
  have hf : bankForced (setLine l s) = bankForced { s with supervisor.line := l } :=
    bankForced_eq (by simp) (by simp)
  rw [banksFollow_iff, hf]
  exact banksAs_mapBanks (s := { s with supervisor.line := l }) (fun _ hb => bankFollows_syncBank _ _ hb) h

theorem banksFollow_stopLine {cause : HaltCause} {attn : Attn} {line : LineState} (h : banksFollow s) :
    banksFollow (stopLine cause attn line s) := by
  have hspoilt : banksAs (bankForced s) (endEpoch (spoilTrain (closeGate s))) :=
    banksAs_of_eq (banksAs_spoilTrain (s := closeGate s) ((banksFollow_iff s).mp h)) (by simp)
  have hforced : banksAs true (forceBanks (endEpoch (spoilTrain (closeGate s)))) :=
    banksAs_mapBanks (fun _ hb => bankFollows_syncBank _ _ hb) hspoilt
  exact banksFollow_setLine (banksAs_of_eq hforced (by simp))

/-- The line stopped for an entry to SAFE, before its stations are (R29). -/
theorem enterSafe_stopped (cause : HaltCause) (hline : s.supervisor.line ≠ .safe) :
    ∃ u, enterSafe cause s = safeStations u ∧ u.supervisor = { s.supervisor with line := .safe, cause := cause } ∧
      u.safety = s.safety ∧ u.bus.latched.getLsbD 0 = true ∧
      (s.supervisor.line ≠ .halted → u.tracker.train = [] ∧ u.transport.demand = 0 ∧
        ∀ k : Bank, (u.banks.get k).state = .forcedOff) ∧
      (banksFollow s → banksFollow u) := by
  have hmoving (h : enterSafe cause s = safeStations (stopLine cause .safe .safe s)) :
      ∃ u, enterSafe cause s = safeStations u ∧ u.supervisor = { s.supervisor with line := .safe, cause := cause } ∧
        u.safety = s.safety ∧ u.bus.latched.getLsbD 0 = true ∧
        (s.supervisor.line ≠ .halted → u.tracker.train = [] ∧ u.transport.demand = 0 ∧
          ∀ k : Bank, (u.banks.get k).state = .forcedOff) ∧
        (banksFollow s → banksFollow u) := by
    obtain ⟨hsupervisor, hlatched, -, -, htrain, -, -, -, hdemand, -, hbanks, -, -⟩ :=
      stopLine_effect (cause := cause) (attn := .safe) (line := .safe) (.inr rfl) s
    exact ⟨_, h, hsupervisor, by simp, hlatched, fun _ => ⟨htrain, hdemand, fun k => (hbanks k).1⟩, banksFollow_stopLine⟩
  unfold enterSafe at hmoving ⊢
  split at hmoving
  case h_4 =>
    next hhalted =>
    rw [hhalted]
    refine ⟨_, rfl, ?_, by simp, ?_, fun h => absurd rfl h, fun h => ?_⟩
    · simp [setLine]
    · have hlatched : (setLine .safe (latch .safe { s with supervisor.cause := cause })).bus.latched =
          (latch .safe { s with supervisor.cause := cause }).bus.latched := by simp
      rw [hlatched]
      exact getLsbD_latch .safe _
    · exact banksFollow_setLine (banksAs_of_eq (t := latch .safe { s with supervisor.cause := cause })
        ((banksFollow_iff s).mp h) (by simp))
  case h_5 => contradiction
  all_goals exact hmoving rfl

/-- Entry to SAFE from another line state (R29, R202). -/
theorem enterSafe_effect (cause : HaltCause) (hline : s.supervisor.line ≠ .safe) :
    (let t := enterSafe cause s
     t.supervisor = { s.supervisor with line := .safe, cause := cause } ∧
     t.safety = { s.safety with lineSafe := true } ∧ t.bus.latched.getLsbD 0 = true ∧ t.wash.outstanding = none ∧
     t.shuttle.state ≠ .ready ∧ t.chamber.state ≠ .exposing ∧ t.link.mode = .continuous ∧
     (s.supervisor.line ≠ .halted → t.tracker.train = [] ∧ t.transport.demand = 0 ∧
       ∀ k : Bank, (t.banks.get k).state = .forcedOff) ∧
     (banksFollow s → ∀ k : Bank, (t.banks.get k).state = .forcedOff ∧ (t.banks.get k).duty = 0)) := by
  obtain ⟨u, henter, hsupervisor, hsafety, hlatched, hempty, hfollow⟩ := enterSafe_stopped cause hline
  have husafe : u.supervisor.line = .safe := congrArg Supervisor.line hsupervisor
  obtain ⟨hsupervisor', hsafety', hlatched', hwash, hshuttle, hchamber, hmode, htrain, hdemand, hbanks⟩ :=
    safeStations_effect husafe
  dsimp only
  rw [henter]
  refine ⟨hsupervisor'.trans hsupervisor, by rw [hsafety', hsafety], by rw [hlatched', hlatched], hwash, hshuttle,
    hchamber, hmode, fun h => ?_, fun h k => ?_⟩
  · rw [htrain, hdemand, hbanks]
    exact hempty h
  · have hline : bankForced u = true := by simp [bankForced, lineStands, husafe]
    have hall : banksAs true u := hline ▸ (banksFollow_iff u).mp (hfollow h)
    obtain ⟨hstate, -, hduty, -⟩ := hall k
    rw [hbanks]
    exact ⟨hstate.mpr rfl, hduty (.inl rfl)⟩

end

/-! ## The inputs (R201) -/

theorem settledCover_stands {closed : Bool} {s : State} (h : circulates s = false ∨ closed = true) :
    settledCover closed s = syncBanks { s with safety.coverClosed := closed } := by
  have hmoves : lineMoves (syncBanks { s with safety.coverClosed := closed }) = circulates s := by
    have hline : (syncBanks { s with safety.coverClosed := closed }).supervisor = s.supervisor := by simp
    unfold lineMoves circulates
    rw [hline]
  have hstands : ¬(!closed && lineMoves (syncBanks { s with safety.coverClosed := closed })) = true := by
    rw [hmoves]
    rcases h with h | h <;> simp [h]
  exact if_neg hstands

theorem settledCover_moves {s : State} (h : circulates s = true) :
    settledCover false s = enterSafe .cover (syncBanks { s with safety.coverClosed := false }) := by
  have hmoves : lineMoves (syncBanks { s with safety.coverClosed := false }) = true := by
    have hline : (syncBanks { s with safety.coverClosed := false }).supervisor = s.supervisor := by simp
    unfold lineMoves circulates
    rw [hline]
    exact h
  exact if_pos (by rw [hmoves]; rfl)

theorem syncBanks_uncovered (s : State) (k : Bank) :
    ((syncBanks { s with safety.coverClosed := false }).banks.get k).state = .forcedOff := by
  have hforced : bankForced { s with safety.coverClosed := false } = true := by simp [bankForced]
  unfold syncBanks
  rw [hforced, mapBanks_banks, PerBank.get_mapAll]
  exact (syncBank_forced _ _).1

/-- Settles O60. -/
theorem safetyInputsSettle : Obligations.SafetyInputsSettle := by
  unfold Obligations.SafetyInputsSettle
  intro s
  have hchange (i : SafetyInput) : exec (.safetyInputChange i (safetyPin s i)) s = .next s :=
    congrArg Host.Outcome.next (if_pos rfl)
  have hmoves (a : Bool) : ¬a = !a := (Bool.not_ne_self a).symm
  have hexpiry (i : SafetyInput) (d : Nat) (h : safetyTimer s i = some d) :
      exec (.safetySettleExpiry i) s = .next (safetySettled i (advanceTo d s)) := by
    change Host.Outcome.next (onExpiry (safetyTimer s i) (safetySettled i) s) = _
    rw [h]
    rfl
  have hpins (d : Nat) : (advanceTo d s).pins = s.pins := by simp
  have hsafety (d : Nat) : (advanceTo d s).safety = s.safety := by simp
  have hsupervisor (d : Nat) : (advanceTo d s).supervisor = s.supervisor := by simp
  have hestop (d : Nat) (h : s.pins.estopAsserted ≠ s.safety.estop) : safetySettled .estop (advanceTo d s) =
      settledEstop s.pins.estopAsserted { advanceTo d s with safety.estopTimer := none } := by
    have hpin := congrArg Pins.estopAsserted (hpins d)
    refine (if_neg ?_).trans (congrArg (settledEstop · _) hpin)
    rwa [hpins, hsafety]
  have hcover (d : Nat) (h : s.pins.coverClosed ≠ s.safety.coverClosed) : safetySettled .cover (advanceTo d s) =
      settledCover s.pins.coverClosed { advanceTo d s with safety.coverTimer := none } := by
    have hpin := congrArg Pins.coverClosed (hpins d)
    refine (if_neg ?_).trans (congrArg (settledCover · _) hpin)
    rwa [hpins, hsafety]
  refine ⟨⟨hchange .estop, hchange .cover, congrArg Host.Outcome.next (if_neg (hmoves _)),
      congrArg Host.Outcome.next (if_neg (hmoves _))⟩,
    fun d ht => ⟨fun hsame => ?_, fun hpin hestop1 => ?_, fun hpin hestop0 hline => ?_, fun hpin hestop0 hline => ?_⟩,
    fun d ht => ⟨fun hsame => ?_, fun hpin hclosed hline => ?_, fun hnew hstands => ?_⟩, fun hmark hline => ?_, fun hmark => ?_⟩
  · rw [hexpiry .estop d ht]
    exact congrArg Host.Outcome.next (if_pos (by rw [hpins, hsafety, hsame]))
  · rw [hexpiry .estop d ht, hestop d (by rw [hpin, hestop1]; decide), hpin]
    rfl
  · rw [hexpiry .estop d ht, hestop d (by rw [hpin, hestop0]; decide), hpin]
    have hline' : (advanceTo d s).supervisor.line = .safe := by rw [hsupervisor, hline]
    simp only [settledEstop, enterSafe, hline', if_true]
  · have hexec := (hexpiry .estop d ht).trans
      (congrArg Host.Outcome.next (hestop d (by rw [hpin, hestop0]; decide)))
    rw [hpin] at hexec
    obtain ⟨hsup, hsafe, hlatched, hwash, hshuttle, hchamber, hmode, hempty, hbanks⟩ :=
      enterSafe_effect (s := { advanceTo d s with safety := { (advanceTo d s).safety with estopTimer := none, estop := true } })
        .estop (by simpa using hline)
    refine ⟨_, hexec, congrArg Supervisor.line hsup, congrArg Supervisor.cause hsup, congrArg SafetyInputs.estop hsafe,
      congrArg SafetyInputs.lineSafe hsafe, hlatched, hwash, hshuttle, hchamber, hmode, fun h => ?_, fun k h => ?_⟩
    · obtain ⟨htrain, hdemand, -⟩ := hempty (by simpa using h)
      exact ⟨htrain, hdemand⟩
    · exact hbanks (banksFollow_advanceTo h) k
  · rw [hexpiry .cover d ht]
    exact congrArg Host.Outcome.next (if_pos (by rw [hpins, hsafety, hsame]))
  · have hcirculates : circulates { advanceTo d s with safety.coverTimer := none } = true := by
      unfold circulates
      dsimp only
      rw [hsupervisor]
      rcases hline with h | h <;> rw [h]
    have hexec := (hexpiry .cover d ht).trans
      (congrArg Host.Outcome.next (hcover d (by rw [hpin, hclosed]; decide)))
    rw [hpin, settledCover_moves hcirculates] at hexec
    obtain ⟨hsup, hsafe, hlatched, -, -, -, -, hempty, hbanks⟩ :=
      enterSafe_effect (s := syncBanks { advanceTo d s with
        safety := { (advanceTo d s).safety with coverTimer := none, coverClosed := false } })
        .cover (by rcases hline with h | h <;> simp [h])
    obtain ⟨htrain, -, hforced⟩ := hempty (by rcases hline with h | h <;> simp [h])
    refine ⟨_, hexec, congrArg Supervisor.line hsup, congrArg Supervisor.cause hsup, ?_, congrArg SafetyInputs.lineSafe hsafe,
      hlatched, htrain, hforced⟩
    have e := congrArg SafetyInputs.coverClosed hsafe
    exact e.trans (by simp)
  · have hstill : circulates { advanceTo d s with safety.coverTimer := none } = false ∨ s.pins.coverClosed = true := by
      refine hstands.imp_left fun ⟨hrun, hdrain⟩ => ?_
      unfold circulates
      dsimp only
      rw [hsupervisor]
      split
      · contradiction
      · contradiction
      all_goals rfl
    have hexec := (hexpiry .cover d ht).trans (congrArg Host.Outcome.next (hcover d hnew))
    rw [settledCover_stands hstill] at hexec
    refine ⟨_, hexec, rfl, fun k hopen => ?_⟩
    rw [hopen]
    exact syncBanks_uncovered { advanceTo d s with safety.coverTimer := none } k
  · have hexec : exec .estopAssertedAtReset s =
        .next (enterSafe .estop { s with safety := { s.safety with estopAtReset := false, estop := true } }) :=
      congrArg Host.Outcome.next (if_pos hmark)
    obtain ⟨hsup, hsafe, hlatched, -⟩ :=
      enterSafe_effect (s := { s with safety := { s.safety with estopAtReset := false, estop := true } }) .estop hline
    exact ⟨_, hexec, congrArg Supervisor.line hsup, congrArg Supervisor.cause hsup, congrArg SafetyInputs.lineSafe hsafe,
      congrArg SafetyInputs.estopAtReset hsafe, hlatched⟩
  · exact congrArg Host.Outcome.next (if_neg (by rw [hmark]; decide))

end Sys2Proof.Machine

/-! PROOFS. The belt scale gives every count back (R53, R54). -/

namespace Sys2Proof.Machine

/-- The first step of R53 on the readings of a count: the second track is a step per 4096 counts behind. -/
theorem scaleD_of_count {x : Nat} {a b : Word} {e : Int} (ha : a.toNat = x % 65536)
    (hb : (b.toNat : Int) = ((x : Int) - (x / 4096 : Nat) - e) % 65536) :
    (scaleD a b : Int) = (((x / 4096 : Nat) : Int) + e) % 65536 := by
  unfold scaleD
  omega

/-- The period number of a count's readings, and their residual (R53). -/
theorem scaleK_of_count {x : Nat} {a b : Word} {e : Int} (ha : a.toNat = x % 65536) (hlow : -7 ≤ e) (hhigh : e ≤ 7)
    (hb : (b.toNat : Int) = ((x : Int) - (x / 4096 : Nat) - e) % 65536) :
    scaleK a b % 4096 = ((x / 65536 : Nat) : Int) % 4096 ∧ scaleResidual a b = 4096 * e - ((x % 4096 : Nat) : Int) := by
  obtain ⟨j, hd⟩ : ∃ j : Int, (scaleD a b : Int) = ((x / 4096 : Nat) : Int) + e - 65536 * j :=
    ⟨(((x / 4096 : Nat) : Int) + e) / 65536, by rw [scaleD_of_count ha hb]; omega⟩
  have hnum : scaleNum a b =
      65536 * (((x / 65536 : Nat) : Int) - 4096 * j) + (4096 * e - ((x % 4096 : Nat) : Int)) := by
    unfold scaleNum
    omega
  have hk : scaleK a b = ((x / 65536 : Nat) : Int) - 4096 * j := by
    unfold scaleK
    omega
  unfold scaleResidual
  omega

/-- Settles O35. -/
theorem vernierRecoversEveryCount : Obligations.VernierRecoversEveryCount := by
  unfold Obligations.VernierRecoversEveryCount
  intro x a b e hx ha hlow hhigh hb
  obtain ⟨hk, hresidual⟩ := scaleK_of_count ha hlow hhigh hb
  have hcount : scaleX a b = x := by
    unfold scaleX
    omega
  refine ⟨hcount, by rw [scalePosition, hcount], hresidual, fun hl hh => decide_eq_true ?_⟩
  rw [hresidual]
  omega

end Sys2Proof.Machine

/-! PROOFS. The scale words and the samples that they make (R52 to R54). -/

namespace Sys2Proof.Machine

section
variable {s : State}

/-! ## What the line and the tracker leave of the transport unit -/

/-- The transport unit but for the demand in force and what a change of the demand or of the belt state touches. -/
def scaleViewOf (t : Transport) : Transport := { t with
  demand := 0, speedFlag := false, beltState := .stopped, settleRun := none, deviationRun := none, stallRun := none }

def scaleView (s : State) : Transport := scaleViewOf s.transport

theorem scaleView_of_transport {s t : State} (h : t.transport = s.transport) : scaleView t = scaleView s := by
  unfold scaleView
  rw [h]

theorem scaleView_giveDemand (d : Nat) (s : State) : scaleView (giveDemand d s) = scaleView s := by
  unfold giveDemand
  split <;> rfl

theorem scaleView_endEpoch (s : State) : scaleView (endEpoch s) = scaleView s :=
  scaleView_giveDemand 0 _

theorem scaleView_drainedToIdle (s : State) : scaleView (drainedToIdle s) = scaleView s :=
  (scaleView_of_transport (by simp [drainedToIdle])).trans (scaleView_endEpoch s)

theorem scaleView_idleIfDrained (s : State) : scaleView (idleIfDrained s) = scaleView s := by
  unfold idleIfDrained
  split
  · exact scaleView_drainedToIdle s
  · rfl

theorem scaleView_stopLine (cause : HaltCause) (attn : Attn) (line : LineState) (s : State) :
    scaleView (stopLine cause attn line s) = scaleView s := by
  have hstop : scaleView (stopLine cause attn line s) = scaleView (endEpoch (spoilTrain (closeGate s))) :=
    scaleView_of_transport (by simp [stopLine])
  exact hstop.trans ((scaleView_endEpoch _).trans (scaleView_of_transport (by simp)))

theorem scaleView_raiseHalt (cause : HaltCause) (s : State) : scaleView (raiseHalt cause s) = scaleView s := by
  unfold raiseHalt
  split
  case h_4 | h_5 => rfl
  all_goals exact scaleView_stopLine _ _ _ s

theorem scaleView_missingTest (s : State) : scaleView (missingTest s) = scaleView s := by
  unfold missingTest
  (repeat' split)
  case isTrue => exact (scaleView_idleIfDrained _).trans (scaleView_of_transport (by simp))
  all_goals rfl

theorem scaleView_evaluate (s : State) : scaleView (evaluate s) = scaleView s := by
  have hrules : scaleView (epochRules (misfeedSteps s)) = scaleView s := by
    refine Eq.trans ?_ (scaleView_of_transport (by simp) : scaleView (misfeedSteps s) = scaleView s)
    unfold epochRules
    (repeat' split)
    · rfl
    · exact scaleView_giveDemand _ _
    · rfl
  unfold evaluate
  dsimp only
  (repeat' split)
  all_goals exact (scaleView_of_transport (by simp)).trans hrules

theorem scaleView_handOn (s : State) : scaleView (handOn s) = scaleView s :=
  (scaleView_evaluate _).trans ((scaleView_of_transport (by simp)).trans (scaleView_missingTest s))

theorem scaleView_openRuns (d : Nat) (s : State) : scaleView (openRuns d s) = scaleView s := by
  unfold openRuns
  split <;> rfl

/-- The belt's own conditions at a good sample (R59 to R62). -/
theorem scaleView_testConditions (s : State) : scaleView (testConditions s) = scaleView s := by
  have hbelt (b : BeltState) (t : Transport) : scaleView { s with transport := setBeltState b t } =
      scaleView { s with transport := t } := by
    unfold setBeltState
    split <;> rfl
  have hsettle (t : Transport) : scaleView { s with transport := testSettle s.now t } = scaleView { s with transport := t } := by
    unfold testSettle
    dsimp only
    (repeat' split)
    · exact hbelt _ _
    · rfl
    · exact hbelt _ _
    all_goals rfl
  have hdeviation (t : Transport) : scaleView { s with transport := testDeviation s.now t } =
      scaleView { s with transport := t } := by
    unfold testDeviation
    dsimp only
    (repeat' split)
    · exact hbelt _ _
    all_goals rfl
  have htested := (hdeviation (testSettle s.now s.transport)).trans (hsettle s.transport)
  have hlatched (c : Bool) (run : Option Nat) : scaleView { latchIf c .lamp { s with
      transport := testDeviation s.now (testSettle s.now s.transport) } with
      transport.stallRun := run } = scaleView s := by
    refine Eq.trans ?_ htested
    have htransport : (latchIf c .lamp { s with
        transport := testDeviation s.now (testSettle s.now s.transport) }).transport =
        testDeviation s.now (testSettle s.now s.transport) := by simp
    have e := congrArg scaleViewOf htransport
    exact e
  unfold testConditions
  dsimp only
  split
  · exact (scaleView_raiseHalt _ _).trans (hlatched _ _)
  · exact hlatched _ _

theorem scaleView_goodSample (pos : Nat) (s : State) : scaleView (goodSample pos s) = { scaleView s with
    position := some pos, faults := 0, history := historyAfter s.transport.history pos s.now
    estimate := estimateAfter (historyAfter s.transport.history pos s.now) pos s.now s.transport.estimate } :=
  scaleView_testConditions _

theorem scaleView_takeGoodSample (pos : Nat) (s : State) : scaleView (takeGoodSample pos s) = { scaleView s with
    position := some pos, faults := 0, history := historyAfter s.transport.history pos s.now
    estimate := estimateAfter (historyAfter s.transport.history pos s.now) pos s.now s.transport.estimate } :=
  (scaleView_openRuns _ _).trans ((scaleView_handOn _).trans (scaleView_goodSample pos s))

theorem scaleView_vernierFault (s : State) :
    scaleView (vernierFault s) = { scaleView s with faults := min 255 (s.transport.faults + 1) } := by
  unfold vernierFault
  dsimp only
  split
  · exact scaleView_raiseHalt _ _
  · rfl

/-! ## The commands of the scale (R52) -/

theorem takeScaleWord_waits1 {w : Word} (h : s.transport.wait2 = none) :
    takeScaleWord .scale1 w s = { s with transport.wait1 := some w } := by
  unfold takeScaleWord
  simp only [h]

theorem takeScaleWord_waits2 {w : Word} (h : s.transport.wait1 = none) :
    takeScaleWord .scale2 w s = { s with transport.wait2 := some w } := by
  unfold takeScaleWord
  simp only [h]

/-- The state that a sample finds: PLATE_READY as given, no word waiting, the watchdog restarted (R52). -/
def sampled (ready : Bool) (s : State) : State := { s with
  pins.plateReady := ready, transport.wait1 := none, transport.wait2 := none, transport.watchdog := s.now + 10 }

theorem takeScaleWord_pairs1 {a b : Word} (ready : Bool) (h : s.transport.wait2 = some b) :
    exec (.scaleWord .scale1 a ready) s = .next (if scaleGood a b then takeGoodSample (scalePosition a b) (sampled ready s)
      else handOn (vernierFault (sampled ready s))) := by
  change Host.Outcome.next (takeScaleWord .scale1 a { s with pins.plateReady := ready }) = _
  unfold takeScaleWord
  simp only [h]
  rfl

theorem takeScaleWord_pairs2 {a b : Word} (ready : Bool) (h : s.transport.wait1 = some a) :
    exec (.scaleWord .scale2 b ready) s = .next (if scaleGood a b then takeGoodSample (scalePosition a b) (sampled ready s)
      else handOn (vernierFault (sampled ready s))) := by
  change Host.Outcome.next (takeScaleWord .scale2 b { s with pins.plateReady := ready }) = _
  unfold takeScaleWord
  simp only [h]
  rfl

/-- What every sample of a pair of words leaves, good or not (R52 to R54). -/
theorem sampled_effect (a b : Word) (ready : Bool) (s : State) :
    (let t := if scaleGood a b then takeGoodSample (scalePosition a b) (sampled ready s)
       else handOn (vernierFault (sampled ready s))
     t.transport.wait1 = none ∧ t.transport.wait2 = none ∧
     t.transport.watchdog = s.now + 10 ∧ t.pins = { s.pins with plateReady := ready } ∧ t.now = s.now ∧
     ((scaleResidual a b).natAbs ≤ 8192 →
       t.transport.position = some (scalePosition a b) ∧ t.transport.faults = 0) ∧
     (8192 < (scaleResidual a b).natAbs →
       t.transport.position = s.transport.position ∧ t.transport.faults = min 255 (s.transport.faults + 1) ∧
       t.transport.history = s.transport.history ∧ t.transport.estimate = s.transport.estimate)) := by
  cases hgood : scaleGood a b with
  | true =>
    have hview := scaleView_takeGoodSample (scalePosition a b) (sampled ready s)
    have hresidual : (scaleResidual a b).natAbs ≤ 8192 := of_decide_eq_true hgood
    have hpins : (takeGoodSample (scalePosition a b) (sampled ready s)).pins = { s.pins with plateReady := ready } := by
      simp [sampled]
    have hnow : (takeGoodSample (scalePosition a b) (sampled ready s)).now = s.now := by simp [sampled]
    dsimp only
    rw [if_pos rfl]
    generalize takeGoodSample (scalePosition a b) (sampled ready s) = t at *
    have hw1 := congrArg Transport.wait1 hview
    have hw2 := congrArg Transport.wait2 hview
    have hwatch := congrArg Transport.watchdog hview
    have hposition := congrArg Transport.position hview
    have hfaults := congrArg Transport.faults hview
    exact ⟨hw1, hw2, hwatch, hpins, hnow, fun _ => ⟨hposition, hfaults⟩, fun h => absurd hresidual (Nat.not_le.mpr h)⟩
  | false =>
    have hview := (scaleView_handOn _).trans (scaleView_vernierFault (sampled ready s))
    have hresidual : ¬(scaleResidual a b).natAbs ≤ 8192 := of_decide_eq_false hgood
    have hpins : (handOn (vernierFault (sampled ready s))).pins = { s.pins with plateReady := ready } := by
      simp [sampled]
    have hnow : (handOn (vernierFault (sampled ready s))).now = s.now := by simp [sampled]
    dsimp only
    rw [if_neg (by decide)]
    generalize handOn (vernierFault (sampled ready s)) = t at *
    have hw1 := congrArg Transport.wait1 hview
    have hw2 := congrArg Transport.wait2 hview
    have hwatch := congrArg Transport.watchdog hview
    have hposition := congrArg Transport.position hview
    have hfaults := congrArg Transport.faults hview
    have hhistory := congrArg Transport.history hview
    have hestimate := congrArg Transport.estimate hview
    exact ⟨hw1, hw2, hwatch, hpins, hnow, fun h => absurd h hresidual,
      fun _ => ⟨hposition, hfaults, hhistory, hestimate⟩⟩

/-- Settles O36. -/
theorem scaleWordsPairIntoSamples : Obligations.ScaleWordsPairIntoSamples := by
  unfold Obligations.ScaleWordsPairIntoSamples
  intro w ready s
  refine ⟨fun h => congrArg Host.Outcome.next (takeScaleWord_waits1 (s := { s with pins.plateReady := ready }) h),
    fun h => congrArg Host.Outcome.next (takeScaleWord_waits2 (s := { s with pins.plateReady := ready }) h),
    fun b h => ⟨_, takeScaleWord_pairs1 ready h, sampled_effect w b ready s⟩,
    fun a h => ⟨_, takeScaleWord_pairs2 ready h, sampled_effect a w ready s⟩⟩

end

end Sys2Proof.Machine

/-! PROOFS. The evaluation of the queue head (R35, R36, R43), and the silent sample (R52, R54). -/

namespace Sys2Proof.Machine

section
variable {s : State}

/-! ## The head hold reason (R36) -/

theorem setHold_same {h : HoldReason} (e : h = s.admission.holdReason) : setHold h s = s := if_pos e

/-- The hold reason written into the slots of a list of plates. -/
theorem showHold_foldl (l : List PlateId) (s : State) :
    ∃ ram, l.foldl (fun t p => showHold p t) s = { s with bus.ram := ram } ∧
      (∀ (q : PlateId) (o : Nat), o < 64 → slotWord { s with bus.ram := ram } q o =
        if o = 34 ∧ q ∈ l then w16 (holdCode s.admission.holdReason) else slotWord s q o) ∧
      ramKeptOutside (l.map fun q => slotBase q + 34) s { s with bus.ram := ram } := by
  induction l generalizing s with
  | nil => exact ⟨s.bus.ram, rfl, fun q o _ => by simp, ramKept_refl⟩
  | cons p rest ih =>
    obtain ⟨ram, hfold, hwords, hkept⟩ := ih (showHold p s)
    have hshow : showHold p s = { s with bus.ram := (showHold p s).bus.ram } := rfl
    refine ⟨ram, hfold.trans (by rw [hshow]), fun q o ho => ?_, fun a ha => ?_⟩
    · refine (hwords q o ho).trans ?_
      have hput : slotWord (showHold p s) q o = if q = p ∧ o = 34 then w16 (holdCode s.admission.holdReason)
          else slotWord s q o := slotWord_putSlot p q 34 o _ s (by decide) ho
      rw [hput]
      by_cases ho34 : o = 34 <;> by_cases hqp : q = p <;> simp [ho34, hqp, showHold]
    · have hne : a ≠ slotBase p + 34 := fun e => ha (e ▸ List.mem_cons_self)
      have hrest : a ∉ rest.map fun q => slotBase q + 34 := fun e => ha (List.mem_cons_of_mem _ e)
      exact (hkept a hrest).trans ((ramRead_ramWrite _ _ _ _).trans (if_neg hne))

/-- A change of the hold reason (R36). -/
theorem setHold_change {h : HoldReason} (hne : h ≠ s.admission.holdReason) :
    ∃ ram attn holdOff, setHold h s = { s with
        admission.holdReason := h, bus.ram := ram, bus.latched := s.bus.latched ||| bitIf true 10
        bus.attn := attn, bus.holdOff := holdOff } ∧
      (∀ (q : PlateId) (o : Nat), o < 64 → slotWord { s with bus.ram := ram } q o =
        if o = 34 ∧ q ∈ s.admission.queue then w16 (holdCode h) else slotWord s q o) ∧
      ramKeptOutside (s.admission.queue.map fun q => slotBase q + 34) s { s with bus.ram := ram } := by
  obtain ⟨ram, hfold, hwords, hkept⟩ := showHold_foldl s.admission.queue { s with admission.holdReason := h }
  obtain ⟨attn, holdOff, hlatch⟩ := latch_eq .hold { s with admission.holdReason := h, bus.ram := ram }
  refine ⟨ram, attn, holdOff, ?_, hwords, hkept⟩
  exact (if_neg hne).trans ((congrArg (latch .hold) hfold).trans hlatch)

/-! ## The steps of the misfeed hold (R43) and the epoch rules (R37) -/

/-- The misfeed hold after an evaluation that reads PLATE_READY. -/
def holdStands (s : State) : Bool := s.admission.misfeedHold && !(s.pins.plateReady && s.admission.misfeedArmed)

/-- The arming of its release after that evaluation. -/
def holdArmed (s : State) : Bool := if s.admission.misfeedHold then !s.pins.plateReady else s.admission.misfeedArmed

theorem misfeedSteps_eq (s : State) : misfeedSteps s = { s with
    admission.misfeedHold := holdStands s, admission.misfeedArmed := holdArmed s } := by
  have hsame (hstands : holdStands s = s.admission.misfeedHold) (harmed : holdArmed s = s.admission.misfeedArmed) :
      s = { s with admission.misfeedHold := holdStands s, admission.misfeedArmed := holdArmed s } := by
    rw [hstands, harmed]
  unfold misfeedSteps
  split
  · next hhold =>
    split
    · next hready =>
      split
      · next harmed => simp [holdStands, holdArmed, hhold, hready, harmed]
      · next harmed => exact hsame (by simp [holdStands, hhold, hready, harmed]) (by simp [holdArmed, hhold, hready, harmed])
    · next hready => simp [holdStands, holdArmed, hhold, hready]
  · next hhold => exact hsame (by simp [holdStands, hhold]) (by simp [holdArmed, hhold])

theorem epochRules_stands (h : ∀ p rest, s.admission.queue = p :: rest →
    s.supervisor.line ≠ .running ∨ s.tracker.train ≠ [] ∨ epochFits s p = true) : epochRules s = s := by
  unfold epochRules
  split
  · rfl
  · next p rest hqueue =>
    refine if_neg fun ⟨hline, htrain, hfits⟩ => ?_
    rcases h p rest hqueue with h | h | h
    · exact h hline
    · exact h htrain
    · rw [hfits] at h
      exact absurd h (by decide)

theorem evaluate_empty (hqueue : s.admission.queue = []) : evaluate s = setHold .none (misfeedSteps s) := by
  have hqueue' : (misfeedSteps s).admission.queue = [] := by simpa using hqueue
  have hrules : epochRules (misfeedSteps s) = misfeedSteps s :=
    epochRules_stands fun p rest h => absurd (hqueue'.symm.trans h) (by simp)
  unfold evaluate
  simp only [hrules, hqueue']

theorem evaluate_held {p : PlateId} {rest : List PlateId} {h : HoldReason} (hqueue : s.admission.queue = p :: rest)
    (hreason : holdReasonFor (epochRules (misfeedSteps s)) p = some h) :
    evaluate s = setHold h (epochRules (misfeedSteps s)) := by
  have hqueue' : (epochRules (misfeedSteps s)).admission.queue = p :: rest := by simpa using hqueue
  unfold evaluate
  simp only [hqueue', hreason]

theorem evaluate_releases {p : PlateId} {rest : List PlateId} (hqueue : s.admission.queue = p :: rest)
    (hreason : holdReasonFor (epochRules (misfeedSteps s)) p = none) :
    evaluate s = release p (epochRules (misfeedSteps s)) := by
  have hqueue' : (epochRules (misfeedSteps s)).admission.queue = p :: rest := by simpa using hqueue
  unfold evaluate
  simp only [hqueue', hreason]

/-- A line that is not RUNNING holds its head, and begins no epoch (R35, R37). -/
theorem evaluate_stopped (hline : s.supervisor.line ≠ .running) : ∃ h, evaluate s = setHold h (misfeedSteps s) := by
  have hline' : (misfeedSteps s).supervisor.line ≠ .running := by simpa using hline
  have hrules : epochRules (misfeedSteps s) = misfeedSteps s := epochRules_stands fun _ _ _ => .inl hline'
  cases hqueue : s.admission.queue with
  | nil => exact ⟨_, evaluate_empty hqueue⟩
  | cons p rest =>
    cases hreason : holdReasonFor (misfeedSteps s) p with
    | none => exact absurd (holdReasonFor_none_line hreason) hline'
    | some h => exact ⟨h, (evaluate_held hqueue (by rw [hrules, hreason])).trans (by rw [hrules])⟩

theorem getLsbD_setHold {h : HoldReason} {n : Nat} (e : s.bus.latched.getLsbD n = true) :
    (setHold h s).bus.latched.getLsbD n = true := by
  by_cases hsame : h = s.admission.holdReason
  · rwa [setHold_same hsame]
  · obtain ⟨ram, attn, holdOff, hset, -⟩ := setHold_change hsame
    rw [hset]
    exact getLsbD_or_left e

/-- The hold reason given leaves the line and the belt. -/
theorem setHold_leaves (h : HoldReason) (s : State) : (setHold h s).supervisor = s.supervisor ∧
    (setHold h s).tracker = s.tracker ∧ (setHold h s).transport = s.transport := ⟨by simp, by simp, by simp⟩

/-! ## A sample handed on with no plate on the belt (R55) -/

theorem handOn_empty (h : s.tracker.train = []) : handOn s = evaluate s := by
  have hmissing : missingTest s = s := by
    unfold missingTest
    rw [h]
  have hclaims : claimTests s = s := by
    unfold claimTests
    rw [h]
    rfl
  have hcloses : closeTests s = s := by
    unfold closeTests
    rw [h]
    rfl
  have hwash : washTests s = s := by
    unfold washTests
    rw [h]
    rfl
  unfold handOn
  rw [hmissing, hclaims, hcloses, hwash]

/-- Nothing to track or to admit. -/
theorem handOn_idle (htrain : s.tracker.train = []) (hqueue : s.admission.queue = [])
    (hreason : s.admission.holdReason = .none) (hmisfeed : s.admission.misfeedHold = false) : handOn s = s := by
  have hsteps : misfeedSteps s = s := if_neg (by rw [hmisfeed]; decide)
  rw [handOn_empty htrain, evaluate_empty hqueue, hsteps, setHold_same hreason.symm]

/-! ## The silent sample (R52, R54) -/

theorem advanceTo_ready (d : Nat) (ready : Bool) (s : State) :
    advanceTo d { s with pins.plateReady := ready } = { advanceTo d s with pins.plateReady := ready } := by
  unfold advanceTo
  dsimp only
  split <;> rfl

/-- The state in which a silent sample is made. -/
def unheard (ready : Bool) (s : State) : State := { advanceTo s.transport.watchdog s with
  pins.plateReady := ready, transport.watchdog := max s.now s.transport.watchdog + 10 }

theorem exec_scaleWatchdogExpiry (ready : Bool) (s : State) :
    exec (.scaleWatchdogExpiry ready) s = .next (handOn (vernierFault (unheard ready s))) := by
  have hstate : { advanceTo s.transport.watchdog { s with pins.plateReady := ready } with
      transport.watchdog := (advanceTo s.transport.watchdog { s with pins.plateReady := ready }).now + 10 } =
      unheard ready s := by
    have hnow : (advanceTo s.transport.watchdog s).now = max s.now s.transport.watchdog := advanceTo_now _ _
    rw [advanceTo_ready, unheard, ← hnow]
  exact congrArg (fun t => Host.Outcome.next (handOn (vernierFault t))) hstate

theorem vernierFault_below (h : s.transport.faults < 4) :
    vernierFault s = { s with transport.faults := min 255 (s.transport.faults + 1) } := by
  have hcount : satAdd 255 s.transport.faults 1 = min 255 (s.transport.faults + 1) := rfl
  unfold vernierFault
  dsimp only
  rw [hcount, if_neg (by omega)]

theorem vernierFault_stopped (h : s.supervisor.line = .halted ∨ s.supervisor.line = .safe) :
    vernierFault s = { s with transport.faults := min 255 (s.transport.faults + 1) } := by
  have hcount : satAdd 255 s.transport.faults 1 = min 255 (s.transport.faults + 1) := rfl
  have hhalt (t : State) (ht : t.supervisor = s.supervisor) : raiseHalt .vernier t = t := by
    unfold raiseHalt
    rw [ht]
    rcases h with h | h <;> rw [h]
  unfold vernierFault
  dsimp only
  rw [hcount]
  split
  · exact hhalt _ rfl
  · rfl

/-- Settles O38. -/
theorem silentSamplesHaltTheLine : Obligations.SilentSamplesHaltTheLine := by
  unfold Obligations.SilentSamplesHaltTheLine
  intro ready s
  have htransport : (unheard ready s).transport.faults = s.transport.faults := by simp [unheard]
  have hsupervisor : (unheard ready s).supervisor = s.supervisor := by simp [unheard]
  refine ⟨fun hbelow htrain hqueue hreason hmisfeed => ?_, fun hfaults hhalted hsafe => ?_⟩
  · have hfault : vernierFault (unheard ready s) = { unheard ready s with
        transport.faults := min 255 (s.transport.faults + 1) } := by
      rw [← htransport]
      rcases hbelow with h | h
      · exact vernierFault_below (by rwa [htransport])
      · exact vernierFault_stopped (by rwa [hsupervisor])
    rw [exec_scaleWatchdogExpiry, hfault, handOn_idle]
    · rfl
    all_goals simpa [unheard]
  · have hfault : vernierFault (unheard ready s) = raiseHalt .vernier { unheard ready s with
        transport.faults := min 255 (s.transport.faults + 1) } := by
      rw [← htransport]
      refine if_pos ?_
      have hcount : satAdd 255 (unheard ready s).transport.faults 1 = min 255 (s.transport.faults + 1) := by
        rw [htransport]
        rfl
      omega
    have hview := (scaleView_handOn _).trans (scaleView_vernierFault (unheard ready s))
    have hexec := exec_scaleWatchdogExpiry ready s
    rw [hfault, raiseHalt_moving (by rwa [hsupervisor]) (by rwa [hsupervisor])] at hexec hview
    obtain ⟨hline, hlatched, -, -, htrain, -, -, -, hdemand, -⟩ := stopLine_effect (cause := .vernier) (attn := .halt)
      (line := .halted) (.inl rfl) { unheard ready s with transport.faults := min 255 (s.transport.faults + 1) }
    generalize stopLine .vernier .halt .halted { unheard ready s with
      transport.faults := min 255 (s.transport.faults + 1) } = u at *
    obtain ⟨h, heval⟩ := evaluate_stopped (s := u) (by rw [hline]; nofun)
    rw [handOn_empty htrain, heval] at hexec hview
    obtain ⟨hsup, htracker, hbelt⟩ := setHold_leaves h (misfeedSteps u)
    have hbus : (misfeedSteps u).bus.latched = u.bus.latched := by simp
    have hposition := congrArg Transport.position hview
    have hcount := congrArg Transport.faults hview
    refine ⟨_, hexec, ?_, ?_, getLsbD_setHold (by rw [hbus]; exact hlatched), ?_, ?_, ?_, ?_⟩
    · rw [hsup]
      simpa using congrArg Supervisor.line hline
    · rw [hsup]
      simpa using congrArg Supervisor.cause hline
    · rw [htracker]
      simpa using htrain
    · rw [hbelt]
      simpa using hdemand
    · exact hcount.trans (by rw [htransport])
    · exact hposition.trans (by simp [unheard, scaleView, scaleViewOf])

end

end Sys2Proof.Machine

/-! PROOFS. The good sample: the speed estimate, the timed conditions and the stall (R58 to R62). -/

namespace Sys2Proof.Machine

/-! ## Timed conditions (R59) -/

/-- A run has been open for n ms. -/
def heldFor (n now : Nat) (run : Option Nat) : Prop := ∃ r, run = some r ∧ r + n ≤ now

theorem runHeld_eq_true (n now : Nat) (run : Option Nat) : runHeld n now run = true ↔ heldFor n now run := by
  unfold runHeld heldFor
  cases run <;> simp

theorem runHeld_runAfter {n now : Nat} {holds : Bool} {run : Option Nat} (hn : 0 < n) :
    runHeld n now (runAfter now holds run) = true ↔ holds = true ∧ heldFor n now run := by
  rw [runHeld_eq_true]
  unfold runAfter heldFor
  cases holds with
  | false => simp
  | true =>
    cases run with
    | none =>
      simp
      omega
    | some r => simp

theorem runAfter_pos {now : Nat} {holds : Bool} {run : Option Nat} (h : holds = true) :
    runAfter now holds run = some (run.getD now) := if_pos h

theorem runAfter_neg {now : Nat} {holds : Bool} {run : Option Nat} (h : ¬holds = true) :
    runAfter now holds run = none := if_neg h

section
variable {t : Transport} {now : Nat}

theorem settlingBand_eq_true (t : Transport) : settlingBand t = true ↔ 0 < t.demand ∧ 990 * t.demand ≤ 1000 * t.estimate ∧
    1000 * t.estimate ≤ 1010 * t.demand ∧ t.driveReady = true ∧ t.driveFault = false := by
  have hband : 1000 * natDist t.estimate t.demand ≤ 10 * t.demand ↔
      990 * t.demand ≤ 1000 * t.estimate ∧ 1000 * t.estimate ≤ 1010 * t.demand := by
    unfold natDist
    omega
  unfold settlingBand
  rw [Bool.and_eq_true, Bool.and_eq_true, Bool.and_eq_true, decide_eq_true_eq, decide_eq_true_eq, hband]
  simp only [Bool.not_eq_true']
  tauto

theorem deviationBand_eq_true (t : Transport) : deviationBand t = true ↔
    1000 * t.estimate < 980 * t.demand ∨ 1020 * t.demand < 1000 * t.estimate := by
  unfold deviationBand natDist
  rw [decide_eq_true_eq]
  omega

theorem stallCondition_eq_true (t : Transport) : stallCondition t = true ↔ 0 < t.demand ∧ 10 * t.estimate < t.demand := by
  unfold stallCondition
  rw [Bool.and_eq_true, decide_eq_true_eq, decide_eq_true_eq, Nat.mul_comm]

/-! ## The belt after its two bands (R60, R61) -/

/-- The transport unit after the settling and the deviation band. -/
def conditioned (now : Nat) (t : Transport) : Transport := testDeviation now (testSettle now t)

theorem testDeviation_elsewhere (h : t.beltState ≠ .settled) : testDeviation now t = t := by
  unfold testDeviation
  split
  · contradiction
  all_goals rfl

theorem testSettle_elsewhere (h : t.beltState = .stopped ∨ t.beltState = .settled) : testSettle now t = t := by
  unfold testSettle
  rcases h with h | h <;> rw [h]

theorem testSettle_seeking (h : t.beltState = .ramping ∨ t.beltState = .deviating) :
    testSettle now t = if runHeld 1000 now (runAfter now (settlingBand t) t.settleRun)
      then setBeltState .settled { t with settleRun := runAfter now (settlingBand t) t.settleRun, speedFlag := false }
      else { t with settleRun := runAfter now (settlingBand t) t.settleRun } := by
  unfold testSettle
  rcases h with h | h <;> rw [h]

theorem testDeviation_settled (h : t.beltState = .settled) :
    testDeviation now t = if runHeld 1000 now (runAfter now (deviationBand t) t.deviationRun)
      then setBeltState .deviating { t with deviationRun := runAfter now (deviationBand t) t.deviationRun, speedFlag := true }
      else { t with deviationRun := runAfter now (deviationBand t) t.deviationRun } := by
  unfold testDeviation
  rw [h]

theorem conditioned_stopped (h : t.beltState = .stopped) : conditioned now t = t := by
  unfold conditioned
  rw [testSettle_elsewhere (.inl h), testDeviation_elsewhere (by rw [h]; decide)]

theorem conditioned_seeking (h : t.beltState = .ramping ∨ t.beltState = .deviating)
    (hrun : ¬(settlingBand t = true ∧ heldFor 1000 now t.settleRun)) :
    conditioned now t = { t with settleRun := runAfter now (settlingBand t) t.settleRun } := by
  have hheld : ¬runHeld 1000 now (runAfter now (settlingBand t) t.settleRun) = true := by
    rwa [runHeld_runAfter (by decide)]
  unfold conditioned
  rw [testSettle_seeking h, if_neg hheld, testDeviation_elsewhere]
  rcases h with h | h <;> simp [h]

theorem conditioned_settles (h : t.beltState = .ramping ∨ t.beltState = .deviating) (hband : settlingBand t = true)
    (hrun : heldFor 1000 now t.settleRun) : conditioned now t = { t with
      beltState := .settled, speedFlag := false, settleRun := none, deviationRun := none, stallRun := none } := by
  have hheld : runHeld 1000 now (runAfter now (settlingBand t) t.settleRun) = true :=
    (runHeld_runAfter (by decide)).mpr ⟨hband, hrun⟩
  have hbelt : t.beltState ≠ .settled := by rcases h with h | h <;> simp [h]
  have hin : ¬deviationBand t = true := by
    obtain ⟨hpos, hlow, hhigh, -⟩ := (settlingBand_eq_true t).mp hband
    rw [deviationBand_eq_true]
    omega
  unfold conditioned
  rw [testSettle_seeking h, if_pos hheld]
  unfold setBeltState
  rw [if_neg hbelt, testDeviation_settled rfl]
  have hnone : runAfter now (deviationBand t) none = none := runAfter_neg hin
  exact (if_neg (by change ¬runHeld 1000 now (runAfter now (deviationBand t) none) = true; rw [hnone]; exact Bool.false_ne_true)).trans
    (congrArg (fun run => { t with
      beltState := .settled, speedFlag := false, settleRun := none, deviationRun := run, stallRun := none }) hnone)

theorem conditioned_settled (h : t.beltState = .settled)
    (hrun : ¬(deviationBand t = true ∧ heldFor 1000 now t.deviationRun)) :
    conditioned now t = { t with deviationRun := runAfter now (deviationBand t) t.deviationRun } := by
  have hheld : ¬runHeld 1000 now (runAfter now (deviationBand t) t.deviationRun) = true := by
    rwa [runHeld_runAfter (by decide)]
  unfold conditioned
  rw [testSettle_elsewhere (.inr h), testDeviation_settled h, if_neg hheld]

theorem conditioned_deviates (h : t.beltState = .settled) (hband : deviationBand t = true)
    (hrun : heldFor 1000 now t.deviationRun) : conditioned now t = { t with
      beltState := .deviating, speedFlag := true, settleRun := none, deviationRun := none, stallRun := none } := by
  have hheld : runHeld 1000 now (runAfter now (deviationBand t) t.deviationRun) = true :=
    (runHeld_runAfter (by decide)).mpr ⟨hband, hrun⟩
  unfold conditioned
  rw [testSettle_elsewhere (.inr h), testDeviation_settled h, if_pos hheld]
  unfold setBeltState
  rw [if_neg (by rw [h]; decide)]
  rfl

/-! ## The stall (R62) -/

theorem stallRunAfter_moving (h : t.beltState ≠ .stopped) :
    stallRunAfter now t = runAfter now (stallCondition t) t.stallRun := by
  unfold stallRunAfter
  split
  · contradiction
  all_goals rfl

theorem stallRunAfter_stopped (h : t.beltState = .stopped) : stallRunAfter now t = none := by
  unfold stallRunAfter
  rw [h]

/-- A stall is raised where its run has been open for 2000 ms and no change of the belt state has closed it (R59, R62). -/
theorem stallHeld_iff (now : Nat) (t : Transport) :
    runHeld 2000 now (stallRunAfter now (conditioned now t)) = true ↔ t.beltState ≠ .stopped ∧
      stallCondition t = true ∧ heldFor 2000 now t.stallRun ∧
      ¬(t.beltState = .settled ∧ heldFor 1000 now t.deviationRun) := by
  have hnone (c : Bool) : ¬runHeld 2000 now (runAfter now c none) = true := by
    rw [runHeld_runAfter (by decide)]
    exact fun ⟨_, _, h, _⟩ => nomatch h
  have hseeking (hb : t.beltState = .ramping ∨ t.beltState = .deviating) :
      runHeld 2000 now (stallRunAfter now (conditioned now t)) = true ↔
        stallCondition t = true ∧ heldFor 2000 now t.stallRun := by
    by_cases hsettle : settlingBand t = true ∧ heldFor 1000 now t.settleRun
    · rw [conditioned_settles hb hsettle.1 hsettle.2, stallRunAfter_moving (by simp)]
      refine iff_of_false (hnone _) fun ⟨hstall, _⟩ => ?_
      obtain ⟨hpos, hlow, -⟩ := (settlingBand_eq_true t).mp hsettle.1
      obtain ⟨-, hslow⟩ := (stallCondition_eq_true t).mp hstall
      omega
    · rw [conditioned_seeking hb hsettle, stallRunAfter_moving (by rcases hb with h | h <;> simp [h])]
      exact runHeld_runAfter (by decide)
  cases hb : t.beltState with
  | stopped =>
    rw [conditioned_stopped hb, stallRunAfter_stopped hb]
    simp [runHeld]
  | ramping => simp [hseeking (.inl hb)]
  | deviating => simp [hseeking (.inr hb)]
  | settled =>
    by_cases hdeviate : deviationBand t = true ∧ heldFor 1000 now t.deviationRun
    · rw [conditioned_deviates hb hdeviate.1 hdeviate.2, stallRunAfter_moving (by simp)]
      exact iff_of_false (hnone _) fun ⟨_, _, _, h⟩ => h ⟨rfl, hdeviate.2⟩
    · rw [conditioned_settled hb hdeviate, stallRunAfter_moving (by simp [hb])]
      refine (runHeld_runAfter (by decide)).trans ⟨fun ⟨hstall, hheld⟩ => ⟨nofun, hstall, hheld, fun ⟨_, hdev⟩ => ?_⟩,
        fun ⟨_, hstall, hheld, _⟩ => ⟨hstall, hheld⟩⟩
      refine hdeviate ⟨(deviationBand_eq_true t).mpr ?_, hdev⟩
      obtain ⟨hpos, hslow⟩ := (stallCondition_eq_true t).mp hstall
      omega

end

end Sys2Proof.Machine

/-! PROOFS. The good sample settles the transport (R54, R58 to R62). -/

namespace Sys2Proof.Machine

section
variable {s : State}

/-! ## The sample in the transport unit (R54, R58) -/

/-- The transport unit with the position and the estimate of a good sample. -/
def sampledAt (pos now : Nat) (t : Transport) : Transport := { t with
  position := some pos, faults := 0, history := historyAfter t.history pos now
  estimate := estimateAfter (historyAfter t.history pos now) pos now t.estimate }

/-- A sample's transport unit after its conditions, where no stall is raised. -/
def steady (now : Nat) (t : Transport) : Transport :=
  { conditioned now t with stallRun := stallRunAfter now (conditioned now t) }

/-- The transport unit after a good sample that raises no stall. -/
def settledAt (pos now : Nat) (t : Transport) : Transport := steady now (sampledAt pos now t)

/-- A good sample at which no stall is raised. -/
theorem goodSample_steady {pos : Nat}
    (h : ¬runHeld 2000 s.now (stallRunAfter s.now (conditioned s.now (sampledAt pos s.now s.transport))) = true) :
    ∃ attn holdOff, goodSample pos s = { s with
      transport := settledAt pos s.now s.transport
      bus.latched := s.bus.latched ||| bitIf ((settledAt pos s.now s.transport).speedFlag && !s.transport.speedFlag) 11
      bus.attn := attn, bus.holdOff := holdOff } := by
  obtain ⟨attn, holdOff, hlatch⟩ := latchIf_eq
    ((conditioned s.now (sampledAt pos s.now s.transport)).speedFlag && !s.transport.speedFlag) .lamp
    { s with transport := conditioned s.now (sampledAt pos s.now s.transport) }
  refine ⟨attn, holdOff, (if_neg h).trans ?_⟩
  exact congrArg (fun t : State => { t with
    transport.stallRun := stallRunAfter s.now (conditioned s.now (sampledAt pos s.now s.transport)) }) hlatch

/-- A stall raised (R62). -/
theorem goodSample_stalled {pos : Nat}
    (h : runHeld 2000 s.now (stallRunAfter s.now (conditioned s.now (sampledAt pos s.now s.transport))) = true) :
    ∃ latched attn holdOff, goodSample pos s = raiseHalt .stall { s with
      transport := { conditioned s.now (sampledAt pos s.now s.transport) with stallRun := none }
      bus.latched := latched, bus.attn := attn, bus.holdOff := holdOff } := by
  obtain ⟨attn, holdOff, hlatch⟩ := latchIf_eq
    ((conditioned s.now (sampledAt pos s.now s.transport)).speedFlag && !s.transport.speedFlag) .lamp
    { s with transport := conditioned s.now (sampledAt pos s.now s.transport) }
  refine ⟨s.bus.latched |||
    bitIf ((conditioned s.now (sampledAt pos s.now s.transport)).speedFlag && !s.transport.speedFlag) 11,
    attn, holdOff, (if_pos h).trans ?_⟩
  exact congrArg (fun t : State => raiseHalt .stall { t with transport.stallRun := none }) hlatch

/-- A good sample that sets no SPEED flag. -/
theorem goodSample_quiet {pos : Nat}
    (h : ¬runHeld 2000 s.now (stallRunAfter s.now (conditioned s.now (sampledAt pos s.now s.transport))) = true)
    (hspeed : ((settledAt pos s.now s.transport).speedFlag && !s.transport.speedFlag) = false) :
    goodSample pos s = { s with transport := settledAt pos s.now s.transport } := by
  have hlatch : latchIf ((settledAt pos s.now s.transport).speedFlag && !s.transport.speedFlag) .lamp
      { s with transport := conditioned s.now (sampledAt pos s.now s.transport) } =
      { s with transport := conditioned s.now (sampledAt pos s.now s.transport) } := if_neg (by rw [hspeed]; decide)
  exact (if_neg h).trans (congrArg (fun t : State => { t with
    transport.stallRun := stallRunAfter s.now (conditioned s.now (sampledAt pos s.now s.transport)) }) hlatch)

theorem takeGoodSample_openRuns (pos : Nat) (s : State) :
    takeGoodSample pos s = openRuns (goodSample pos s).transport.demand (handOn (goodSample pos s)) := rfl

theorem openRuns_same {d : Nat} (h : s.transport.demand = d) : openRuns d s = s := if_pos h

/-- A good sample with nothing to track or to admit. -/
theorem takeGoodSample_idle {pos : Nat} {u : State} (h : goodSample pos s = u) (htrain : u.tracker.train = [])
    (hqueue : u.admission.queue = []) (hreason : u.admission.holdReason = .none)
    (hmisfeed : u.admission.misfeedHold = false) : takeGoodSample pos s = u := by
  rw [takeGoodSample_openRuns, h, handOn_idle htrain hqueue hreason hmisfeed, openRuns_same rfl]

/-! ## The speed estimate (R58) -/

theorem travelFrom_eq (l pos : Nat) : (travelFrom l pos : Int) = ((pos : Int) - (l : Int)) % 12288000 := by
  unfold travelFrom
  have hloop : (beltLoop : Int) = 12288000 := rfl
  rw [hloop]
  omega

/-- The estimate by the oldest sample kept (R58). -/
theorem estimateAfter_of_oldest {h rest : List (Nat × Nat)} {p0 t0 pos now old : Nat} (hkept : h = (p0, t0) :: rest) :
    (let travel := ((pos : Int) - (p0 : Int)) % 12288000
     (now - t0 < 100 → estimateAfter h pos now old = old) ∧
     (100 ≤ now - t0 → 6144000 < travel → estimateAfter h pos now old = 0) ∧
     (100 ≤ now - t0 → travel ≤ 6144000 →
       estimateAfter h pos now old = min 65535 (travel.toNat * 100 / (now - t0)))) := by
  have htravel := travelFrom_eq p0 pos
  have hestimate : estimateAfter h pos now old = if now - t0 < 100 then old
      else if 6144000 < travelFrom p0 pos then 0 else min 65535 (travelFrom p0 pos * 100 / (now - t0)) := by
    rw [hkept]
    rfl
  dsimp only
  rw [hestimate, ← htravel, Int.toNat_natCast]
  refine ⟨fun h => if_pos h, fun hspan hfar => ?_, fun hspan hnear => ?_⟩
  · rw [if_neg (by omega), if_pos (by omega)]
  · rw [if_neg (by omega), if_neg (by omega)]

end

/-! ## The conditions of a steady sample -/

section
variable {t : Transport} {now : Nat}

theorem steady_stopped (h : t.beltState = .stopped) : steady now t = { t with stallRun := none } := by
  unfold steady
  rw [conditioned_stopped h, stallRunAfter_stopped h]

/-- The stall run of a belt whose state stands (R59, R62). -/
theorem stallRun_stands {u : Transport} (h : t.beltState ≠ .stopped) (hu : conditioned now t = u)
    (hbelt : u.beltState = t.beltState) (hcond : stallCondition u = stallCondition t) (hrun : u.stallRun = t.stallRun) :
    (stallCondition t = true → (steady now t).stallRun = some (t.stallRun.getD now)) ∧
    (¬stallCondition t = true → (steady now t).stallRun = none) := by
  have hsteady : (steady now t).stallRun = runAfter now (stallCondition t) t.stallRun := by
    unfold steady
    dsimp only
    rw [hu, stallRunAfter_moving (by rwa [hbelt]), hcond, hrun]
  rw [hsteady]
  exact ⟨runAfter_pos, runAfter_neg⟩

/-- RAMPING and DEVIATING: the settling band (R60). -/
theorem steady_seeking (h : t.beltState = .ramping ∨ t.beltState = .deviating) :
    (settlingBand t = true → heldFor 1000 now t.settleRun → (steady now t).beltState = .settled ∧
      (steady now t).speedFlag = false ∧ (steady now t).settleRun = none ∧ (steady now t).deviationRun = none ∧
      (steady now t).stallRun = none) ∧
    (settlingBand t = true → ¬heldFor 1000 now t.settleRun → (steady now t).beltState = t.beltState ∧
      (steady now t).settleRun = some (t.settleRun.getD now)) ∧
    (¬settlingBand t = true → (steady now t).beltState = t.beltState ∧ (steady now t).settleRun = none) := by
  refine ⟨fun hband hheld => ?_, fun hband hheld => ?_, fun hband => ?_⟩
  · have hstall : ¬stallCondition t = true := by
      obtain ⟨hpos, hlow, -⟩ := (settlingBand_eq_true t).mp hband
      rw [stallCondition_eq_true]
      omega
    unfold steady
    rw [conditioned_settles h hband hheld]
    exact ⟨rfl, rfl, rfl, rfl, runAfter_neg (now := now) (run := none) hstall⟩
  · unfold steady
    rw [conditioned_seeking h fun e => hheld e.2]
    exact ⟨rfl, runAfter_pos hband⟩
  · unfold steady
    rw [conditioned_seeking h fun e => hband e.1]
    exact ⟨rfl, runAfter_neg hband⟩

/-- SETTLED: the deviation band (R61). -/
theorem steady_settled (h : t.beltState = .settled) :
    (deviationBand t = true → heldFor 1000 now t.deviationRun →
      (steady now t).beltState = .deviating ∧ (steady now t).speedFlag = true) ∧
    (deviationBand t = true → ¬heldFor 1000 now t.deviationRun → (steady now t).beltState = .settled ∧
      (steady now t).deviationRun = some (t.deviationRun.getD now)) ∧
    (¬deviationBand t = true → (steady now t).beltState = .settled ∧ (steady now t).deviationRun = none) := by
  refine ⟨fun hband hheld => ?_, fun hband hheld => ?_, fun hband => ?_⟩
  · unfold steady
    rw [conditioned_deviates h hband hheld]
    exact ⟨rfl, rfl⟩
  · unfold steady
    rw [conditioned_settled h fun e => hheld e.2]
    exact ⟨h, runAfter_pos hband⟩
  · unfold steady
    rw [conditioned_settled h fun e => hband e.1]
    exact ⟨h, runAfter_neg hband⟩

/-- The belt state that stands leaves its stall run to the stall condition (R62). -/
theorem steady_stallRun (h : t.beltState ≠ .stopped) (hstands : (steady now t).beltState = t.beltState) :
    (stallCondition t = true → (steady now t).stallRun = some (t.stallRun.getD now)) ∧
    (¬stallCondition t = true → (steady now t).stallRun = none) := by
  have hseeking (hb : t.beltState = .ramping ∨ t.beltState = .deviating) :
      (stallCondition t = true → (steady now t).stallRun = some (t.stallRun.getD now)) ∧
      (¬stallCondition t = true → (steady now t).stallRun = none) := by
    by_cases hsettle : settlingBand t = true ∧ heldFor 1000 now t.settleRun
    · obtain ⟨hsettled, -⟩ := (steady_seeking hb).1 hsettle.1 hsettle.2
      rcases hb with hb | hb <;> exact absurd (hsettled.symm.trans (hstands.trans hb)) (by decide)
    · exact stallRun_stands h (conditioned_seeking hb hsettle) rfl rfl rfl
  cases hb : t.beltState with
  | stopped => exact absurd hb h
  | ramping => exact hseeking (.inl hb)
  | deviating => exact hseeking (.inr hb)
  | settled =>
    by_cases hdeviate : deviationBand t = true ∧ heldFor 1000 now t.deviationRun
    · obtain ⟨hdeviates, -⟩ := (steady_settled hb).1 hdeviate.1 hdeviate.2
      exact absurd (hdeviates.symm.trans (hstands.trans hb)) (by decide)
    · exact stallRun_stands h (conditioned_settled hb hdeviate) rfl rfl rfl

/-- The conditions leave what the scale and the drive give. -/
theorem scaleViewOf_conditioned (now : Nat) (t : Transport) : scaleViewOf (conditioned now t) = scaleViewOf t := by
  have hseeking (hb : t.beltState = .ramping ∨ t.beltState = .deviating) :
      scaleViewOf (conditioned now t) = scaleViewOf t := by
    by_cases hsettle : settlingBand t = true ∧ heldFor 1000 now t.settleRun
    · rw [conditioned_settles hb hsettle.1 hsettle.2]
      rfl
    · rw [conditioned_seeking hb hsettle]
      rfl
  cases hb : t.beltState with
  | stopped => rw [conditioned_stopped hb]
  | ramping => exact hseeking (.inl hb)
  | deviating => exact hseeking (.inr hb)
  | settled =>
    by_cases hdeviate : deviationBand t = true ∧ heldFor 1000 now t.deviationRun
    · rw [conditioned_deviates hb hdeviate.1 hdeviate.2]
      rfl
    · rw [conditioned_settled hb hdeviate]
      rfl

theorem steady_estimate (now : Nat) (t : Transport) : (steady now t).estimate = t.estimate := by
  have e := congrArg Transport.estimate (scaleViewOf_conditioned now t)
  exact e

/-- The bands by the estimate that the sample leaves. -/
theorem bands_iff (now : Nat) (t : Transport) :
    (settlingBand t = true ↔ 0 < t.demand ∧ 990 * t.demand ≤ 1000 * (steady now t).estimate ∧
      1000 * (steady now t).estimate ≤ 1010 * t.demand ∧ t.driveReady = true ∧ t.driveFault = false) ∧
    (deviationBand t = true ↔
      1000 * (steady now t).estimate < 980 * t.demand ∨ 1020 * t.demand < 1000 * (steady now t).estimate) ∧
    (stallCondition t = true ↔ 0 < t.demand ∧ 10 * (steady now t).estimate < t.demand) := by
  rw [steady_estimate]
  exact ⟨settlingBand_eq_true t, deviationBand_eq_true t, stallCondition_eq_true t⟩

end

/-! ## The stall halts the line (R62) -/

theorem giveDemand_transport (d : Nat) (s : State) : (giveDemand d s).transport = if d = s.transport.demand then s.transport
    else closeRuns { s.transport with
      demand := d, speedFlag := false, beltState := if d = 0 then .stopped else .ramping } := by
  unfold giveDemand
  split <;> rfl

theorem giveDemand_eq (d : Nat) (s : State) : giveDemand d s = { s with transport := (giveDemand d s).transport } := by
  unfold giveDemand
  split <;> rfl

/-- The stop of a line with no plate on the belt touches its own blocks, the banks and the belt alone (R28). -/
theorem stopLine_empty_eq {cause : HaltCause} {attn : Attn} {line : LineState} {s : State} (htrain : s.tracker.train = []) :
    ∃ admission supervisor banks latched asserted holdOff, stopLine cause attn line s = { s with
      admission := admission, supervisor := supervisor, banks := banks, transport := (giveDemand 0 s).transport
      bus.latched := latched, bus.attn := asserted, bus.holdOff := holdOff } := by
  have hspoil : spoilTrain (closeGate s) = closeGate s := by
    have htrain' : (closeGate s).tracker.train = [] := htrain
    unfold spoilTrain
    rw [htrain']
    rfl
  have hepoch : endEpoch (closeGate s) = { s with
      admission := { (closeGate s).admission with epochCurrent := false }, transport := (giveDemand 0 s).transport } := by
    unfold endEpoch
    rw [giveDemand_eq, giveDemand_transport, giveDemand_transport]
    rfl
  obtain ⟨asserted, holdOff, hlatch⟩ := latch_eq attn { forceBanks (endEpoch (closeGate s)) with supervisor.cause := cause }
  have hstop : stopLine cause attn line s =
      setLine line (latch attn { forceBanks (endEpoch (spoilTrain (closeGate s))) with supervisor.cause := cause }) := rfl
  rw [hstop, hspoil, hlatch, hepoch]
  exact ⟨_, _, _, _, _, _, rfl⟩

theorem raiseHalt_stopped {cause : HaltCause} {s : State} (h : s.supervisor.line = .halted ∨ s.supervisor.line = .safe) :
    raiseHalt cause s = s := by
  unfold raiseHalt
  rcases h with h | h <;> rw [h]

/-- What a sample that raises a stall leaves, with nothing to track (R28, R62). -/
theorem goodSample_stallHalts {pos : Nat} {s : State} (htrain : s.tracker.train = [])
    (h : runHeld 2000 s.now (stallRunAfter s.now (conditioned s.now (sampledAt pos s.now s.transport))) = true) :
    (let t := goodSample pos s
     t.tracker.train = [] ∧ t.transport.estimate = (steady s.now (sampledAt pos s.now s.transport)).estimate ∧
     (s.supervisor.line ≠ .halted → s.supervisor.line ≠ .safe → t.supervisor.line = .halted ∧
       t.supervisor.cause = .stall ∧ t.bus.latched.getLsbD 1 = true ∧ t.transport.demand = 0 ∧
       (0 < s.transport.demand → t.transport.beltState = .stopped ∧ t.transport.stallRun = none)) ∧
     exceptAttn s { t with
       transport := s.transport, supervisor := s.supervisor, banks := s.banks, admission := s.admission } = s) := by
  obtain ⟨latched, attn, holdOff, hsample⟩ := goodSample_stalled h
  have hestimate : (goodSample pos s).transport.estimate = (steady s.now (sampledAt pos s.now s.transport)).estimate := by
    have e := congrArg Transport.estimate (scaleView_goodSample pos s)
    exact Eq.trans e (steady_estimate s.now (sampledAt pos s.now s.transport)).symm
  have hdemand := testConditions_tests_demand s.now (sampledAt pos s.now s.transport)
  have hempty : ({ s with
      transport := { conditioned s.now (sampledAt pos s.now s.transport) with stallRun := none }
      bus.latched := latched, bus.attn := attn, bus.holdOff := holdOff } : State).tracker.train = [] := htrain
  by_cases hstands : s.supervisor.line = .halted ∨ s.supervisor.line = .safe
  · have hsame := hsample.trans (raiseHalt_stopped (by exact hstands))
    refine ⟨?_, hestimate, fun hhalted hsafe => ?_, ?_⟩
    · rw [hsame]
      exact htrain
    · rcases hstands with e | e
      · exact absurd e hhalted
      · exact absurd e hsafe
    · rw [hsame]
      rfl
  · obtain ⟨hhalted, hsafe⟩ := not_or.mp hstands
    have hstop := hsample.trans (raiseHalt_moving (by exact hhalted) (by exact hsafe))
    obtain ⟨hsup, hlatched, -, -, hgone, -, -, -, hzero, -⟩ := stopLine_effect (cause := .stall) (attn := .halt)
      (line := .halted) (.inl rfl) { s with
        transport := { conditioned s.now (sampledAt pos s.now s.transport) with stallRun := none }
        bus.latched := latched, bus.attn := attn, bus.holdOff := holdOff }
    obtain ⟨admission, supervisor, banks, latched', asserted, holdOff', heq⟩ :=
      stopLine_empty_eq (cause := .stall) (attn := .halt) (line := .halted) hempty
    refine ⟨?_, hestimate, fun _ _ => ?_, ?_⟩
    · rw [hstop]
      exact hgone
    · have hbelt : 0 < s.transport.demand → (goodSample pos s).transport = closeRuns {
          conditioned s.now (sampledAt pos s.now s.transport) with
          stallRun := none, demand := 0, speedFlag := false, beltState := .stopped } := by
        intro hmoves
        rw [hstop, heq]
        refine (giveDemand_transport 0 _).trans (if_neg fun e => ?_)
        exact absurd (e.trans hdemand) (Nat.ne_of_lt hmoves)
      rw [← hstop] at hsup hlatched hzero
      refine ⟨congrArg Supervisor.line hsup, congrArg Supervisor.cause hsup, hlatched, hzero, fun hmoves => ?_⟩
      rw [hbelt hmoves]
      exact ⟨rfl, rfl⟩
    · rw [hstop, heq]
      rfl

/-! ## The statement -/

/-! ## A sample at which an epoch begins (R37, R63) -/

/-- The state in which an epoch begins with a speed above 0 that is not the demand in force. -/
def epochBegun (d : Nat) (s : State) : State := { s with
  admission.epochNo := (s.admission.epochNo + 1) % 65536, admission.epochSpeed := d, admission.epochCurrent := true
  transport := closeRuns { s.transport with demand := d, speedFlag := false, beltState := .ramping } }

theorem beginEpoch_eq {d : Nat} {s : State} (hpos : d ≠ 0) (hnew : s.transport.demand ≠ d) :
    beginEpoch d s = epochBegun d s := by
  unfold beginEpoch giveDemand
  dsimp only
  rw [if_neg (Ne.symm hnew), if_neg hpos]
  rfl

theorem epochFits_misfeedSteps (s : State) (p : PlateId) : epochFits (misfeedSteps s) p = epochFits s p := by
  rw [misfeedSteps_eq]
  rfl

/-- The epoch begins for a head that does not match, and the head is held (R35, R37). -/
theorem evaluate_begins {s : State} {p : PlateId} {rest : List PlateId} {r : Plate} (hqueue : s.admission.queue = p :: rest)
    (hplate : plateOf s p = some r) (htrain : s.tracker.train = []) (hline : s.supervisor.line = .running)
    (hfits : epochFits s p = false) (hnew : s.transport.demand ≠ effectiveSpeed s r.speed) :
    ∃ h, holdReasonFor (epochBegun (effectiveSpeed s r.speed) (misfeedSteps s)) p = some h ∧
      evaluate s = setHold h (epochBegun (effectiveSpeed s r.speed) (misfeedSteps s)) := by
  have hspeed : headSpeed (misfeedSteps s) p = effectiveSpeed s r.speed := by
    rw [misfeedSteps_eq]
    have hsame : headSpeed s p = effectiveSpeed s r.speed := by
      unfold headSpeed
      rw [hplate]
    exact hsame
  have hpos : effectiveSpeed s r.speed ≠ 0 := by
    unfold effectiveSpeed
    omega
  have hbegin : beginEpoch (effectiveSpeed s r.speed) (misfeedSteps s) =
      epochBegun (effectiveSpeed s r.speed) (misfeedSteps s) := beginEpoch_eq hpos (by simpa using hnew)
  have hrules : epochRules (misfeedSteps s) = epochBegun (effectiveSpeed s r.speed) (misfeedSteps s) := by
    have hqueue' : (misfeedSteps s).admission.queue = p :: rest := by simpa using hqueue
    unfold epochRules
    rw [hqueue']
    dsimp only
    rw [if_pos ⟨by simpa using hline, by simpa using htrain, by rw [epochFits_misfeedSteps, hfits]⟩, hspeed, hbegin]
  cases hreason : holdReasonFor (epochBegun (effectiveSpeed s r.speed) (misfeedSteps s)) p with
  | some h => exact ⟨h, rfl, (evaluate_held hqueue (by rw [hrules, hreason])).trans (by rw [hrules])⟩
  | none =>
    have hsettled : (epochBegun (effectiveSpeed s r.speed) (misfeedSteps s)).transport.beltState = .settled := by
      unfold holdReasonFor at hreason
      split_ifs at hreason with h1 h2 h3 h4 h5 h6 h7
      exact not_not.mp h7
    exact absurd hsettled (by simp [epochBegun, closeRuns])

theorem openRuns_new {d : Nat} {s : State} (h : s.transport.demand ≠ d) : openRuns d s = { s with transport := { s.transport with
    settleRun := runAfter s.now (settlingBand s.transport) none
    stallRun := runAfter s.now (stallCondition s.transport) none } } := if_neg h

theorem setHold_holdReason (h : HoldReason) (s : State) : (setHold h s).admission.holdReason = h := by
  by_cases hsame : h = s.admission.holdReason
  · rw [setHold_same hsame, hsame]
  · obtain ⟨ram, attn, holdOff, hset, -⟩ := setHold_change hsame
    rw [hset]

/-- What the sample leaves at which an epoch begins (R35, R37, R63). -/
theorem evaluate_begins_effect {s : State} {p : PlateId} {rest : List PlateId} {r : Plate}
    (hqueue : s.admission.queue = p :: rest) (hplate : plateOf s p = some r) (htrain : s.tracker.train = [])
    (hline : s.supervisor.line = .running) (hfits : epochFits s p = false)
    (hnew : s.transport.demand ≠ effectiveSpeed s r.speed) :
    (let t := evaluate s
     let eff := effectiveSpeed s r.speed
     t.transport = (epochBegun eff s).transport ∧ t.now = s.now ∧ t.tracker = s.tracker ∧ t.supervisor = s.supervisor ∧
     t.admission.epochNo = (s.admission.epochNo + 1) % 65536 ∧ t.admission.epochSpeed = eff ∧
     t.admission.epochCurrent = true ∧ t.admission.queue = s.admission.queue ∧
     holdReasonFor (epochBegun eff (misfeedSteps s)) p = some t.admission.holdReason) := by
  obtain ⟨h, hreason, heval⟩ := evaluate_begins hqueue hplate htrain hline hfits hnew
  dsimp only
  rw [heval, setHold_holdReason]
  refine ⟨by simp [epochBegun], by simp [epochBegun], by simp [epochBegun], by simp [epochBegun], by simp [epochBegun],
    by simp [epochBegun], by simp [epochBegun], by simp [epochBegun], hreason⟩

theorem scaleGood_of {a b : Word} (h : (scaleResidual a b).natAbs ≤ 8192) : scaleGood a b = true := decide_eq_true h

/-- Settles O37. -/
theorem goodSampleSettlesTheTransport : Obligations.GoodSampleSettlesTheTransport := by
  unfold Obligations.GoodSampleSettlesTheTransport
  have hexec {a b : Word} {s : State} (ready : Bool) (hwait : s.transport.wait2 = some b)
      (hgood : (scaleResidual a b).natAbs ≤ 8192) : exec (.scaleWord .scale1 a ready) s =
        .next (takeGoodSample (scalePosition a b) (sampled ready s)) :=
    (takeScaleWord_pairs1 ready hwait).trans (congrArg Host.Outcome.next (if_pos (scaleGood_of hgood)))
  refine ⟨fun a b ready s hwait hgood hbelt htrain hqueue hreason hmisfeed => ?_,
    fun a b ready s hwait hgood htrain hqueue hreason hmisfeed => ?_,
    fun a b ready p rest r s hwait hgood hbelt hqueue hplate htrain hline hfits hdemand => ?_⟩
  · have hsettled : settledAt (scalePosition a b) s.now (sampled ready s).transport =
        { sampledAt (scalePosition a b) s.now (sampled ready s).transport with stallRun := none } :=
      steady_stopped hbelt
    have hsample := goodSample_quiet (s := sampled ready s) (pos := scalePosition a b)
      (fun e => ((stallHeld_iff _ _).mp e).1 hbelt) (by rw [show (sampled ready s).now = s.now from rfl, hsettled]; exact Bool.and_not_self _)
    rw [hexec ready hwait hgood, takeGoodSample_idle hsample htrain hqueue hreason hmisfeed,
      show (sampled ready s).now = s.now from rfl, hsettled]
    exact ⟨_, rfl, rfl, fun p0 t0 rest hkept => estimateAfter_of_oldest hkept, rfl, rfl⟩
  · have hstalled := stallHeld_iff s.now (sampledAt (scalePosition a b) s.now (sampled ready s).transport)
    obtain ⟨hband, hdeviation, hstall⟩ := bands_iff s.now (sampledAt (scalePosition a b) s.now (sampled ready s).transport)
    by_cases hheld : runHeld 2000 s.now (stallRunAfter s.now (conditioned s.now
        (sampledAt (scalePosition a b) s.now (sampled ready s).transport))) = true
    · have hempty : (sampled ready s).tracker.train = [] := htrain
      obtain ⟨hgone, hestimate, hhalts, hframe⟩ := goodSample_stallHalts (s := sampled ready s) hempty hheld
      obtain ⟨hmoves, hslow, hlong, hopen⟩ := hstalled.mp hheld
      have hqueue' : (goodSample (scalePosition a b) (sampled ready s)).admission.queue = [] := by simpa [sampled] using hqueue
      have hreason' : (goodSample (scalePosition a b) (sampled ready s)).admission.holdReason = .none := by
        simpa [sampled] using hreason
      have hmisfeed' : (goodSample (scalePosition a b) (sampled ready s)).admission.misfeedHold = false := by
        simpa [sampled] using hmisfeed
      have hsample := (hexec ready hwait hgood).trans (congrArg Host.Outcome.next
        (takeGoodSample_idle rfl hgone hqueue' hreason' hmisfeed'))
      generalize goodSample (scalePosition a b) (sampled ready s) = t at *
      have hslow' : 0 < s.transport.demand ∧ 10 * t.transport.estimate < s.transport.demand := by
        rw [hestimate]
        exact hstall.mp hslow
      refine ⟨t, hsample, fun hb => ⟨fun hset hh => ?_, fun hn => absurd ⟨hslow', hlong⟩ hn⟩,
        fun hb => ⟨fun hset hh => absurd ⟨hb, hh⟩ hopen, fun hn => absurd ⟨hslow', hlong⟩ hn⟩,
        fun _ _ hn => absurd ⟨hslow', hlong⟩ hn, fun _ _ _ hhalted hsafe => ?_, fun hor => ?_, ?_⟩
      · obtain ⟨-, hlow, -⟩ := hset
        omega
      · obtain ⟨hline, hcause, hlatched, hzero, hbelt⟩ := hhalts hhalted hsafe
        obtain ⟨hstopped, hclosed⟩ := hbelt hslow'.1
        exact ⟨hline, hcause, hlatched, hzero, hstopped, hclosed⟩
      · rcases hor with h | h
        · exact absurd h hmoves
        · exact absurd ⟨hslow', hlong⟩ h
      · have e := congrArg (fun u : State => { u with transport := s.transport }) hframe
        exact e
    · obtain ⟨attn, holdOff, hsample⟩ := goodSample_steady (s := sampled ready s) (pos := scalePosition a b) hheld
      refine ⟨_, (hexec ready hwait hgood).trans (congrArg Host.Outcome.next
        (takeGoodSample_idle hsample htrain hqueue hreason hmisfeed)), ?_⟩
      refine ⟨fun hb => ?_, fun hb => ?_, fun hb hstands _ => ?_, fun hb hstalls hopen hhalted hsafe => ?_,
        fun _ => ⟨rfl, ?_⟩, rfl⟩
      · obtain ⟨hsettles, hopen, hout⟩ := steady_seeking (now := s.now) (t := sampledAt (scalePosition a b) s.now (sampled ready s).transport) hb
        exact ⟨fun hset hh => hsettles (hband.mpr hset) hh, fun _ =>
          ⟨fun hset hh => hopen (hband.mpr hset) hh, fun hset => hout fun e => hset (hband.mp e)⟩⟩
      · obtain ⟨hdeviates, hopen, hin⟩ := steady_settled (now := s.now) (t := sampledAt (scalePosition a b) s.now (sampled ready s).transport) hb
        refine ⟨fun hset hh => ?_, fun _ => ⟨fun hset hh => hopen (hdeviation.mpr hset) hh, fun hset => hin fun e => hset (hdeviation.mp e)⟩⟩
        obtain ⟨hnew, hspeed⟩ := hdeviates (hdeviation.mpr hset) hh
        refine ⟨hnew, hspeed, fun hold => ?_⟩
        have hflag : ((settledAt (scalePosition a b) (sampled ready s).now (sampled ready s).transport).speedFlag &&
            !(sampled ready s).transport.speedFlag) = true := by
          rw [show (settledAt (scalePosition a b) (sampled ready s).now (sampled ready s).transport).speedFlag = true from hspeed,
            show (sampled ready s).transport.speedFlag = false from hold]
          rfl
        dsimp only
        rw [hflag]
        exact getLsbD_or_bit _ _ (by decide)
      · obtain ⟨hyes, hno⟩ := steady_stallRun (now := s.now) (t := sampledAt (scalePosition a b) s.now (sampled ready s).transport) hb hstands
        exact ⟨fun h => hyes (hstall.mpr h), fun h => hno fun e => h (hstall.mp e)⟩
      · exact absurd (hstalled.mpr ⟨hb, hstall.mpr hstalls.1, hstalls.2, hopen⟩) hheld
      · exact testConditions_tests_demand s.now (sampledAt (scalePosition a b) s.now (sampled ready s).transport)
  · have hsettled : settledAt (scalePosition a b) s.now (sampled ready s).transport =
        { sampledAt (scalePosition a b) s.now (sampled ready s).transport with stallRun := none } :=
      steady_stopped hbelt
    have hsample := goodSample_quiet (s := sampled ready s) (pos := scalePosition a b)
      (fun e => ((stallHeld_iff _ _).mp e).1 hbelt) (by rw [show (sampled ready s).now = s.now from rfl, hsettled]; exact Bool.and_not_self _)
    obtain ⟨u, hu⟩ : ∃ u, ({ sampled ready s with transport :=
        { sampledAt (scalePosition a b) s.now (sampled ready s).transport with stallRun := none } } : State) = u := ⟨_, rfl⟩
    have hsampled : goodSample (scalePosition a b) (sampled ready s) = u :=
      hsample.trans ((congrArg (fun v => { sampled ready s with transport := v }) hsettled).trans hu)
    rw [hexec ready hwait hgood, takeGoodSample_openRuns, hsampled]
    have hqueue' : u.admission.queue = p :: rest := by rw [← hu]; exact hqueue
    have hplate' : plateOf u p = some r := by rw [← hu]; exact hplate
    have htrain' : u.tracker.train = [] := by rw [← hu]; exact htrain
    have hline' : u.supervisor.line = .running := by rw [← hu]; exact hline
    have hfits' : epochFits u p = false := by rw [← hu]; exact hfits
    have hspeed : effectiveSpeed u r.speed = effectiveSpeed s r.speed := by rw [← hu]; rfl
    have hdemand' : u.transport.demand ≠ effectiveSpeed u r.speed := by rw [hspeed, ← hu]; exact hdemand
    obtain ⟨hbelt, hnow, -, -, -, hnewSpeed, hcurrent, -, -⟩ :=
      evaluate_begins_effect hqueue' hplate' htrain' hline' hfits' hdemand'
    rw [hspeed] at hbelt hnewSpeed
    have hnow' : u.now = s.now := by rw [← hu]; rfl
    have hnew : (evaluate u).transport.demand ≠ u.transport.demand := by
      rw [hbelt, ← hspeed]
      exact Ne.symm hdemand'
    have hopens := openRuns_new hnew
    rw [hnow, hbelt, hnow'] at hopens
    rw [handOn_empty htrain', hopens]
    generalize evaluate u = v at *
    have hband := settlingBand_eq_true (epochBegun (effectiveSpeed s r.speed) u).transport
    have hstall := stallCondition_eq_true (epochBegun (effectiveSpeed s r.speed) u).transport
    have hpos : 0 < effectiveSpeed s r.speed := by
      unfold effectiveSpeed
      omega
    refine ⟨_, rfl, rfl, rfl, rfl, rfl, ?_, fun hlow hhigh hready hfault => ?_, fun hout => ?_, hnewSpeed, hcurrent⟩
    · by_cases hslow : 10 * u.transport.estimate < effectiveSpeed s r.speed
      · exact (runAfter_pos (hstall.mpr ⟨hpos, hslow⟩)).trans (if_pos hslow).symm
      · exact (runAfter_neg fun e => hslow (hstall.mp e).2).trans (if_neg hslow).symm
    · refine runAfter_pos (hband.mpr ⟨hpos, hlow, hhigh, ?_, ?_⟩)
      · rw [← hu]
        exact hready
      · rw [← hu]
        exact hfault
    · refine runAfter_neg fun e => ?_
      obtain ⟨-, hlow, hhigh, hready, hfault⟩ := hband.mp e
      rw [← hu] at hready hfault
      rcases hout with h | h | h | h
      · exact absurd h (Nat.not_lt.mpr hlow)
      · exact absurd h (Nat.not_lt.mpr hhigh)
      · exact absurd (hready.symm.trans h) (by decide)
      · exact absurd (hfault.symm.trans h) (by decide)

end Sys2Proof.Machine

/-! PROOFS. The tests of a sample on a belt train that stays as it is (R55, R76, R99, R116). -/

namespace Sys2Proof.Machine

section
variable {l : List PlateId} {s t u : State}

/-! ## What the tests of a sample change -/

/-- The words of a slot that a closing station writes. -/
def doseWords : List Nat := [40, 41, 42, 43, 44, 45]

/-- From `s` to `t` only the banks, the dose and entry load of plates of a list, and the dose words of slots may have
changed. -/
structure Tested (l : List PlateId) (s t : State) : Prop where
  frame : t = { s with banks := t.banks, tracker.plates := t.tracker.plates, bus.ram := t.bus.ram }
  window : ∀ k : Bank, (t.banks.get k).w0 = (s.banks.get k).w0 ∧ (t.banks.get k).w1 = (s.banks.get k).w1
  others : ∀ q, q ∉ l → plateOf t q = plateOf s q
  plates : ∀ q r, plateOf s q = some r → ∃ d e, plateOf t q = some { r with dose := d, entryLoad := e }
  absent : ∀ q, plateOf s q = none → plateOf t q = none
  words : ∀ q o, o < 64 → o ∉ doseWords → slotWord t q o = slotWord s q o

/-- What the tests change, by name. -/
theorem Tested.parts (h : Tested l s t) : ∃ banks plates ram, t = { s with
    banks := banks, tracker.plates := plates, bus.ram := ram } := ⟨_, _, _, h.frame⟩

theorem Tested.refl : Tested l s s :=
  ⟨rfl, fun _ => ⟨rfl, rfl⟩, fun _ _ => rfl, fun _ r h => ⟨r.dose, r.entryLoad, h⟩, fun _ h => h, fun _ _ _ _ => rfl⟩

theorem Tested.trans (h : Tested l s t) (g : Tested l t u) : Tested l s u where
  frame := by
    rw [g.frame]
    dsimp only
    rw [h.frame]
  window k := ⟨(g.window k).1.trans (h.window k).1, (g.window k).2.trans (h.window k).2⟩
  others q hq := (g.others q hq).trans (h.others q hq)
  plates q r hr := by
    obtain ⟨d, e, ht⟩ := h.plates q r hr
    obtain ⟨d', e', hu⟩ := g.plates q _ ht
    exact ⟨d', e', hu⟩
  absent q hr := g.absent q (h.absent q hr)
  words q o ho hd := (g.words q o ho hd).trans (h.words q o ho hd)

/-- A test of each plate of the list, one after the other. -/
theorem tested_foldl {f : PlateId → State → State} (hf : ∀ p ∈ l, ∀ u, Tested l u (f p u)) (s : State) :
    Tested l s (l.foldl (fun t p => f p t) s) := by
  have hfold (m : List PlateId) (hm : ∀ p ∈ m, p ∈ l) (u : State) (hu : Tested l s u) :
      Tested l s (m.foldl (fun t p => f p t) u) := by
    induction m generalizing u with
    | nil => exact hu
    | cons p m ih =>
      exact ih (fun q hq => hm q (List.mem_cons_of_mem _ hq)) _ (hu.trans (hf p (hm p List.mem_cons_self) u))
  exact hfold l (fun _ h => h) s .refl

theorem tested_of_banks {banks : PerBank BankUnit}
    (h : ∀ k : Bank, (banks.get k).w0 = (s.banks.get k).w0 ∧ (banks.get k).w1 = (s.banks.get k).w1) :
    Tested l s { s with banks := banks } :=
  ⟨rfl, h, fun _ _ => rfl, fun _ r h => ⟨r.dose, r.entryLoad, h⟩, fun _ h => h, fun _ _ _ _ => rfl⟩

theorem tested_putPlate {p : PlateId} {r : Plate} {d : DoseRecord} {e : Option Nat} (hp : p ∈ l) (hr : plateOf s p = some r) :
    Tested l s (putPlate p (some { r with dose := d, entryLoad := e }) s) where
  frame := rfl
  window _ := ⟨rfl, rfl⟩
  others q hq := (plateOf_putPlate p q _ s).trans (if_neg fun h : q = p => hq (h ▸ hp))
  plates q x hx := by
    rw [plateOf_putPlate]
    split
    · next hqp =>
      rw [hqp, hr] at hx
      cases hx
      exact ⟨d, e, rfl⟩
    · exact ⟨x.dose, x.entryLoad, hx⟩
  absent q hq := by
    rw [plateOf_putPlate, if_neg fun e => by rw [e, hr] at hq; exact nomatch hq]
    exact hq
  words _ _ _ _ := rfl

theorem tested_putSlot {p : PlateId} {o : Nat} {v : Word} (ho : o ∈ doseWords) : Tested l s (putSlot p o v s) where
  frame := rfl
  window _ := ⟨rfl, rfl⟩
  others _ _ := rfl
  plates _ r h := ⟨r.dose, r.entryLoad, h⟩
  absent _ h := h
  words q x hx hd := by
    have hlt : o < 64 := by
      fin_cases ho <;> decide
    exact (slotWord_putSlot p q o x v s hlt hx).trans (if_neg fun e : q = p ∧ x = o => hd (e.2 ▸ ho))

/-! ## Claims (R76) -/

theorem claimStep_window (now lead : Nat) (p : PlateId) (head : Nat) (t15 : Int) (eSet : Nat) (b : BankUnit) :
    (claimStep now lead p head t15 eSet b).w0 = b.w0 ∧ (claimStep now lead p head t15 eSet b).w1 = b.w1 := by
  have hdrop : (dropClaim now p b).w0 = b.w0 ∧ (dropClaim now p b).w1 = b.w1 := by
    unfold dropClaim emptyClaims
    dsimp only
    (repeat' split) <;> exact ⟨rfl, rfl⟩
  have hjoin : (joinClaim now eSet p b).w0 = b.w0 ∧ (joinClaim now eSet p b).w1 = b.w1 := by
    unfold joinClaim
    (repeat' split) <;> exact ⟨rfl, rfl⟩
  unfold claimStep
  (repeat' split)
  · exact hdrop
  · exact ⟨rfl, rfl⟩
  · exact ⟨rfl, rfl⟩
  · exact ⟨rfl, rfl⟩
  · exact hjoin
  · exact ⟨rfl, rfl⟩

theorem tested_claimTest (p : PlateId) : Tested l s (claimTest p s) := by
  unfold claimTest
  split
  · exact .refl
  · split
    · exact .refl
    · exact tested_of_banks fun k => by cases k <;> exact claimStep_window _ _ _ _ _ _ _

theorem tested_claimTests (h : s.tracker.train = l) : Tested l s (claimTests s) := by
  unfold claimTests
  rw [h]
  exact tested_foldl (fun p _ u => tested_claimTest p) s

/-! ## Closes (R99) -/

theorem tested_closeStation {p : PlateId} {st : StationKind} {v : Plate → Verdict} (hp : p ∈ l) :
    Tested l s (closeStation p st v s) := by
  unfold closeStation
  split
  · exact .refl
  · next r hr =>
    split
    · have hput : Tested l s (putPlate p (some { r with dose := closedDose r.dose st (v r) }) s) :=
        tested_putPlate (e := r.entryLoad) hp hr
      refine hput.trans ?_
      cases st with
      | back =>
        exact ((tested_putSlot (o := 40) (by decide)).trans (tested_putSlot (o := 41) (by decide))).trans
          (tested_putSlot (o := 44) (by decide))
      | main =>
        exact ((tested_putSlot (o := 42) (by decide)).trans (tested_putSlot (o := 43) (by decide))).trans
          (tested_putSlot (o := 45) (by decide))
    · exact .refl

theorem tested_closeTest {p : PlateId} {st : StationKind} (hp : p ∈ l) : Tested l s (closeTest p st s) := by
  unfold closeTest
  split
  · exact .refl
  · split
    · exact tested_closeStation hp
    · exact .refl

theorem tested_closeTests (h : s.tracker.train = l) : Tested l s (closeTests s) := by
  unfold closeTests
  rw [h]
  exact tested_foldl (f := fun p u => closeTest p .main (closeTest p .back u))
    (fun p hp u => (tested_closeTest hp).trans (tested_closeTest hp)) s

/-! ## The wash (R116) -/

/-- At a belt position no plate of the list leaves the wash. -/
def washStays (x : Nat) (l : List PlateId) (s : State) : Prop :=
  ∀ p ∈ l, ∀ r : Plate, plateOf s p = some r → ∀ a : Nat, r.headLatch = some a →
    (travelFrom a x : Int) - (lengthUm r : Int) < ((s.wash.stop * 1000 : Nat) : Int) ∨
    r.entryLoad = none ∧ (r.washFigures ≠ none ∨ travelFrom a x < s.wash.start * 1000)

theorem putPlate_same {p : PlateId} {r : Plate} (h : plateOf s p = some r) : putPlate p (some r) s = s := by
  have hset : s.tracker.plates.set p (some r) = s.tracker.plates := by
    rw [← h]
    exact Vector.set_getElem_self _
  unfold putPlate
  rw [hset]

/-- A plate that stays in the wash, or short of it, at most gets its entry load. -/
theorem washTest_stays {p : PlateId} (hp : p ∈ l) (h : washStays (beltPos s) l s) :
    Tested l s (washTest p s) ∧ washStays (beltPos s) l (washTest p s) := by
  unfold washTest
  cases hr : plateOf s p with
  | none => exact ⟨.refl, h⟩
  | some r =>
    cases ha : r.headLatch with
    | none => simpa [headTravel, ha] using ⟨.refl, h⟩
    | some a =>
      have hhead : (some r).bind (fun r => (headTravel s r).map fun h => (h, lengthUm r)) =
          some (travelFrom a (beltPos s), lengthUm r) := by simp [headTravel, ha]
      rw [hhead]
      dsimp only
      have henter : enterWash p (travelFrom a (beltPos s)) s = putPlate p (some (if r.entryLoad = none ∧
          r.washFigures = none ∧ s.wash.start * 1000 ≤ travelFrom a (beltPos s)
          then { r with entryLoad := some s.wash.load } else r)) s := by
        unfold enterWash modPlate
        rw [hr]
      rcases h p hp r hr a ha with htail | ⟨hnone, hleft⟩
      · rw [if_neg (by omega), henter]
        split
        · refine ⟨tested_putPlate (d := r.dose) hp hr, fun q hq x hx b hb => ?_⟩
          rw [plateOf_putPlate] at hx
          split at hx
          · cases hx
            cases Option.some.inj (ha.symm.trans hb)
            exact .inl htail
          · exact h q hq x hx b hb
        · rw [putPlate_same hr]
          exact ⟨.refl, h⟩
      · have hout : ¬(r.entryLoad = none ∧ r.washFigures = none ∧ s.wash.start * 1000 ≤ travelFrom a (beltPos s)) := by
          rintro ⟨-, hfigures, hstart⟩
          rcases hleft with h | h
          · exact h hfigures
          · omega
        rw [henter, if_neg hout, putPlate_same hr, leaveWash_outside hr hnone, ite_self]
        exact ⟨.refl, h⟩

/-- The wash tests of a train of which no plate leaves. -/
theorem tested_washTests {x : Nat} (hl : s.tracker.train = l) (hx : beltPos s = x) (h : washStays x l s) :
    Tested l s (washTests s) := by
  have hfold (m : List PlateId) (hm : ∀ p ∈ m, p ∈ l) (u : State) (hu : Tested l s u) (hstays : washStays x l u) :
      Tested l s (m.foldl (fun t p => washTest p t) u) := by
    induction m generalizing u with
    | nil => exact hu
    | cons p m ih =>
      have hpos : beltPos u = x := by
        rw [hu.frame]
        exact hx
      obtain ⟨htest, hstays'⟩ := washTest_stays (hm p List.mem_cons_self) (hpos.symm ▸ hstays)
      have hpos' : beltPos u = x → washStays x l (washTest p u) := fun e => e ▸ hstays'
      exact ih (fun q hq => hm q (List.mem_cons_of_mem _ hq)) _ (hu.trans htest) (hpos' hpos)
  unfold washTests
  rw [hl]
  exact hfold l (fun _ h => h) s .refl h

/-! ## The sample handed on (R55) -/

theorem missingTest_stays {x : Nat} (hx : beltPos s = x) (h : trainStays x s) : missingTest s = s := by
  unfold missingTest
  split
  · rfl
  · next p rest htrain =>
    split
    · rfl
    · next r hr =>
      cases ha : r.headLatch with
      | none => simp [headTravel, ha]
      | some a =>
        have hhead : headTravel s r = some (travelFrom a x) := by simp [headTravel, ha, hx]
        rw [hhead]
        refine if_neg fun ⟨hopen, hfar⟩ => ?_
        obtain ⟨hfirst, -⟩ := h p (by rw [htrain]; exact List.mem_cons_self) r hr a ha
        rcases hfirst (by rw [htrain]; rfl) with hseen | hnear
        · rw [hopen] at hseen
          exact absurd hseen (by decide)
        · rw [← travelFrom_eq] at hnear
          omega

theorem washStays_of_trainStays {x : Nat} (h : trainStays x s) : washStays x s.tracker.train s := by
  intro p hp r hr a ha
  obtain ⟨-, hwash⟩ := h p hp r hr a ha
  rw [← travelFrom_eq] at hwash
  refine hwash.imp id fun ⟨hnone, hleft⟩ => ⟨hnone, hleft.imp id fun hshort => ?_⟩
  omega

/-- What the wash tests of a plate. -/
def washView (s : State) (p : PlateId) : Option (Option Nat × Nat × Option Nat × Option (Nat × Nat)) :=
  (plateOf s p).map fun r => (r.headLatch, lengthUm r, r.entryLoad, r.washFigures)

theorem washStays_of_view {x : Nat} (h : washStays x l s) (hwash : t.wash = s.wash) (hview : washView t = washView s) :
    washStays x l t := by
  intro p hp r hr a ha
  have hp' : washView t p = washView s p := congrFun hview p
  unfold washView at hp'
  rw [hr, Option.map_some] at hp'
  obtain ⟨r', hr', heq⟩ := Option.map_eq_some_iff.mp hp'.symm
  obtain ⟨hlatch, hlength, hentry, hfigures⟩ : r'.headLatch = r.headLatch ∧ lengthUm r' = lengthUm r ∧
      r'.entryLoad = r.entryLoad ∧ r'.washFigures = r.washFigures := by
    simpa using heq
  rw [hwash, ← hlength, ← hentry, ← hfigures]
  exact h p hp r' hr' a (hlatch.trans ha)

theorem washView_closeStation (p : PlateId) (st : StationKind) (v : Plate → Verdict) (s : State) :
    washView (closeStation p st v s) = washView s := by
  unfold closeStation
  split
  · rfl
  · next r hr =>
    split
    · funext q
      have hshow (a b : Nat) (u : State) : plateOf (showStation p st (v r) a b u) q = plateOf u q := by
        simp [plateOf]
      unfold washView
      rw [hshow, plateOf_putPlate]
      split
      · next hq =>
        rw [hq, hr]
        rfl
      · rfl
    · rfl

theorem washView_closeTests (s : State) : washView (closeTests s) = washView s := by
  have htest (p : PlateId) (st : StationKind) (u : State) : washView (closeTest p st u) = washView u := by
    unfold closeTest
    split
    · rfl
    · split
      · exact washView_closeStation _ _ _ _
      · rfl
  exact foldl_keeps washView _ (fun u p => (htest p .main _).trans (htest p .back u)) _ _

theorem washView_claimTests (s : State) : washView (claimTests s) = washView s := by
  funext p
  unfold washView plateOf
  simp

/-- A sample handed on with no plate lost or leaving the wash comes to the evaluation of the queue head (R35, R55). -/
theorem handOn_stays {x : Nat} (hx : beltPos s = x) (h : trainStays x s) :
    ∃ t, handOn s = evaluate t ∧ Tested s.tracker.train s t := by
  have hclaims : Tested s.tracker.train s (claimTests s) := tested_claimTests rfl
  have hcloses : Tested s.tracker.train (claimTests s) (closeTests (claimTests s)) := tested_closeTests (by simp)
  have hstays : washStays x s.tracker.train (closeTests (claimTests s)) :=
    washStays_of_view (washStays_of_trainStays h) (by simp) ((washView_closeTests _).trans (washView_claimTests s))
  have hwash : Tested s.tracker.train (closeTests (claimTests s)) (washTests (closeTests (claimTests s))) :=
    tested_washTests (by simp) (by rw [← hx]; simp [beltPos]) hstays
  refine ⟨_, ?_, (hclaims.trans hcloses).trans hwash⟩
  unfold handOn
  rw [missingTest_stays hx h]

end

end Sys2Proof.Machine

/-! PROOFS. A sample comes to the evaluation of the queue head (R35, R52 to R55). -/

namespace Sys2Proof.Machine

/-! ## Time that passes -/

theorem advanceTo_eq (d : Nat) (s : State) : ∃ banks, advanceTo d s = { s with now := max s.now d, banks := banks } ∧
    ∀ k : Bank, ∃ n, banks.get k = { s.banks.get k with onRem := n } := by
  have hbank := advanceTo_bank d s
  have hnow := advanceTo_now d s
  refine ⟨(advanceTo d s).banks, ?_, hbank⟩
  unfold advanceTo at hnow ⊢
  split at hnow
  · next h => rw [if_pos h, ← hnow]; rfl
  · next h => rw [if_neg h, ← hnow]

/-! ## The waiting places do not matter to the conditions (R59) -/

/-- The transport unit with no word waiting and its watchdog set. -/
def unwaited (n : Nat) (t : Transport) : Transport := { t with wait1 := none, wait2 := none, watchdog := n }

theorem conditioned_unwaited (now n : Nat) (t : Transport) :
    conditioned now (unwaited n t) = unwaited n (conditioned now t) := by
  have hseeking (hb : t.beltState = .ramping ∨ t.beltState = .deviating) :
      conditioned now (unwaited n t) = unwaited n (conditioned now t) := by
    by_cases hsettle : settlingBand t = true ∧ heldFor 1000 now t.settleRun
    · rw [conditioned_settles hb hsettle.1 hsettle.2, conditioned_settles (t := unwaited n t) hb hsettle.1 hsettle.2]
      rfl
    · rw [conditioned_seeking hb hsettle, conditioned_seeking (t := unwaited n t) hb hsettle]
      rfl
  cases hb : t.beltState with
  | stopped => rw [conditioned_stopped hb, conditioned_stopped (t := unwaited n t) hb]
  | ramping => exact hseeking (.inl hb)
  | deviating => exact hseeking (.inr hb)
  | settled =>
    by_cases hdeviate : deviationBand t = true ∧ heldFor 1000 now t.deviationRun
    · rw [conditioned_deviates hb hdeviate.1 hdeviate.2, conditioned_deviates (t := unwaited n t) hb hdeviate.1 hdeviate.2]
      rfl
    · rw [conditioned_settled hb hdeviate, conditioned_settled (t := unwaited n t) hb hdeviate]
      rfl

theorem steady_unwaited (now n : Nat) (t : Transport) : steady now (unwaited n t) = unwaited n (steady now t) := by
  unfold steady
  rw [conditioned_unwaited]
  rfl

/-- With the stall run closed, no sample raises a stall (R62). -/
theorem stallHeld_closed {now : Nat} {t : Transport} (h : t.beltState = .stopped ∨ t.stallRun = none) :
    ¬runHeld 2000 now (stallRunAfter now (conditioned now t)) = true := by
  rw [stallHeld_iff]
  rintro ⟨hmoves, -, ⟨r, hrun, -⟩, -⟩
  rcases h with h | h
  · exact hmoves h
  · exact nomatch h.symm.trans hrun

/-! ## The state that is evaluated -/

/-- The evaluation of a sample on `s` finds `z`, with PLATE_READY as given, at a moment, the belt as in `v`; no plate of
the train is lost or leaves the wash. -/
structure Reached (ready : Bool) (now : Nat) (s v z : State) : Prop where
  frame : z = { s with
    now := now, pins.plateReady := ready, transport := z.transport, banks := z.banks, tracker.plates := z.tracker.plates
    bus.ram := z.bus.ram, bus.latched := z.bus.latched, bus.attn := z.bus.attn, bus.holdOff := z.bus.holdOff }
  ahead : v = { s with transport := v.transport, bus := v.bus }
  belt : z.transport.beltState = v.transport.beltState
  position : beltPos z = beltPos v
  demand : z.transport.demand = s.transport.demand
  latched : z.bus.latched.getLsbD 10 = s.bus.latched.getLsbD 10
  window : ∀ k : Bank, (z.banks.get k).w0 = (s.banks.get k).w0 ∧ (z.banks.get k).w1 = (s.banks.get k).w1
  others : ∀ q, q ∉ s.tracker.train → plateOf z q = plateOf s q
  plates : ∀ q r, plateOf s q = some r → ∃ d e, plateOf z q = some { r with dose := d, entryLoad := e }
  absent : ∀ q, plateOf s q = none → plateOf z q = none
  words : ∀ q o, o < 64 → o ∉ doseWords → slotWord z q o = slotWord s q o

section
variable {s : State}

/-- A silent sample below the fifth fault. -/
theorem silentSample_reaches (ready : Bool) (hfaults : s.transport.faults < 4)
    (h : trainStays (s.transport.position.getD 0) s) :
    ∃ z, exec (.scaleWatchdogExpiry ready) s = .next (evaluate z) ∧
      Reached ready (max s.now s.transport.watchdog) s s z := by
  obtain ⟨banks, hadvance, hbanks⟩ := advanceTo_eq s.transport.watchdog s
  have hunheard : unheard ready s = { s with
      now := max s.now s.transport.watchdog, banks := banks, pins.plateReady := ready
      transport.watchdog := max s.now s.transport.watchdog + 10 } := by
    unfold unheard
    rw [hadvance]
  have hfault := vernierFault_below (s := unheard ready s) (by rw [hunheard]; exact hfaults)
  rw [hunheard] at hfault
  obtain ⟨z, heval, htested⟩ := handOn_stays (s := vernierFault (unheard ready s)) (x := s.transport.position.getD 0)
    (by rw [hunheard, hfault]; rfl) (by rw [hunheard, hfault]; exact h)
  rw [hunheard, hfault] at htested
  obtain ⟨banks', plates, ram, hz⟩ := htested.parts
  obtain ⟨-, hwindow, hothers, hplates, habsent, hwords⟩ := htested
  subst hz
  refine ⟨_, (exec_scaleWatchdogExpiry ready s).trans (congrArg Host.Outcome.next heval), rfl, rfl, rfl, rfl, rfl, rfl,
    fun k => ?_, hothers, hplates, habsent, hwords⟩
  obtain ⟨n, hbank⟩ := hbanks k
  obtain ⟨h0, h1⟩ := hwindow k
  have e0 := congrArg BankUnit.w0 hbank
  have e1 := congrArg BankUnit.w1 hbank
  exact ⟨h0.trans e0, h1.trans e1⟩

/-- A good sample with no stall run open. -/
theorem goodSample_reaches {a b : Word} (ready : Bool)
    (hrun : s.transport.beltState = .stopped ∨ s.transport.stallRun = none) (h : trainStays (scalePosition a b) s) :
    ∃ z, takeGoodSample (scalePosition a b) (sampled ready s) = openRuns z.transport.demand (evaluate z) ∧
      Reached ready s.now s (goodSample (scalePosition a b) s) z := by
  obtain ⟨attn, holdOff, hsample⟩ := goodSample_steady (s := sampled ready s) (pos := scalePosition a b)
    (stallHeld_closed hrun)
  obtain ⟨attn', holdOff', hahead⟩ := goodSample_steady (s := s) (pos := scalePosition a b) (stallHeld_closed hrun)
  have hbelt : settledAt (scalePosition a b) (sampled ready s).now (sampled ready s).transport =
      unwaited (s.now + 10) (settledAt (scalePosition a b) s.now s.transport) :=
    steady_unwaited s.now (s.now + 10) (sampledAt (scalePosition a b) s.now s.transport)
  have hdemand : (settledAt (scalePosition a b) s.now s.transport).demand = s.transport.demand :=
    testConditions_tests_demand s.now (sampledAt (scalePosition a b) s.now s.transport)
  have hposition : (settledAt (scalePosition a b) s.now s.transport).position = some (scalePosition a b) := by
    have e := congrArg Transport.position (scaleViewOf_conditioned s.now (sampledAt (scalePosition a b) s.now s.transport))
    exact e
  have hlatched (c : Bool) (x : Word) : (x ||| bitIf c 11).getLsbD 10 = x.getLsbD 10 := by
    rw [BitVec.getLsbD_or]
    cases c <;> simp [bitIf]
  rw [hbelt] at hsample
  have hpos : beltPos (goodSample (scalePosition a b) (sampled ready s)) = scalePosition a b := by
    rw [hsample]
    exact congrArg (·.getD 0) hposition
  obtain ⟨z, heval, htested⟩ := handOn_stays hpos (by rw [hsample]; exact h)
  rw [hsample] at htested
  obtain ⟨banks, plates, ram, hz⟩ := htested.parts
  obtain ⟨-, hwindow, hothers, hplates, habsent, hwords⟩ := htested
  refine ⟨z, ?_, ?_⟩
  · rw [takeGoodSample_openRuns, heval, hsample, hz]
  · subst hz
    exact ⟨rfl, by rw [hahead], by rw [hahead]; rfl, by rw [hahead]; rfl, hdemand, hlatched _ _, hwindow, hothers, hplates,
      habsent, hwords⟩

end

/-! ## The release conditions of the state evaluated (R35) -/

section
variable {ready : Bool} {now : Nat} {s v z : State}

/-- The state before the sample, with PLATE_READY as given and the steps of the misfeed hold taken (R43). -/
def readied (ready : Bool) (s v : State) : State := { v with
  pins.plateReady := ready, admission.misfeedHold := s.admission.misfeedHold && !(ready && s.admission.misfeedArmed)
  admission.misfeedArmed := if s.admission.misfeedHold then !ready else s.admission.misfeedArmed }

/-- The steps of the misfeed hold on the state evaluated. -/
theorem Reached.steps (h : Reached ready now s v z) : misfeedSteps z = { z with
    admission.misfeedHold := s.admission.misfeedHold && !(ready && s.admission.misfeedArmed)
    admission.misfeedArmed := if s.admission.misfeedHold then !ready else s.admission.misfeedArmed } := by
  have hpins : z.pins.plateReady = ready := by rw [h.frame]
  have hadmission : z.admission = s.admission := by rw [h.frame]
  rw [misfeedSteps_eq]
  unfold holdStands holdArmed
  rw [hpins, hadmission]

theorem Reached.speed (h : Reached ready now s v z) (p : PlateId) : headSpeed z p = headSpeed s p := by
  have hwash : z.wash = s.wash := by rw [h.frame]
  have heffective (n : Nat) : effectiveSpeed z n = effectiveSpeed s n := by
    unfold effectiveSpeed derate
    rw [hwash]
  unfold headSpeed
  cases hr : plateOf s p with
  | none =>
    rw [h.absent p hr]
    exact heffective 0
  | some r =>
    obtain ⟨d, e, hz⟩ := h.plates p r hr
    rw [hz]
    exact heffective r.speed

theorem Reached.fits (h : Reached ready now s v z) (p : PlateId) : epochFits z p = epochFits s p := by
  have hadmission : z.admission = s.admission := by rw [h.frame]
  unfold epochFits
  rw [h.speed, hadmission]

theorem Reached.setpoints (h : Reached ready now s v z) (r : Plate) (n : Nat) :
    plateSetpoints z r n = plateSetpoints s r n := by
  have hwidth (k : Bank) : windowWidth (z.banks.get k) = windowWidth (s.banks.get k) := by
    unfold windowWidth
    rw [(h.window k).1, (h.window k).2]
  unfold plateSetpoints plateSetpoint
  rw [hwidth, hwidth, hwidth]

theorem Reached.headSetpoints (h : Reached ready now s v z) (p : PlateId) :
    Machine.headSetpoints z p = Machine.headSetpoints s p := by
  have hadmission : z.admission = s.admission := by rw [h.frame]
  unfold Machine.headSetpoints
  rw [hadmission]
  cases hr : plateOf s p with
  | none =>
    rw [h.absent p hr]
    rfl
  | some r =>
    obtain ⟨d, e, hz⟩ := h.plates p r hr
    rw [hz]
    exact congrArg some (h.setpoints r _)

/-- The gap behind the last plate of the train (R39). -/
theorem Reached.gap (h : Reached ready now s v z) (p : PlateId) : gapHolds z p = gapHolds v p := by
  have htrain : z.tracker.train = v.tracker.train := by rw [h.frame, h.ahead]
  have hadmission : z.admission = v.admission := by rw [h.frame, h.ahead]
  have hplate (q : PlateId) : plateOf v q = plateOf s q := by rw [h.ahead]; rfl
  have hsetpoints : Machine.headSetpoints v p = Machine.headSetpoints s p := by rw [h.ahead]; rfl
  have hrequired (a b : Option (PerBank Nat)) : requiredGap z a b = requiredGap v a b := by
    unfold requiredGap
    rw [hadmission]
  unfold gapHolds
  rw [htrain, h.headSetpoints, ← hsetpoints]
  cases v.tracker.train.getLast? with
  | none => rfl
  | some q =>
    dsimp only
    rw [hplate]
    cases hr : plateOf s q with
    | none => rw [h.absent q hr]
    | some r =>
      obtain ⟨d, e, hz⟩ := h.plates q r hr
      have htravel : headTravel z { r with dose := d, entryLoad := e } = headTravel v r := by
        unfold headTravel
        rw [h.position]
      rw [hz]
      dsimp only
      rw [htravel]
      simp only [hrequired]

/-- What a hold reason depends on (R35). -/
theorem holdReasonFor_congr {s t : State} {p : PlateId} (hcover : t.safety.coverClosed = s.safety.coverClosed)
    (hline : t.supervisor.line = s.supervisor.line) (hwash : t.wash.hold = s.wash.hold)
    (hshuttle : t.shuttle.state = s.shuttle.state) (hplaces : placesInService t = placesInService s)
    (hcommitments : t.admission.commitments = s.admission.commitments) (hfits : epochFits t p = epochFits s p)
    (hbelt : t.transport.beltState = s.transport.beltState) (hready : t.pins.plateReady = s.pins.plateReady)
    (hmisfeed : t.admission.misfeedHold = s.admission.misfeedHold) (hgap : gapHolds t p = gapHolds s p) :
    holdReasonFor t p = holdReasonFor s p := by
  unfold holdReasonFor
  rw [hcover, hline, hwash, hshuttle, hplaces, hcommitments, hfits, hbelt, hready, hmisfeed, hgap]

/-- The hold reason that the evaluation gives is that of the state before the sample, with the belt as the sample leaves it
(R35, R43). -/
theorem Reached.reason (h : Reached ready now s v z) (p : PlateId) :
    holdReasonFor (misfeedSteps z) p = holdReasonFor (readied ready s v) p := by
  have hfits : epochFits z p = epochFits v p := (h.fits p).trans (by rw [h.ahead]; rfl)
  have hsafety : z.safety = v.safety := by rw [h.frame, h.ahead]
  have hsupervisor : z.supervisor = v.supervisor := by rw [h.frame, h.ahead]
  have hwash : z.wash = v.wash := by rw [h.frame, h.ahead]
  have hshuttle : z.shuttle = v.shuttle := by rw [h.frame, h.ahead]
  have hdrying : z.drying = v.drying := by rw [h.frame, h.ahead]
  have hadmission : z.admission = v.admission := by rw [h.frame, h.ahead]
  have hpins : z.pins.plateReady = ready := by rw [h.frame]
  have hplaces : placesInService z = placesInService v := by
    unfold placesInService
    rw [hdrying]
  rw [h.steps]
  refine holdReasonFor_congr (congrArg SafetyInputs.coverClosed hsafety) (congrArg Supervisor.line hsupervisor)
    (congrArg Wash.hold hwash) (congrArg Shuttle.state hshuttle) hplaces ?_ hfits h.belt hpins rfl (h.gap p)
  have e := congrArg Admission.commitments hadmission
  exact e

end

end Sys2Proof.Machine

/-! PROOFS. The head hold reason (R35, R36, R39, R43). -/

namespace Sys2Proof.Machine

/-! ## The order of the release conditions (R35) -/

theorem matchesEpoch_iff (eff speed : Nat) :
    matchesEpoch eff speed = true ↔ 1000 * eff ≤ 1020 * speed ∧ 980 * speed ≤ 1000 * eff := by
  unfold matchesEpoch natDist
  rw [decide_eq_true_eq]
  omega

theorem epochFits_iff {s : State} {p : PlateId} {r : Plate} (hr : plateOf s p = some r) :
    epochFits s p = true ↔ s.admission.epochCurrent = true ∧
      1000 * effectiveSpeed s r.speed ≤ 1020 * s.admission.epochSpeed ∧
      980 * s.admission.epochSpeed ≤ 1000 * effectiveSpeed s r.speed := by
  unfold epochFits headSpeed
  rw [hr, Bool.and_eq_true, matchesEpoch_iff]

theorem gapHolds_empty {s : State} {p : PlateId} (h : s.tracker.train = []) : gapHolds s p = true := by
  unfold gapHolds
  rw [h]
  rfl

/-- The gap behind a plate (R39). -/
theorem gapHolds_behind {s : State} {p q : PlateId} {r u : Plate} (hr : plateOf s p = some r)
    (hlast : s.tracker.train.getLast? = some q) (hu : plateOf s q = some u) :
    (u.measured = none → gapHolds s p = false) ∧
    (∀ m l : Nat, u.measured = some m → u.headLatch = some l →
      (gapHolds s p = true ↔ ((if some (plateSetpoints s r s.admission.epochSpeed) = u.setpoints
          then s.admission.smallGap else s.admission.largeGap : Nat) * 1000 : Int) ≤
        (((s.transport.position.getD 0 : Nat) : Int) - (l : Int)) % 12288000 - (m : Int) * 1000)) := by
  have hhead : headSetpoints s p = some (plateSetpoints s r s.admission.epochSpeed) := by
    unfold headSetpoints
    rw [hr]
    rfl
  unfold gapHolds
  rw [hlast]
  dsimp only
  rw [hu]
  dsimp only
  refine ⟨fun hm => by rw [hm], fun m l hm hl => ?_⟩
  have htravel : headTravel s u = some (travelFrom l (beltPos s)) := by
    unfold headTravel
    rw [hl]
    rfl
  rw [hm, htravel]
  dsimp only
  rw [decide_eq_true_eq, hhead, travelFrom_eq]
  unfold requiredGap beltPos
  push_cast
  exact Iff.rfl

/-! ## What a change of the reason shows (R36) -/

section
variable {ready : Bool} {now : Nat} {s v z : State}

/-- The evaluation holds the head of the queue, or finds none. -/
theorem Reached.held (h : Reached ready now s v z) {p : PlateId} {rest : List PlateId} {reason : HoldReason}
    (hqueue : s.admission.queue = p :: rest)
    (hepoch : s.supervisor.line ≠ .running ∨ s.tracker.train ≠ [] ∨ epochFits s p = true)
    (hreason : holdReasonFor (readied ready s v) p = some reason) :
    evaluate z = setHold reason (misfeedSteps z) := by
  have hqueue' : z.admission.queue = p :: rest := by rw [h.frame]; exact hqueue
  have hline : z.supervisor.line = s.supervisor.line := by rw [h.frame]
  have htrain : z.tracker.train = s.tracker.train := by rw [h.frame]
  have hrules : epochRules (misfeedSteps z) = misfeedSteps z := by
    refine epochRules_stands fun p' rest' hq => ?_
    have hp : p' = p := by
      have e : p :: rest = p' :: rest' := hqueue'.symm.trans (by simpa using hq)
      exact (List.cons.inj e).1.symm
    rw [hp, epochFits_misfeedSteps, h.fits]
    simpa [hline, htrain] using hepoch
  exact (evaluate_held hqueue' (by rw [hrules, h.reason, hreason])).trans (by rw [hrules])

theorem Reached.empty (h : Reached ready now s v z) (hqueue : s.admission.queue = []) :
    evaluate z = setHold .none (misfeedSteps z) :=
  evaluate_empty (by rw [h.frame]; exact hqueue)

theorem openRuns_held {reason : HoldReason} (heval : evaluate z = setHold reason (misfeedSteps z)) :
    openRuns z.transport.demand (evaluate z) = evaluate z :=
  openRuns_same (by rw [heval]; simp)

/-- What an evaluation leaves that gives the reason of the head (R35, R36). -/
theorem Reached.given (h : Reached ready now s v z) {reason : HoldReason}
    (heval : evaluate z = setHold reason (misfeedSteps z)) :
    (let t := openRuns z.transport.demand (evaluate z)
     t.admission = { s.admission with
       holdReason := reason, misfeedHold := s.admission.misfeedHold && !(ready && s.admission.misfeedArmed)
       misfeedArmed := if s.admission.misfeedHold then !ready else s.admission.misfeedArmed } ∧
     (reason ≠ s.admission.holdReason → t.bus.latched.getLsbD 10 = true ∧
       ∀ q ∈ s.admission.queue, slotWord t q 34 = w16 (holdCode reason)) ∧
     (reason = s.admission.holdReason → t.bus.latched.getLsbD 10 = s.bus.latched.getLsbD 10 ∧
       ∀ q ∈ s.admission.queue, slotWord t q 34 = slotWord s q 34) ∧
     t.tracker.train = s.tracker.train ∧ t.supervisor = s.supervisor ∧ t.wash = s.wash ∧
     t.transport.demand = s.transport.demand ∧ t.drying = s.drying ∧ t.shuttle = s.shuttle ∧
     t.chamber = s.chamber ∧ t.link = s.link ∧ t.intake = s.intake) := by
  have hadmission : z.admission = s.admission := by rw [h.frame]
  have hdemand : (setHold reason (misfeedSteps z)).transport.demand = z.transport.demand := by simp
  have hwords := h.words
  have hlatched := h.latched
  have hzdemand := h.demand
  dsimp only
  rw [heval, openRuns_same hdemand, h.steps]
  rw [← hadmission]
  by_cases hsame : reason = z.admission.holdReason
  · rw [setHold_same (by exact hsame)]
    refine ⟨?_, fun hne => absurd hsame hne, fun _ => ⟨hlatched, fun q _ => hwords q 34 (by decide) (by decide)⟩, ?_⟩
    · rw [hsame]
    · refine ⟨?_, ?_, ?_, hzdemand, ?_, ?_, ?_, ?_, ?_⟩ <;> rw [h.frame]
  · obtain ⟨ram, attn, holdOff, hset, hshown, -⟩ := setHold_change (h := reason) (s := { z with
      admission.misfeedHold := z.admission.misfeedHold && !(ready && z.admission.misfeedArmed)
      admission.misfeedArmed := if z.admission.misfeedHold then !ready else z.admission.misfeedArmed }) hsame
    rw [hset]
    refine ⟨rfl, fun _ => ⟨getLsbD_or_bit _ _ (by decide), fun q hq => ?_⟩, fun e => absurd e hsame, ?_⟩
    · exact (hshown q 34 (by decide)).trans (if_pos ⟨rfl, hq⟩)
    · refine ⟨?_, ?_, ?_, hzdemand, ?_, ?_, ?_, ?_, ?_⟩ <;> rw [h.frame]

end

/-- A reason given, seen word by word (R36). -/
theorem setHold_given (h : HoldReason) (s : State) :
    (h = s.admission.holdReason → setHold h s = s) ∧
    (h ≠ s.admission.holdReason → (setHold h s).admission.holdReason = h ∧ latchedBits 0x0400 s (setHold h s) ∧
      (∀ q ∈ s.admission.queue, slotWord (setHold h s) q 34 = w16 (holdCode h)) ∧
      ramKeptOutside (s.admission.queue.map fun q => slotBase q + 34) s (setHold h s) ∧
      exceptAttn s (exceptRam s { setHold h s with admission.holdReason := s.admission.holdReason }) = s) := by
  refine ⟨setHold_same, fun hne => ?_⟩
  obtain ⟨ram, attn, holdOff, hset, hwords, hkept⟩ := setHold_change hne
  rw [hset]
  exact ⟨rfl, rfl, fun q hq => (hwords q 34 (by decide)).trans (if_pos ⟨rfl, hq⟩), hkept, rfl⟩

/-- Settles O42. -/
theorem holdReasonIsTheFirstFailingCondition : Obligations.HoldReasonIsTheFirstFailingCondition := by
  unfold Obligations.HoldReasonIsTheFirstFailingCondition
  refine ⟨fun p r s hr => ?_, fun ready s htrain hfaults => ?_, fun ready s => ⟨fun hfaults hstays => ?_,
    fun a b hgood hrun => ⟨fun hwait hstays => ?_, fun hwait hstays => ?_⟩⟩⟩
  · have hfits := epochFits_iff hr
    have hfit (h : ¬(s.admission.epochCurrent = true ∧ 1000 * effectiveSpeed s r.speed ≤ 1020 * s.admission.epochSpeed ∧
        980 * s.admission.epochSpeed ≤ 1000 * effectiveSpeed s r.speed)) : epochFits s p = false :=
      Bool.eq_false_iff.mpr fun e => h (hfits.mp e)
    have hmatch (h : s.admission.epochCurrent = true ∧ 1000 * effectiveSpeed s r.speed ≤ 1020 * s.admission.epochSpeed ∧
        980 * s.admission.epochSpeed ≤ 1000 * effectiveSpeed s r.speed) : ¬epochFits s p = false := by
      rw [hfits.mpr h]
      decide
    have hcover (h : s.safety.coverClosed = true) : ¬s.safety.coverClosed = false := by rw [h]; decide
    have hwash (h : s.wash.hold = false) : ¬s.wash.hold = true := by rw [h]; decide
    have hready (h : s.pins.plateReady = true ∧ s.admission.misfeedHold = false) :
        ¬(s.pins.plateReady = false ∨ s.admission.misfeedHold = true) := by
      rw [h.1, h.2]
      decide
    refine ⟨fun h1 => ?_, fun h1 h2 => ?_, fun h1 h2 h3 => ?_, fun h1 h2 h3 h4 => ?_, fun h1 h2 h3 h4 h5 => ?_,
      fun h1 h2 h3 h4 h5 h6 => ?_, fun h1 h2 h3 h4 h5 h6 h7 => ?_, fun h1 h2 h3 h4 h5 h6 h7 h8 => ?_,
      fun h1 h2 h3 h4 h5 h6 h7 h8 h9 => ?_, fun h1 h2 h3 h4 h5 h6 h7 h8 h9 => ?_, gapHolds_empty, fun q u hlast hu => ?_⟩
    · unfold holdReasonFor
      rw [if_pos (Bool.eq_false_iff.mpr h1)]
    · unfold holdReasonFor
      rw [if_neg (hcover h1), if_pos h2]
    · unfold holdReasonFor
      rw [if_neg (hcover h1), if_neg (not_not.mpr h2), if_pos (by simpa using h3)]
    · unfold holdReasonFor
      rw [if_neg (hcover h1), if_neg (not_not.mpr h2), if_neg (hwash h3), if_pos (not_not.mp h4)]
    · unfold holdReasonFor
      rw [if_neg (hcover h1), if_neg (not_not.mpr h2), if_neg (hwash h3), if_neg h4, if_pos (Nat.not_lt.mp h5)]
    · unfold holdReasonFor
      rw [if_neg (hcover h1), if_neg (not_not.mpr h2), if_neg (hwash h3), if_neg h4, if_neg (Nat.not_le.mpr h5),
        if_pos (hfit h6)]
    · unfold holdReasonFor
      rw [if_neg (hcover h1), if_neg (not_not.mpr h2), if_neg (hwash h3), if_neg h4, if_neg (Nat.not_le.mpr h5),
        if_neg (hmatch h6), if_pos h7]
    · unfold holdReasonFor
      rw [if_neg (hcover h1), if_neg (not_not.mpr h2), if_neg (hwash h3), if_neg h4, if_neg (Nat.not_le.mpr h5),
        if_neg (hmatch h6), if_neg (not_not.mpr h7), if_pos]
      by_contra hn
      exact h8 (by simpa using hn)
    · unfold holdReasonFor
      rw [if_neg (hcover h1), if_neg (not_not.mpr h2), if_neg (hwash h3), if_neg h4, if_neg (Nat.not_le.mpr h5),
        if_neg (hmatch h6), if_neg (not_not.mpr h7), if_neg (hready h8), if_pos (Bool.eq_false_iff.mpr h9)]
    · unfold holdReasonFor
      rw [if_neg (hcover h1), if_neg (not_not.mpr h2), if_neg (hwash h3), if_neg h4, if_neg (Nat.not_le.mpr h5),
        if_neg (hmatch h6), if_neg (not_not.mpr h7), if_neg (hready h8), if_neg (by rw [h9]; decide)]
    · obtain ⟨hnone, hsome⟩ := gapHolds_behind hr hlast hu
      exact ⟨fun hm => by rw [hnone hm]; decide, hsome⟩
  · obtain ⟨banks, hadvance, hbanks⟩ := advanceTo_eq s.transport.watchdog s
    have hfault : vernierFault (unheard ready s) = { unheard ready s with transport.faults := s.transport.faults + 1 } := by
      have hcount : (unheard ready s).transport.faults = s.transport.faults := by simp [unheard]
      rw [vernierFault_below (by rwa [hcount]), hcount, Nat.min_eq_right (by omega)]
    have hempty : ({ unheard ready s with transport.faults := s.transport.faults + 1 } : State).tracker.train = [] := by
      simpa [unheard] using htrain
    have hexec := exec_scaleWatchdogExpiry ready s
    rw [hfault, handOn_empty hempty] at hexec
    unfold unheard at hexec
    dsimp only
    rw [hadvance] at hexec ⊢
    obtain ⟨w, hw⟩ : ∃ w, ({ s with
        now := max s.now s.transport.watchdog, banks := banks, pins.plateReady := ready
        transport.watchdog := max s.now s.transport.watchdog + 10
        transport.faults := s.transport.faults + 1 } : State) = w := ⟨_, rfl⟩
    have hexec' : exec (.scaleWatchdogExpiry ready) s = .next (evaluate w) :=
      hexec.trans (congrArg (fun v => Host.Outcome.next (evaluate v)) hw)
    have hreached : Reached ready (max s.now s.transport.watchdog) s s w := by
      rw [← hw]
      refine ⟨rfl, rfl, rfl, rfl, rfl, rfl, fun k => ?_, fun _ _ => rfl, fun _ r h => ⟨r.dose, r.entryLoad, h⟩,
        fun _ h => h, fun _ _ _ _ => rfl⟩
      obtain ⟨n, hbank⟩ := hbanks k
      have e0 := congrArg BankUnit.w0 hbank
      have e1 := congrArg BankUnit.w1 hbank
      exact ⟨e0, e1⟩
    have hsteps := hreached.steps
    rw [← hw] at hsteps
    rw [hexec']
    refine ⟨fun hqueue => ?_, fun p rest h hqueue hepoch hreason => ?_⟩
    · have heval := hreached.empty hqueue
      obtain ⟨hsame, hnew⟩ := setHold_given .none (misfeedSteps w)
      rw [heval]
      rw [← hw, hsteps] at hsame hnew ⊢
      exact ⟨fun e => congrArg Host.Outcome.next (hsame e), fun hne => ⟨_, rfl, hnew hne⟩⟩
    · have heval := hreached.held hqueue (hepoch.imp id .inr) hreason
      obtain ⟨hsame, hnew⟩ := setHold_given h (misfeedSteps w)
      rw [heval]
      rw [← hw, hsteps] at hsame hnew ⊢
      exact ⟨fun e => congrArg Host.Outcome.next (hsame e), fun hne => ⟨_, rfl, hnew hne⟩⟩
  · obtain ⟨z, hexec, hreached⟩ := silentSample_reaches ready hfaults hstays
    refine ⟨fun hqueue => ?_, fun p rest h hqueue hepoch hreason => ?_⟩
    · have heval := hreached.empty hqueue
      exact ⟨_, hexec.trans (congrArg Host.Outcome.next (openRuns_held heval).symm), hreached.given heval⟩
    · have heval := hreached.held hqueue hepoch hreason
      exact ⟨_, hexec.trans (congrArg Host.Outcome.next (openRuns_held heval).symm), hreached.given heval⟩
  · obtain ⟨z, hsample, hreached⟩ := goodSample_reaches ready hrun hstays
    have hexec := (takeScaleWord_pairs1 ready hwait).trans (congrArg Host.Outcome.next
      ((if_pos (scaleGood_of hgood)).trans hsample))
    exact ⟨fun hqueue => ⟨_, hexec, hreached.given (hreached.empty hqueue)⟩,
      fun p rest h hqueue hepoch hreason => ⟨_, hexec, hreached.given (hreached.held hqueue hepoch hreason)⟩⟩
  · obtain ⟨z, hsample, hreached⟩ := goodSample_reaches ready hrun hstays
    have hexec := (takeScaleWord_pairs2 ready hwait).trans (congrArg Host.Outcome.next
      ((if_pos (scaleGood_of hgood)).trans hsample))
    exact ⟨fun hqueue => ⟨_, hexec, hreached.given (hreached.empty hqueue)⟩,
      fun p rest h hqueue hepoch hreason => ⟨_, hexec, hreached.given (hreached.held hqueue hepoch hreason)⟩⟩

end Sys2Proof.Machine

/-! PROOFS. An epoch begins, and the head of the queue is released, at a sample (R37, R41). -/

namespace Sys2Proof.Machine

section
variable {s : State} {p : PlateId} {r : Plate}

/-! ## The release (R41) -/

theorem setHold_admission (h : HoldReason) (s : State) :
    (setHold h s).admission = { s.admission with holdReason := h } := by
  by_cases hsame : h = s.admission.holdReason
  · rw [setHold_same hsame, hsame]
  · obtain ⟨ram, attn, holdOff, hset, -⟩ := setHold_change hsame
    rw [hset]

/-- The words of a slot after a reason is given, but for the hold reason itself. -/
theorem slotWord_setHold {h : HoldReason} {q : PlateId} {o : Nat} (ho : o < 64) (hne : o ≠ 34) :
    slotWord (setHold h s) q o = slotWord s q o := by
  by_cases hsame : h = s.admission.holdReason
  · rw [setHold_same hsame]
  · obtain ⟨ram, attn, holdOff, hset, hwords, -⟩ := setHold_change hsame
    rw [hset]
    exact (hwords q o ho).trans (if_neg fun e => hne e.1)

/-- The slot of a plate that shows no reason. -/
theorem slotWord_setHold_none {q : PlateId} (hq : slotWord s q 34 = 0) : slotWord (setHold .none s) q 34 = 0 := by
  by_cases hsame : HoldReason.none = s.admission.holdReason
  · rwa [setHold_same hsame]
  · obtain ⟨ram, attn, holdOff, hset, hwords, -⟩ := setHold_change hsame
    rw [hset]
    refine (hwords q 34 (by decide)).trans ?_
    split
    · rfl
    · exact hq

theorem slotState_of_word {s t : State} (h : slotWord t p 32 = slotWord s p 32) : slotState t p = slotState s p := by
  simp only [slotState, oState, h]

theorem lastTaken_of_word {s t : State} (h : slotWord t p 32 = slotWord s p 32) : lastTaken t p = lastTaken s p := by
  simp only [lastTaken, oState, h]

/-- The slot of a plate whose stage is set (R45). -/
theorem slotWord_setStage {st : Stage} {q : PlateId} {o : Nat} (hr : plateOf s p = some r) (hstage : r.stage ≠ .ended)
    (ho : o < 64) : slotWord (setStage p st s) q o = if q = p ∧ o = 35 then w16 (stageCode st) else slotWord s q o := by
  have hset : setStage p st s = putSlotNat p 35 (stageCode st) (putPlate p (some { r with stage := st }) s) := by
    unfold setStage
    rw [hr]
    exact if_neg hstage
  rw [hset]
  exact slotWord_putSlot p q 35 o _ _ (by decide) ho

/-- A record with the current epoch and the setpoints at its speed (R41). -/
def withEpoch (s : State) (r : Plate) : Plate := { r with
  epoch := some s.admission.epochNo, epochSpeed := some s.admission.epochSpeed
  setpoints := some (plateSetpoints s r s.admission.epochSpeed) }

/-- The plate taken from the queue to the tail of the train, with its epoch (R41). -/
def joined (p : PlateId) (s : State) : State :=
  let t := modPlate p (withEpoch s) (setQueue (s.admission.queue.erase p) s)
  { t with tracker.train := t.tracker.train ++ [p] }

/-- The release, step by step (R41). -/
def openedFor (s : State) : State := { s with
  admission.commitments := s.admission.commitments + 1
  admission.gateOpen := true, admission.misfeedTimer := some (s.now + 5000) }

theorem release_eq (p : PlateId) (s : State) : release p s = setHold .none (setSlotState p .active (putSlotNat p 34 0
    (putSlotNat p 46 s.admission.epochSpeed (putSlotNat p 36 s.admission.epochNo
      (openedFor (setStage p .releasing (joined p s))))))) := rfl

theorem plateOf_joined (hr : plateOf s p = some r) (q : PlateId) :
    plateOf (joined p s) q = if q = p then some (withEpoch s r) else plateOf s q := by
  have hplate (q : PlateId) : plateOf (setQueue (s.admission.queue.erase p) s) q = plateOf s q := by simp [plateOf]
  have hmod := plateOf_modPlate p q (withEpoch s) (setQueue (s.admission.queue.erase p) s)
  rw [hplate, hplate, hr] at hmod
  exact hmod

theorem slotWord_joined (p q : PlateId) (o : Nat) (s : State) : slotWord (joined p s) q o = slotWord s q o :=
  slotWord_congr (by simp [joined]) q o

/-- The records and the train after a release (R41). -/
theorem release_plates (hr : plateOf s p = some r) (hstage : r.stage ≠ .ended) :
    (∀ q, plateOf (release p s) q = if q = p then some { withEpoch s r with stage := .releasing } else plateOf s q) ∧
    (release p s).tracker.train = s.tracker.train ++ [p] := by
  have hset (t : State) (q : PlateId) : plateOf (setHold .none t) q = plateOf t q := by simp [plateOf]
  have hslot (q : PlateId) (o n : Nat) (t : State) : plateOf (putSlotNat p o n t) q = plateOf t q := by simp [plateOf]
  have hstate (q : PlateId) (t : State) : plateOf (setSlotState p .active t) q = plateOf t q := by simp [plateOf]
  have hopened (q : PlateId) (t : State) : plateOf (openedFor t) q = plateOf t q := rfl
  refine ⟨fun q => ?_, by simp [release]⟩
  rw [release_eq, hset, hstate, hslot, hslot, hslot, hopened, plateOf_setStage, plateOf_joined hr, plateOf_joined hr, if_pos rfl]
  by_cases hq : q = p
  · rw [if_pos hq, if_pos hq, Option.map_some]
    exact congrArg some (if_neg hstage)
  · rw [if_neg hq, if_neg hq, if_neg hq]

/-- The slot of a released plate (R15, R41). -/
theorem release_slot (hr : plateOf s p = some r) (hstage : r.stage ≠ .ended) :
    slotState (release p s) p = .active ∧ lastTaken (release p s) p = lastTaken s p ∧
    slotWord (release p s) p 35 = 2 ∧ slotWord (release p s) p 36 = w16 s.admission.epochNo ∧
    slotWord (release p s) p 46 = w16 s.admission.epochSpeed ∧ slotWord (release p s) p 34 = 0 := by
  have hjoined : plateOf (joined p s) p = some (withEpoch s r) := (plateOf_joined hr p).trans (if_pos rfl)
  have hstaged {o : Nat} (ho : o < 64) : slotWord (openedFor (setStage p .releasing (joined p s))) p o =
      if o = 35 then 2 else slotWord s p o := by
    refine (slotWord_setStage hjoined hstage ho).trans ?_
    rw [slotWord_joined]
    by_cases h : o = 35
    · rw [if_pos ⟨rfl, h⟩, if_pos h]
      rfl
    · rw [if_neg fun e => h e.2, if_neg h]
  rw [release_eq]
  generalize openedFor (setStage p .releasing (joined p s)) = u at hstaged ⊢
  have hactive {o : Nat} (ho : o < 64) (hne : o ≠ 34) : slotWord (setHold .none (setSlotState p .active (putSlotNat p 34 0
      (putSlotNat p 46 s.admission.epochSpeed (putSlotNat p 36 s.admission.epochNo u))))) p o =
      slotWord (setSlotState p .active (putSlotNat p 34 0
      (putSlotNat p 46 s.admission.epochSpeed (putSlotNat p 36 s.admission.epochNo u)))) p o := slotWord_setHold ho hne
  refine ⟨(slotState_of_word (hactive (by decide) (by decide))).trans ?_,
    (lastTaken_of_word (hactive (by decide) (by decide))).trans ?_, (hactive (by decide) (by decide)).trans ?_,
    (hactive (by decide) (by decide)).trans ?_, (hactive (by decide) (by decide)).trans ?_, slotWord_setHold_none ?_⟩
  · rw [slotState_setSlotState, if_pos rfl]
  · rw [lastTaken_setSlotState]
    unfold putSlotNat
    rw [lastTaken_putSlot _ _ _ _ _ (by decide) (by decide), lastTaken_putSlot _ _ _ _ _ (by decide) (by decide),
      lastTaken_putSlot _ _ _ _ _ (by decide) (by decide)]
    exact lastTaken_of_word ((hstaged (by decide)).trans (if_neg (by decide)))
  all_goals
    rw [slotWord_setSlotState_else _ _ _ (by decide) (by decide)]
    unfold putSlotNat
  · rw [slotWord_putSlot_else _ _ _ _ (by decide) (by decide) (by decide), slotWord_putSlot_else _ _ _ _ (by decide) (by decide) (by decide),
      slotWord_putSlot_else _ _ _ _ (by decide) (by decide) (by decide)]
    exact (hstaged (by decide)).trans (if_pos rfl)
  · rw [slotWord_putSlot_else _ _ _ _ (by decide) (by decide) (by decide), slotWord_putSlot_else _ _ _ _ (by decide) (by decide) (by decide),
      slotWord_putSlot_here _ _ _ _ (by decide)]
  · rw [slotWord_putSlot_else _ _ _ _ (by decide) (by decide) (by decide), slotWord_putSlot_here _ _ _ _ (by decide)]
  · rw [slotWord_putSlot_here _ _ _ _ (by decide)]
    rfl

theorem release_admission (p : PlateId) (s : State) : ∃ low, (release p s).admission = { s.admission with
    queue := s.admission.queue.erase p, queueLow := low, holdReason := .none
    commitments := s.admission.commitments + 1, gateOpen := true, misfeedTimer := some (s.now + 5000) } := by
  obtain ⟨attn, holdOff, hqueue⟩ := setQueue_eq (s.admission.queue.erase p) s
  refine ⟨queueLowOf (s.admission.queue.erase p).length s.admission.mark, ?_⟩
  unfold release
  rw [setHold_admission]
  simp [hqueue]

end

/-! ## The sample (R35, R37) -/

section
variable {ready : Bool} {now : Nat} {s v z : State} {p : PlateId} {rest : List PlateId} {r : Plate}

theorem Reached.effective (h : Reached ready now s v z) (n : Nat) : effectiveSpeed z n = effectiveSpeed s n := by
  have hwash : z.wash = s.wash := by rw [h.frame]
  unfold effectiveSpeed derate
  rw [hwash]

theorem Reached.tracker (h : Reached ready now s v z) (htrain : s.tracker.train = []) : z.tracker = s.tracker := by
  have hplates : z.tracker.plates = s.tracker.plates := by
    refine Vector.ext fun i hi => ?_
    have hother := h.others ⟨i, hi⟩ (by rw [htrain]; exact List.not_mem_nil)
    exact hother
  have htracker : z.tracker = { s.tracker with plates := z.tracker.plates } := by rw [h.frame]
  rw [htracker, hplates]

/-- An epoch begins at a sample, for a head that is then held (R35, R37). -/
theorem Reached.begins (h : Reached ready now s v z) (hqueue : s.admission.queue = p :: rest) (hr : plateOf s p = some r)
    (htrain : s.tracker.train = []) (hline : s.supervisor.line = .running) (hfits : epochFits s p = false)
    (hcover : s.safety.coverClosed = true) (hwash : s.wash.hold = false) (hshuttle : s.shuttle.state ≠ .faulted)
    (hplaces : s.admission.commitments < placesInService s)
    (hdemand : s.transport.demand ≠ effectiveSpeed s r.speed) :
    (let t := evaluate z
     let eff := effectiveSpeed s r.speed
     t.transport = (epochBegun eff z).transport ∧ t.now = now ∧ t.tracker = s.tracker ∧ t.supervisor = s.supervisor ∧
     t.admission.epochNo = (s.admission.epochNo + 1) % 65536 ∧ t.admission.epochSpeed = eff ∧
     t.admission.epochCurrent = true ∧ t.admission.queue = s.admission.queue ∧
     t.admission.holdReason = .beltNotSettled) := by
  obtain ⟨d, e, hz⟩ := h.plates p r hr
  have hadmission : z.admission = s.admission := by rw [h.frame]
  have hsupervisor : z.supervisor = s.supervisor := by rw [h.frame]
  have hnow : z.now = now := by rw [h.frame]
  have heff := h.effective r.speed
  have hbegins := evaluate_begins_effect (s := z) (by rw [hadmission]; exact hqueue) hz (by rw [h.tracker htrain]; exact htrain)
    (by rw [hsupervisor]; exact hline) (by rw [h.fits]; exact hfits) (by rw [h.demand]; exact fun e => hdemand (e.trans heff))
  dsimp only at hbegins ⊢
  rw [heff, hadmission, hsupervisor, hnow, h.tracker htrain] at hbegins
  obtain ⟨hbelt, hnow', htracker, hsup, hno, hspeed, hcurrent, hsame, hreason⟩ := hbegins
  refine ⟨hbelt, hnow', htracker, hsup, hno, hspeed, hcurrent, hsame, ?_⟩
  have hnot := (holdReasonIsTheFirstFailingCondition.1 p { r with dose := d, entryLoad := e }
    (epochBegun (effectiveSpeed s r.speed) (misfeedSteps z)) (by rw [h.steps]; exact hz)).2.2.2.2.2.2.1
  rw [hnot] at hreason
  · exact (Option.some.inj hreason).symm
  all_goals rw [h.steps]
  · have hsafety : z.safety = s.safety := by rw [h.frame]
    exact (congrArg SafetyInputs.coverClosed hsafety).trans hcover
  · exact (congrArg Supervisor.line hsupervisor).trans hline
  · have hsame : z.wash = s.wash := by rw [h.frame]
    exact (congrArg Wash.hold hsame).trans hwash
  · have hsame : z.shuttle = s.shuttle := by rw [h.frame]
    exact fun e => hshuttle ((congrArg Shuttle.state hsame).symm.trans e)
  · have hdrying : z.drying = s.drying := by rw [h.frame]
    have hsame : placesInService z = placesInService s := by
      unfold placesInService
      rw [hdrying]
    have hcount : z.admission.commitments < placesInService z := by rw [hadmission, hsame]; exact hplaces
    exact hcount
  · have hmatch : 1000 * effectiveSpeed z r.speed ≤ 1020 * effectiveSpeed s r.speed ∧
        980 * effectiveSpeed s r.speed ≤ 1000 * effectiveSpeed z r.speed := by
      rw [heff]
      omega
    exact ⟨rfl, hmatch⟩
  · nofun

/-- At a good sample the runs of the conditions open with the new demand (R59; log entry 45). -/
theorem Reached.opens (h : Reached ready now s v z) (hqueue : s.admission.queue = p :: rest) (hr : plateOf s p = some r)
    (htrain : s.tracker.train = []) (hline : s.supervisor.line = .running) (hfits : epochFits s p = false)
    (hcover : s.safety.coverClosed = true) (hwash : s.wash.hold = false) (hshuttle : s.shuttle.state ≠ .faulted)
    (hplaces : s.admission.commitments < placesInService s)
    (hdemand : s.transport.demand ≠ effectiveSpeed s r.speed) :
    (let t := openRuns z.transport.demand (evaluate z)
     let eff := effectiveSpeed s r.speed
     t.admission.epochNo = (s.admission.epochNo + 1) % 65536 ∧ t.admission.epochSpeed = eff ∧
     t.admission.epochCurrent = true ∧ t.admission.queue = s.admission.queue ∧
     t.transport.demand = eff ∧ t.transport.beltState = .ramping ∧ t.transport.speedFlag = false ∧
     t.transport.settleRun ∈ [none, some now] ∧ t.transport.deviationRun = none ∧
     t.transport.stallRun ∈ [none, some now] ∧
     t.admission.holdReason = .beltNotSettled ∧ t.tracker = s.tracker ∧ t.supervisor = s.supervisor) := by
  obtain ⟨hbelt, hnow, htracker, hsup, hno, hspeed, hcurrent, hsame, hreason⟩ := h.begins hqueue hr htrain hline hfits
    hcover hwash hshuttle hplaces hdemand
  have hnew : (evaluate z).transport.demand ≠ z.transport.demand := by
    rw [hbelt, h.demand]
    exact Ne.symm hdemand
  have hopens := openRuns_new hnew
  rw [hnow, hbelt] at hopens
  have hrun (holds : Bool) : runAfter now holds none ∈ [none, some now] := by
    cases holds <;> simp [runAfter]
  dsimp only
  rw [hopens]
  exact ⟨hno, hspeed, hcurrent, hsame, rfl, rfl, rfl, hrun _, rfl, hrun _, hreason, htracker, hsup⟩

/-- The head of the queue is released at a sample (R35, R41). -/
theorem Reached.releases (h : Reached true now s v z) (hqueue : s.admission.queue = p :: rest) (hr : plateOf s p = some r)
    (hcover : s.safety.coverClosed = true) (hline : s.supervisor.line = .running) (hwash : s.wash.hold = false)
    (hshuttle : s.shuttle.state ≠ .faulted) (hplaces : s.admission.commitments < placesInService s)
    (hfits : epochFits s p = true) (hmisfeed : s.admission.misfeedHold = false ∨ s.admission.misfeedArmed = true)
    (hbelt : v.transport.beltState = .settled) (hgap : gapHolds v p = true) :
    evaluate z = release p (misfeedSteps z) := by
  have hqueue' : z.admission.queue = p :: rest := by rw [h.frame]; exact hqueue
  have hrules : epochRules (misfeedSteps z) = misfeedSteps z := by
    refine epochRules_stands fun p' rest' hq => .inr (.inr ?_)
    have hp : p' = p := by
      have e : p :: rest = p' :: rest' := hqueue'.symm.trans (by simpa using hq)
      exact (List.cons.inj e).1.symm
    rw [hp, epochFits_misfeedSteps, h.fits, hfits]
  have hv : plateOf v p = some r := by rw [h.ahead]; exact hr
  have hgoes := (holdReasonIsTheFirstFailingCondition.1 p r (readied true s v) hv).2.2.2.2.2.2.2.2.2.1
  have hreason : holdReasonFor (misfeedSteps z) p = none := by
    rw [h.reason]
    have hall : epochFits v p = true := by rw [h.ahead]; exact hfits
    have hplaces' : v.admission.commitments < placesInService v := by rw [h.ahead]; exact hplaces
    have hmatch := (epochFits_iff hv).mp hall
    refine hgoes ?_ ?_ ?_ ?_ hplaces' hmatch hbelt ⟨rfl, ?_⟩ hgap
    · have e : v.safety = s.safety := by rw [h.ahead]
      exact (congrArg SafetyInputs.coverClosed e).trans hcover
    · have e : v.supervisor = s.supervisor := by rw [h.ahead]
      exact (congrArg Supervisor.line e).trans hline
    · have e : v.wash = s.wash := by rw [h.ahead]
      exact (congrArg Wash.hold e).trans hwash
    · have e : v.shuttle = s.shuttle := by rw [h.ahead]
      exact fun hf => hshuttle ((congrArg Shuttle.state e).symm.trans hf)
    · change (s.admission.misfeedHold && !(true && s.admission.misfeedArmed)) = false
      rcases hmisfeed with e | e <;> simp [e]
  exact (evaluate_releases hqueue' (by rw [hrules, hreason])).trans (by rw [hrules])

/-- What the release leaves (R15, R36, R41, R43). -/
theorem Reached.released (h : Reached true now s v z) (hqueue : s.admission.queue = p :: rest) (hr : plateOf s p = some r)
    (hstage : r.stage ≠ .ended) (hnew : p ∉ s.tracker.train)
    (hmisfeed : s.admission.misfeedHold = false ∨ s.admission.misfeedArmed = true)
    (heval : evaluate z = release p (misfeedSteps z)) :
    (let t := openRuns z.transport.demand (evaluate z)
     t.admission.queue = rest ∧ t.tracker.train = s.tracker.train ++ [p] ∧
     plateOf t p = some { r with
       stage := .releasing, epoch := some s.admission.epochNo, epochSpeed := some s.admission.epochSpeed
       setpoints := some (plateSetpoints s r s.admission.epochSpeed) } ∧
     (∀ q : PlateId, q ≠ p → q ∉ s.tracker.train → plateOf t q = plateOf s q) ∧
     (∀ q ∈ s.tracker.train,
       (plateOf t q).map (fun u => (u.stage, u.headLatch, u.measured, u.setpoints)) =
         (plateOf s q).map (fun u => (u.stage, u.headLatch, u.measured, u.setpoints))) ∧
     t.admission.commitments = s.admission.commitments + 1 ∧ t.admission.gateOpen = true ∧
     t.admission.misfeedTimer = some (now + 5000) ∧ t.admission.misfeedHold = false ∧
     t.admission.misfeedArmed = (s.admission.misfeedArmed && !s.admission.misfeedHold) ∧
     t.admission.holdReason = .none ∧ t.admission.epochNo = s.admission.epochNo ∧
     slotState t p = .active ∧ lastTaken t p = lastTaken s p ∧ slotWord t p 35 = 2 ∧
     slotWord t p 36 = w16 s.admission.epochNo ∧ slotWord t p 46 = w16 s.admission.epochSpeed ∧
     slotWord t p 34 = 0 ∧ t.supervisor = s.supervisor ∧ t.wash = s.wash ∧ t.drying = s.drying ∧
     t.shuttle = s.shuttle ∧ t.chamber = s.chamber ∧ t.link = s.link ∧ t.intake = s.intake) := by
  have hopens : openRuns z.transport.demand (evaluate z) = release p (misfeedSteps z) := by
    rw [openRuns_same (by rw [heval]; simp), heval]
  have hsteps := h.steps
  have hadmission : z.admission = s.admission := by rw [h.frame]
  have hz : plateOf z p = some r := (h.others p hnew).trans hr
  have hm (q : PlateId) : plateOf (misfeedSteps z) q = plateOf z q := by simp [plateOf]
  obtain ⟨hplates, htrain⟩ := release_plates (s := misfeedSteps z) ((hm p).trans hz) hstage
  obtain ⟨hactive, htaken, h35, h36, h46, h34⟩ := release_slot (s := misfeedSteps z) ((hm p).trans hz) hstage
  obtain ⟨low, hrelease⟩ := release_admission p (misfeedSteps z)
  have hmadmission : (misfeedSteps z).admission = { s.admission with
      misfeedHold := s.admission.misfeedHold && !(true && s.admission.misfeedArmed)
      misfeedArmed := if s.admission.misfeedHold then !true else s.admission.misfeedArmed } := by
    rw [hsteps]
    dsimp only
    rw [hadmission]
  have hsetpoints : withEpoch (misfeedSteps z) r = withEpoch s r := by
    unfold withEpoch
    rw [hmadmission]
    have e := h.setpoints r s.admission.epochSpeed
    rw [hsteps]
    exact congrArg (fun x => { r with
      epoch := some s.admission.epochNo, epochSpeed := some s.admission.epochSpeed, setpoints := some x }) e
  have hnow : (misfeedSteps z).now = now := by
    rw [hsteps]
    dsimp only
    rw [h.frame]
  have hword : lastTaken (misfeedSteps z) p = lastTaken s p := by
    have e : slotWord (misfeedSteps z) p 32 = slotWord z p 32 := slotWord_congr (by simp) p 32
    exact lastTaken_of_word (e.trans (h.words p 32 (by decide) (by decide)))
  rw [hmadmission] at h36 h46
  rw [hmadmission, hnow] at hrelease
  dsimp only
  rw [hopens]
  have hrest : (release p (misfeedSteps z)).supervisor = s.supervisor ∧ (release p (misfeedSteps z)).wash = s.wash ∧
      (release p (misfeedSteps z)).drying = s.drying ∧ (release p (misfeedSteps z)).shuttle = s.shuttle ∧
      (release p (misfeedSteps z)).chamber = s.chamber ∧ (release p (misfeedSteps z)).link = s.link ∧
      (release p (misfeedSteps z)).intake = s.intake := by
    refine ⟨?_, ?_, ?_, ?_, ?_, ?_, ?_⟩ <;> (simp; rw [h.frame])
  generalize release p (misfeedSteps z) = t at *
  refine ⟨?_, ?_, ?_, fun q hq hout => ?_, fun q hq => ?_, ?_, ?_, ?_, ?_, ?_, ?_, ?_, hactive, htaken.trans hword, h35, h36, h46,
    h34, hrest⟩
  · rw [hrelease]
    change s.admission.queue.erase p = rest
    rw [hqueue, List.erase_cons_head]
  · rw [htrain]
    simp
    rw [h.frame]
  · rw [hplates, if_pos rfl, hsetpoints]
    rfl
  · rw [hplates, if_neg hq, hm, h.others q hout]
  · have hne : q ≠ p := fun e => hnew (e ▸ hq)
    rw [hplates, if_neg hne, hm]
    cases hrq : plateOf s q with
    | none => rw [h.absent q hrq]
    | some u =>
      obtain ⟨d, e, hzq⟩ := h.plates q u hrq
      rw [hzq]
      rfl
  · rw [hrelease]
  · rw [hrelease]
  · rw [hrelease]
  · rw [hrelease]
    rcases hmisfeed with e | e <;> simp [e]
  · rw [hrelease]
    cases s.admission.misfeedHold <;> cases s.admission.misfeedArmed <;> rfl
  · rw [hrelease]
  · rw [hrelease]

end

/-! ## The statement -/

/-- Settles O43. -/
theorem sampleAdmitsTheHead : Obligations.SampleAdmitsTheHead := by
  unfold Obligations.SampleAdmitsTheHead
  refine ⟨fun p rest r ready s hqueue hr htrain hline hfits hcover hwash hshuttle hplaces hdemand => ?_,
    fun p rest r s hqueue hr hstage hnew hcover hline hwash hshuttle hplaces hfits hmisfeed => ?_⟩
  · have hstays (x : Nat) : trainStays x s := fun q hq => by simp [htrain] at hq
    refine ⟨fun hfaults => ?_, fun a b hgood hrun => ⟨fun hwait => ?_, fun hwait => ?_⟩⟩
    · obtain ⟨z, hexec, hreached⟩ := silentSample_reaches ready hfaults (hstays _)
      obtain ⟨hbelt, -, htracker, hsup, hno, hspeed, hcurrent, hsame, hreason⟩ := hreached.begins hqueue hr htrain hline hfits
        hcover hwash hshuttle hplaces hdemand
      rw [hexec]
      exact ⟨_, rfl, hno, hspeed, hcurrent, hsame, by rw [hbelt]; rfl, by rw [hbelt]; rfl, by rw [hbelt]; rfl,
        by rw [hbelt]; exact List.mem_singleton_self _, by rw [hbelt]; rfl, by rw [hbelt]; exact List.mem_singleton_self _,
        hreason, htracker, hsup⟩
    all_goals
      obtain ⟨z, hsample, hreached⟩ := goodSample_reaches (a := a) (b := b) ready hrun (hstays _)
    · exact ⟨_, (takeScaleWord_pairs1 ready hwait).trans (congrArg Host.Outcome.next
        ((if_pos (scaleGood_of hgood)).trans hsample)), hreached.opens hqueue hr htrain hline hfits hcover hwash hshuttle
        hplaces hdemand⟩
    · exact ⟨_, (takeScaleWord_pairs2 ready hwait).trans (congrArg Host.Outcome.next
        ((if_pos (scaleGood_of hgood)).trans hsample)), hreached.opens hqueue hr htrain hline hfits hcover hwash hshuttle
        hplaces hdemand⟩
  · refine ⟨fun hfaults hbelt hgap hstays => ?_, fun a b hgood hrun => ⟨fun hwait hbelt hgap hstays => ?_,
      fun hwait hbelt hgap hstays => ?_⟩⟩
    · obtain ⟨z, hexec, hreached⟩ := silentSample_reaches true hfaults hstays
      have heval := hreached.releases hqueue hr hcover hline hwash hshuttle hplaces hfits hmisfeed hbelt hgap
      have hopens : openRuns z.transport.demand (evaluate z) = evaluate z := openRuns_same (by rw [heval]; simp)
      exact ⟨_, hexec.trans (congrArg Host.Outcome.next hopens.symm),
        hreached.released hqueue hr hstage hnew hmisfeed heval⟩
    all_goals
      obtain ⟨z, hsample, hreached⟩ := goodSample_reaches (a := a) (b := b) true hrun hstays
      have heval := hreached.releases hqueue hr hcover hline hwash hshuttle hplaces hfits hmisfeed hbelt hgap
    · exact ⟨_, (takeScaleWord_pairs1 true hwait).trans (congrArg Host.Outcome.next
        ((if_pos (scaleGood_of hgood)).trans hsample)), hreached.released hqueue hr hstage hnew hmisfeed heval⟩
    · exact ⟨_, (takeScaleWord_pairs2 true hwait).trans (congrArg Host.Outcome.next
        ((if_pos (scaleGood_of hgood)).trans hsample)), hreached.released hqueue hr hstage hnew hmisfeed heval⟩

end Sys2Proof.Machine

/-! PROOFS. A sample with no plate queued, and the plate it finds MISSING (R49, R55). -/

namespace Sys2Proof.Machine

section
variable {s t u w y : State}

/-! ## The state that a sample hands on -/

/-- The sample on `s` hands on `w`, at the belt position `x`, with the banks of `u`. -/
structure SampleState (ready : Bool) (x : Nat) (s u w : State) : Prop where
  frame : ∃ transport latched attn holdOff, w = { s with
    now := u.now, pins.plateReady := ready, transport := transport, banks := u.banks
    bus.latched := latched, bus.attn := attn, bus.holdOff := holdOff }
  position : beltPos w = x
  demand : w.transport.demand = s.transport.demand

theorem silentSample_hands (ready : Bool) (hfaults : s.transport.faults < 4) :
    ∃ w d, exec (.scaleWatchdogExpiry ready) s = .next (openRuns d (handOn w)) ∧
      SampleState ready (s.transport.position.getD 0) s (advanceTo s.transport.watchdog s) w := by
  obtain ⟨banks, hadvance, -⟩ := advanceTo_eq s.transport.watchdog s
  have hunheard : unheard ready s = { s with
      now := max s.now s.transport.watchdog, banks := banks, pins.plateReady := ready
      transport.watchdog := max s.now s.transport.watchdog + 10 } := by
    unfold unheard
    rw [hadvance]
  have hfault := vernierFault_below (s := unheard ready s) (by rw [hunheard]; exact hfaults)
  refine ⟨_, _, (exec_scaleWatchdogExpiry ready s).trans (congrArg Host.Outcome.next (openRuns_same rfl).symm), ?_⟩
  rw [hfault, hunheard, hadvance]
  exact ⟨⟨_, _, _, _, rfl⟩, rfl, rfl⟩

theorem goodSample_hands {a b : Word} (ready : Bool) (hwait : s.transport.wait2 = some b)
    (hgood : (scaleResidual a b).natAbs ≤ 8192) (hrun : s.transport.beltState = .stopped ∨ s.transport.stallRun = none) :
    ∃ w d, exec (.scaleWord .scale1 a ready) s = .next (openRuns d (handOn w)) ∧
      SampleState ready (scalePosition a b) s s w := by
  obtain ⟨attn, holdOff, hsample⟩ := goodSample_steady (s := sampled ready s) (pos := scalePosition a b)
    (stallHeld_closed hrun)
  have hdemand : (settledAt (scalePosition a b) (sampled ready s).now (sampled ready s).transport).demand =
      s.transport.demand :=
    testConditions_tests_demand s.now (sampledAt (scalePosition a b) s.now (sampled ready s).transport)
  have hposition : (settledAt (scalePosition a b) (sampled ready s).now (sampled ready s).transport).position =
      some (scalePosition a b) := by
    have e := congrArg Transport.position
      (scaleViewOf_conditioned s.now (sampledAt (scalePosition a b) s.now (sampled ready s).transport))
    exact e
  refine ⟨_, _, (takeScaleWord_pairs1 ready hwait).trans (congrArg Host.Outcome.next
    ((if_pos (scaleGood_of hgood)).trans (takeGoodSample_openRuns _ _))), ?_⟩
  rw [hsample]
  exact ⟨⟨_, _, _, _, rfl⟩, congrArg (·.getD 0) hposition, hdemand⟩

/-! ## The evaluation of an empty queue (R36, R43) -/

theorem evaluate_none (hqueue : y.admission.queue = []) : ∃ hold armed latched attn holdOff, evaluate y = { y with
    admission.holdReason := .none, admission.misfeedHold := hold, admission.misfeedArmed := armed
    bus.latched := y.bus.latched ||| latched, bus.attn := attn, bus.holdOff := holdOff } := by
  have hqueue' : (misfeedSteps y).admission.queue = [] := by simpa using hqueue
  have hset : ∃ latched attn holdOff, setHold .none (misfeedSteps y) = { misfeedSteps y with
      admission.holdReason := .none, bus.latched := (misfeedSteps y).bus.latched ||| latched
      bus.attn := attn, bus.holdOff := holdOff } := by
    unfold setHold
    split
    · next hsame => exact ⟨0#16, (misfeedSteps y).bus.attn, (misfeedSteps y).bus.holdOff, by rw [hsame, BitVec.or_zero]⟩
    · rw [hqueue']
      obtain ⟨attn, holdOff, h⟩ := latch_eq .hold { misfeedSteps y with admission.holdReason := .none }
      exact ⟨_, attn, holdOff, h⟩
  obtain ⟨latched, attn, holdOff, h⟩ := hset
  rw [evaluate_empty hqueue, h, misfeedSteps_eq]
  exact ⟨_, _, _, _, _, rfl⟩

/-- The tests that a sample makes before the queue head is evaluated (R55). -/
def handed (w : State) : State := washTests (closeTests (claimTests (missingTest w)))

theorem openRuns_eq (d : Nat) (s : State) : ∃ transport, openRuns d s = { s with transport := transport } ∧
    transport.demand = s.transport.demand := by
  unfold openRuns
  split
  · exact ⟨_, rfl, rfl⟩
  · exact ⟨_, rfl, rfl⟩

/-- What a sample with no plate queued leaves of the tests. -/
theorem handOn_none (hqueue : (handed w).admission.queue = []) (d : Nat) :
    ∃ hold armed latched attn holdOff transport, openRuns d (handOn w) = { handed w with
      admission.holdReason := .none, admission.misfeedHold := hold, admission.misfeedArmed := armed
      bus.latched := (handed w).bus.latched ||| latched, bus.attn := attn, bus.holdOff := holdOff
      transport := transport } ∧ transport.demand = (handed w).transport.demand := by
  obtain ⟨hold, armed, latched, attn, holdOff, heval⟩ := evaluate_none hqueue
  obtain ⟨transport, hopen, hdemand⟩ := openRuns_eq d (handOn w)
  have hhand : handOn w = evaluate (handed w) := rfl
  rw [hopen, hhand, heval]
  refine ⟨hold, armed, latched, attn, holdOff, transport, rfl, ?_⟩
  rw [hdemand, hhand, heval]

/-! ## Latched causes only join the set (R194) -/

/-- No cause latched in `s` is missing in `t`. -/
def Latches (s t : State) : Prop := ∀ n, s.bus.latched.getLsbD n = true → t.bus.latched.getLsbD n = true

theorem Latches.trans (h : Latches s t) (g : Latches t u) : Latches s u := fun n hn => g n (h n hn)

theorem latches_of_eq (h : t.bus.latched = s.bus.latched) : Latches s t := fun n hn => by rwa [h]

theorem latches_latch (c : Attn) (s : State) : Latches s (latch c s) := fun n hn => by
  obtain ⟨attn, holdOff, h⟩ := latch_eq c s
  rw [h]
  exact getLsbD_or_left hn

theorem latches_latchIf (b : Bool) (c : Attn) (s : State) : Latches s (latchIf b c s) := by
  unfold latchIf
  split
  · exact latches_latch c s
  · exact latches_of_eq rfl

theorem latches_orderOrPend (s : State) : Latches s (orderOrPend s) := by
  unfold orderOrPend
  split
  · intro n hn
    refine latches_latch _ _ n ?_
    simpa using hn
  · exact latches_of_eq rfl

theorem latches_changeLoad (load : Nat) (s : State) : Latches s (changeLoad load s) := by
  have hhold (x : State) : Latches x (evalSolventHold x) := fun n hn => latches_latchIf _ _ _ n hn
  have hclose (x : State) : Latches x (closeCycle x) := by
    unfold closeCycle
    split <;> exact latches_of_eq rfl
  have hopen (x : State) : Latches x (openCycle x) := by
    unfold openCycle
    split
    · exact latches_orderOrPend x
    · exact latches_of_eq rfl
  exact fun n hn => hopen _ n (hclose _ n (hhold { s with wash.load := load } n hn))

theorem latches_leaveWash (p : PlateId) (s : State) : Latches s (leaveWash p s) := by
  unfold leaveWash
  split
  · exact latches_of_eq rfl
  · split
    · exact latches_of_eq rfl
    · exact fun n hn => latches_changeLoad _ _ n hn

theorem latches_washTests (s : State) : Latches s (washTests s) := by
  have htest (p : PlateId) (x : State) : Latches x (washTest p x) := by
    unfold washTest
    split
    · exact latches_of_eq rfl
    · dsimp only
      split
      · exact (latches_of_eq (by simp)).trans (latches_leaveWash _ _)
      · exact latches_of_eq (by simp)
  have hfold (m : List PlateId) (x : State) : Latches x (m.foldl (fun t p => washTest p t) x) := by
    induction m generalizing x with
    | nil => exact latches_of_eq rfl
    | cons p m ih => exact (htest p x).trans (ih _)
  exact hfold _ s

/-! ## What the tests leave of a plate's end -/

/-- Stage, disposition, slot state, reason and stage word of a plate. -/
def endView (s : State) (p : PlateId) : Option (Stage × Option Disposition) × Word × Word × Word :=
  ((plateOf s p).map fun r => (r.stage, r.disposition), slotWord s p 32, slotWord s p 33, slotWord s p 35)

theorem endView_of_tested {l : List PlateId} (h : Tested l s t) : endView t = endView s := by
  funext p
  have hrecord : (plateOf t p).map (fun r => (r.stage, r.disposition)) =
      (plateOf s p).map fun r => (r.stage, r.disposition) := by
    cases hr : plateOf s p with
    | none => rw [h.absent p hr]
    | some r =>
      obtain ⟨d, e, ht⟩ := h.plates p r hr
      rw [ht]
      rfl
  unfold endView
  rw [hrecord, h.words p 32 (by decide) (by decide), h.words p 33 (by decide) (by decide),
    h.words p 35 (by decide) (by decide)]

theorem endView_putPlate {p : PlateId} {r q : Plate} (hr : plateOf s p = some r) (hstage : q.stage = r.stage)
    (hend : q.disposition = r.disposition) : endView (putPlate p (some q) s) = endView s := by
  funext x
  have hrecord : (plateOf (putPlate p (some q) s) x).map (fun r => (r.stage, r.disposition)) =
      (plateOf s x).map fun r => (r.stage, r.disposition) := by
    rw [plateOf_putPlate]
    split
    · next hx => rw [hx, hr, Option.map_some, Option.map_some, hstage, hend]
    · rfl
  unfold endView
  rw [hrecord]
  rfl

theorem endView_putSlot {p : PlateId} {o : Nat} {v : Word} (ho : o < 64) (h32 : o ≠ 32) (h33 : o ≠ 33) (h35 : o ≠ 35) :
    endView (putSlot p o v s) = endView s := by
  funext x
  have hword (n : Nat) (hn : n < 64) (hne : o ≠ n) : slotWord (putSlot p o v s) x n = slotWord s x n :=
    (slotWord_putSlot p x o n v s ho hn).trans (if_neg fun e => hne e.2.symm)
  unfold endView
  rw [hword 32 (by decide) h32, hword 33 (by decide) h33, hword 35 (by decide) h35]
  rfl

theorem endView_of_eq (hplates : t.tracker.plates = s.tracker.plates) (hram : t.bus.ram = s.bus.ram) :
    endView t = endView s := by
  funext p
  simp only [endView, plateOf, hplates, slotWord_congr hram]

theorem changeLoad_tracker (load : Nat) (s : State) : (changeLoad load s).tracker = s.tracker := by simp

theorem changeLoad_ram (load : Nat) (s : State) : (changeLoad load s).bus.ram = s.bus.ram := by simp

theorem endView_leaveWash (p : PlateId) (s : State) : endView (leaveWash p s) = endView s := by
  cases hr : plateOf s p with
  | none => simp only [leaveWash, hr]
  | some r =>
    cases he : r.entryLoad with
    | none => rw [leaveWash_outside hr he]
    | some e =>
      rw [leaveWash_inside hr he]
      refine (endView_of_eq (congrArg Tracker.plates (changeLoad_tracker _ _)) (changeLoad_ram _ _)).trans ?_
      refine (endView_putSlot (o := 48) (by decide) (by decide) (by decide) (by decide)).trans ?_
      refine (endView_putSlot (o := 47) (by decide) (by decide) (by decide) (by decide)).trans ?_
      exact endView_putPlate hr rfl rfl

theorem endView_washTests (s : State) : endView (washTests s) = endView s := by
  have henter (p : PlateId) (h : Nat) (x : State) : endView (enterWash p h x) = endView x := by
    unfold enterWash modPlate
    split
    · rfl
    · next r hr =>
      dsimp only
      split
      · exact endView_putPlate hr rfl rfl
      · exact endView_putPlate hr rfl rfl
  refine foldl_keeps endView _ (fun x p => ?_) _ _
  unfold washTest
  split
  · rfl
  · dsimp only
    split
    · exact (endView_leaveWash _ _).trans (henter _ _ _)
    · exact henter _ _ _

/-! ## The plate that a sample finds MISSING (R49) -/

theorem missingTest_head {p : PlateId} {rest : List PlateId} {r : Plate} {a x : Nat} (htrain : w.tracker.train = p :: rest)
    (hr : plateOf w p = some r) (ha : r.headLatch = some a) (hx : beltPos w = x) :
    missingTest w = if r.exitConfirmed = false ∧ 5730000 < travelFrom a x
      then idleIfDrained (spoilFromTrain p w) else w := by
  unfold missingTest headTravel
  rw [htrain]
  simp only [hr, ha, Option.map_some, hx]

/-- The tests after the MISSING test: claims, closes, wash. -/
theorem handed_after : (handed w).tracker.train = (missingTest w).tracker.train ∧
    (handed w).admission = (missingTest w).admission ∧ (handed w).supervisor = (missingTest w).supervisor ∧
    (handed w).transport = (missingTest w).transport ∧ endView (handed w) = endView (missingTest w) ∧
    Latches (missingTest w) (handed w) := by
  have hview : endView (handed w) = endView (missingTest w) :=
    ((endView_washTests _).trans (endView_of_tested (tested_closeTests rfl))).trans
      (endView_of_tested (tested_claimTests rfl))
  refine ⟨by simp [handed], by simp [handed], by simp [handed], by simp [handed], hview, ?_⟩
  refine (latches_of_eq ?_).trans (latches_washTests _)
  rw [(tested_closeTests rfl).frame, (tested_claimTests rfl).frame]

end

end Sys2Proof.Machine

/-! PROOFS. The exit of the belt: the edges that confirm and rack a plate or make a stray, and the plate that a sample
finds MISSING (R48 to R50). -/

namespace Sys2Proof.Machine

section
variable {s t u w v : State} {p q : PlateId} {r : Plate} {st : StationKind} {c d : Nat}

/-! ## Closing a station (R105) -/

theorem closeStation_open {f : Plate → Verdict} (hr : plateOf s p = some r) (h : (stationOf r.dose st).isOpen = true) :
    closeStation p st f s = showStation p st (f r) (reportedDose (minOf (stationSums r.dose st)))
      (reportedDose (maxOf (stationSums r.dose st)))
      (putPlate p (some { r with dose := closedDose r.dose st (f r) }) s) := by
  unfold closeStation
  rw [hr]
  exact if_pos h

theorem closeStation_closed {f : Plate → Verdict} (hr : plateOf s p = some r) (h : (stationOf r.dose st).isOpen = false) :
    closeStation p st f s = s := by
  unfold closeStation
  rw [hr]
  exact if_neg (by simp [h])

/-- The dose record of a plate after the normal close of a station. -/
def closedNormally (r : Plate) (st : StationKind) : DoseRecord :=
  if (stationOf r.dose st).isOpen then closedDose r.dose st (closeVerdict r st) else r.dose

theorem plateOf_closeNormally (hr : plateOf s p = some r) :
    plateOf (closeNormally p st s) p = some { r with dose := closedNormally r st } := by
  unfold closeNormally closedNormally
  cases h : (stationOf r.dose st).isOpen with
  | true => rw [closeStation_open hr h, plateOf_showStation, plateOf_putPlate, if_pos rfl, if_pos rfl]
  | false => rw [closeStation_closed hr h, hr, if_neg (by decide)]

theorem closedNormally_closed : (stationOf (closedNormally r st) st).isOpen = false := by
  unfold closedNormally
  split
  · cases st <;> rfl
  · next h => exact Bool.eq_false_iff.mpr h

theorem closedNormally_main : (closedNormally r .main).back = r.dose.back := by
  unfold closedNormally
  split <;> rfl

/-! ## Settled edges (R56, R57) -/

/-- The state that a settled edge is delivered to. -/
def settledAtLevel (k : Sensor) (d : Nat) (level : Bool) (s : State) : State :=
  putSensorUnit k { settled := level, candidate := none, timer := none } (advanceTo d s)

theorem exec_settles (k : Sensor) {level : Bool} (htimer : (sensorUnit s k).timer = some d)
    (hcandidate : (sensorUnit s k).candidate = some c) (hpin : sensorPin s k = level)
    (hsettled : (sensorUnit s k).settled = !level) :
    exec (.settleTimerExpiry k) s = .next (deliverEdge k level c (settledAtLevel k d level s)) := by
  change Host.Outcome.next (onExpiry (sensorUnit s k).timer (settleSensor k) s) = _
  rw [htimer]
  have hunit : sensorUnit (advanceTo d s) k = sensorUnit s k := by
    cases k <;> simp [sensorUnit]
  have hpin' : sensorPin (advanceTo d s) k = level := by
    rw [← hpin]
    cases k <;> simp [sensorPin]
  have hedge : settleSensor k (advanceTo d s) = _ :=
    if_neg (by rw [hpin', hunit, hsettled]; exact (Bool.not_ne_self level).symm)
  refine congrArg Host.Outcome.next (hedge.trans ?_)
  rw [hpin', hunit, hcandidate]
  rfl

theorem settledAtLevel_exit (level : Bool) : settledAtLevel .exit d level s = { advanceTo d s with
    transport.exit := { settled := level, candidate := none, timer := none } } := rfl

theorem settledAtLevel_eq (k : Sensor) (level : Bool) : ∃ now banks transport, settledAtLevel k d level s = { s with
    now := now, banks := banks, transport := transport } := by
  obtain ⟨banks, hadvance, -⟩ := advanceTo_eq d s
  unfold settledAtLevel
  rw [hadvance]
  cases k <;> exact ⟨_, _, _, rfl⟩

/-! ## The exit head (R48) -/

theorem exitHead_empty (h : s.tracker.train = []) : exitHead c s = { s with tracker.strayPending := true } := by
  unfold exitHead awaitsExitHead
  rw [h]

theorem exitHead_awaited {rest : List PlateId} {l : Nat} (htrain : s.tracker.train = p :: rest) (hr : plateOf s p = some r)
    (hl : r.headLatch = some l) (hopen : r.exitConfirmed = false) :
    exitHead c s = if 5670000 ≤ travelFrom l c ∧ travelFrom l c ≤ 5730000
      then putPlate p (some { r with exitConfirmed := true }) s else { s with tracker.strayPending := true } := by
  unfold exitHead awaitsExitHead modPlate
  rw [htrain]
  simp only [hr, hopen, hl, Bool.false_eq_true, if_false, Option.map_some]

/-! ## The exit tail (R50) -/

theorem confirmedHead_of {rest : List PlateId} (htrain : s.tracker.train = p :: rest) (hr : plateOf s p = some r)
    (h : r.exitConfirmed = true) : confirmedHead s = some p := by
  unfold confirmedHead
  rw [htrain]
  simp [hr, h]

theorem confirmedHead_none (h : ∀ p rest r, s.tracker.train = p :: rest → plateOf s p = some r → r.exitConfirmed = false) :
    confirmedHead s = none := by
  unfold confirmedHead
  split
  · rfl
  · next p rest htrain =>
    split
    · rfl
    · next r hr => exact if_neg (by simp [h p rest r htrain hr])

theorem exitTail_full (hfull : 2 ≤ s.drying.rack.length) :
    exitTail s = raiseHalt .rackFull s ∨
    exitTail s = raiseHalt .rackFull (latch .stray { s with tracker.strayPending := false }) := by
  have hlong : ¬ s.drying.rack.length < 2 := by omega
  unfold exitTail
  split
  · exact .inl (if_neg hlong)
  · exact .inr (if_neg hlong)

theorem idleIfDrained_supervisor : (s.supervisor.line = .draining → s.tracker.train = [] →
      (idleIfDrained s).supervisor.line = .idle ∧ (idleIfDrained s).transport.demand = 0) ∧
    (s.supervisor.line ≠ .draining ∨ s.tracker.train ≠ [] → idleIfDrained s = s) := by
  unfold idleIfDrained
  refine ⟨fun hline htrain => ?_, fun h => if_neg fun e => h.elim (fun g => g e.1) fun g => g e.2⟩
  rw [if_pos ⟨hline, htrain⟩]
  exact ⟨by simp [drainedToIdle, setLine], by simp [drainedToIdle, setLine, endEpoch]⟩

/-- A confirmed plate racked. -/
theorem rackPlate_effect (hr : plateOf s p = some r) (hstage : r.stage ≠ .ended) :
    (let t := rackPlate p s
     t.tracker.train = s.tracker.train.erase p ∧ t.drying = { s.drying with rack := s.drying.rack ++ [.plate p] } ∧
     (∃ q, plateOf t p = some q ∧ q.stage = .racked ∧ q.dose.back.isOpen = false ∧ q.dose.main.isOpen = false) ∧
     slotWord t p 35 = 4 ∧ slotState t p = slotState s p ∧ t.admission.commitments = s.admission.commitments ∧
     (s.supervisor.line = .draining → s.tracker.train.erase p = [] → t.supervisor.line = .idle) ∧
     (s.supervisor.line ≠ .draining ∨ s.tracker.train.erase p ≠ [] → t.supervisor = s.supervisor)) := by
  have hback := plateOf_closeNormally (st := .back) hr
  have hmain := plateOf_closeNormally (st := .main) hback
  obtain ⟨e, f, hleft⟩ := plateOf_departTrain hmain
  generalize hu : setStage p .racked (departTrain p (closeNormally p .main (closeNormally p .back s))) = u
  have hplate : plateOf u p = some { r with
      dose := closedNormally { r with dose := closedNormally r .back } .main, stage := .racked
      entryLoad := e, washFigures := f } := by
    rw [← hu, plateOf_setStage, if_pos rfl, hleft, Option.map_some]
    exact congrArg some (if_neg hstage)
  have hword : slotWord u p 35 = 4 := by
    rw [← hu, slotWord_setStage hleft hstage (by decide)]
    exact if_pos ⟨rfl, rfl⟩
  have htrain : u.tracker.train = s.tracker.train.erase p := by simp [← hu]
  have hline : u.supervisor = s.supervisor := by simp [← hu]
  have hdrying : u.drying = s.drying := by simp [← hu]
  have hcommit : u.admission.commitments = s.admission.commitments := by simp [← hu]
  have hstate : slotState u p = slotState s p := by
    have hrun : SlotRun 33 s.bus.ram u.bus.ram := by
      rw [← hu]
      exact slotRun_setStage (slotRun_departTrain (slotRun_closeNormally (slotRun_closeNormally .refl)))
    exact hrun.slotState p
  have hrack : rackPlate p s = idleIfDrained { u with drying.rack := u.drying.rack ++ [.plate p] } := by
    rw [← hu]
    rfl
  have hidle (h : u.supervisor.line = .draining) (g : u.tracker.train = []) :
      (idleIfDrained { u with drying.rack := u.drying.rack ++ [.plate p] }).supervisor.line = .idle :=
    ((idleIfDrained_supervisor (s := { u with drying.rack := u.drying.rack ++ [.plate p] })).1 h g).1
  have hsame (h : u.supervisor.line ≠ .draining ∨ u.tracker.train ≠ []) :
      (idleIfDrained { u with drying.rack := u.drying.rack ++ [.plate p] }).supervisor = u.supervisor := by
    rw [(idleIfDrained_supervisor (s := { u with drying.rack := u.drying.rack ++ [.plate p] })).2 h]
  have hkept (x : State) : (idleIfDrained x).tracker = x.tracker ∧ (idleIfDrained x).drying = x.drying ∧
      (idleIfDrained x).bus = x.bus ∧ (idleIfDrained x).admission.commitments = x.admission.commitments := by simp
  obtain ⟨htracker, hdry, hbus, hcommitted⟩ := hkept { u with drying.rack := u.drying.rack ++ [.plate p] }
  rw [← hdrying, ← hcommit, ← hline, ← htrain, ← hstate, hrack]
  have hrecord : ∃ q, plateOf u p = some q ∧ q.stage = .racked ∧ q.dose.back.isOpen = false ∧ q.dose.main.isOpen = false :=
    ⟨_, hplate, rfl, (congrArg DoseStation.isOpen closedNormally_main).trans (closedNormally_closed (st := .back)),
      closedNormally_closed (st := .main)⟩
  obtain ⟨q, hq, hshown⟩ := hrecord
  exact ⟨congrArg Tracker.train htracker, hdry, ⟨q, (congrArg (fun x : Tracker => x.plates[p]) htracker).trans hq, hshown⟩,
    (slotWord_congr (congrArg BusInterface.ram hbus) p 35).trans hword, slotState_congr (congrArg BusInterface.ram hbus) p,
    hcommitted, hidle, hsame⟩

/-! ## The plate found MISSING (R49) -/

theorem handed_queue : (handed w).admission.queue = w.admission.queue := by
  have hmissing : (missingTest w).admission.queue = w.admission.queue := by simp
  rw [handed_after.2.1, hmissing]

/-- The head plate of the train is found MISSING, or it stays. -/
theorem handOn_head {rest : List PlateId} {l x : Nat} (htrain : w.tracker.train = p :: rest) (hr : plateOf w p = some r)
    (hl : r.headLatch = some l) (hx : beltPos w = x) (hqueue : w.admission.queue = []) (d : Nat) :
    (let t := openRuns d (handOn w)
     let travel := ((x : Int) - (l : Int)) % 12288000
     (r.exitConfirmed = false → 5730000 < travel → r.stage ≠ .ended →
       t.tracker.train = rest ∧ t.admission.commitments = w.admission.commitments - 1 ∧
       slotState t p = .done ∧ slotWord t p 33 = 18 ∧ slotWord t p 35 = 9 ∧ t.bus.latched.getLsbD 8 = true ∧
       (∃ q, plateOf t p = some q ∧ q.stage = .ended ∧ q.disposition = some .spoiled) ∧
       (w.supervisor.line = .draining → rest = [] → t.supervisor.line = .idle ∧ t.transport.demand = 0) ∧
       (w.supervisor.line ≠ .draining ∨ rest ≠ [] → t.supervisor = w.supervisor)) ∧
     (r.exitConfirmed = true ∨ travel ≤ 5730000 →
       t.tracker.train = w.tracker.train ∧ t.admission.commitments = w.admission.commitments ∧
       slotState t p = slotState w p ∧ t.supervisor = w.supervisor)) := by
  obtain ⟨hold, armed, latched, attn, holdOff, transport, ht, hdemand⟩ := handOn_none (handed_queue.trans hqueue) d
  obtain ⟨hafter, hadmission, hsupervisor, htransport, hview, hlatches⟩ := handed_after (w := w)
  have hmissing := missingTest_head htrain hr hl hx
  rw [ht, ← travelFrom_eq]
  refine ⟨fun hopen hfar hstage => ?_, fun hstays => ?_⟩
  · rw [if_pos ⟨hopen, by omega⟩] at hmissing
    rw [hmissing] at hafter hadmission hsupervisor htransport hview hlatches
    obtain ⟨⟨hdone, hreason, hended, -, -, q, hq, hqstage, hqend, -⟩, hbit, -⟩ := spoilFromTrain_effect hr hstage
    have htrain' : (spoilFromTrain p w).tracker.train = rest := by simp [htrain]
    have hcommit : (spoilFromTrain p w).admission.commitments = w.admission.commitments - 1 := by simp [spoilFromTrain, giveBackPlace]
    have hline : (spoilFromTrain p w).supervisor = w.supervisor := by simp
    generalize spoilFromTrain p w = y at *
    have hkept : (idleIfDrained y).tracker = y.tracker ∧ (idleIfDrained y).bus = y.bus ∧
        (idleIfDrained y).admission.commitments = y.admission.commitments := by simp
    obtain ⟨htracker, hbus, hcommitted⟩ := hkept
    have hview' : endView (handed w) p = endView y p :=
      congrFun (hview.trans (endView_of_eq (congrArg Tracker.plates htracker) (congrArg BusInterface.ram hbus))) p
    obtain ⟨hidle, hsame⟩ := idleIfDrained_supervisor (s := y)
    rw [← hline, ← htrain'] at *
    unfold endView at hview'
    obtain ⟨hrecord, hword⟩ := Prod.mk.inj hview'
    obtain ⟨hstate, hword⟩ := Prod.mk.inj hword
    obtain ⟨hw33, hw35⟩ := Prod.mk.inj hword
    rw [hq, Option.map_some] at hrecord
    obtain ⟨z, hz, hzq⟩ := Option.map_eq_some_iff.mp hrecord
    obtain ⟨hzstage, hzend⟩ := Prod.mk.inj hzq
    have hcommit' : (handed w).admission.commitments = w.admission.commitments - 1 :=
      (congrArg Admission.commitments hadmission).trans (hcommitted.trans hcommit)
    refine ⟨hafter.trans (congrArg Tracker.train htracker), hcommit',
      (slotState_of_word hstate).trans hdone, hw33.trans hreason, hw35.trans hended, ?_, ⟨z, hz, hzstage.trans hqstage, hzend.trans hqend⟩,
      fun h g => ⟨(congrArg Supervisor.line hsupervisor).trans (hidle h g).1, ?_⟩, fun h => ?_⟩
    · exact getLsbD_or_left (hlatches 8 (by rwa [hbus]))
    · exact hdemand.trans ((congrArg Transport.demand htransport).trans (hidle h g).2)
    · exact hsupervisor.trans (congrArg State.supervisor (hsame h))
  · rw [if_neg (fun e => hstays.elim (fun g => by rw [e.1] at g; exact nomatch g) fun g => by omega)] at hmissing
    rw [hmissing] at hafter hadmission hsupervisor htransport hview hlatches
    have hcommit : (handed w).admission.commitments = w.admission.commitments := congrArg Admission.commitments hadmission
    exact ⟨hafter, hcommit,
      slotState_of_word (congrArg (·.2.1) (congrFun hview p)), hsupervisor⟩

end

end Sys2Proof.Machine

/-! PROOFS. The obligation about the exit of the belt (R48 to R50). -/

namespace Sys2Proof.Machine

section
variable {s : State} {c d : Nat}

/-- Settled edges deliver nothing to a shuttle that is not READY and a chamber neither DARK nor LOADING. -/
theorem handlingTests_stands {u : State} (hshuttle : u.shuttle.state = s.shuttle.state)
    (hchamber : u.chamber.state = s.chamber.state) (h1 : s.shuttle.state ≠ .ready) (h2 : s.chamber.state ≠ .dark)
    (h3 : s.chamber.state ≠ .loading) : handlingTests u = u :=
  handlingTests_idle (hshuttle ▸ h1) (hchamber ▸ h3) fun e => absurd (hchamber.symm.trans e) h2

theorem exit_head (htimer : s.transport.exit.timer = some d) (hcandidate : s.transport.exit.candidate = some c)
    (hpin : s.pins.exit = true) (hsettled : s.transport.exit.settled = false) :
    exec (.settleTimerExpiry .exit) s = .next (exitHead c (settledAtLevel .exit d true s)) :=
  exec_settles .exit htimer hcandidate hpin hsettled

theorem exit_tail (htimer : s.transport.exit.timer = some d) (hcandidate : s.transport.exit.candidate = some c)
    (hpin : s.pins.exit = false) (hsettled : s.transport.exit.settled = true) :
    exec (.settleTimerExpiry .exit) s = .next (handlingTests (exitTail (settledAtLevel .exit d false s))) :=
  exec_settles .exit htimer hcandidate hpin hsettled

/-- A stray at the exit tail, with room in the rack (R50). -/
theorem strayTail_room {v : State} (hroom : v.drying.rack.length < 2) : strayTail v = latch .stray { v with
    tracker.strayPending := false, drying.rack := v.drying.rack ++ [.stray] } := if_pos hroom

theorem exitTail_none {v : State} (h : confirmedHead v = none) : exitTail v = strayTail v := by
  unfold exitTail
  rw [h]

theorem exitTail_confirmed {v : State} {p : PlateId} (h : confirmedHead v = some p) (hroom : v.drying.rack.length < 2) :
    exitTail v = rackPlate p v := by
  unfold exitTail
  rw [h]
  exact if_pos hroom

/-- A full rack halts the line (R50). -/
theorem rackFull_halts {v : State} (hhalted : v.supervisor.line ≠ .halted) (hsafe : v.supervisor.line ≠ .safe) :
    (let t := raiseHalt .rackFull v
     t.supervisor.line = .halted ∧ t.supervisor.cause = .rackFull ∧ t.bus.latched.getLsbD 1 = true ∧
     t.drying.rack = v.drying.rack ∧ t.tracker.train = []) := by
  obtain ⟨hline, hbit, -, -, htrain, -⟩ := stopLine_effect (cause := .rackFull) (attn := .halt) (.inl rfl) v
  have hrack : (stopLine .rackFull .halt .halted v).drying.rack = v.drying.rack := by simp
  rw [raiseHalt_moving hhalted hsafe]
  exact ⟨congrArg Supervisor.line hline, congrArg Supervisor.cause hline, hbit, hrack, htrain⟩

/-- The head plate of the train at a sample with no plate queued. -/
theorem sample_head {ready : Bool} {x : Nat} {u w : State} {p : PlateId} {rest : List PlateId} {r : Plate} {l : Nat}
    (hw : SampleState ready x s u w) (htrain : s.tracker.train = p :: rest) (hr : plateOf s p = some r)
    (hl : r.headLatch = some l) (hqueue : s.admission.queue = []) (d : Nat) :
    (let t := openRuns d (handOn w)
     let travel := ((x : Int) - (l : Int)) % 12288000
     (r.exitConfirmed = false → 5730000 < travel → r.stage ≠ .ended →
       t.tracker.train = rest ∧ t.admission.commitments = s.admission.commitments - 1 ∧
       slotState t p = .done ∧ slotWord t p 33 = 18 ∧ slotWord t p 35 = 9 ∧ t.bus.latched.getLsbD 8 = true ∧
       (∃ q, plateOf t p = some q ∧ q.stage = .ended ∧ q.disposition = some .spoiled) ∧
       (s.supervisor.line = .draining → rest = [] → t.supervisor.line = .idle ∧ t.transport.demand = 0) ∧
       (s.supervisor.line ≠ .draining ∨ rest ≠ [] → t.supervisor = s.supervisor)) ∧
     (r.exitConfirmed = true ∨ travel ≤ 5730000 →
       t.tracker.train = s.tracker.train ∧ t.admission.commitments = s.admission.commitments ∧
       slotState t p = slotState s p ∧ t.supervisor = s.supervisor)) := by
  obtain ⟨⟨transport, latched, attn, holdOff, hframe⟩, hpos, -⟩ := hw
  have heffect := handOn_head (w := w) (by rwa [hframe]) (p := p) (by rw [hframe]; exact hr) hl hpos (by rwa [hframe]) d
  have htracker : w.tracker = s.tracker := by rw [hframe]
  have hadmission : w.admission = s.admission := by rw [hframe]
  have hline : w.supervisor = s.supervisor := by rw [hframe]
  have hstate : slotState w p = slotState s p := by rw [hframe]; rfl
  rwa [htracker, hadmission, hline, hstate] at heffect

end

/-- Settles O41: an edge is delivered to the state `settledAtLevel`; a sample hands on a state with the same train. -/
theorem exitEdgesMeetThePlate : Obligations.ExitEdgesMeetThePlate := by
  unfold Obligations.ExitEdgesMeetThePlate
  refine ⟨fun d c s htimer hcandidate => ⟨fun hpin hsettled => ?head, fun hpin hsettled hshuttle hdark hloading => ?tail⟩,
    fun p rest r l ready s htrain hr hl hqueue => ?sample⟩
  case head =>
    rw [exit_head htimer hcandidate hpin hsettled]
    obtain ⟨now, banks, transport, hframe⟩ := settledAtLevel_eq (s := s) (d := d) .exit true
    intro settled
    have hv : settledAtLevel .exit d true s = settled := rfl
    rw [hv] at hframe ⊢
    clear_value settled
    subst hframe
    refine ⟨fun hempty => congrArg Host.Outcome.next (exitHead_empty hempty), fun p rest r h htrain hr hl hopen => ?_⟩
    rw [exitHead_awaited (s := { s with now := now, banks := banks, transport := transport }) htrain hr hl hopen,
      ← travelFrom_eq]
    refine ⟨fun hin => ⟨_, rfl, ?_⟩, fun hout => congrArg Host.Outcome.next (if_neg (by omega))⟩
    rw [if_pos (by omega)]
    exact ⟨(plateOf_putPlate p p _ _).trans (if_pos rfl), fun q hq => (plateOf_putPlate p q _ _).trans (if_neg hq), rfl⟩
  case tail =>
    rw [exit_tail htimer hcandidate hpin hsettled]
    obtain ⟨now, banks, transport, hframe⟩ := settledAtLevel_eq (s := s) (d := d) .exit false
    obtain ⟨v, hv⟩ : ∃ v, settledAtLevel .exit d false s = v := ⟨_, rfl⟩
    have hshown := settledAtLevel_exit (s := s) (d := d) false
    rw [hv] at hframe hshown ⊢
    have hvtrain : v.tracker = s.tracker := by rw [hframe]
    have hvdrying : v.drying = s.drying := by rw [hframe]
    have hvline : v.supervisor = s.supervisor := by rw [hframe]
    have hvshuttle : v.shuttle = s.shuttle := by rw [hframe]
    have hvchamber : v.chamber = s.chamber := by rw [hframe]
    have hvplate (p : PlateId) : plateOf v p = plateOf s p := by rw [hframe]; rfl
    refine ⟨fun p rest r htrain hr hstage hconfirmed hroom => ?_, fun hnone hroom => ?_, fun hfull hhalted hsafe => ?_⟩
    · rw [← hvtrain] at htrain
      rw [← hvplate] at hr
      rw [← hvdrying] at hroom
      rw [exitTail_confirmed (confirmedHead_of htrain hr hconfirmed) hroom,
        handlingTests_stands (s := s) (by simp [hvshuttle]) (by simp [hvchamber]) hshuttle hdark hloading]
      obtain ⟨h1, h2, ⟨q, hq, h3, h4, h5⟩, h6, h7, h8, h9, h10⟩ := rackPlate_effect hr (by rw [hstage]; decide)
      have herase : v.tracker.train.erase p = rest := by simp [htrain]
      rw [herase] at h1 h9 h10
      rw [hvline] at h9 h10
      rw [hvdrying] at h2
      have hword : slotState v p = slotState s p := by rw [hframe]; rfl
      have hcommit : v.admission = s.admission := by rw [hframe]
      rw [hword] at h7
      rw [hcommit] at h8
      exact ⟨_, rfl, h1, h2, q, hq, h3, h4, h5, h6, h7, h8, h9, h10⟩
    · rw [exitTail_none (confirmedHead_none (s := v) fun p rest r h g => hnone p rest r (hvtrain ▸ h) (hvplate p ▸ g)),
        strayTail_room (hvdrying ▸ hroom),
        handlingTests_stands (s := s) (by simp [hvshuttle]) (by simp [hvchamber]) hshuttle hdark hloading]
      have hbus : v.bus = s.bus := by rw [hframe]
      refine ⟨_, rfl, ?_, ?_⟩
      · have hbits := latchedBits_latch .stray { v with
          tracker.strayPending := false, drying.rack := v.drying.rack ++ [.stray] }
        unfold latchedBits at hbits ⊢
        rw [← hbus]
        exact hbits
      · refine Eq.trans ?_ ((exceptAttn_latch .stray { v with
          tracker.strayPending := false, drying.rack := v.drying.rack ++ [.stray] }).trans ?_)
        · unfold exceptAttn
          rw [← hbus]
        · rw [hshown]
          have hdry : (advanceTo d s).drying = s.drying := by simp
          dsimp only
          rw [hdry]
    · rw [← hvdrying] at hfull
      have hhalts : ∃ z, exitTail v = raiseHalt .rackFull z ∧ z.supervisor = v.supervisor ∧ z.drying = v.drying ∧
          z.shuttle = v.shuttle ∧ z.chamber = v.chamber := by
        rcases exitTail_full hfull with h | h
        · exact ⟨_, h, rfl, rfl, rfl, rfl⟩
        · exact ⟨_, h, by simp, by simp, by simp, by simp⟩
      obtain ⟨z, hz, hzline, hzdrying, hzshuttle, hzchamber⟩ := hhalts
      rw [hz, handlingTests_stands (s := s) (by simp [hzshuttle, hvshuttle]) (by simp [hzchamber, hvchamber]) hshuttle hdark hloading]
      obtain ⟨h1, h2, h3, h4, h5⟩ := rackFull_halts (v := z) (by rwa [hzline, hvline]) (by rwa [hzline, hvline])
      exact ⟨_, rfl, h1, h2, h3, by rw [h4, hzdrying, hvdrying], h5⟩
  case sample =>
    refine ⟨fun hfaults => ?_, fun a b hwait hgood hrun => ?_⟩
    · obtain ⟨w, d, hexec, hw⟩ := silentSample_hands ready hfaults
      obtain ⟨hlost, hstays⟩ := sample_head hw htrain hr hl hqueue d
      exact ⟨fun h1 h2 h3 => ⟨_, hexec, hlost h1 h2 h3⟩, fun h => ⟨_, hexec, hstays h⟩⟩
    · obtain ⟨w, d, hexec, hw⟩ := goodSample_hands ready hwait hgood hrun
      obtain ⟨hlost, hstays⟩ := sample_head hw htrain hr hl hqueue d
      exact ⟨fun h1 h2 h3 => ⟨_, hexec, hlost h1 h2 h3⟩, fun h => ⟨_, hexec, hstays h⟩⟩

end Sys2Proof.Machine

/-! PROOFS. The infeed of the belt: the edges that latch the head and measure the plate, and the misfeed (R42 to R44). -/

namespace Sys2Proof.Machine

section
variable {s v : State} {p q : PlateId} {r : Plate} {c d : Nat}

/-! ## The infeed head (R42) -/

theorem releasingPlate_stage (h : releasingPlate s = some p) (hr : plateOf s p = some r) : r.stage = .releasing := by
  have hfound := List.find?_some h
  rw [hr] at hfound
  exact eq_of_beq hfound

theorem infeedHead_none (h : releasingPlate s = none) : infeedHead c s = s := by
  unfold infeedHead
  rw [h]

theorem infeedTail_none (h : s.tracker.train = []) : infeedTail c s = s := by
  unfold infeedTail
  rw [h]
  rfl

theorem setStage_live {st : Stage} (hr : plateOf s p = some r) (hstage : r.stage ≠ .ended) :
    setStage p st s = putSlotNat p 35 (stageCode st) (putPlate p (some { r with stage := st }) s) := by
  unfold setStage
  rw [hr]
  exact if_neg hstage

/-- The RELEASING plate gets its head latch (R42). -/
theorem infeedHead_found (h : releasingPlate s = some p) (hr : plateOf s p = some r) :
    infeedHead c s = closeGate (putSlotNat p 35 3 (putPlate p (some { r with stage := .onBelt, headLatch := some c })
      (putPlate p (some { r with headLatch := some c }) s))) := by
  have hlatched : modPlate p (fun r => { r with headLatch := some c }) s = putPlate p (some { r with headLatch := some c }) s := by
    unfold modPlate
    rw [hr]
  have hput : plateOf (putPlate p (some { r with headLatch := some c }) s) p = some { r with headLatch := some c } :=
    (plateOf_putPlate p p _ s).trans (if_pos rfl)
  have hlive : r.stage ≠ .ended := by
    rw [releasingPlate_stage h hr]
    decide
  unfold infeedHead
  rw [h]
  dsimp only
  rw [hlatched, setStage_live (r := { r with headLatch := some c }) hput hlive]
  rfl

/-! ## The infeed tail (R44) -/

/-- The record of a plate after its tail edge. -/
def measuredAs (m : Nat) (r : Plate) : Plate :=
  { r with measured := some m, lengthMismatch := r.lengthMismatch || decide (10 < natDist m r.length) }

theorem infeedTail_measures {h : Nat} (hlast : s.tracker.train.getLast? = some p) (hr : plateOf s p = some r)
    (hstage : r.stage = .onBelt) (hhead : r.headLatch = some h) (hnew : r.measured = none) :
    infeedTail c s = putSlot p 54 (slotFlags (measuredAs (measuredLength h c) r)) (putSlotNat p 37 (measuredLength h c)
      (putPlate p (some (measuredAs (measuredLength h c) r)) s)) := by
  unfold infeedTail
  rw [hlast]
  dsimp only
  rw [hr]
  dsimp only
  split
  · next a hfirst _ =>
    cases hhead.symm.trans hfirst
    exact if_pos hstage
  · next hnone => exact absurd hnew (hnone h hhead)

theorem mismatch_iff (m n : Nat) : decide (10 < natDist m n) = decide (n + 10 < m ∨ m + 10 < n) := by
  refine decide_eq_decide.mpr ?_
  unfold natDist
  omega

theorem slotFlags_bits (r : Plate) : (slotFlags r).getLsbD 0 = r.lengthMismatch ∧ (slotFlags r).getLsbD 1 = r.lateWithdraw := by
  unfold slotFlags
  cases r.lengthMismatch <;> cases r.lateWithdraw <;> decide

/-! ## The misfeed (R33, R43) -/

/-- The train and the banks without the misfed plate, and the queue with it. -/
theorem departTrain_dry (hr : plateOf s p = some r) (hentry : r.entryLoad = none) :
    departTrain p s = mapBanks (dropPlate s.now p) { s with tracker.train := s.tracker.train.erase p } :=
  leaveWash_outside (s := mapBanks (dropPlate s.now p) { s with tracker.train := s.tracker.train.erase p }) hr hentry

/-- The queue with a misfed plate at the front of its class (R33). -/
def rejoined (p : PlateId) (r : Plate) (s : State) : List PlateId :=
  if r.rush then p :: s.admission.queue else insertBehindRush s p s.admission.queue

/-- A misfed plate off the belt and in the queue: train, banks and gate have changed, and the queue with its state. -/
theorem misfed_eq (hr : plateOf s p = some r) (hentry : r.entryLoad = none) :
    ∃ banks low latched attn holdOff, rejoinQueue p (departTrain p (closeGate s)) = { s with
      admission.gateOpen := false, admission.misfeedTimer := none, admission.queue := rejoined p r s
      admission.queueLow := low, tracker.train := s.tracker.train.erase p, banks := banks
      bus.latched := latched, bus.attn := attn, bus.holdOff := holdOff } := by
  have hdeparted : departTrain p (closeGate s) = _ := departTrain_dry (s := closeGate s) hr hentry
  rw [hdeparted]
  unfold rejoinQueue
  have hrush : isRush (mapBanks (dropPlate (closeGate s).now p)
      { closeGate s with tracker.train := (closeGate s).tracker.train.erase p }) p = r.rush := by
    change isRush s p = r.rush
    unfold isRush
    rw [hr]
  rw [hrush]
  obtain ⟨attn, holdOff, hqueue⟩ := setQueue_eq (rejoined p r s) (mapBanks (dropPlate (closeGate s).now p)
      { closeGate s with tracker.train := (closeGate s).tracker.train.erase p })
  exact ⟨_, _, _, _, _, hqueue⟩

/-- The record of a misfed plate (R43). -/
def unreleased (r : Plate) : Plate := { r with stage := .queued, epoch := none, epochSpeed := none, setpoints := none }

/-- The record of a misfed plate, written in two steps. -/
def unreleasedAt (p : PlateId) (r : Plate) (s : State) : State :=
  putPlate p (some (unreleased r)) (putPlate p (some { unreleased r with stage := r.stage }) s)

/-- The misfeed hold, and a commitment given back (R40, R43). -/
def heldForMisfeed (s : State) : State := { s with
  admission.commitments := s.admission.commitments - 1, admission.misfeedHold := true, admission.misfeedArmed := false }

/-- The words of a slot that is QUEUED again (R15). -/
def requeued (p : PlateId) (s : State) : State :=
  showHold p (setSlotState p .queued (putSlotNat p 46 0 (putSlotNat p 36 0 (putSlotNat p 35 1 s))))

/-- The plate and its slot when a misfeed returns it to the queue (R15, R43). -/
def returned (p : PlateId) (r : Plate) (s : State) : State := requeued p (heldForMisfeed (unreleasedAt p r s))

theorem misfeedReturn_eq (hr : plateOf s p = some r) (hentry : r.entryLoad = none) (hstage : r.stage ≠ .ended) :
    misfeedReturn p s = idleIfDrained (returned p r (rejoinQueue p (departTrain p (closeGate s)))) := by
  obtain ⟨banks, low, latched, attn, holdOff, hmisfed⟩ := misfed_eq hr hentry
  have hr' : plateOf (rejoinQueue p (departTrain p (closeGate s))) p = some r := by
    rw [hmisfed]
    exact hr
  unfold misfeedReturn
  generalize rejoinQueue p (departTrain p (closeGate s)) = u at hr' ⊢
  have hcleared : modPlate p (fun r => { r with epoch := none, epochSpeed := none, setpoints := none }) u =
      putPlate p (some { unreleased r with stage := r.stage }) u := by
    unfold modPlate
    rw [hr']
    rfl
  have hput : plateOf (putPlate p (some { unreleased r with stage := r.stage }) u) p =
      some { unreleased r with stage := r.stage } := (plateOf_putPlate p p _ u).trans (if_pos rfl)
  have hqueued : setStage p .queued (putPlate p (some { unreleased r with stage := r.stage }) u) = _ :=
    setStage_live (st := .queued) hput hstage
  dsimp only
  rw [hcleared, hqueued]
  rfl

theorem requeued_words (p : PlateId) (s : State) :
    (let t := requeued p s
     slotState t p = .queued ∧ lastTaken t p = lastTaken s p ∧ slotWord t p 35 = 1 ∧ slotWord t p 36 = 0 ∧
     slotWord t p 46 = 0 ∧ slotWord t p 34 = w16 (holdCode s.admission.holdReason)) := by
  have hword (n : Nat) (hn : n < 64) (h34 : n ≠ 34) : slotWord (requeued p s) p n =
      slotWord (setSlotState p .queued (putSlotNat p 46 0 (putSlotNat p 36 0 (putSlotNat p 35 1 s)))) p n :=
    slotWord_putSlot_else _ _ _ _ (by decide) hn h34
  have hother (n : Nat) (hn : n < 64) (h34 : n ≠ 34) (h32 : n ≠ 32) : slotWord (requeued p s) p n =
      slotWord (putSlotNat p 46 0 (putSlotNat p 36 0 (putSlotNat p 35 1 s))) p n :=
    (hword n hn h34).trans (slotWord_setSlotState_else _ _ _ hn h32)
  refine ⟨(slotState_of_word (hword 32 (by decide) (by decide))).trans ?_,
    (lastTaken_of_word (hword 32 (by decide) (by decide))).trans ?_, (hother 35 (by decide) (by decide) (by decide)).trans ?_,
    (hother 36 (by decide) (by decide) (by decide)).trans ?_, (hother 46 (by decide) (by decide) (by decide)).trans ?_,
    slotWord_putSlot_here _ _ _ _ (by decide)⟩
  · rw [slotState_setSlotState, if_pos rfl]
  · rw [lastTaken_setSlotState]
    unfold putSlotNat
    rw [lastTaken_putSlot _ _ _ _ _ (by decide) (by decide), lastTaken_putSlot _ _ _ _ _ (by decide) (by decide),
      lastTaken_putSlot _ _ _ _ _ (by decide) (by decide)]
  all_goals unfold putSlotNat
  · rw [slotWord_putSlot_else _ _ _ _ (by decide) (by decide) (by decide),
      slotWord_putSlot_else _ _ _ _ (by decide) (by decide) (by decide), slotWord_putSlot_here _ _ _ _ (by decide)]
    rfl
  · rw [slotWord_putSlot_else _ _ _ _ (by decide) (by decide) (by decide), slotWord_putSlot_here _ _ _ _ (by decide)]
    rfl
  · rw [slotWord_putSlot_here _ _ _ _ (by decide)]
    rfl

theorem requeued_frame (p : PlateId) (s : State) : ∃ ram, requeued p s = { s with bus.ram := ram } := ⟨_, rfl⟩

/-- The records after a misfeed (R43). -/
theorem plateOf_returned (p q : PlateId) (r : Plate) (s : State) :
    plateOf (returned p r s) q = if q = p then some (unreleased r) else plateOf s q := by
  obtain ⟨ram, hframe⟩ := requeued_frame p (heldForMisfeed (unreleasedAt p r s))
  unfold returned
  rw [hframe]
  change plateOf (unreleasedAt p r s) q = _
  unfold unreleasedAt
  rw [plateOf_putPlate, plateOf_putPlate]
  split <;> rfl

/-- What a misfeed changes outside the plates and the slots. -/
theorem returned_frame (p : PlateId) (r : Plate) (s : State) : ∃ plates ram, returned p r s = { s with
    tracker.plates := plates, bus.ram := ram, admission.commitments := s.admission.commitments - 1
    admission.misfeedHold := true, admission.misfeedArmed := false } := by
  obtain ⟨ram, hframe⟩ := requeued_frame p (heldForMisfeed (unreleasedAt p r s))
  unfold returned
  rw [hframe]
  exact ⟨_, _, rfl⟩

theorem infeed_edge {level : Bool} (htimer : s.transport.infeed.timer = some d)
    (hcandidate : s.transport.infeed.candidate = some c) (hpin : s.pins.infeed = level)
    (hsettled : s.transport.infeed.settled = !level) :
    exec (.settleTimerExpiry .infeed) s = .next (deliverEdge .infeed level c (settledAtLevel .infeed d level s)) :=
  exec_settles .infeed htimer hcandidate hpin hsettled

theorem exec_misfeed (htimer : s.admission.misfeedTimer = some d) :
    exec .misfeedTimerExpiry s = .next (misfeed (advanceTo d s)) := by
  change Host.Outcome.next (onExpiry s.admission.misfeedTimer misfeed s) = _
  rw [htimer]
  rfl

theorem idleIfDrained_admission (s : State) :
    ∃ current, (idleIfDrained s).admission = { s.admission with epochCurrent := current } := by
  unfold idleIfDrained
  split
  · have hline (x : State) : (setLine .idle x).admission = x.admission := by simp [setLine]
    refine ⟨false, (hline _).trans ?_⟩
    rw [endEpoch_eq]
  · exact ⟨_, rfl⟩

/-- A misfeed, of a plate that has not entered the wash (R43). -/
theorem misfeedReturn_effect {now : Nat} {banks : PerBank BankUnit} (hv : v = { s with now := now, banks := banks })
    (hr : plateOf s p = some r) (hentry : r.entryLoad = none) (hstage : r.stage ≠ .ended) :
    (let t := misfeedReturn p v
     t.tracker.train = s.tracker.train.erase p ∧ plateOf t p = some (unreleased r) ∧
     (∀ q : PlateId, q ≠ p → plateOf t q = plateOf s q) ∧ t.admission.queue = rejoined p r s ∧
     t.admission.gateOpen = false ∧ t.admission.misfeedTimer = none ∧ t.admission.misfeedHold = true ∧
     t.admission.misfeedArmed = false ∧ t.admission.commitments = s.admission.commitments - 1 ∧
     slotState t p = .queued ∧ lastTaken t p = lastTaken s p ∧ slotWord t p 35 = 1 ∧ slotWord t p 36 = 0 ∧
     slotWord t p 46 = 0 ∧ slotWord t p 34 = w16 (holdCode s.admission.holdReason) ∧
     (s.supervisor.line ≠ .draining → t.supervisor = s.supervisor ∧ t.transport = s.transport) ∧
     (s.supervisor.line = .draining → s.tracker.train.erase p = [] → t.supervisor.line = .idle) ∧
     t.drying = s.drying ∧ t.wash = s.wash ∧ t.shuttle = s.shuttle ∧ t.chamber = s.chamber ∧ t.link = s.link) := by
  have hrv : plateOf v p = some r := by
    rw [hv]
    exact hr
  rw [misfeedReturn_eq hrv hentry hstage]
  obtain ⟨banks', low, latched, attn, holdOff, hmisfed⟩ := misfed_eq hrv hentry
  have hrejoined : rejoined p r v = rejoined p r s := by
    rw [hv]
    rfl
  rw [hrejoined] at hmisfed
  generalize rejoinQueue p (departTrain p (closeGate v)) = u at hmisfed ⊢
  obtain ⟨plates, ram, hframe⟩ := returned_frame p r u
  obtain ⟨hstate, hlast, h35, h36, h46, h34⟩ := requeued_words p (heldForMisfeed (unreleasedAt p r u))
  have hplate := plateOf_returned p (r := r) (s := u)
  have htrain : u.tracker.train = s.tracker.train.erase p := by rw [hmisfed, hv]
  have hline : u.supervisor = s.supervisor := by rw [hmisfed, hv]
  have hbelt : u.transport = s.transport := by rw [hmisfed, hv]
  have hstations : u.drying = s.drying ∧ u.wash = s.wash ∧ u.shuttle = s.shuttle ∧ u.chamber = s.chamber ∧ u.link = s.link := by
    rw [hmisfed, hv]
    exact ⟨rfl, rfl, rfl, rfl, rfl⟩
  have hadmission : u.admission.queue = rejoined p r s ∧ u.admission.gateOpen = false ∧ u.admission.misfeedTimer = none ∧
      u.admission.commitments = s.admission.commitments ∧ u.admission.holdReason = s.admission.holdReason := by
    rw [hmisfed, hv]
    exact ⟨rfl, rfl, rfl, rfl, rfl⟩
  have hrecords (q : PlateId) : plateOf u q = plateOf s q := by
    rw [hmisfed, hv]
    rfl
  have hslot : lastTaken u p = lastTaken s p := by
    rw [hmisfed, hv]
    rfl
  obtain ⟨hqueue, hgate, htimer, hcommitments, hreason⟩ := hadmission
  obtain ⟨hdrying, hwash, hshuttle, hchamber, hlink⟩ := hstations
  have hkept (x : State) : (idleIfDrained x).tracker = x.tracker ∧ (idleIfDrained x).bus = x.bus ∧
      (idleIfDrained x).drying = x.drying ∧ (idleIfDrained x).wash = x.wash ∧ (idleIfDrained x).shuttle = x.shuttle ∧
      (idleIfDrained x).chamber = x.chamber ∧ (idleIfDrained x).link = x.link := by simp
  obtain ⟨ktracker, kbus, kdrying, kwash, kshuttle, kchamber, klink⟩ := hkept (returned p r u)
  obtain ⟨current, kadmission⟩ := idleIfDrained_admission (returned p r u)
  have hword (o : Nat) : slotWord (idleIfDrained (returned p r u)) p o = slotWord (returned p r u) p o :=
    slotWord_congr (congrArg BusInterface.ram kbus) p o
  have hrecord (q : PlateId) : plateOf (idleIfDrained (returned p r u)) q = plateOf (returned p r u) q :=
    congrArg (fun x : Tracker => x.plates[q]) ktracker
  obtain ⟨hidle, hsame⟩ := idleIfDrained_supervisor (s := returned p r u)
  have hline' : (returned p r u).supervisor = s.supervisor := by rw [hframe]; exact hline
  have htrain' : (returned p r u).tracker.train = s.tracker.train.erase p := by rw [hframe]; exact htrain
  have hbelt' : (returned p r u).transport = s.transport := by rw [hframe]; exact hbelt
  rw [hline', htrain'] at hidle hsame
  have hadmission : (idleIfDrained (returned p r u)).admission = { u.admission with
      commitments := u.admission.commitments - 1, misfeedHold := true, misfeedArmed := false, epochCurrent := current } := by
    rw [kadmission, hframe]
  dsimp only
  rw [hadmission]
  refine ⟨(congrArg Tracker.train ktracker).trans htrain', ?_, fun q hq => ?_, hqueue, hgate, htimer, rfl, rfl,
    congrArg (· - 1) hcommitments, (slotState_of_word (hword 32)).trans hstate,
    (lastTaken_of_word (hword 32)).trans (hlast.trans hslot), (hword 35).trans h35, (hword 36).trans h36, (hword 46).trans h46,
    (hword 34).trans (h34.trans (congrArg (fun x => w16 (holdCode x)) hreason)), fun h => ?_, fun h g => (hidle h g).1,
    kdrying.trans ?_, kwash.trans ?_, kshuttle.trans ?_, kchamber.trans ?_, klink.trans ?_⟩
  · rw [hrecord, hplate, if_pos rfl]
  · rw [hrecord, hplate, if_neg hq, hrecords]
  · rw [hsame (.inl h)]
    exact ⟨hline', hbelt'⟩
  all_goals rw [hframe]
  · exact hdrying
  · exact hwash
  · exact hshuttle
  · exact hchamber
  · exact hlink

end

/-- Settles O40: the edges act on the state `settledAtLevel`, the misfeed on the state with its banks' time passed. -/
theorem infeedEdgesAndMisfeedMoveThePlate : Obligations.InfeedEdgesAndMisfeedMoveThePlate := by
  unfold Obligations.InfeedEdgesAndMisfeedMoveThePlate
  refine ⟨fun d c s htimer hcandidate => ?edges, fun d s htimer => ?misfeed⟩
  case edges =>
    intro settled
    refine ⟨fun hpin hsettled => ?head, fun hpin hsettled => ?tail⟩
    case head =>
      rw [infeed_edge htimer hcandidate hpin hsettled]
      obtain ⟨now, banks, transport, hframe⟩ := settledAtLevel_eq (s := s) (d := d) .infeed true
      have hv : settledAtLevel .infeed d true s = settled true := rfl
      rw [hv] at hframe ⊢
      generalize settled true = v at hframe ⊢
      subst hframe
      refine ⟨fun hnone => congrArg Host.Outcome.next (infeedHead_none hnone),
        fun p r hreleasing hr => ⟨_, rfl, ?_⟩⟩
      · have hhead := infeedHead_found (c := c) (s := { s with now := now, banks := banks, transport := transport })
          hreleasing hr
        dsimp only [deliverEdge]
        rw [hhead]
        exact ⟨(plateOf_putPlate p p _ _).trans (if_pos rfl), slotWord_putSlot_here _ _ _ _ (by decide),
          ramKept_of_ram rfl (ramKept_write List.mem_cons_self ramKept_refl),
          fun q hq => ((plateOf_putPlate p q _ _).trans (if_neg hq)).trans ((plateOf_putPlate p q _ _).trans (if_neg hq)), rfl⟩
    case tail =>
      rw [infeed_edge htimer hcandidate hpin hsettled]
      obtain ⟨now, banks, transport, hframe⟩ := settledAtLevel_eq (s := s) (d := d) .infeed false
      have hv : settledAtLevel .infeed d false s = settled false := rfl
      rw [hv] at hframe ⊢
      generalize settled false = v at hframe ⊢
      subst hframe
      refine ⟨fun hnone => congrArg Host.Outcome.next (infeedTail_none hnone),
        fun p r h hlast hr hstage hhead hnew => ⟨_, rfl, ?_⟩⟩
      · have htail := infeedTail_measures (c := c) (s := { s with now := now, banks := banks, transport := transport })
          hlast hr hstage hhead hnew
        dsimp only [deliverEdge]
        rw [htail]
        obtain ⟨hmismatch, hlate⟩ := slotFlags_bits (measuredAs (measuredLength h c) r)
        have hflags := slotWord_putSlot_here p 54 (slotFlags (measuredAs (measuredLength h c) r))
          (putSlotNat p 37 (measuredLength h c) (putPlate p (some (measuredAs (measuredLength h c) r))
            { s with now := now, banks := banks, transport := transport })) (by decide)
        rw [← mismatch_iff]
        refine ⟨(plateOf_putPlate p p _ _).trans (if_pos rfl), ?_, (congrArg (BitVec.getLsbD · 0) hflags).trans hmismatch,
          (congrArg (BitVec.getLsbD · 1) hflags).trans hlate,
          ramKept_write (by simp) (ramKept_write (by simp) (ramKept_of_ram rfl ramKept_refl)),
          fun q hq => (plateOf_putPlate p q _ _).trans (if_neg hq), rfl⟩
        rw [slotWord_putSlot_else _ _ _ _ (by decide) (by decide) (by decide)]
        exact slotWord_putSlot_here _ _ _ _ (by decide)
  case misfeed =>
    rw [exec_misfeed htimer]
    obtain ⟨banks, hadvance, -⟩ := advanceTo_eq d s
    have hreleasing : releasingPlate (advanceTo d s) = releasingPlate s := by
      rw [hadvance]
      rfl
    refine ⟨fun hnone => congrArg Host.Outcome.next ?_, fun p r hfound hr hentry => ⟨_, rfl, ?_⟩⟩
    · unfold misfeed
      rw [hreleasing, hnone]
    · have hmisfeed : misfeed (advanceTo d s) = misfeedReturn p (advanceTo d s) := by
        unfold misfeed
        rw [hreleasing, hfound]
      have hlive : r.stage ≠ .ended := by
        rw [releasingPlate_stage hfound hr]
        decide
      obtain ⟨h1, h2, h3, hqueue, hrest⟩ := misfeedReturn_effect hadvance hr hentry hlive
      rw [hmisfeed]
      refine ⟨h1, h2, h3, fun hrush => ?_, fun hrush front back hsplit hfront hback => ?_, hrest⟩
      · rw [hqueue]
        exact if_pos hrush
      · rw [hqueue]
        refine (if_neg (by simp [hrush])).trans ?_
        rw [hsplit]
        exact insertBehindRush_append hfront hback

end Sys2Proof.Machine

/-! PROOFS. A sample with one plate on the belt and none queued, and the claims of the banks (R76 to R78). -/

namespace Sys2Proof.Machine

section
variable {s t u w : State} {p : PlateId} {r : Plate} {l x : Nat}

/-! ## One plate on the belt (R55) -/

/-- The travel of strip 15 of a plate at a head travel (R93). -/
def lastStrip (head : Nat) (r : Plate) : Int := stripTravel head (lengthUm r) 15

theorem handed_one (htrain : w.tracker.train = [p]) (hr : plateOf w p = some r) (hl : r.headLatch = some l)
    (hx : beltPos w = x) (hnear : r.exitConfirmed = true ∨ travelFrom l x ≤ 5730000) :
    handed w = washTest p (closeTest p .main (closeTest p .back (claimTest p w))) := by
  have hmissing : missingTest w = w := by
    rw [missingTest_head htrain hr hl hx]
    refine if_neg fun ⟨hopen, hfar⟩ => hnear.elim (fun h => ?_) fun h => by omega
    rw [hopen] at h
    exact nomatch h
  have hclaims : (claimTest p w).tracker.train = [p] := by simpa using htrain
  have hcloses : (closeTest p .main (closeTest p .back (claimTest p w))).tracker.train = [p] := by simpa using htrain
  unfold handed
  rw [hmissing, claimTests_of_one htrain, closeTests_of_one hclaims, washTests_of_one hcloses]

theorem claimTest_one (hr : plateOf w p = some r) (hl : r.headLatch = some l) (hx : beltPos w = x) (k : Bank) :
    (claimTest p w).banks.get k = claimStep w.now w.claimLead p (travelFrom l x) (lastStrip (travelFrom l x) r)
      (match r.setpoints with | none => 0 | some e => e.get k) (w.banks.get k) := by
  have hhead : headTravel w r = some (travelFrom l x) := by
    unfold headTravel
    rw [hl, hx]
    rfl
  unfold claimTest
  rw [hr]
  dsimp only
  rw [hhead]
  cases k <;> rfl

/-- The banks after the sample are those of the claim test. -/
theorem handed_banks (hhanded : handed w = washTest p (closeTest p .main (closeTest p .back (claimTest p w)))) :
    (handed w).banks = (claimTest p w).banks := by
  rw [hhanded]
  simp

/-! ## The claim test, case by case (R76, R77) -/

variable {now lead head eSet : Nat} {t15 : Int} {b : BankUnit}

theorem claimStep_joins (hclaims : p ∉ b.claims) (hpassed : p ∉ b.passed) (hend : t15 < (b.w1 : Int) * 1000)
    (hstart : (b.w0 - lead) * 1000 ≤ head) : claimStep now lead p head t15 eSet b = joinClaim now eSet p b := by
  unfold claimStep
  rw [if_neg hclaims, if_neg hpassed, if_neg (by omega), if_pos hstart]

theorem claimStep_before (hclaims : p ∉ b.claims) (hpassed : p ∉ b.passed) (hend : t15 < (b.w1 : Int) * 1000)
    (hstart : head < (b.w0 - lead) * 1000) : claimStep now lead p head t15 eSet b = b := by
  unfold claimStep
  rw [if_neg hclaims, if_neg hpassed, if_neg (by omega), if_neg (by omega)]

theorem claimStep_beyond (hclaims : p ∉ b.claims) (hpassed : p ∉ b.passed) (hend : (b.w1 : Int) * 1000 ≤ t15) :
    claimStep now lead p head t15 eSet b = { b with passed := b.passed ++ [p] } := by
  unfold claimStep
  rw [if_neg hclaims, if_neg hpassed, if_pos (by omega)]

theorem claimStep_passed (hclaims : p ∉ b.claims) (hpassed : p ∈ b.passed) : claimStep now lead p head t15 eSet b = b := by
  unfold claimStep
  rw [if_neg hclaims, if_pos hpassed]

theorem claimStep_claiming (hclaims : p ∈ b.claims) (hend : t15 < (b.w1 : Int) * 1000) :
    claimStep now lead p head t15 eSet b = b := by
  unfold claimStep
  rw [if_pos hclaims, if_neg (by omega)]

theorem claimStep_leaves (hclaims : p ∈ b.claims) (hend : (b.w1 : Int) * 1000 ≤ t15) :
    claimStep now lead p head t15 eSet b = { dropClaim now p b with passed := (dropClaim now p b).passed ++ [p] } := by
  unfold claimStep
  rw [if_pos hclaims, if_pos (by omega)]

theorem joinClaim_more (h : b.claims ≠ []) : joinClaim now eSet p b = { b with claims := b.claims ++ [p] } := if_neg h

theorem joinClaim_forced (h : b.claims = []) (hforced : b.state = .forcedOff) :
    joinClaim now eSet p b = { b with claims := b.claims ++ [p], setpoint := some eSet } := by
  unfold joinClaim
  rw [if_pos h, if_pos hforced]

theorem joinClaim_first (h : b.claims = []) (hforced : b.state ≠ .forcedOff) :
    joinClaim now eSet p b = { setDuty now (firstDuty eSet b.full) { b with
      claims := b.claims ++ [p], setpoint := some eSet } with state := .claimed } := by
  unfold joinClaim
  rw [if_pos h, if_neg hforced]

theorem firstDuty_cases (eSet full : Nat) : (eSet = 0 → firstDuty eSet full = 0) ∧
    (0 < eSet → full = 0 → firstDuty eSet full = 1000) ∧
    (0 < eSet → 0 < full → firstDuty eSet full = min 1000 ((eSet * 1000 + full - 1) / full)) := by
  unfold firstDuty ceilDiv
  refine ⟨fun h => if_pos h, fun h hfull => by rw [if_neg (by omega), if_pos hfull], fun h hfull => ?_⟩
  rw [if_neg (by omega), if_neg (by omega), Nat.add_sub_assoc hfull]

theorem dropClaim_more (hp : p ∈ b.claims) (h : b.claims.erase p ≠ []) :
    dropClaim now p b = { b with claims := b.claims.erase p } := by
  unfold dropClaim
  rw [if_pos hp]
  exact if_neg h

theorem dropClaim_last (hp : p ∈ b.claims) (h : b.claims.erase p = []) :
    dropClaim now p b = emptyClaims now { b with claims := b.claims.erase p } := by
  unfold dropClaim
  rw [if_pos hp]
  exact if_pos h

/-- What the first claim or the last departure makes of a bank (R77, R78). -/
theorem claimStep_cases (now lead head eSet : Nat) (t15 : Int) (p : PlateId) (b : BankUnit) :
    (let c := claimStep now lead p head t15 eSet b
    (p ∉ b.claims → p ∉ b.passed → t15 < (b.w1 : Int) * 1000 → (b.w0 - lead) * 1000 ≤ head →
      c.claims = b.claims ++ [p] ∧ c.passed = b.passed ∧
      (b.claims ≠ [] → c.setpoint = b.setpoint ∧ c.duty = b.duty ∧ c.state = b.state) ∧
      (b.claims = [] → c.setpoint = some eSet ∧
        (b.state = .forcedOff → c.state = .forcedOff ∧ c.duty = b.duty) ∧
        (b.state ≠ .forcedOff → c.state = .claimed ∧ c.duty = firstDuty eSet b.full))) ∧
    (p ∈ b.claims → (b.w1 : Int) * 1000 ≤ t15 →
      c.claims = b.claims.erase p ∧ c.passed = b.passed ++ [p] ∧
      (b.claims.erase p ≠ [] → c.duty = b.duty ∧ c.setpoint = b.setpoint ∧ c.state = b.state) ∧
      (b.claims.erase p = [] → c.duty = 0 ∧ c.setpoint = none ∧ c.limited = false ∧
        c.state = (if b.state = .forcedOff then .forcedOff else .dark) ∧
        (0 < b.duty → c.darkStart = some now)))) := by
  refine ⟨fun h1 h2 h3 h4 => ?_, fun h1 h2 => ?_⟩
  · rw [claimStep_joins h1 h2 h3 h4]
    by_cases hempty : b.claims = []
    · by_cases hforced : b.state = .forcedOff
      · rw [joinClaim_forced hempty hforced]
        exact ⟨rfl, rfl, fun h => absurd hempty h, fun _ => ⟨rfl, fun _ => ⟨hforced, rfl⟩, fun h => absurd hforced h⟩⟩
      · rw [joinClaim_first hempty hforced]
        exact ⟨rfl, rfl, fun h => absurd hempty h, fun _ => ⟨rfl, fun h => absurd h hforced, fun _ => ⟨rfl, rfl⟩⟩⟩
    · rw [joinClaim_more hempty]
      exact ⟨rfl, rfl, fun _ => ⟨rfl, rfl, rfl⟩, fun h => absurd h hempty⟩
  · rw [claimStep_leaves h1 h2]
    by_cases hlast : b.claims.erase p = []
    · rw [dropClaim_last h1 hlast]
      refine ⟨rfl, rfl, fun h => absurd hlast h, fun _ => ⟨rfl, rfl, rfl, rfl, fun hduty => ?_⟩⟩
      change (if 0 < 0 then none else if 0 < b.duty then some now else b.darkStart) = some now
      rw [if_neg (Nat.lt_irrefl 0), if_pos hduty]
    · rw [dropClaim_more h1 hlast]
      exact ⟨rfl, rfl, fun _ => ⟨rfl, rfl, rfl⟩, fun h => absurd h hlast⟩

/-- The claim tests of a sample with one plate on the belt and none queued (R76). -/
theorem sample_claims {ready : Bool} {e : PerBank Nat} (hw : SampleState ready x s u w) (htrain : s.tracker.train = [p])
    (hr : plateOf s p = some r) (hl : r.headLatch = some l) (he : r.setpoints = some e) (hqueue : s.admission.queue = [])
    (hnear : r.exitConfirmed = true ∨ travelFrom l x ≤ 5730000) (d : Nat) (k : Bank) :
    (openRuns d (handOn w)).banks.get k = claimStep u.now s.claimLead p (travelFrom l x) (lastStrip (travelFrom l x) r)
      (e.get k) (u.banks.get k) := by
  obtain ⟨⟨transport, latched, attn, holdOff, hframe⟩, hpos, -⟩ := hw
  have hqueue' : (handed w).admission.queue = [] := by
    rw [handed_queue, hframe]
    exact hqueue
  have hr' : plateOf w p = some r := by
    rw [hframe]
    exact hr
  obtain ⟨hold, armed, latched', attn', holdOff', transport', ht, -⟩ := handOn_none hqueue' d
  have hhanded := handed_one (by rw [hframe]; exact htrain) hr' hl hpos hnear
  have hstep := claimTest_one hr' hl hpos k
  rw [he] at hstep
  rw [ht]
  change (handed w).banks.get k = _
  rw [handed_banks hhanded, hstep, hframe]

end

/-- Settles O46. -/
theorem claimsFollowTheTravel : Obligations.ClaimsFollowTheTravel := by
  unfold Obligations.ClaimsFollowTheTravel
  refine ⟨fun now lead head eSet t15 p b => ?step, fun p r l e ready s htrain hr hl he hqueue => ?sample⟩
  case step =>
    obtain ⟨hjoins, hleaves⟩ := claimStep_cases now lead head eSet t15 p b
    obtain ⟨hzero, hfull, hdiv⟩ := firstDuty_cases eSet b.full
    refine ⟨fun h1 h2 h3 h4 => ?_, fun h1 h2 h3 h4 => claimStep_before h1 h2 h3 h4, fun h1 h2 h3 => claimStep_beyond h1 h2 h3,
      fun h1 h2 => claimStep_passed h1 h2, fun h1 h2 => claimStep_claiming h1 h2, hleaves⟩
    obtain ⟨hclaims, hpassed, hmore, hfirst⟩ := hjoins h1 h2 h3 h4
    refine ⟨hclaims, hpassed, hmore, fun hempty => ?_⟩
    obtain ⟨hsetpoint, hforced, hfree⟩ := hfirst hempty
    refine ⟨hsetpoint, hforced, fun h => ?_⟩
    obtain ⟨hstate, hduty⟩ := hfree h
    rw [hduty]
    exact ⟨hstate, hzero, hfull, hdiv⟩
  case sample =>
    have hbank (k : Bank) (now lead head : Nat) (t15 : Int) (b a : BankUnit)
        (ha : a = claimStep now lead p head t15 (e.get k) b) :
        a = claimStep now lead p head t15 (e.get k) b ∧
        (b.claims = [] → p ∉ b.passed → b.state ≠ .forcedOff → t15 < (b.w1 : Int) * 1000 → (b.w0 - lead) * 1000 ≤ head →
          0 < e.get k → 0 < b.full → a.state = .claimed ∧ a.claims = [p] ∧ a.setpoint = some (e.get k) ∧
            a.duty = min 1000 ((e.get k * 1000 + b.full - 1) / b.full)) := by
      refine ⟨ha, fun hempty hpassed hforced hend hstart hset hfull => ?_⟩
      obtain ⟨hclaims, -, -, hfirst⟩ := (claimStep_cases now lead head (e.get k) t15 p b).1 (by simp [hempty]) hpassed hend hstart
      obtain ⟨hsetpoint, -, hfree⟩ := hfirst hempty
      obtain ⟨hstate, hduty⟩ := hfree hforced
      rw [ha]
      refine ⟨hstate, ?_, hsetpoint, hduty.trans ((firstDuty_cases (e.get k) b.full).2.2 hset hfull)⟩
      rw [hclaims, hempty]
      rfl
    refine ⟨fun hfaults => fun hnear => ?_, fun a b hwait hgood hrun => fun hnear => ?_⟩
    · obtain ⟨w, d, hexec, hw⟩ := silentSample_hands ready hfaults
      exact ⟨_, hexec, fun k => hbank k _ _ _ _ _ _ (sample_claims hw htrain hr hl he hqueue hnear d k)⟩
    · obtain ⟨w, d, hexec, hw⟩ := goodSample_hands ready hwait hgood hrun
      exact ⟨_, hexec, fun k => hbank k _ _ _ _ _ _ (sample_claims hw htrain hr hl he hqueue hnear d k)⟩

end Sys2Proof.Machine

/-! PROOFS. The close of a station: its sums, its verdict, its words (R99 to R105). -/

namespace Sys2Proof.Machine

section
variable {s t u w : State} {p : PlateId} {r : Plate} {l x : Nat} {st : StationKind}

/-! ## The least and the greatest of 16 sums (R100, R101) -/

theorem foldl_min_eq {xs : List Nat} {v top : Nat} (hmem : v ∈ xs ∨ v = top) (hleast : ∀ y ∈ xs, v ≤ y) (htop : v ≤ top) :
    xs.foldl min top = v := by
  induction xs generalizing top with
  | nil => exact (hmem.resolve_left List.not_mem_nil).symm
  | cons y ys ih =>
    have hy := hleast y List.mem_cons_self
    refine ih ?_ (fun z hz => hleast z (List.mem_cons_of_mem _ hz)) (by omega)
    rcases hmem with h | h
    · rcases List.mem_cons.mp h with h | h
      · exact .inr (by omega)
      · exact .inl h
    · exact .inr (by omega)

theorem foldl_max_eq {xs : List Nat} {v low : Nat} (hmem : v ∈ xs ∨ v = low) (hgreatest : ∀ y ∈ xs, y ≤ v) (hlow : low ≤ v) :
    xs.foldl max low = v := by
  induction xs generalizing low with
  | nil => exact (hmem.resolve_left List.not_mem_nil).symm
  | cons y ys ih =>
    have hy := hgreatest y List.mem_cons_self
    refine ih ?_ (fun z hz => hgreatest z (List.mem_cons_of_mem _ hz)) (by omega)
    rcases hmem with h | h
    · rcases List.mem_cons.mp h with h | h
      · exact .inr (by omega)
      · exact .inl h
    · exact .inr (by omega)

/-- The sum of a strip at a station (R100). -/
def stripSum (d : DoseRecord) (st : StationKind) (x : Fin 16) : Nat :=
  match st with
  | .back => d.strips.bk[x]
  | .main => min 4294967295 (d.strips.m1[x] + d.strips.m2[x])

theorem stationSums_eq (d : DoseRecord) (st : StationKind) : stationSums d st = (Vector.ofFn (stripSum d st)).toList := by
  cases st with
  | back =>
    refine congrArg Vector.toList (Vector.ext fun i hi => ?_)
    rw [Vector.getElem_ofFn]
    rfl
  | main => rfl

theorem mem_stationSums (d : DoseRecord) (st : StationKind) (y : Nat) :
    y ∈ stationSums d st ↔ ∃ x : Fin 16, stripSum d st x = y := by
  rw [stationSums_eq, Vector.mem_toList_iff, Vector.mem_ofFn]

theorem minOf_stationSums {d : DoseRecord} {i : Fin 16} (h : ∀ x : Fin 16, stripSum d st i ≤ stripSum d st x)
    (htop : stripSum d st i ≤ 4294967295) : minOf (stationSums d st) = stripSum d st i :=
  foldl_min_eq (.inl ((mem_stationSums d st _).mpr ⟨i, rfl⟩))
    (fun y hy => by obtain ⟨x, rfl⟩ := (mem_stationSums d st y).mp hy; exact h x) htop

theorem maxOf_stationSums {d : DoseRecord} {j : Fin 16} (h : ∀ x : Fin 16, stripSum d st x ≤ stripSum d st j) :
    maxOf (stationSums d st) = stripSum d st j :=
  foldl_max_eq (.inl ((mem_stationSums d st _).mpr ⟨j, rfl⟩))
    (fun y hy => by obtain ⟨x, rfl⟩ := (mem_stationSums d st y).mp hy; exact h x) (Nat.zero_le _)

theorem closeVerdict_of_strips {a b : Plate} (hd : a.dose.strips = b.dose.strips) (hback : a.backDone = b.backDone)
    (htarget : stationTarget a st = stationTarget b st) (htolerance : a.tolerance = b.tolerance) :
    closeVerdict a st = closeVerdict b st ∧ stationSums a.dose st = stationSums b.dose st := by
  have hsums : stationSums a.dose st = stationSums b.dose st := by
    cases st <;> simp only [stationSums, hd]
  refine ⟨?_, hsums⟩
  unfold closeVerdict
  rw [hsums, htarget, htolerance, hback]

/-! ## What a close writes (R105) -/

/-- The first of the two figure words of a station, and its verdict word. -/
def figureWord : StationKind → Nat
  | .back => 40
  | .main => 42

def verdictWord : StationKind → Nat
  | .back => 44
  | .main => 45

/-- The addresses of the words of a station. -/
def stationAddrs (p : PlateId) (st : StationKind) : List Nat :=
  [slotBase p + figureWord st, slotBase p + (figureWord st + 1), slotBase p + verdictWord st]

theorem showStation_effect (p : PlateId) (st : StationKind) (v : Verdict) (lo hi : Nat) (s : State) :
    (let t := showStation p st v lo hi s
     slotWord t p (figureWord st) = w16 lo ∧ slotWord t p (figureWord st + 1) = w16 hi ∧
     slotWord t p (verdictWord st) = w16 (verdictCode v) ∧
     (∀ o, o < 64 → o ≠ figureWord st → o ≠ figureWord st + 1 → o ≠ verdictWord st → slotWord t p o = slotWord s p o) ∧
     ramKeptOutside (stationAddrs p st) s t ∧ ∃ ram, t = { s with bus.ram := ram }) := by
  have hshow : showStation p st v lo hi s = putSlot p (verdictWord st) (w16 (verdictCode v))
      (putSlot p (figureWord st + 1) (w16 hi) (putSlot p (figureWord st) (w16 lo) s)) := by
    cases st <;> rfl
  have hv : verdictWord st < 64 ∧ figureWord st + 1 < 64 ∧ verdictWord st ≠ figureWord st ∧
      verdictWord st ≠ figureWord st + 1 := by
    cases st <;> decide
  obtain ⟨hv64, hf64, hvf, hvf1⟩ := hv
  rw [hshow]
  refine ⟨?_, ?_, slotWord_putSlot_here _ _ _ _ hv64, fun o ho h1 h2 h3 => ?_,
    ramKept_write (by simp [stationAddrs]) (ramKept_write (by simp [stationAddrs]) (ramKept_write (by simp [stationAddrs]) ramKept_refl)),
    _, rfl⟩
  · rw [slotWord_putSlot_else _ _ _ _ hv64 (by omega) hvf.symm, slotWord_putSlot_else _ _ _ _ hf64 (by omega) (by omega),
      slotWord_putSlot_here _ _ _ _ (by omega)]
  · rw [slotWord_putSlot_else _ _ _ _ hv64 (by omega) hvf1.symm, slotWord_putSlot_here _ _ _ _ hf64]
  · rw [slotWord_putSlot_else _ _ _ _ hv64 ho h3, slotWord_putSlot_else _ _ _ _ hf64 ho h2,
      slotWord_putSlot_else _ _ _ _ (by omega) ho h1]

/-- A station closed with a verdict and its figures. -/
def closedAs (v : Verdict) (lo hi : Nat) : DoseStation :=
  { isOpen := false, verdict := some v, minimum := some lo, maximum := some hi }

/-- The station of a record, replaced. -/
def putStation (d : DoseRecord) (st : StationKind) (c : DoseStation) : DoseRecord :=
  match st with
  | .back => { d with back := c }
  | .main => { d with main := c }

/-- The figures of a station of a plate (R101). -/
def leastFigure (r : Plate) (st : StationKind) : Nat := reportedDose (minOf (stationSums r.dose st))
def greatestFigure (r : Plate) (st : StationKind) : Nat := reportedDose (maxOf (stationSums r.dose st))

theorem closedDose_eq (d : DoseRecord) (st : StationKind) (v : Verdict) : closedDose d st v =
    putStation d st (closedAs v (reportedDose (minOf (stationSums d st))) (reportedDose (maxOf (stationSums d st)))) := by
  cases st <;> rfl

/-- The normal close of an OPEN station (R105). -/
theorem closeNormally_open (hr : plateOf s p = some r) (hopen : (stationOf r.dose st).isOpen = true) :
    (let t := closeNormally p st s
     plateOf t p = some { r with
       dose := putStation r.dose st (closedAs (closeVerdict r st) (leastFigure r st) (greatestFigure r st)) } ∧
     slotWord t p (figureWord st) = w16 (leastFigure r st) ∧
     slotWord t p (figureWord st + 1) = w16 (greatestFigure r st) ∧
     slotWord t p (verdictWord st) = w16 (verdictCode (closeVerdict r st)) ∧
     (∀ o, o < 64 → o ≠ figureWord st → o ≠ figureWord st + 1 → o ≠ verdictWord st → slotWord t p o = slotWord s p o) ∧
     ramKeptOutside (stationAddrs p st) s t ∧ (∀ q : PlateId, q ≠ p → plateOf t q = plateOf s q) ∧
     { exceptRam s t with tracker.plates := s.tracker.plates } = s) := by
  unfold closeNormally
  rw [closeStation_open hr hopen, closedDose_eq]
  obtain ⟨hlo, hhi, hverdict, hwords, hkept, ram, hframe⟩ := showStation_effect p st (closeVerdict r st)
    (reportedDose (minOf (stationSums r.dose st))) (reportedDose (maxOf (stationSums r.dose st)))
    (putPlate p (some { r with dose := putStation r.dose st (closedAs (closeVerdict r st)
      (reportedDose (minOf (stationSums r.dose st))) (reportedDose (maxOf (stationSums r.dose st)))) }) s)
  refine ⟨?_, hlo, hhi, hverdict, hwords, hkept, fun q hq => ?_, ?_⟩
  · rw [plateOf_showStation, plateOf_putPlate, if_pos rfl]
    rfl
  · rw [plateOf_showStation, plateOf_putPlate, if_neg hq]
  · rw [hframe]
    rfl

/-! ## The close tests of a sample (R99) -/

theorem headTravel_of (hl : r.headLatch = some l) (hx : beltPos s = x) : headTravel s r = some (travelFrom l x) := by
  unfold headTravel
  rw [hl, hx]
  rfl

theorem closeTest_one (hr : plateOf s p = some r) (hl : r.headLatch = some l) (hx : beltPos s = x) :
    closeTest p st s = if ((closePoint s st * 1000 : Nat) : Int) ≤ lastStrip (travelFrom l x) r
      then closeNormally p st s else s := by
  unfold closeTest
  rw [hr, Option.bind_some, headTravel_of hl hx]
  rfl

/-- The close test of a station of one plate, open or not, at its close point or short of it (R99). -/
theorem closeTest_effect (hr : plateOf s p = some r) (hl : r.headLatch = some l) (hx : beltPos s = x) :
    (let t := closeTest p st s
     let closes := (stationOf r.dose st).isOpen = true ∧ ((closePoint s st * 1000 : Nat) : Int) ≤ lastStrip (travelFrom l x) r
     (closes → plateOf t p = some { r with
         dose := putStation r.dose st (closedAs (closeVerdict r st) (leastFigure r st) (greatestFigure r st)) } ∧
       slotWord t p (figureWord st) = w16 (leastFigure r st) ∧
       slotWord t p (figureWord st + 1) = w16 (greatestFigure r st) ∧
       slotWord t p (verdictWord st) = w16 (verdictCode (closeVerdict r st))) ∧
     (¬closes → t = s) ∧
     (∀ o, o < 64 → o ≠ figureWord st → o ≠ figureWord st + 1 → o ≠ verdictWord st → slotWord t p o = slotWord s p o)) := by
  rw [closeTest_one hr hl hx]
  by_cases hopen : (stationOf r.dose st).isOpen = true
  · obtain ⟨hplate, hlo, hhi, hverdict, hwords, -⟩ := closeNormally_open hr hopen
    by_cases hstop : ((closePoint s st * 1000 : Nat) : Int) ≤ lastStrip (travelFrom l x) r
    · rw [if_pos hstop]
      exact ⟨fun _ => ⟨hplate, hlo, hhi, hverdict⟩, fun h => absurd ⟨hopen, hstop⟩ h, hwords⟩
    · rw [if_neg hstop]
      exact ⟨fun h => absurd h.2 hstop, fun _ => rfl, fun _ _ _ _ _ => rfl⟩
  · have hsame : closeNormally p st s = s := closeStation_closed hr (by simpa using hopen)
    rw [hsame, ite_self]
    exact ⟨fun h => absurd h.1 hopen, fun _ => rfl, fun _ _ _ _ _ => rfl⟩

end

end Sys2Proof.Machine

/-! PROOFS. The obligation about the close of a station (R99 to R105). -/

namespace Sys2Proof.Machine

section
variable {s t u w z : State} {p : PlateId} {r : Plate} {l x : Nat} {st : StationKind}

/-! ## The wash leaves dose and dose words (R116, R118) -/

/-- A plate that leaves the wash keeps its record but for its wash figures, and its slot but for two words. -/
theorem leaveWash_keeps (hr : plateOf s p = some r) :
    (∃ e f, plateOf (leaveWash p s) p = some { r with entryLoad := e, washFigures := f }) ∧
    (∀ o, o < 64 → o ≠ 47 → o ≠ 48 → slotWord (leaveWash p s) p o = slotWord s p o) := by
  cases he : r.entryLoad with
  | none =>
    rw [leaveWash_outside hr he]
    exact ⟨⟨_, _, hr⟩, fun _ _ _ _ => rfl⟩
  | some e =>
    rw [leaveWash_inside hr he]
    have hplate (n : Nat) (y : State) : plateOf (changeLoad n y) p = plateOf y p :=
      congrArg (fun x : Tracker => x.plates[p]) (changeLoad_tracker n y)
    refine ⟨⟨none, some (e, loadAdded s r), (hplate _ _).trans ((plateOf_putPlate p p _ s).trans (if_pos rfl))⟩,
      fun o ho h47 h48 => (slotWord_congr (changeLoad_ram _ _) p o).trans ?_⟩
    exact (slotWord_putSlot_else _ _ _ _ (by decide) ho h48).trans (slotWord_putSlot_else _ _ _ _ (by decide) ho h47)

/-- The record of a plate at a head travel, its entry load taken if it enters the wash (R116). -/
def entered (s : State) (head : Nat) (r : Plate) : Plate :=
  if r.entryLoad = none ∧ r.washFigures = none ∧ s.wash.start * 1000 ≤ head
  then { r with entryLoad := some s.wash.load } else r

theorem entered_eq (s : State) (head : Nat) (r : Plate) : ∃ e, entered s head r = { r with entryLoad := e } := by
  unfold entered
  split
  · exact ⟨_, rfl⟩
  · exact ⟨r.entryLoad, rfl⟩

theorem washTest_one (hr : plateOf s p = some r) (hl : r.headLatch = some l) (hx : beltPos s = x) :
    washTest p s = if ((s.wash.stop * 1000 : Nat) : Int) ≤ (travelFrom l x : Int) - (lengthUm r : Int)
      then leaveWash p (putPlate p (some (entered s (travelFrom l x) r)) s)
      else putPlate p (some (entered s (travelFrom l x) r)) s := by
  have henter : enterWash p (travelFrom l x) s = putPlate p (some (entered s (travelFrom l x) r)) s := by
    unfold enterWash modPlate
    rw [hr]
    rfl
  unfold washTest
  rw [hr, Option.bind_some, headTravel_of hl hx]
  dsimp only [Option.map_some]
  rw [henter]

theorem washTest_keeps (hr : plateOf s p = some r) (hl : r.headLatch = some l) (hx : beltPos s = x) :
    (∃ e f, plateOf (washTest p s) p = some { r with entryLoad := e, washFigures := f }) ∧
    (∀ o, o < 64 → o ≠ 47 → o ≠ 48 → slotWord (washTest p s) p o = slotWord s p o) := by
  obtain ⟨e, he⟩ := entered_eq s (travelFrom l x) r
  have hput : plateOf (putPlate p (some { r with entryLoad := e }) s) p = some { r with entryLoad := e } :=
    (plateOf_putPlate p p _ s).trans (if_pos rfl)
  rw [washTest_one hr hl hx, he]
  split
  · obtain ⟨⟨e', f, hleft⟩, hwords⟩ := leaveWash_keeps hput
    exact ⟨⟨e', f, hleft⟩, hwords⟩
  · exact ⟨⟨e, r.washFigures, hput⟩, fun _ _ _ _ => rfl⟩

/-! ## The sample of one plate (R91, R99) -/

/-- What a sample leaves of one plate at its close tests: the state `z` has its two stations tested. -/
theorem handed_tested (htrain : w.tracker.train = [p]) (hr : plateOf w p = some r) (hl : r.headLatch = some l)
    (hx : beltPos w = x) (hnear : r.exitConfirmed = true ∨ travelFrom l x ≤ 5730000) :
    ∃ c, handed w = washTest p (closeTest p .main (closeTest p .back c)) ∧ plateOf c p = some r ∧ beltPos c = x ∧
      c.wash = w.wash ∧ (∀ st, closePoint c st = closePoint w st) ∧ ∀ o, slotWord c p o = slotWord w p o := by
  refine ⟨claimTest p w, handed_one htrain hr hl hx hnear, ?_, ?_, by simp, fun st => ?_, fun o => ?_⟩
  · rw [← hr]
    simp [plateOf]
  · rw [← hx]
    simp [beltPos]
  · have hbank (k : Bank) : ((claimTest p w).banks.get k).w1 = (w.banks.get k).w1 := by
      rw [claimTest_one hr hl hx]
      exact (claimStep_window _ _ _ _ _ _ _).2
    cases st with
    | back => exact hbank .bk
    | main => exact hbank .m2
  · exact slotWord_congr (by simp) p o

/-- A station closes at a sample: it is OPEN, and strip 15 is at its close point (R99). -/
def closesAt (s : State) (x l : Nat) (r : Plate) (st : StationKind) : Prop :=
  (stationOf r.dose st).isOpen = true ∧ ((closePoint s st * 1000 : Nat) : Int) ≤ lastStrip (travelFrom l x) r

theorem stationOf_putStation (d : DoseRecord) (st st' : StationKind) (c : DoseStation) :
    stationOf (putStation d st c) st' = if st' = st then c else stationOf d st' := by
  cases st <;> cases st' <;> rfl

theorem putStation_strips (d : DoseRecord) (st : StationKind) (c : DoseStation) : (putStation d st c).strips = d.strips := by
  cases st <;> rfl

/-- The record of a plate after a close test (R99). -/
theorem closeTest_record (hr : plateOf s p = some r) (hl : r.headLatch = some l) (hx : beltPos s = x) :
    ∃ d, plateOf (closeTest p st s) p = some { r with dose := d } ∧ d.strips = r.dose.strips ∧
      (∀ st', st' ≠ st → stationOf d st' = stationOf r.dose st') ∧
      (closesAt s x l r st → stationOf d st = closedAs (closeVerdict r st) (leastFigure r st) (greatestFigure r st)) ∧
      (¬closesAt s x l r st → stationOf d st = stationOf r.dose st) := by
  obtain ⟨hclosed, hsame, -⟩ := closeTest_effect (st := st) hr hl hx
  by_cases hcloses : closesAt s x l r st
  · refine ⟨_, (hclosed hcloses).1, putStation_strips _ _ _, fun st' h => ?_, fun _ => ?_, fun h => absurd hcloses h⟩
    · rw [stationOf_putStation, if_neg h]
    · rw [stationOf_putStation, if_pos rfl]
  · refine ⟨r.dose, ?_, rfl, fun _ _ => rfl, fun h => absurd h hcloses, fun _ => rfl⟩
    rw [hsame hcloses]
    exact hr

/-- The two close tests of one plate (R99). -/
theorem closeTests_stations (hr : plateOf s p = some r) (hl : r.headLatch = some l) (hx : beltPos s = x) :
    (let t := closeTest p .main (closeTest p .back s)
     ∃ d, plateOf t p = some { r with dose := d } ∧ d.strips = r.dose.strips ∧ beltPos t = x ∧ t.wash = s.wash ∧
       ∀ st : StationKind,
        (closesAt s x l r st →
          stationOf d st = closedAs (closeVerdict r st) (leastFigure r st) (greatestFigure r st) ∧
          slotWord t p (figureWord st) = w16 (leastFigure r st) ∧
          slotWord t p (figureWord st + 1) = w16 (greatestFigure r st) ∧
          slotWord t p (verdictWord st) = w16 (verdictCode (closeVerdict r st))) ∧
        (¬closesAt s x l r st →
          stationOf d st = stationOf r.dose st ∧ slotWord t p (verdictWord st) = slotWord s p (verdictWord st))) := by
  obtain ⟨d, hd, hstrips, hother, hbackClosed, hbackKept⟩ := closeTest_record (st := .back) hr hl hx
  obtain ⟨hback, hbackSame, hbackWords⟩ := closeTest_effect (st := .back) hr hl hx
  have hx' : beltPos (closeTest p .back s) = x := by
    rw [← hx]
    simp [beltPos]
  have hmainStation : stationOf d .main = stationOf r.dose .main := hother .main (by decide)
  obtain ⟨hverdict, hsums⟩ := closeVerdict_of_strips (st := .main) (a := { r with dose := d }) (b := r) hstrips rfl rfl rfl
  have hleast : leastFigure { r with dose := d } .main = leastFigure r .main := by
    unfold leastFigure
    rw [hsums]
  have hgreatest : greatestFigure { r with dose := d } .main = greatestFigure r .main := by
    unfold greatestFigure
    rw [hsums]
  have hcloses : closesAt (closeTest p .back s) x l { r with dose := d } .main ↔ closesAt s x l r .main := by
    have hpoint : closePoint (closeTest p .back s) .main = closePoint s .main := by simp [closePoint]
    unfold closesAt
    rw [hpoint, hmainStation]
    rfl
  obtain ⟨hmain, hmainSame, hmainWords⟩ := closeTest_effect (st := .main) (s := closeTest p .back s) hd hl hx'
  obtain ⟨d', hd', hstrips', hother', hmainClosed, hmainKept⟩ :=
    closeTest_record (st := .main) (s := closeTest p .back s) hd hl hx'
  rw [hcloses, hverdict, hleast, hgreatest] at hmainClosed
  rw [hcloses] at hmainKept
  rw [hverdict, hleast, hgreatest] at hmain
  have hbackStation : stationOf d' .back = stationOf d .back := hother' .back (by decide)
  have hpos : beltPos (closeTest p .main (closeTest p .back s)) = x := by
    rw [← hx']
    simp [beltPos]
  have hwash : (closeTest p .main (closeTest p .back s)).wash = s.wash := by simp
  refine ⟨d', hd', hstrips'.trans hstrips, hpos, hwash, fun st => ?_⟩
  cases st with
  | back =>
    have h40 := hmainWords 40 (by decide) (by decide) (by decide) (by decide)
    have h41 := hmainWords 41 (by decide) (by decide) (by decide) (by decide)
    have h44 := hmainWords 44 (by decide) (by decide) (by decide) (by decide)
    refine ⟨fun h => ?_, fun h => ⟨hbackStation.trans (hbackKept h), h44.trans (congrArg (slotWord · p 44) (hbackSame h))⟩⟩
    obtain ⟨-, hlo, hhi, hv⟩ := hback h
    exact ⟨hbackStation.trans (hbackClosed h), h40.trans hlo, h41.trans hhi, h44.trans hv⟩
  | main =>
    have h45 := hbackWords 45 (by decide) (by decide) (by decide) (by decide)
    refine ⟨fun h => ?_, fun h => ⟨(hmainKept h).trans hmainStation, (congrArg (slotWord · p 45) (hmainSame fun e => h (hcloses.mp e))).trans h45⟩⟩
    obtain ⟨-, hlo, hhi, hv⟩ := hmain (hcloses.mpr h)
    exact ⟨hmainClosed h, hlo, hhi, hv⟩

/-- The close tests of a sample with one plate on the belt and none queued (R99). -/
theorem sample_closes {ready : Bool} (hw : SampleState ready x s u w) (htrain : s.tracker.train = [p])
    (hr : plateOf s p = some r) (hl : r.headLatch = some l) (hqueue : s.admission.queue = [])
    (hnear : r.exitConfirmed = true ∨ travelFrom l x ≤ 5730000)
    (hwindow : ∀ k : Bank, (u.banks.get k).w1 = (s.banks.get k).w1) (d : Nat) :
    (let t := openRuns d (handOn w)
     ∃ q, plateOf t p = some q ∧ q.dose.strips = r.dose.strips ∧ ∀ st : StationKind,
      ((stationOf r.dose st).isOpen = true → (closePoint s st : Int) * 1000 ≤ lastStrip (travelFrom l x) r →
        stationOf q.dose st = closedAs (closeVerdict r st) (leastFigure r st) (greatestFigure r st) ∧
        slotWord t p (figureWord st) = w16 (leastFigure r st) ∧
        slotWord t p (figureWord st + 1) = w16 (greatestFigure r st) ∧
        slotWord t p (verdictWord st) = w16 (verdictCode (closeVerdict r st))) ∧
      ((stationOf r.dose st).isOpen = false ∨ lastStrip (travelFrom l x) r < (closePoint s st : Int) * 1000 →
        stationOf q.dose st = stationOf r.dose st ∧ slotWord t p (verdictWord st) = slotWord s p (verdictWord st))) := by
  obtain ⟨⟨transport, latched, attn, holdOff, hframe⟩, hpos, -⟩ := hw
  have hqueue' : (handed w).admission.queue = [] := by
    rw [handed_queue, hframe]
    exact hqueue
  have hr' : plateOf w p = some r := by
    rw [hframe]
    exact hr
  obtain ⟨hold, armed, latched', attn', holdOff', transport', ht, -⟩ := handOn_none hqueue' d
  obtain ⟨c, hhanded, hc, hcx, -, hpoint, hcwords⟩ := handed_tested (by rw [hframe]; exact htrain) hr' hl hpos hnear
  obtain ⟨dose, hdose, hstrips, hzx, -, hstations⟩ := closeTests_stations hc hl hcx
  obtain ⟨⟨e, f, hwashed⟩, hwords⟩ := washTest_keeps hdose hl hzx
  rw [← hhanded] at hwashed hwords
  have hcloses (st : StationKind) : closesAt c x l r st ↔ closesAt s x l r st := by
    have hsame : closePoint c st = closePoint s st := by
      rw [hpoint, hframe]
      cases st with
      | back => exact hwindow .bk
      | main => exact hwindow .m2
    unfold closesAt
    rw [hsame]
  have hslot (o : Nat) : slotWord c p o = slotWord s p o := by
    rw [hcwords, hframe]
    rfl
  rw [ht]
  refine ⟨_, hwashed, hstrips, fun st => ?_⟩
  obtain ⟨hclosed, hkept⟩ := hstations st
  rw [hcloses] at hclosed hkept
  have hfar : figureWord st + 1 < 47 ∧ verdictWord st < 47 := by cases st <;> decide
  obtain ⟨hf, hv⟩ := hfar
  have h1 := hwords (figureWord st) (by omega) (by omega) (by omega)
  have h2 := hwords (figureWord st + 1) (by omega) (by omega) (by omega)
  have h3 := hwords (verdictWord st) (by omega) (by omega) (by omega)
  refine ⟨fun h g => ?_, fun h => ?_⟩
  · obtain ⟨hstation, hlo, hhi, hverdict⟩ := hclosed ⟨h, by omega⟩
    exact ⟨hstation, h1.trans hlo, h2.trans hhi, h3.trans hverdict⟩
  · have hstands : ¬closesAt s x l r st := by
      rintro ⟨hopen, hstop⟩
      rcases h with h | h
      · rw [hopen] at h
        exact nomatch h
      · omega
    obtain ⟨hstation, hverdict⟩ := hkept hstands
    exact ⟨hstation, h3.trans (hverdict.trans (hslot _))⟩

theorem verdictOf_cases (target tolerance lo hi : Nat) :
    (let low := target * (1000 - tolerance)
     let high := target * (1000 + tolerance)
     (low ≤ lo → hi ≤ high → verdictOf target tolerance lo hi = .inTol) ∧
     (lo < low → hi ≤ high → verdictOf target tolerance lo hi = .short) ∧
     (low ≤ lo → high < hi → verdictOf target tolerance lo hi = .over) ∧
     (lo < low → high < hi → verdictOf target tolerance lo hi = .spread)) := by
  unfold verdictOf
  dsimp only
  refine ⟨fun h g => ?_, fun h g => ?_, fun h g => ?_, fun h g => ?_⟩
  · rw [if_pos h, if_pos g]
  · rw [if_neg (Nat.not_le.mpr h), if_pos g]
  · rw [if_pos h, if_neg (Nat.not_le.mpr g)]
  · rw [if_neg (Nat.not_le.mpr h), if_neg (Nat.not_le.mpr g)]

theorem reportedDose_eq (sum : Nat) : reportedDose sum = if 65535 < (sum + 500) / 1000 then 65535 else (sum + 500) / 1000 := by
  unfold reportedDose
  split <;> omega

end

/-- Settles O48. -/
theorem closingAStationReportsItsSums : Obligations.ClosingAStationReportsItsSums := by
  unfold Obligations.ClosingAStationReportsItsSums
  refine ⟨fun target tolerance lo hi _ => verdictOf_cases target tolerance lo hi, fun r => ⟨fun h => if_pos h, fun h => ?_, rfl⟩,
    reportedDose_eq, fun p r s hr => ⟨fun h => closeStation_closed hr h, fun h => closeStation_closed hr h, ?close⟩,
    fun p r l ready s htrain hr hl hqueue => ?sample⟩
  · exact if_neg (by simp [h])
  case close =>
    refine ⟨fun i j hleast hopen => ?_, fun i j hleast hopen => ?_⟩
    · have hlo := minOf_stationSums (d := r.dose) (st := .back) (i := i) (fun x => (hleast x).1) (hleast i).2.2
      have hhi := maxOf_stationSums (d := r.dose) (st := .back) (j := j) fun x => (hleast x).2.1
      obtain ⟨h1, h2, h3, h4, -, h5⟩ := closeNormally_open (st := .back) hr hopen
      unfold leastFigure at h1 h2
      unfold greatestFigure at h1 h3
      rw [hlo] at h1 h2
      rw [hhi] at h1 h3
      exact ⟨h1, h2, h3, h4, h5⟩
    · have hlo := minOf_stationSums (d := r.dose) (st := .main) (i := i) (fun x => (hleast x).1) (Nat.min_le_left _ _)
      have hhi := maxOf_stationSums (d := r.dose) (st := .main) (j := j) fun x => (hleast x).2
      obtain ⟨h1, h2, h3, h4, -, h5⟩ := closeNormally_open (st := .main) hr hopen
      unfold leastFigure at h1 h2
      unfold greatestFigure at h1 h3
      rw [hlo] at h1 h2
      rw [hhi] at h1 h3
      exact ⟨h1, h2, h3, h4, h5⟩
  case sample =>
    refine ⟨fun hfaults hnear => ?_, fun a b hwait hgood hrun hnear => ?_⟩
    · obtain ⟨w, d, hexec, hw⟩ := silentSample_hands ready hfaults
      have hwindow (k : Bank) : ((advanceTo s.transport.watchdog s).banks.get k).w1 = (s.banks.get k).w1 := by
        obtain ⟨n, hbank⟩ := advanceTo_bank s.transport.watchdog s k
        rw [hbank]
      obtain ⟨q, hq, hstrips, htests⟩ := sample_closes hw htrain hr hl hqueue hnear hwindow d
      exact ⟨_, hexec, q, hq, hstrips, htests .back, htests .main⟩
    · obtain ⟨w, d, hexec, hw⟩ := goodSample_hands ready hwait hgood hrun
      obtain ⟨q, hq, hstrips, htests⟩ := sample_closes hw htrain hr hl hqueue hnear (fun _ => rfl) d
      exact ⟨_, hexec, q, hq, hstrips, htests .back, htests .main⟩

end Sys2Proof.Machine

/-! PROOFS. The wash: the load that a plate adds, and a sample at which it enters or leaves (R116 to R119). -/

namespace Sys2Proof.Machine

section
variable {s t u w z : State} {p : PlateId} {r : Plate} {l x e : Nat}

theorem loadAdded_bounds (s : State) (r : Plate) (h : 0 < s.wash.volume) :
    plateMass r ≤ loadAdded s r * s.wash.volume ∧ loadAdded s r * s.wash.volume < plateMass r + s.wash.volume := by
  unfold loadAdded ceilDiv
  generalize plateMass r = mass
  generalize s.wash.volume = volume at h ⊢
  have hdiv := Nat.div_add_mod (mass + (volume - 1)) volume
  have hmod := Nat.mod_lt (mass + (volume - 1)) h
  rw [Nat.mul_comm] at hdiv
  omega

theorem loadAdded_of (hwash : t.wash = s.wash) {a : Plate} (hwidth : a.width = r.width) (hmeasured : a.measured = r.measured)
    (hlength : a.length = r.length) (hdepth : a.depth = r.depth) (hcoverage : a.coverage = r.coverage) :
    loadAdded t a = loadAdded s r := by
  unfold loadAdded plateMass
  rw [hwash, hwidth, hmeasured, hlength, hdepth, hcoverage]

/-- What a plate that leaves the wash leaves of it (R118, R119). -/
theorem leaveWash_effect (hr : plateOf s p = some r) (he : r.entryLoad = some e) :
    (let t := leaveWash p s
     t.wash.load = min 65535 (s.wash.load + loadAdded s r) ∧
     plateOf t p = some { r with entryLoad := none, washFigures := some (e, loadAdded s r) } ∧
     (∀ q : PlateId, q ≠ p → plateOf t q = plateOf s q) ∧
     slotWord t p 47 = w16 e ∧ slotWord t p 48 = w16 (min 65535 (loadAdded s r)) ∧
     ramKeptOutside [slotBase p + 47, slotBase p + 48] s t ∧
     (s.wash.hard ≤ t.wash.load → t.wash.hold = true) ∧
     (t.wash.hold = true → s.wash.hold = false → t.bus.latched.getLsbD 12 = true) ∧
     (s.wash.replenish = .idle → s.wash.regen ≤ t.wash.load →
       t.wash.replenish = .ordered ∨ t.wash.replenish = .pending)) := by
  rw [leaveWash_inside hr he]
  generalize hz : putSlotNat p oLoadAdded (min 65535 (loadAdded s r)) (putSlotNat p oEntryLoad e
    (putPlate p (some { r with entryLoad := none, washFigures := some (e, loadAdded s r) }) s)) = z
  have hwash : z.wash = s.wash := by
    rw [← hz]
    rfl
  have hplate (q : PlateId) : plateOf z q = if q = p then some { r with entryLoad := none, washFigures := some (e, loadAdded s r) }
      else plateOf s q := by
    rw [← hz]
    exact plateOf_putPlate p q _ s
  have h48 : slotWord z p 48 = w16 (min 65535 (loadAdded s r)) := by
    rw [← hz]
    exact slotWord_putSlot_here _ _ _ _ (by decide)
  have h47 : slotWord z p 47 = w16 e := by
    rw [← hz]
    exact (slotWord_putSlot_else _ _ _ _ (by decide) (by decide) (by decide)).trans (slotWord_putSlot_here _ _ _ _ (by decide))
  have hkept : ramKeptOutside [slotBase p + 47, slotBase p + 48] s z := by
    rw [← hz]
    exact ramKept_write (by simp [oLoadAdded]) (ramKept_write (by simp [oEntryLoad]) (ramKept_of_ram rfl ramKept_refl))
  obtain ⟨v, nodes, latched, attn, holdOff, hstate, hload, hhold, hset, -, -, hpending, hordered, -⟩ :=
    changeLoad_effect (satAdd 65535 s.wash.load (loadAdded s r)) z
  rw [hwash] at hhold hset hpending hordered
  rw [hstate]
  refine ⟨hload, (hplate p).trans (if_pos rfl), fun q hq => (hplate q).trans (if_neg hq), h47, h48, ramKept_of_ram rfl hkept,
    fun hhard => ?_, fun h g => hset ⟨h, g⟩, fun hidle hregen => ?_⟩
  · refine hhold.trans (if_pos ?_)
    rw [← hload]
    exact hhard
  · rw [hload] at hregen
    cases hcan : canReplenish z with
    | true => exact .inl (hordered hidle hregen hcan).1
    | false => exact .inr (hpending hidle hregen hcan)

/-! ## A sample with one plate on the belt (R116) -/

/-- The head of the plate has reached the wash window. -/
def washStarts (s : State) (x l : Nat) : Prop := ((s.wash.start * 1000 : Nat) : Int) ≤ (travelFrom l x : Int)

/-- The tail of the plate has reached its end. -/
def washEnds (s : State) (x l : Nat) (r : Plate) : Prop :=
  ((s.wash.stop * 1000 : Nat) : Int) ≤ (travelFrom l x : Int) - (lengthUm r : Int)

/-- The plate has left the wash with an entry load. -/
def leftWash (s : State) (p : PlateId) (r : Plate) (e : Nat) (t : State) : Prop :=
  (∃ q, plateOf t p = some q ∧ q.entryLoad = none ∧ q.washFigures = some (e, loadAdded s r)) ∧
    t.wash.load = min 65535 (s.wash.load + loadAdded s r) ∧ slotWord t p 47 = w16 e ∧
    slotWord t p 48 = w16 (min 65535 (loadAdded s r))

/-- The wash test of one plate, by whether it is in the wash, and where it is (R116). -/
theorem washTest_effect (hr : plateOf s p = some r) (hl : r.headLatch = some l) (hx : beltPos s = x) :
    (let t := washTest p s
     (r.entryLoad = none → r.washFigures = none → washStarts s x l → washEnds s x l r → leftWash s p r s.wash.load t) ∧
     (r.entryLoad = none → r.washFigures = none → washStarts s x l → ¬washEnds s x l r → t.wash = s.wash ∧
       ∃ q, plateOf t p = some q ∧ q.entryLoad = some s.wash.load ∧ q.washFigures = none) ∧
     (r.entryLoad = none → ¬washStarts s x l ∨ r.washFigures ≠ none → t.wash = s.wash ∧
       ∃ q, plateOf t p = some q ∧ q.entryLoad = none ∧ q.washFigures = r.washFigures) ∧
     (∀ e : Nat, r.entryLoad = some e → (washEnds s x l r → leftWash s p r e t) ∧
       (¬washEnds s x l r → t.wash = s.wash ∧ ∃ q, plateOf t p = some q ∧ q.entryLoad = some e))) := by
  have hput (a : Plate) : plateOf (putPlate p (some a) s) p = some a := (plateOf_putPlate p p _ s).trans (if_pos rfl)
  have hleaves {e : Nat} (hends : washEnds s x l r) (hin : entered s (travelFrom l x) r = { r with entryLoad := some e }) :
      leftWash s p r e (washTest p s) := by
    rw [washTest_one hr hl hx, hin]
    unfold washEnds at hends
    rw [if_pos hends]
    obtain ⟨hload, hplate, -, h47, h48, -⟩ := leaveWash_effect (s := putPlate p (some { r with entryLoad := some e }) s) (hput _) rfl
    have hadded : loadAdded (putPlate p (some { r with entryLoad := some e }) s) { r with entryLoad := some e } = loadAdded s r :=
      loadAdded_of rfl rfl rfl rfl rfl rfl
    rw [hadded] at hload hplate h48
    exact ⟨⟨_, hplate, rfl, rfl⟩, hload, h47, h48⟩
  have hstays (hends : ¬washEnds s x l r) : washTest p s = putPlate p (some (entered s (travelFrom l x) r)) s := by
    rw [washTest_one hr hl hx]
    exact if_neg hends
  have hout (h : ¬washStarts s x l ∨ r.washFigures ≠ none) : entered s (travelFrom l x) r = r := by
    refine if_neg fun ⟨_, hfigures, hstart⟩ => h.elim (fun g => g (Int.ofNat_le.mpr hstart)) fun g => g hfigures
  refine ⟨fun he hf hs hends => hleaves hends (if_pos ⟨he, hf, Int.ofNat_le.mp hs⟩), fun he hf hs hends => ?_, fun he h => ?_,
    fun e he => ?_⟩
  · rw [hstays hends]
    have hin : entered s (travelFrom l x) r = { r with entryLoad := some s.wash.load } := if_pos ⟨he, hf, Int.ofNat_le.mp hs⟩
    rw [hin]
    exact ⟨rfl, _, hput _, rfl, hf⟩
  · have hsame : washTest p s = s := by
      rw [washTest_one hr hl hx, hout h, putPlate_same hr, leaveWash_outside hr he, ite_self]
    rw [hsame]
    exact ⟨rfl, r, hr, he, rfl⟩
  · have hin : entered s (travelFrom l x) r = r := if_neg fun h => by rw [he] at h; exact nomatch h.1
    refine ⟨fun hends => hleaves hends (hin.trans (by rw [← he])), fun hends => ?_⟩
    rw [hstays hends, hin]
    exact ⟨rfl, r, hput r, he⟩

/-- The wash test of a sample with one plate on the belt and none queued (R116). -/
theorem sample_washes {ready : Bool} (hw : SampleState ready x s u w) (htrain : s.tracker.train = [p])
    (hr : plateOf s p = some r) (hl : r.headLatch = some l) (hqueue : s.admission.queue = [])
    (hnear : r.exitConfirmed = true ∨ travelFrom l x ≤ 5730000) (d : Nat) :
    (let t := openRuns d (handOn w)
     t.tracker.train = [p] ∧
     (r.entryLoad = none → r.washFigures = none → washStarts s x l → washEnds s x l r → leftWash s p r s.wash.load t) ∧
     (r.entryLoad = none → r.washFigures = none → washStarts s x l → ¬washEnds s x l r → t.wash = s.wash ∧
       ∃ q, plateOf t p = some q ∧ q.entryLoad = some s.wash.load ∧ q.washFigures = none) ∧
     (r.entryLoad = none → ¬washStarts s x l ∨ r.washFigures ≠ none → t.wash = s.wash ∧
       ∃ q, plateOf t p = some q ∧ q.entryLoad = none ∧ q.washFigures = r.washFigures) ∧
     (∀ e : Nat, r.entryLoad = some e → (washEnds s x l r → leftWash s p r e t) ∧
       (¬washEnds s x l r → t.wash = s.wash ∧ ∃ q, plateOf t p = some q ∧ q.entryLoad = some e))) := by
  obtain ⟨⟨transport, latched, attn, holdOff, hframe⟩, hpos, -⟩ := hw
  have hqueue' : (handed w).admission.queue = [] := by
    rw [handed_queue, hframe]
    exact hqueue
  have hr' : plateOf w p = some r := by
    rw [hframe]
    exact hr
  have htrain' : w.tracker.train = [p] := by
    rw [hframe]
    exact htrain
  obtain ⟨hold, armed, latched', attn', holdOff', transport', ht, -⟩ := handOn_none hqueue' d
  obtain ⟨c, hhanded, hc, hcx, hcwash, -⟩ := handed_tested htrain' hr' hl hpos hnear
  obtain ⟨dose, hdose, -, hzx, hzwash, -⟩ := closeTests_stations hc hl hcx
  have heffect := washTest_effect hdose hl hzx
  rw [← hhanded] at heffect
  have hwash : (closeTest p .main (closeTest p .back c)).wash = s.wash := by
    rw [hzwash, hcwash, hframe]
  have hadded : loadAdded (closeTest p .main (closeTest p .back c)) { r with dose := dose } = loadAdded s r :=
    loadAdded_of hwash rfl rfl rfl rfl rfl
  have hmissing : (handed w).tracker.train = [p] := by
    have hstays : missingTest w = w := (missingTest_head htrain' hr' hl hpos).trans (if_neg fun ⟨hopen, hfar⟩ =>
      hnear.elim (fun h => by rw [hopen] at h; exact nomatch h) fun h => by omega)
    rw [handed_after.1, hstays]
    exact htrain'
  unfold washStarts washEnds leftWash at heffect
  rw [hwash, hadded] at heffect
  rw [ht]
  exact ⟨hmissing, heffect⟩

end

/-- Settles O49. -/
theorem leavingTheWashAddsTheLoad : Obligations.LeavingTheWashAddsTheLoad := by
  unfold Obligations.LeavingTheWashAddsTheLoad
  refine ⟨fun p r s hr hvolume => ⟨loadAdded_bounds s r hvolume, fun h => leaveWash_outside hr h,
    fun e he => leaveWash_effect hr he⟩, fun p r l ready s htrain hr hl hqueue => ⟨fun hfaults hnear => ?_, fun a b hwait hgood hrun hnear => ?_⟩⟩
  · obtain ⟨w, d, hexec, hw⟩ := silentSample_hands ready hfaults
    rw [← travelFrom_eq] at hnear ⊢
    exact ⟨_, hexec, sample_washes hw htrain hr hl hqueue (hnear.imp id fun h => by omega) d⟩
  · obtain ⟨w, d, hexec, hw⟩ := goodSample_hands ready hwait hgood hrun
    rw [← travelFrom_eq] at hnear ⊢
    exact ⟨_, hexec, sample_washes hw htrain hr hl hqueue (hnear.imp id fun h => by omega) d⟩

end Sys2Proof.Machine

/-! PROOFS. A conversion of a bank: the irradiance, its regulation and its offset (R69 to R74, R79 to R82). -/

namespace Sys2Proof.Machine

section
variable {s t : State} {k : Bank} {b : BankUnit} {raw now e : Nat} {sv : Int}

/-! ## What a conversion changes -/

theorem creditTrain_eq (k : Bank) (credit : Nat) (s : State) :
    creditTrain k credit s = { s with tracker.plates := (creditTrain k credit s).tracker.plates } := by
  unfold creditTrain
  have hfold (l : List PlateId) (u : State) : l.foldl (fun t p => modPlate p (creditPlate t k credit) t) u =
      { u with tracker.plates := (l.foldl (fun t p => modPlate p (creditPlate t k credit) t) u).tracker.plates } := by
    induction l generalizing u with
    | nil => rfl
    | cons p l ih =>
      rw [List.foldl_cons, ih, modPlate_eq]
  exact hfold _ s

/-- The bank that a conversion leaves. -/
def convertedBank (now raw : Nat) (b : BankUnit) : BankUnit :=
  actOnSample now (sensorE b raw) (sensorS b raw) (takeSample now raw b)

/-- One of the three flags of a bank is newly set. -/
def newlyFlagged (b c : BankUnit) : Bool :=
  (c.limited && !b.limited) || (c.lampWeak && !b.lampWeak) || (c.drift && !b.drift)

/-- The plates of the train after the credit of a conversion (R95). -/
def creditedPlates (k : Bank) (raw : Nat) (s : State) : Vector (Option Plate) 48 :=
  (creditTrain k (sensorE (s.banks.get k) raw * sampleDt s.now (s.banks.get k))
    (putBank k (takeSample s.now raw (s.banks.get k)) s)).tracker.plates

/-- A conversion, by what it changes (R72). -/
theorem conversion_eq (k : Bank) (raw : Nat) (s : State) : ∃ attn holdOff, conversion k raw s = { s with
    tracker.plates := creditedPlates k raw s
    banks := (s.banks.put k (takeSample s.now raw (s.banks.get k))).put k (convertedBank s.now raw (s.banks.get k))
    bus.latched := s.bus.latched ||| bitIf (newlyFlagged (s.banks.get k) (convertedBank s.now raw (s.banks.get k))) 11
    bus.attn := attn, bus.holdOff := holdOff } := by
  have hcredit : creditTrain k (sensorE (s.banks.get k) raw * sampleDt s.now (s.banks.get k))
      (putBank k (takeSample s.now raw (s.banks.get k)) s) = { s with
        banks := s.banks.put k (takeSample s.now raw (s.banks.get k)), tracker.plates := creditedPlates k raw s } :=
    creditTrain_eq _ _ _
  have hbank : (s.banks.put k (takeSample s.now raw (s.banks.get k))).get k = takeSample s.now raw (s.banks.get k) :=
    (PerBank.get_put s.banks k k _).trans (if_pos rfl)
  unfold conversion putBankLatching
  dsimp only
  rw [hcredit]
  dsimp only
  rw [hbank]
  exact latchIf_eq (newlyFlagged (s.banks.get k) (convertedBank s.now raw (s.banks.get k))) .lamp _

/-! ## Irradiance and offset (R71, R73) -/

theorem clampInt_eq (hi : Nat) (x : Int) : (clampInt 0 hi x : Int) = max 0 (min (hi : Int) x) := by
  unfold clampInt
  split
  · omega
  · split <;> omega

theorem sensorC_eq (b : BankUnit) (raw : Nat) : sensorC b raw = if sensorS b raw < 0 then 0
    else min 16383 ((sensorS b raw).toNat * (2048 + b.gain) / 4096) := by
  unfold sensorC
  generalize sensorS b raw = sv
  generalize 2048 + b.gain = g
  have hclamp := clampInt_eq 16383 (Int.tdiv (sv * (g : Int)) 4096)
  split
  · next hneg =>
    have hprod : sv * (g : Int) ≤ 0 := Int.mul_nonpos_of_nonpos_of_nonneg (by omega) (by omega)
    have hdiv : Int.tdiv (sv * (g : Int)) 4096 ≤ 0 := by
      have hneg' := Int.neg_tdiv (a := sv * (g : Int)) (b := 4096)
      have hpos : 0 ≤ Int.tdiv (-(sv * (g : Int))) 4096 := Int.tdiv_nonneg (by omega) (by decide)
      omega
    omega
  · next hpos =>
    obtain ⟨n, rfl⟩ := Int.eq_ofNat_of_zero_le (Int.not_lt.mp hpos)
    have hdiv : Int.tdiv ((n : Int) * (g : Int)) 4096 = ((n * g / 4096 : Nat) : Int) := by
      rw [← Int.natCast_mul]
      rfl
    rw [hdiv] at hclamp
    rw [Int.toNat_natCast, hdiv]
    omega

theorem sensorE_eq (b : BankUnit) (raw : Nat) : sensorE b raw = min 10000
    ((if sensorS b raw < 0 then 0 else min 16383 ((sensorS b raw).toNat * (2048 + b.gain) / 4096)) * b.sensitivity / 1024) := by
  unfold sensorE
  rw [sensorC_eq]

theorem darkLong_iff (now : Nat) (b : BankUnit) :
    darkLong now b = true ↔ ∃ d : Nat, b.darkStart = some d ∧ 200 ≤ now - d := by
  unfold darkLong
  split
  · next h => simp [h]
  · next d h => simp [h]

/-- An offset stepped against the sign of a sample (R73, R74). -/
def steppedTo (sv : Int) (b c : BankUnit) : Prop :=
  (sv = 0 → c.offset = b.offset ∧ c.drift = b.drift) ∧
  (0 < sv → -1500 ≤ b.offset - 1 → b.offset ≤ 1500 → c.offset = b.offset - 1 ∧ c.drift = false) ∧
  (0 < sv → b.offset - 1 < -1500 → c.offset = b.offset ∧ c.drift = true) ∧
  (sv < 0 → b.offset + 1 ≤ 1499 → -1501 ≤ b.offset → c.offset = b.offset + 1 ∧ c.drift = false) ∧
  (sv < 0 → 1499 < b.offset + 1 → c.offset = b.offset ∧ c.drift = true)

/-- A tracking step changes the offset and SENSOR_DRIFT alone. -/
theorem trackOffset_steps (sv : Int) (b : BankUnit) : steppedTo sv b (trackOffset sv b) ∧
    ∃ o d, trackOffset sv b = { b with offset := o, drift := d } := by
  have hzero (h : sv = 0) : trackOffset sv b = b := if_pos h
  have hstuck (h : sv ≠ 0) (ho : b.offset + wantedStep sv < -1500 ∨ 1499 < b.offset + wantedStep sv) :
      trackOffset sv b = { b with drift := true } := by
    unfold trackOffset
    dsimp only
    rw [if_neg h, if_pos ho]
  have hmoves (h : sv ≠ 0) (ho : ¬(b.offset + wantedStep sv < -1500 ∨ 1499 < b.offset + wantedStep sv)) :
      trackOffset sv b = { b with offset := b.offset + wantedStep sv, drift := false } := by
    unfold trackOffset
    dsimp only
    rw [if_neg h, if_neg ho]
  have hdown (h : 0 < sv) : wantedStep sv = -1 := if_pos h
  have hup (h : sv < 0) : wantedStep sv = 1 := by
    unfold wantedStep
    rw [if_neg (by omega), if_pos h]
  refine ⟨⟨fun h => ?_, fun h h1 h2 => ?_, fun h h1 => ?_, fun h h1 h2 => ?_, fun h h1 => ?_⟩, ?_⟩
  · rw [hzero h]
    exact ⟨rfl, rfl⟩
  · rw [hmoves (by omega) (by rw [hdown h]; omega), hdown h]
    exact ⟨rfl, rfl⟩
  · rw [hstuck (by omega) (by rw [hdown h]; omega)]
    exact ⟨rfl, rfl⟩
  · rw [hmoves (by omega) (by rw [hup h]; omega), hup h]
    exact ⟨rfl, rfl⟩
  · rw [hstuck (by omega) (by rw [hup h]; omega)]
    exact ⟨rfl, rfl⟩
  · by_cases h : sv = 0
    · exact ⟨b.offset, b.drift, hzero h⟩
    · by_cases ho : b.offset + wantedStep sv < -1500 ∨ 1499 < b.offset + wantedStep sv
      · exact ⟨b.offset, true, hstuck h ho⟩
      · exact ⟨_, _, hmoves h ho⟩

/-! ## Regulation (R79 to R82) -/

/-- What a claimed bank's regulation does to its duty, its F and its two flags (R79 to R82). -/
theorem regulate_effect (now e : Nat) (b : BankUnit) :
    (let c := regulate now e b
     let err : Int := (b.setpoint.getD 0 : Int) - (e : Int)
     c.offset = b.offset ∧ c.drift = b.drift ∧ c.state = b.state ∧ c.lastE = b.lastE ∧ c.prevTime = b.prevTime ∧
     c.gaps = b.gaps ∧ c.claims = b.claims ∧ c.setpoint = b.setpoint ∧ c.onTime = b.onTime ∧ c.pwm = b.pwm ∧
     (c.duty : Int) = max 0 (min 1000 ((b.duty : Int) + Int.tdiv (err * (b.regGain : Int)) 256)) ∧
     (b.duty < 100 → c.full = b.full) ∧
     (100 ≤ b.duty → (c.full : Int) =
       max 0 (min 20000 ((b.full : Int) + Int.tdiv (((e * 1000 / b.duty : Nat) : Int) - (b.full : Int)) 16))) ∧
     (c.duty < 1000 → c.limited = false) ∧
     (c.duty = 1000 → (b.setpoint.getD 0 : Int) < 50 * err → c.limited = true) ∧
     (c.duty = 1000 → 50 * err ≤ (b.setpoint.getD 0 : Int) → c.limited = b.limited) ∧
     (c.full ≠ b.full → 100 * c.full < 80 * b.rated → c.lampWeak = true) ∧
     (c.full ≠ b.full → 85 * b.rated ≤ 100 * c.full → c.lampWeak = false)) := by
  generalize herr : (b.setpoint.getD 0 : Int) - (e : Int) = err
  generalize hd : regulatedDuty b.duty b.regGain err = d
  generalize hf : learnFull e b.duty b.full = f
  have hlearned : ∃ weak, (if f = b.full then b else evalLampWeak { b with full := f }) = { b with full := f, lampWeak := weak } ∧
      (f ≠ b.full → weak = lampWeakAfter f b.rated b.lampWeak) := by
    by_cases h : f = b.full
    · refine ⟨b.lampWeak, ?_, fun g => absurd h g⟩
      rw [if_pos h, h]
    · exact ⟨_, if_neg h, fun _ => rfl⟩
  obtain ⟨weak, hlearned, hweak⟩ := hlearned
  have hregulated : regulate now e b = { setDuty now d { b with full := f, lampWeak := weak } with
      limited := limitedAfter d (b.setpoint.getD 0) err b.limited } := by
    unfold regulate
    dsimp only
    rw [herr, hf, hd, hlearned]
  rw [hregulated]
  refine ⟨rfl, rfl, rfl, rfl, rfl, rfl, rfl, rfl, rfl, rfl, ?_, fun h => ?_, fun h => ?_, fun h => if_pos h, fun h g => ?_,
    fun h g => ?_, fun h g => (hweak h).trans (if_pos g), fun h g => (hweak h).trans ?_⟩
  · rw [← hd]
    exact clampInt_eq _ _
  · rw [← hf]
    exact if_neg (by omega)
  · rw [← hf]
    unfold learnFull
    rw [if_pos h]
    exact clampInt_eq _ _
  · have hduty : d = 1000 := h
    change limitedAfter d _ err b.limited = true
    unfold limitedAfter
    rw [if_neg (by omega), if_pos g]
  · have hduty : d = 1000 := h
    change limitedAfter d _ err b.limited = b.limited
    unfold limitedAfter
    rw [if_neg (by omega), if_neg (by omega)]
  · unfold lampWeakAfter
    have hfull : 85 * b.rated ≤ 100 * f := g
    rw [if_neg (by omega), if_pos hfull]

/-! ## The bank after a conversion, by its state (R72) -/

/-- The bank of a conversion outside CLAIMED: its offset may step, and it may begin to track (R69, R73). -/
theorem convertedBank_unclaimed (h : b.state ≠ .claimed) : ∃ st o d, convertedBank now raw b =
    { takeSample now raw b with state := st, offset := o, drift := d } := by
  obtain ⟨-, o, d, htrack⟩ := trackOffset_steps (sensorS b raw) (takeSample now raw b)
  obtain ⟨-, o', d', htrack'⟩ := trackOffset_steps (sensorS b raw) { takeSample now raw b with state := .tracking }
  unfold convertedBank actOnSample
  split
  · next hclaimed => exact absurd hclaimed h
  · split
    · exact ⟨_, _, _, htrack'⟩
    · exact ⟨_, _, _, rfl⟩
  · exact ⟨_, _, _, htrack⟩
  · split
    · exact ⟨_, _, _, htrack⟩
    · exact ⟨_, _, _, rfl⟩

theorem convertedBank_claimed (h : b.state = .claimed) :
    convertedBank now raw b = regulate now (sensorE b raw) (takeSample now raw b) := by
  have hstate : (takeSample now raw b).state = .claimed := h
  unfold convertedBank actOnSample
  rw [hstate]

/-- What every conversion measures, and what it leaves of its bank (R70, R71). -/
theorem convertedBank_fields :
    (let c := convertedBank now raw b
     c.lastE = sensorE b raw ∧ c.prevTime = now ∧
     c.gaps = (if 50 < now - b.prevTime then min 65535 (b.gaps + 1) else b.gaps) ∧
     c.claims = b.claims ∧ c.setpoint = b.setpoint ∧ c.onTime = b.onTime ∧ c.pwm = b.pwm) := by
  by_cases h : b.state = .claimed
  · rw [convertedBank_claimed h]
    obtain ⟨-, -, -, he, htime, hgaps, hclaims, hset, hon, hpwm, -⟩ := regulate_effect now (sensorE b raw) (takeSample now raw b)
    exact ⟨he, htime, hgaps, hclaims, hset, hon, hpwm⟩
  · obtain ⟨st, o, d, hconverted⟩ := convertedBank_unclaimed (now := now) (raw := raw) h
    rw [hconverted]
    exact ⟨rfl, rfl, rfl, rfl, rfl, rfl, rfl⟩

/-- A bank that tracks, or that is dark for 200 ms, steps its offset (R69, R73). -/
theorem convertedBank_tracks :
    (let c := convertedBank now raw b
     let stepped := steppedTo (sensorS b raw) b c
     (b.state = .tracking → c.state = .tracking ∧ stepped) ∧
     (b.state = .dark → darkLong now b = true → c.state = .tracking ∧ stepped) ∧
     (b.state = .dark → ¬darkLong now b = true → c.state = .dark ∧ c.offset = b.offset ∧ c.drift = b.drift) ∧
     (b.state = .forcedOff → darkLong now b = true → c.state = .forcedOff ∧ stepped) ∧
     (b.state = .forcedOff → ¬darkLong now b = true → c.state = .forcedOff ∧ c.offset = b.offset ∧ c.drift = b.drift)) := by
  have hsteps (x : BankUnit) := trackOffset_steps (sensorS b raw) x
  have hstate (x : BankUnit) : (trackOffset (sensorS b raw) x).state = x.state := by
    obtain ⟨-, o, d, htrack⟩ := hsteps x
    rw [htrack]
  have hact : convertedBank now raw b = actOnSample now (sensorE b raw) (sensorS b raw) (takeSample now raw b) := rfl
  have hlong : darkLong now (takeSample now raw b) = darkLong now b := rfl
  have hsame : (takeSample now raw b).state = b.state := rfl
  rw [hact]
  refine ⟨fun h => ?_, fun h g => ?_, fun h g => ?_, fun h g => ?_, fun h g => ?_⟩
  all_goals
    unfold actOnSample
    rw [hsame, h]
    dsimp only
  · exact ⟨(hstate _).trans h, (hsteps _).1⟩
  · rw [hlong, if_pos g]
    exact ⟨hstate _, (hsteps { takeSample now raw b with state := .tracking }).1⟩
  · rw [hlong, if_neg g]
    exact ⟨h, rfl, rfl⟩
  · rw [hlong, if_pos g]
    exact ⟨(hstate _).trans h, (hsteps _).1⟩
  · rw [hlong, if_neg g]
    exact ⟨h, rfl, rfl⟩

end

/-- Settles O44: a claimed bank is regulated, any other may track its offset. -/
theorem conversionMeasuresAndRegulates : Obligations.ConversionMeasuresAndRegulates := by
  unfold Obligations.ConversionMeasuresAndRegulates
  intro k raw s b sv e dark stepped
  obtain ⟨attn, holdOff, hconversion⟩ := conversion_eq k raw.toNat s
  refine ⟨conversion k raw.toNat s, rfl, ?_⟩
  rw [hconversion]
  have hbank : ((s.banks.put k (takeSample s.now raw.toNat b)).put k (convertedBank s.now raw.toNat b)).get k =
      convertedBank s.now raw.toNat b := (PerBank.get_put _ k k _).trans (if_pos rfl)
  have hothers (j : Bank) (hj : j ≠ k) : ((s.banks.put k (takeSample s.now raw.toNat b)).put k
      (convertedBank s.now raw.toNat b)).get j = s.banks.get j := by
    rw [PerBank.get_put, if_neg hj, PerBank.get_put, if_neg hj]
  have he : e = sensorE b raw.toNat := (sensorE_eq b raw.toNat).symm
  have hdark : darkLong s.now b = true ↔ dark := darkLong_iff s.now b
  obtain ⟨htracking, hdarkLong, hdarkShort, hforcedLong, hforcedShort⟩ := convertedBank_tracks (now := s.now) (raw := raw.toNat) (b := b)
  rw [hdark] at hdarkLong hdarkShort hforcedLong hforcedShort
  have hlamp (c : BankUnit) : s.bus.latched ||| bitIf (newlyFlagged b c) 11 =
      (if (c.limited = true ∧ b.limited = false) ∨ (c.lampWeak = true ∧ b.lampWeak = false) ∨
         (c.drift = true ∧ b.drift = false) then s.bus.latched ||| 0x0800 else s.bus.latched) := by
    have hflags : newlyFlagged b c = true ↔ (c.limited = true ∧ b.limited = false) ∨
        (c.lampWeak = true ∧ b.lampWeak = false) ∨ (c.drift = true ∧ b.drift = false) := by
      simp [newlyFlagged, or_assoc]
    by_cases h : newlyFlagged b c = true
    · rw [if_pos (hflags.mp h), h]
      rfl
    · rw [if_neg fun g => h (hflags.mpr g), Bool.eq_false_iff.mpr h]
      exact BitVec.or_zero
  dsimp only
  rw [hbank, he]
  obtain ⟨hlast, htime, hgaps, hclaims, hset, hon, hpwm⟩ := convertedBank_fields (now := s.now) (raw := raw.toNat) (b := b)
  refine ⟨hlast, htime, hgaps, hclaims, hset, hon, hpwm, fun hclaimed => ?_, fun hother => ?_, htracking, hdarkLong,
    hdarkShort, hforcedLong, hforcedShort, hlamp _, hothers, rfl⟩
  · rw [convertedBank_claimed hclaimed]
    obtain ⟨hoffset, hdrift, hstate, -, -, -, -, -, -, -, hrest⟩ :=
      regulate_effect s.now (sensorE b raw.toNat) (takeSample s.now raw.toNat b)
    exact ⟨hstate.trans hclaimed, hoffset, hdrift, hrest⟩
  · obtain ⟨st, o, d, hconverted⟩ := convertedBank_unclaimed (now := s.now) (raw := raw.toNat) hother
    rw [hconverted]
    exact ⟨rfl, rfl, rfl⟩

end Sys2Proof.Machine

/-! PROOFS. The dose that a conversion credits (R93, R95). -/

namespace Sys2Proof.Machine

section
variable {s t : State} {k : Bank} {p : PlateId} {r : Plate} {l credit : Nat}

theorem creditPlate_congr (hbanks : t.banks = s.banks) (hbelt : t.transport = s.transport) :
    creditPlate t k credit = creditPlate s k credit := by
  funext r
  unfold creditPlate headTravel beltPos
  rw [hbanks, hbelt]

/-- The credit of a train that holds a plate once (R95). -/
theorem plateOf_creditTrain (hnodup : s.tracker.train.Nodup) (hp : p ∈ s.tracker.train) (hr : plateOf s p = some r) :
    plateOf (creditTrain k credit s) p = some (creditPlate s k credit r) := by
  have hstep (q : PlateId) (u : State) : modPlate q (creditPlate u k credit) u = _ := modPlate_eq q (creditPlate u k credit) u
  have hfold (m : List PlateId) (hm : m.Nodup) (u : State) (hbanks : u.banks = s.banks) (hbelt : u.transport = s.transport) :
      plateOf (m.foldl (fun t q => modPlate q (creditPlate t k credit) t) u) p =
        if p ∈ m then (plateOf u p).map (creditPlate s k credit) else plateOf u p := by
    induction m generalizing u with
    | nil => rfl
    | cons q m ih =>
      obtain ⟨hout, hrest⟩ := List.nodup_cons.mp hm
      rw [List.foldl_cons, ih hrest _ (by rw [hstep]; exact hbanks) (by rw [hstep]; exact hbelt), plateOf_modPlate,
        creditPlate_congr hbanks hbelt]
      by_cases hq : p = q
      · rw [if_pos hq, if_neg (hq ▸ hout), if_pos (hq ▸ List.mem_cons_self), hq]
      · rw [if_neg hq]
        simp [hq]
  unfold creditTrain
  rw [hfold _ hnodup s rfl rfl, if_pos hp, hr]
  rfl

/-- What a credit adds to a strip (R93, R95). -/
theorem creditPlate_strips (hl : r.headLatch = some l) (hpos : beltPos s = pos) (k : Bank) (credit : Nat) :
    (let q := creditPlate s k credit r
     (∀ i : Fin 16, (q.dose.strips.get k)[i] =
       if stationOpen k r.dose = true ∧ inWindow (s.banks.get k) (stripTravel (travelFrom l pos) (lengthUm r) i.val) = true
       then min 4294967295 ((r.dose.strips.get k)[i] + credit) else (r.dose.strips.get k)[i]) ∧
     (∀ j : Bank, j ≠ k → q.dose.strips.get j = r.dose.strips.get j) ∧
     { q with dose.strips := r.dose.strips } = r) := by
  unfold creditPlate
  rw [headTravel_of hl hpos]
  dsimp only
  cases hopen : stationOpen k r.dose with
  | false =>
    rw [if_neg (by decide)]
    exact ⟨fun i => (if_neg fun h => nomatch h.1).symm, fun _ _ => rfl, rfl⟩
  | true =>
    rw [if_pos rfl]
    refine ⟨fun i => ?_, fun j hj => ?_, rfl⟩
    · dsimp only
      rw [PerBank.get_put, if_pos rfl]
      unfold creditStrips
      rw [Fin.getElem_fin, Vector.getElem_ofFn]
      cases inWindow (s.banks.get k) (stripTravel (travelFrom l pos) (lengthUm r) i.val) with
      | true =>
        rw [if_pos rfl, if_pos ⟨rfl, rfl⟩]
        rfl
      | false =>
        rw [if_neg (by decide), if_neg fun h => nomatch h.2]
    · dsimp only
      rw [PerBank.get_put, if_neg hj]

theorem inWindow_iff (b : BankUnit) (travel : Int) :
    inWindow b travel = true ↔ (b.w0 : Int) * 1000 ≤ travel ∧ travel < (b.w1 : Int) * 1000 := by
  unfold inWindow
  rw [Bool.and_eq_true, decide_eq_true_eq, decide_eq_true_eq]
  omega

theorem stationOpen_eq (k : Bank) (d : DoseRecord) : stationOpen k d = if k = .bk then d.back.isOpen else d.main.isOpen := by
  cases k <;> rfl

end

/-- Settles O45. -/
theorem conversionCreditsTheDose : Obligations.ConversionCreditsTheDose := by
  unfold Obligations.ConversionCreditsTheDose
  intro k raw p r l s hnodup hp hr hl b head len openStation
  obtain ⟨attn, holdOff, hconversion⟩ := conversion_eq k raw.toNat s
  have hbank : ((s.banks.put k (takeSample s.now raw.toNat b)).put k (convertedBank s.now raw.toNat b)).get k =
      convertedBank s.now raw.toNat b := (PerBank.get_put _ k k _).trans (if_pos rfl)
  have hlast : (convertedBank s.now raw.toNat b).lastE = sensorE b raw.toNat := convertedBank_fields.1
  have hplate : plateOf (conversion k raw.toNat s) p = some (creditPlate (putBank k (takeSample s.now raw.toNat b) s) k
      (sensorE b raw.toNat * sampleDt s.now b) r) := by
    rw [hconversion]
    exact plateOf_creditTrain (s := putBank k (takeSample s.now raw.toNat b) s) hnodup hp hr
  obtain ⟨hstrips, hothers, hrest⟩ := creditPlate_strips (s := putBank k (takeSample s.now raw.toNat b) s) hl rfl k
    (sensorE b raw.toNat * sampleDt s.now b)
  have hwindow : (putBank k (takeSample s.now raw.toNat b) s).banks.get k = takeSample s.now raw.toNat b :=
    (PerBank.get_put _ k k _).trans (if_pos rfl)
  have hE : ((conversion k raw.toNat s).banks.get k).lastE = sensorE b raw.toNat := by
    rw [hconversion]
    exact (congrArg BankUnit.lastE hbank).trans hlast
  have hdt : sampleDt s.now b = max 1 (min 50 (s.now - b.prevTime)) := clampNat_eq _ _ _ (by decide)
  rw [hwindow] at hstrips
  refine ⟨conversion k raw.toNat s, rfl, _, hplate, fun i => ⟨fun ⟨hopen, hlo, hhi⟩ => ?_, fun h => ?_⟩, hothers, hrest⟩
  · rw [hE, ← hdt]
    refine (hstrips i).trans (if_pos ⟨(stationOpen_eq k r.dose).trans hopen, (inWindow_iff _ _).mpr ⟨?_, ?_⟩⟩)
    · unfold stripTravel
      rw [travelFrom_eq]
      exact hlo
    · unfold stripTravel
      rw [travelFrom_eq]
      exact hhi
  · refine (hstrips i).trans (if_neg fun ⟨hopen, hin⟩ => ?_)
    obtain ⟨hlo, hhi⟩ := (inWindow_iff _ _).mp hin
    unfold stripTravel at hlo hhi
    rw [travelFrom_eq] at hlo hhi
    rcases h with h | h | h
    · rw [stationOpen_eq] at hopen
      exact nomatch hopen.symm.trans h
    · exact absurd hlo (Int.not_le.mpr h)
    · exact absurd hhi (Int.not_lt.mpr h)

end Sys2Proof.Machine

/-! PROOFS. The state right after a power-on reset (R19, R199). -/

namespace Sys2Proof.Machine

theorem ramRead_reset (a : Nat) : ramRead State.reset a =
    if a = 0x0021 then 500 else if a = 0x0022 then 4 else if a = 0x0023 then 5 else 0 := by
  unfold ramRead State.reset
  simp only [cellsRead]
  by_cases h1 : a = 0x0021
  · simp [h1]
  · by_cases h2 : a = 0x0022
    · simp [h2]
    · by_cases h3 : a = 0x0023
      · simp [h3]
      · simp [h1, h2, h3, Ne.symm h1, Ne.symm h2, Ne.symm h3]

theorem canonical_reset : canonical State.reset := ⟨by decide, by decide⟩

theorem banks_reset (k : Bank) : (State.reset.banks.get k).duty = 0 ∧ (State.reset.banks.get k).claims = [] ∧
    (State.reset.banks.get k).state = .dark ∧ (State.reset.banks.get k).full = 320 ∧
    (State.reset.banks.get k).onTime = 0 := by
  cases k <;> exact ⟨rfl, rfl, rfl, rfl, rfl⟩

theorem lineInv_reset : lineInv State.reset := by
  have hbank (b : BankUnit) (hstate : b.state = .dark) (hclaims : b.claims = []) (hduty : b.duty = 0) :
      bankFollows (bankForced State.reset) b := by
    have hforced : bankForced State.reset = false := by decide
    unfold bankFollows
    rw [hforced, hstate, hclaims, hduty]
    exact ⟨⟨nofun, nofun⟩, fun _ => ⟨nofun, fun h => absurd rfl h⟩, fun _ => rfl, by decide⟩
  exact ⟨fun _ => ⟨rfl, rfl, rfl⟩, ⟨hbank _ rfl rfl rfl, hbank _ rfl rfl rfl, hbank _ rfl rfl rfl⟩, ⟨nofun, nofun⟩⟩

theorem nodes_reset (n : Fin 15) : State.reset.link.nodes[n] = NodeRec.reset defaultAssign[n] := by
  revert n
  decide

theorem countInv_reset : countInv State.reset := by
  refine ⟨by decide, by decide, by decide, fun n => ?_⟩
  rw [nodes_reset]
  exact ⟨Nat.zero_le _, Nat.zero_le _, Nat.zero_le _⟩

theorem plateOf_reset (p : PlateId) : plateOf State.reset p = none := by
  revert p
  decide

theorem drawerSlot_reset (d : Fin 6) (m : Fin 4) : State.reset.drying.drawers[d].slots[m] = none := by
  revert d m
  decide

theorem placesInv_reset : placesInv State.reset := by
  have hwork : workPlates State.reset = [] := by decide
  have hdrawers : drawerPlates State.reset = [] := by decide
  unfold placesInv
  rw [hwork, hdrawers]
  refine ⟨List.nodup_nil, nofun, nofun, List.nodup_nil, nofun, fun d m p h => ?_, trivial⟩
  rw [drawerSlot_reset] at h
  exact nomatch h

/-- Settles O3. -/
theorem resetHoldsTheManualsValues : Obligations.ResetHoldsTheManualsValues := by
  unfold Obligations.ResetHoldsTheManualsValues
  have hnode (n : Fin 15) : (NodeRec.reset defaultAssign[n]).state = (if n.val < 10 then NodeState.unseen else .notScanned) := by
    revert n
    decide
  refine ⟨⟨rfl, rfl, rfl, rfl⟩, ⟨rfl, rfl, rfl, rfl, rfl, rfl, rfl, rfl⟩, ⟨rfl, rfl, plateOf_reset⟩,
    ⟨rfl, rfl, rfl, rfl, rfl, rfl⟩, banks_reset, ⟨rfl, rfl, rfl⟩, ⟨rfl, rfl, by decide, rfl, rfl, rfl⟩,
    ⟨rfl, rfl, fun n => ?_⟩, ⟨rfl, rfl, rfl, rfl, rfl, rfl, rfl, rfl, rfl⟩, ramRead_reset, ⟨rfl, rfl, rfl⟩,
    ⟨rfl, rfl, rfl, rfl, rfl⟩, canonical_reset, lineInv_reset, countInv_reset, placesInv_reset, rfl⟩
  rw [nodes_reset, hnode]
  exact ⟨rfl, rfl, rfl, rfl⟩

end Sys2Proof.Machine

/-! PROOFS. What a reset brings up: the live values, the link, the inputs, the wash (R129, R185, R201, R205). -/

namespace Sys2Proof.Machine

section
variable {s t u v : State}

/-! ## The live values of a reset (R204, R205) -/

/-- The item that a reset loads from a word (R205). -/
def resetItem (s : State) (a : Nat) : Word := if storeGood s then storeRead s a else itemDefault a

theorem resetItem_good (hmark : storeRead s 0 = 0x6D4B) (hitems : ∀ a ∈ itemWords, itemOk a (storeRead s a) = true) :
    storeGood s = true ∧ resetItem s = storeRead s := by
  have hgood : storeGood s = true := by
    unfold storeGood storeMarked allItemsOk
    rw [hmark, List.all_eq_true.mpr hitems]
    rfl
  exact ⟨hgood, funext fun a => if_pos hgood⟩

theorem resetItem_bad (h : storeRead s 0 ≠ 0x6D4B ∨ ∃ a ∈ itemWords, itemOk a (storeRead s a) = false) :
    storeGood s = false ∧ resetItem s = itemDefault := by
  have hbad : storeGood s = false := by
    unfold storeGood storeMarked allItemsOk
    rw [Bool.and_eq_false_iff]
    rcases h with h | ⟨a, ha, h⟩
    · exact .inl (by simpa using h)
    · exact .inr (List.all_eq_false.mpr ⟨a, ha, by simp [h]⟩)
  exact ⟨hbad, funext fun a => if_neg (by rw [hbad]; decide)⟩

/-- The live items of a bank, in the order of their words (R204). -/
def bankItems (b : BankUnit) : Nat × Nat × Nat × Int × Nat × Nat × Nat × Nat :=
  (b.w0, b.w1, b.gain, b.offset, b.sensitivity, b.regGain, b.rated, b.full)

/-- The live items of the other blocks (R204). -/
def otherItems (s : State) : (Nat × Nat × Nat) × (Nat × Nat × Nat × Nat × Nat × Nat × Nat) × Nat × Nat × Nat × Vector Station 15 :=
  ((s.claimLead, s.admission.smallGap, s.admission.largeGap),
    (s.wash.start, s.wash.stop, s.wash.volume, s.wash.replPortion, s.wash.regen, s.wash.hard, s.wash.slope),
    s.drying.setpoint, s.drying.band, s.link.lastNode, s.link.assign)

theorem liveValues_congr {item : Nat → Word} (h : liveValues item s)
    (hbanks : ∀ k : Bank, bankItems (t.banks.get k) = bankItems (s.banks.get k)) (hothers : otherItems t = otherItems s) :
    liveValues item t := by
  obtain ⟨hbank, hrest⟩ := h
  simp only [otherItems, Prod.mk.injEq] at hothers
  obtain ⟨⟨h1, h2, h3⟩, ⟨h4, h5, h6, h7, h8, h9, h10⟩, h11, h12, h13, h14⟩ := hothers
  refine ⟨fun x hx => ?_, ?_⟩
  · have hitems := hbanks x.1
    simp only [bankItems, Prod.mk.injEq] at hitems
    obtain ⟨e1, e2, e3, e4, e5, e6, e7, e8⟩ := hitems
    dsimp only
    rw [e1, e2, e3, e4, e5, e6, e7, e8]
    exact hbank x hx
  · rw [h1, h2, h3, h4, h5, h6, h7, h8, h9, h10, h11, h12, h13, h14]
    exact hrest

theorem signedOf_eq_toInt (w : Word) : signedOf w = w.toInt := by
  unfold signedOf
  rw [BitVec.toInt_eq_toNat_cond]
  split <;> split <;> omega

/-- The eight items of a bank from its first word on. -/
def itemsFrom (item : Nat → Word) (base : Nat) : Nat × Nat × Nat × Int × Nat × Nat × Nat × Nat :=
  ((item base).toNat, (item (base + 1)).toNat, (item (base + 2)).toNat, (item (base + 3)).toInt, (item (base + 4)).toNat,
    (item (base + 5)).toNat, (item (base + 6)).toNat, (item (base + 7)).toNat)

theorem bankItems_loaded (s : State) (base : Nat) (b : BankUnit) :
    bankItems (evalLampWeak (liveBank (resetItems s) base b)) = itemsFrom (resetItem s) base := by
  unfold itemsFrom
  rw [← signedOf_eq_toInt]
  rfl

theorem liveValues_loadAtReset (s : State) : liveValues (resetItem s) (loadAtReset s) := by
  refine ⟨fun x hx => ?_, rfl, rfl, rfl, rfl, rfl, rfl, rfl, rfl, rfl, rfl, rfl, rfl, rfl, fun n => ?_⟩
  · have hbank : bankItems ((loadAtReset s).banks.get x.1) = itemsFrom (resetItem s) x.2 := by
      fin_cases hx
      · exact bankItems_loaded s 1 _
      · exact bankItems_loaded s 9 _
      · exact bankItems_loaded s 17 _
    simpa only [bankItems, itemsFrom, Prod.mk.injEq] using hbank
  · unfold loadAtReset liveOthers
    simp only [Fin.getElem_fin, Vector.getElem_ofFn]
    rfl

/-! ## The inputs, the link and the wash (R129, R185, R201) -/

/-- A bank brought in line keeps its items. -/
theorem bankItems_syncBank (now : Nat) (forced : Bool) (b : BankUnit) : bankItems (syncBank now forced b) = bankItems b := by
  unfold syncBank
  split
  · split <;> rfl
  · split
    · unfold leaveForced
      split <;> rfl
    · rfl

theorem liveValues_takeInputs {item : Nat → Word} (h : liveValues item s) : liveValues item (takeInputs s) := by
  refine liveValues_congr h (fun k => ?_) (by simp [otherItems])
  have hbank (b : PerBank BankUnit) (f : BankUnit → BankUnit) : (b.mapAll f).get k = f (b.get k) := PerBank.get_mapAll f b k
  unfold takeInputs syncBanks mapBanks
  dsimp only
  rw [hbank]
  exact bankItems_syncBank _ _ _

theorem liveValues_startLink {item : Nat → Word} (h : liveValues item s) : liveValues item (startLink s) :=
  liveValues_congr h (fun k => by rw [show (startLink s).banks = s.banks from rfl]) (by simp [otherItems])

/-- No node has been heard at the start of the link (R185). -/
theorem isPresent_startLink (st : Station) (s : State) : isPresent (startLink s) st = false := by
  have hnode (n : Fin 15) : (startLink s).link.nodes[n].state ≠ .present := by
    unfold startLink
    simp only [Fin.getElem_fin, Vector.getElem_ofFn]
    unfold NodeRec.reset
    dsimp only
    split <;> decide
  refine decide_eq_false fun h => ?_
  unfold stationState at h
  split at h
  · exact nomatch h
  · exact hnode _ h

/-- The wash after a reset: no order can be issued yet (R129). -/
def washedWith (load : Nat) (w : Wash) : Wash := { w with
  load := load, hold := solventHoldAfter load w.hard false
  replenish := if w.regen ≤ load then .pending else .idle }

theorem startWash_eq (load : Nat) (h : isPresent s .wash = false) :
    startWash load s = { s with wash := washedWith load s.wash } := by
  have hcan (w : Wash) : canReplenish { s with wash := w } = false := by
    have hsame : isPresent { s with wash := w } .wash = isPresent s .wash := rfl
    unfold canReplenish
    rw [hsame, h]
    rfl
  unfold startWash openCycle washedWith
  by_cases hregen : s.wash.regen ≤ load
  · rw [if_pos ⟨rfl, hregen⟩, orderOrPend_absent (hcan _), if_pos hregen]
  · rw [if_neg fun h => hregen h.2, if_neg hregen]

/-- A state brought up, by its inputs, its link and its load. -/
theorem bringUp_eq (load : State → Nat) (s : State) :
    (let v := takeInputs (startLink (loadAtReset s))
     bringUp load s = { v with wash := washedWith (load v) v.wash }) := by
  refine startWash_eq _ ?_
  have hsame (x : State) : isPresent (takeInputs x) .wash = isPresent x .wash := by
    have hlink : (takeInputs x).link = x.link := by simp
    unfold isPresent stationState nodeOf
    rw [hlink]
  rw [hsame]
  exact isPresent_startLink _ _

/-- The live values after a reset (R204, R205). -/
theorem liveValues_bringUp (load : State → Nat) (s : State) : liveValues (resetItem s) (bringUp load s) := by
  rw [bringUp_eq]
  exact liveValues_congr (liveValues_takeInputs (liveValues_startLink (liveValues_loadAtReset s))) (fun _ => rfl) rfl

/-- What a reset takes and leaves, by parts (R199 to R205). -/
theorem bringUp_parts (load : State → Nat) (s : State) :
    (let t := bringUp load s
     t.bus = s.bus ∧ t.intake = s.intake ∧ t.supervisor = s.supervisor ∧ t.tracker = s.tracker ∧ t.shuttle = s.shuttle ∧
     t.chamber = s.chamber ∧ t.pins = s.pins ∧ t.drying.rack = s.drying.rack ∧
     t.admission.commitments = s.admission.commitments ∧ t.admission.queue = s.admission.queue ∧
     t.admission.mark = s.admission.mark ∧ t.safety.lineSafe = s.safety.lineSafe ∧
     t.cal.store = s.cal.store ∧ t.cal.state = (if storeGood s then .valid else .default) ∧
     t.wash.load = load (takeInputs (startLink (loadAtReset s))) ∧
     t.safety.estop = s.pins.estopAsserted ∧ t.safety.estopAtReset = s.pins.estopAsserted ∧
     t.safety.coverClosed = s.pins.coverClosed ∧
     t.pending = (if s.pins.estopAsserted then [.estopAssertedAtReset] else []) ++ s.pending) := by
  have hinputs (x : State) : (takeInputs x).safety.estop = x.pins.estopAsserted ∧
      (takeInputs x).safety.estopAtReset = x.pins.estopAsserted ∧ (takeInputs x).safety.coverClosed = x.pins.coverClosed ∧
      (takeInputs x).pending = (if x.pins.estopAsserted then [.estopAssertedAtReset] else []) ++ x.pending := by
    have hsync (y : State) : (syncBanks y).safety = y.safety ∧ (syncBanks y).pending = y.pending := by simp
    unfold takeInputs
    rw [(hsync _).1, (hsync _).2]
    refine ⟨rfl, rfl, rfl, ?_⟩
    dsimp only
    split <;> rfl
  obtain ⟨hestop, hmark, hcover, hpending⟩ := hinputs (startLink (loadAtReset s))
  have hpins : (startLink (loadAtReset s)).pins = s.pins := by simp
  have hwait : (startLink (loadAtReset s)).pending = s.pending := by simp
  rw [hpins] at hestop hmark hcover hpending
  rw [hwait] at hpending
  rw [bringUp_eq]
  refine ⟨by simp, by simp, by simp, by simp, by simp, by simp, by simp, by simp, by simp, by simp, by simp, by simp, by simp, ?_, rfl,
    hestop, hmark, hcover, hpending⟩
  have hcal : (takeInputs (startLink (loadAtReset s))).cal = (loadAtReset s).cal := by simp
  exact congrArg CalStore.state hcal

end

end Sys2Proof.Machine

/-! PROOFS. The obligation about the power-on reset (R199, R204, R205). -/

namespace Sys2Proof.Machine

/-- The reset state with the commands waiting, the free count and the store of another. -/
def resetKeeping (pending : List Instr) (count : Nat) (store : Cells) : State :=
  { State.reset with pending := pending, freeCount := count, cal.store := store }

section
variable {pending : List Instr} {count : Nat} {store : Cells} {s : State}

theorem assign_default : (Vector.ofFn fun n : Fin 15 => stationOfCode (itemDefault (38 + n.val)).toNat) = defaultAssign := by
  decide

theorem liveOthers_default : liveOthers (fun a => some (itemDefault a)) (resetKeeping pending count store) =
    resetKeeping pending count store := by
  have hassign : liveOthers (fun a => some (itemDefault a)) (resetKeeping pending count store) =
      { resetKeeping pending count store with
        link.assign := Vector.ofFn fun n : Fin 15 => stationOfCode (itemDefault (38 + n.val)).toNat } := rfl
  rw [hassign, assign_default]
  rfl

/-- With a store that is not good the load of a reset leaves the reset state. -/
theorem loadAtReset_default (h : storeGood (resetKeeping pending count store) = false) :
    loadAtReset (resetKeeping pending count store) = resetKeeping pending count store := by
  have htake : resetItems (resetKeeping pending count store) = fun a => some (itemDefault a) := by
    funext a
    unfold resetItems
    rw [h]
    rfl
  unfold loadAtReset
  rw [htake, h]
  dsimp only
  rw [liveOthers_default]
  rfl

theorem startLink_default : startLink (resetKeeping pending count store) = resetKeeping pending count store := by
  have hnodes : (Vector.ofFn fun n : Fin 15 => NodeRec.reset (assignedStation 10 defaultAssign n)) = defaultNodes := by
    decide
  have hvisited : (nextVisited (resetKeeping pending count store) 0).isSome = true := rfl
  have hstart : startLink (resetKeeping pending count store) = { resetKeeping pending count store with
      link.nodes := (Vector.ofFn fun n : Fin 15 => NodeRec.reset (assignedStation 10 defaultAssign n))
      link.phase := if (nextVisited { resetKeeping pending count store with
        link.nodes := (Vector.ofFn fun n : Fin 15 => NodeRec.reset (assignedStation 10 defaultAssign n)) } 0).isSome
        then .guard 0 else .between } := rfl
  rw [hstart, hnodes]
  exact congrArg (fun p : LinkPhase => { resetKeeping pending count store with link.phase := p }) (if_pos hvisited)

theorem takeInputs_default : takeInputs (resetKeeping pending count store) = resetKeeping pending count store := rfl

/-- A power-on reset with a store that is not good. -/
theorem powerOn_default (hrun : s.cal.running = none) (hpins : s.pins = State.reset.pins)
    (hstore : storeRead s 0 ≠ 0x6D4B ∨ ∃ a ∈ itemWords, itemOk a (storeRead s a) = false) :
    powerOn s = resetKeeping s.pending (s.freeCount + 1) s.cal.store := by
  have hcut : cutStore s = s := by
    unfold cutStore
    rw [hrun]
  have hbase : resetBase s = resetKeeping s.pending (s.freeCount + 1) s.cal.store := by
    unfold resetBase
    rw [hcut, hpins]
    rfl
  have hbad : storeGood (resetKeeping s.pending (s.freeCount + 1) s.cal.store) = false :=
    (resetItem_bad (s := resetKeeping s.pending (s.freeCount + 1) s.cal.store) hstore).1
  unfold powerOn
  rw [hbase, bringUp_eq, loadAtReset_default hbad, startLink_default, takeInputs_default]
  rfl

theorem liveValues_default : liveValues itemDefault State.reset := by
  refine ⟨fun x hx => ?_, rfl, rfl, rfl, rfl, rfl, rfl, rfl, rfl, rfl, rfl, rfl, rfl, rfl, by decide⟩
  fin_cases hx <;> exact ⟨rfl, rfl, rfl, rfl, rfl, rfl, rfl, rfl⟩

/-- A power-on reset that finds the store good (R205). -/
theorem powerOn_parts (hrun : s.cal.running = none) :
    (let t := powerOn s
     liveValues (resetItem s) t ∧ t.cal.state = (if storeGood s then .valid else .default) ∧ t.cal.store = s.cal.store ∧
     t.supervisor = State.reset.supervisor ∧ t.bus = State.reset.bus ∧ t.tracker = State.reset.tracker) := by
  have hcut : cutStore s = s := by
    unfold cutStore
    rw [hrun]
  have hstore : (resetBase s).cal.store = s.cal.store := by
    unfold resetBase
    rw [hcut]
  have hread : storeRead (resetBase s) = storeRead s := funext fun a => storeRead_congr hstore a
  have hgood : storeGood (resetBase s) = storeGood s := by
    unfold storeGood storeMarked allItemsOk
    rw [hread]
  have hitem : resetItem (resetBase s) = resetItem s := by
    funext a
    unfold resetItem
    rw [hgood, hread]
  obtain ⟨hbus, -, hline, htracker, -, -, -, -, -, -, -, -, hkept, hstate, -⟩ :=
    bringUp_parts (fun t => t.wash.hard) (resetBase s)
  have hlive := liveValues_bringUp (fun t => t.wash.hard) (resetBase s)
  rw [hitem] at hlive
  rw [hgood] at hstate
  exact ⟨hlive, hstate, hkept.trans hstore, hline, hbus, htracker⟩

/-- The solvent load of a power-on reset is the live hard limit (R129). -/
theorem powerOn_wash (s : State) : (powerOn s).wash.load = (powerOn s).wash.hard ∧ (powerOn s).wash.hold = true := by
  unfold powerOn
  rw [bringUp_eq]
  exact ⟨rfl, if_pos (Nat.le_refl _)⟩

end

/-- Settles O9. -/
theorem powerOnResetGivesTheResetState : Obligations.PowerOnResetGivesTheResetState := by
  unfold Obligations.PowerOnResetGivesTheResetState
  refine ⟨fun s hrun hpins hstore => congrArg Host.Outcome.next (powerOn_default hrun hpins hstore),
    ⟨by decide, liveValues_default, rfl, by decide, by decide⟩, fun s hrun hmark hitems => ⟨powerOn s, rfl, ?good⟩,
    fun s => ⟨powerOn s, rfl, ?_⟩⟩
  case good =>
    obtain ⟨hgood, hitem⟩ := resetItem_good hmark hitems
    obtain ⟨hlive, hstate, hstore, hline, hbus, htracker⟩ := powerOn_parts hrun
    obtain ⟨hload, hhold⟩ := powerOn_wash s
    rw [hitem] at hlive
    have hhard : (powerOn s).wash.hard = (storeRead s 33).toNat := by
      obtain ⟨-, -, -, -, -, -, -, -, -, h, -⟩ := hlive
      exact h
    exact ⟨hstate.trans (if_pos hgood), hstore, hlive, hload.trans hhard, hhold, congrArg Supervisor.line hline,
      congrArg Supervisor.lineTime hline, congrArg BusInterface.resetSource hbus, congrArg BusInterface.ram hbus, htracker⟩
  · obtain ⟨-, -, -, -, -, -, hpins, -, -, -, -, hsafe, -, -, -, hestop, hmark, hcover, hpending⟩ :=
      bringUp_parts (fun t => t.wash.hard) (resetBase s)
    exact ⟨hestop, hmark, hsafe, hpins, hcover, hpending⟩

end Sys2Proof.Machine

/-! PROOFS. The slots that a pin reset resolves (R20). -/

namespace Sys2Proof.Machine

section
variable {s t u : State} {i j : PlateId} {l : List PlateId}

/-! ## A slot completed as lost -/

theorem loseStation_words (i : PlateId) {a b v : Nat} (ha : a < 64) (hb : b < 64) (hv : v < 64) (hab : a ≠ b) (hav : a ≠ v)
    (hbv : b ≠ v) (s : State) :
    (let t := loseStation i a b v s
     (slotWord s i v = 0 → slotWord t i a = 0 ∧ slotWord t i b = 0 ∧ slotWord t i v = 6) ∧
     (slotWord s i v ≠ 0 → slotWord t i a = slotWord s i a ∧ slotWord t i b = slotWord s i b ∧ slotWord t i v = slotWord s i v) ∧
     (∀ o, o < 64 → o ≠ a → o ≠ b → o ≠ v → slotWord t i o = slotWord s i o)) := by
  unfold loseStation
  by_cases hopen : slotWord s i v = 0
  · rw [if_pos hopen]
    unfold putSlotNat
    refine ⟨fun _ => ⟨?_, ?_, slotWord_putSlot_here _ _ _ _ hv⟩, fun h => absurd hopen h, fun o ho h1 h2 h3 => ?_⟩
    · rw [slotWord_putSlot_else _ _ _ _ hv ha hav, slotWord_putSlot_else _ _ _ _ hb ha hab, slotWord_putSlot_here _ _ _ _ ha]
      rfl
    · rw [slotWord_putSlot_else _ _ _ _ hv hb hbv, slotWord_putSlot_here _ _ _ _ hb]
      rfl
    · rw [slotWord_putSlot_else _ _ _ _ hv ho h3, slotWord_putSlot_else _ _ _ _ hb ho h2,
        slotWord_putSlot_else _ _ _ _ ha ho h1]
  · rw [if_neg hopen]
    exact ⟨fun h => absurd h hopen, fun _ => ⟨rfl, rfl, rfl⟩, fun _ _ _ _ _ => rfl⟩

/-- The words of a station of a lost plate: INCOMPLETE with figures 0 if it had not closed (R20). -/
def StationLost (a b v : Nat) (s t : State) (i : PlateId) : Prop :=
  (slotWord s i v = 0 → slotWord t i a = 0 ∧ slotWord t i b = 0 ∧ slotWord t i v = 6) ∧
  (slotWord s i v ≠ 0 → slotWord t i a = slotWord s i a ∧ slotWord t i b = slotWord s i b ∧ slotWord t i v = slotWord s i v)

theorem StationLost.congr {a b v : Nat} (h : StationLost a b v s t i) (hs : ∀ o ∈ [a, b, v], slotWord s i o = slotWord u i o) :
    StationLost a b v u t i := by
  obtain ⟨ha, hb, hv⟩ : slotWord s i a = slotWord u i a ∧ slotWord s i b = slotWord u i b ∧ slotWord s i v = slotWord u i v :=
    ⟨hs a (by simp), hs b (by simp), hs v (by simp)⟩
  unfold StationLost at h ⊢
  rwa [ha, hb, hv] at h

theorem StationLost.then {a b v : Nat} (h : StationLost a b v s t i) (ht : ∀ o ∈ [a, b, v], slotWord u i o = slotWord t i o) :
    StationLost a b v s u i := by
  obtain ⟨ha, hb, hv⟩ : slotWord u i a = slotWord t i a ∧ slotWord u i b = slotWord t i b ∧ slotWord u i v = slotWord t i v :=
    ⟨ht a (by simp), ht b (by simp), ht v (by simp)⟩
  unfold StationLost at h ⊢
  rw [ha, hb, hv]
  exact h

/-- An ACTIVE slot completed as lost (R20). -/
def LostAt (s t : State) (i : PlateId) : Prop :=
  slotState t i = .done ∧ lastTaken t i = lastTaken s i ∧ slotWord t i 33 = 19 ∧ slotWord t i 35 = 9 ∧
    slotWord t i 56 = lowWord s.supervisor.lineTime ∧ slotWord t i 57 = highWord s.supervisor.lineTime ∧
    StationLost 40 41 44 s t i ∧ StationLost 42 43 45 s t i

theorem LostAt.congr (h : LostAt s t i) (hs : ∀ o : Fin 64, slotWord s i o.val = slotWord u i o.val)
    (htime : s.supervisor.lineTime = u.supervisor.lineTime) : LostAt u t i := by
  obtain ⟨hstate, hlast, hreason, hstage, hlow, hhigh, hback, hmain⟩ := h
  rw [htime] at hlow hhigh
  refine ⟨hstate, hlast.trans (lastTaken_of_word (hs ⟨32, by decide⟩)), hreason, hstage, hlow, hhigh, hback.congr fun o ho => ?_,
    hmain.congr fun o ho => ?_⟩
  · fin_cases ho
    · exact hs 40
    · exact hs 41
    · exact hs 44
  · fin_cases ho
    · exact hs 42
    · exact hs 43
    · exact hs 45

theorem LostAt.then (h : LostAt s t i) (ht : ∀ o : Fin 64, slotWord u i o.val = slotWord t i o.val) : LostAt s u i := by
  obtain ⟨hstate, hlast, hreason, hstage, hlow, hhigh, hback, hmain⟩ := h
  refine ⟨(slotState_of_word (ht ⟨32, by decide⟩)).trans hstate, (lastTaken_of_word (ht ⟨32, by decide⟩)).trans hlast,
    (ht 33).trans hreason, (ht 35).trans hstage, (ht 56).trans hlow, (ht 57).trans hhigh, hback.then fun o ho => ?_,
    hmain.then fun o ho => ?_⟩
  · fin_cases ho
    · exact ht 40
    · exact ht 41
    · exact ht 44
  · fin_cases ho
    · exact ht 42
    · exact ht 43
    · exact ht 45

/-- What the two stations of a lost plate leave. -/
def lostStations (i : PlateId) (s : State) : State :=
  loseStation i oMainMin oMainMax oMainVerdict (loseStation i oBackMin oBackMax oBackVerdict s)

theorem lostStations_words (i : PlateId) (s : State) :
    StationLost 40 41 44 s (lostStations i s) i ∧ StationLost 42 43 45 s (lostStations i s) i ∧
    (∀ o, o < 64 → o ∉ [40, 41, 42, 43, 44, 45] → slotWord (lostStations i s) i o = slotWord s i o) := by
  obtain ⟨hb0, hb1, hb2⟩ := loseStation_words i (a := 40) (b := 41) (v := 44) (by decide) (by decide) (by decide) (by decide)
    (by decide) (by decide) s
  obtain ⟨hm0, hm1, hm2⟩ := loseStation_words i (a := 42) (b := 43) (v := 45) (by decide) (by decide) (by decide) (by decide)
    (by decide) (by decide) (loseStation i 40 41 44 s)
  have hback : StationLost 40 41 44 s (loseStation i 40 41 44 s) i := ⟨hb0, hb1⟩
  have hmain : StationLost 42 43 45 (loseStation i 40 41 44 s) (lostStations i s) i := ⟨hm0, hm1⟩
  refine ⟨hback.then fun o ho => ?_, hmain.congr fun o ho => ?_, fun o ho hout => ?_⟩
  · fin_cases ho <;> exact hm2 _ (by decide) (by decide) (by decide) (by decide)
  · fin_cases ho <;> exact hb2 _ (by decide) (by decide) (by decide) (by decide)
  · simp only [List.mem_cons, List.not_mem_nil, or_false, not_or] at hout
    exact (hm2 o ho (by omega) (by omega) (by omega)).trans (hb2 o ho (by omega) (by omega) (by omega))

/-- The words of an ended slot written over the stations. -/
theorem loseSlot_eq (i : PlateId) (s : State) : loseSlot i s = setSlotState i .done (putSlot i 33 19
    (putSlot i 57 (highWord s.supervisor.lineTime) (putSlot i 56 (lowWord s.supervisor.lineTime)
      (putSlot i 35 9 (lostStations i s))))) := rfl

theorem lostAt_loseSlot (i : PlateId) (s : State) : LostAt s (loseSlot i s) i := by
  obtain ⟨hback, hmain, hwords⟩ := lostStations_words i s
  generalize hu : putSlot i 33 19 (putSlot i 57 (highWord s.supervisor.lineTime) (putSlot i 56 (lowWord s.supervisor.lineTime)
      (putSlot i 35 9 (lostStations i s)))) = u
  have hkept (o : Nat) (ho : o < 64) (h : o ∉ [33, 35, 56, 57]) : slotWord u i o = slotWord (lostStations i s) i o := by
    simp only [List.mem_cons, List.not_mem_nil, or_false, not_or] at h
    rw [← hu, slotWord_putSlot_else _ _ _ _ (by decide) ho (by omega), slotWord_putSlot_else _ _ _ _ (by decide) ho (by omega),
      slotWord_putSlot_else _ _ _ _ (by decide) ho (by omega), slotWord_putSlot_else _ _ _ _ (by decide) ho (by omega)]
  have hset (o : Nat) (ho : o < 64) (h32 : o ≠ 32) : slotWord (loseSlot i s) i o = slotWord u i o := by
    rw [loseSlot_eq, hu]
    exact slotWord_setSlotState_else _ _ _ ho h32
  have hlast : lastTaken u i = lastTaken s i :=
    lastTaken_of_word ((hkept 32 (by decide) (by decide)).trans (hwords 32 (by decide) (by decide)))
  have hdone : slotState (loseSlot i s) i = .done ∧ lastTaken (loseSlot i s) i = lastTaken u i := by
    rw [loseSlot_eq, hu]
    exact ⟨(slotState_setSlotState _ _ _ _).trans (if_pos rfl), lastTaken_setSlotState _ _ _ _⟩
  refine ⟨hdone.1, hdone.2.trans hlast, (hset 33 (by decide) (by decide)).trans ?_, (hset 35 (by decide) (by decide)).trans ?_,
    (hset 56 (by decide) (by decide)).trans ?_, (hset 57 (by decide) (by decide)).trans ?_, hback.then fun o ho => ?_,
    hmain.then fun o ho => ?_⟩
  · rw [← hu, slotWord_putSlot_here _ _ _ _ (by decide)]
  · rw [← hu, slotWord_putSlot_else _ _ _ _ (by decide) (by decide) (by decide),
      slotWord_putSlot_else _ _ _ _ (by decide) (by decide) (by decide),
      slotWord_putSlot_else _ _ _ _ (by decide) (by decide) (by decide), slotWord_putSlot_here _ _ _ _ (by decide)]
  · rw [← hu, slotWord_putSlot_else _ _ _ _ (by decide) (by decide) (by decide),
      slotWord_putSlot_else _ _ _ _ (by decide) (by decide) (by decide), slotWord_putSlot_here _ _ _ _ (by decide)]
  · rw [← hu, slotWord_putSlot_else _ _ _ _ (by decide) (by decide) (by decide), slotWord_putSlot_here _ _ _ _ (by decide)]
  · fin_cases ho <;> exact (hset _ (by decide) (by decide)).trans (hkept _ (by decide) (by decide))
  · fin_cases ho <;> exact (hset _ (by decide) (by decide)).trans (hkept _ (by decide) (by decide))

theorem othersStand_loseStation {a b v : Nat} (ha : a < 64) (hb : b < 64) (hv : v < 64) (hi : i ∈ l)
    (h : OthersStand l s t) : OthersStand l s (loseStation i a b v t) := by
  unfold loseStation
  split
  · exact othersStand_putSlot hi hv (othersStand_putSlot hi hb (othersStand_putSlot hi ha h))
  · exact h

theorem othersStand_loseSlot (hi : i ∈ l) : OthersStand l s (loseSlot i s) := by
  rw [loseSlot_eq]
  refine othersStand_setSlotState hi ?_
  refine othersStand_putSlot hi (by decide) (othersStand_putSlot hi (by decide) (othersStand_putSlot hi (by decide)
    (othersStand_putSlot hi (by decide) ?_)))
  exact othersStand_loseStation (by decide) (by decide) (by decide) hi
    (othersStand_loseStation (by decide) (by decide) (by decide) hi .refl)

theorem loseSlot_frameRam (i : PlateId) (s : State) : ∃ ram, loseSlot i s = { s with bus.ram := ram } := by
  have hstation (a b v : Nat) (u : State) : ∃ ram, loseStation i a b v u = { u with bus.ram := ram } := by
    unfold loseStation
    split
    · exact ⟨_, rfl⟩
    · exact ⟨_, rfl⟩
  obtain ⟨r1, h1⟩ := hstation oBackMin oBackMax oBackVerdict s
  obtain ⟨r2, h2⟩ := hstation oMainMin oMainMax oMainVerdict (loseStation i oBackMin oBackMax oBackVerdict s)
  have hlost : lostStations i s = { s with bus.ram := r2 } := h2.trans (by rw [h1])
  rw [loseSlot_eq, hlost]
  exact ⟨_, rfl⟩

/-- Slots completed as lost one after another. -/
theorem lose_foldl (hnodup : l.Nodup) (s : State) :
    (let t := l.foldl (fun u i => loseSlot i u) s
     (∀ i ∈ l, LostAt s t i) ∧ OthersStand l s t ∧ ∃ ram, t = { s with bus.ram := ram }) := by
  induction l generalizing s with
  | nil => exact ⟨by simp, .refl, _, rfl⟩
  | cons j rest ih =>
    obtain ⟨hout, hrest⟩ := List.nodup_cons.mp hnodup
    obtain ⟨hlost, hstands, ram, hframe⟩ := ih hrest (loseSlot j s)
    obtain ⟨ram', hfirst⟩ := loseSlot_frameRam j s
    have hothers : OthersStand [j] s (loseSlot j s) := othersStand_loseSlot (by simp)
    refine ⟨fun i hi => ?_, (hothers.mono (by simp)).trans (hstands.mono fun q hq => List.mem_cons_of_mem _ hq), ram, ?_⟩
    · rcases List.mem_cons.mp hi with rfl | hi'
      · exact (lostAt_loseSlot i s).then (hstands i hout).2
      · have hne : i ∉ [j] := by simpa using fun e : i = j => hout (e ▸ hi')
        exact (hlost i hi').congr (hothers i hne).2 (by rw [hfirst])
    · rw [List.foldl_cons, hframe, hfirst]

/-! ## All slots (R20) -/

theorem latch_masked (c : Attn) (h : s.bus.mask = 0) :
    latch c s = { s with bus.latched := s.bus.latched ||| bitIf true (attnBit c) } := by
  unfold latch driveAttn
  dsimp only
  rw [h]
  simp

theorem latchIf_masked (b : Bool) (c : Attn) (h : s.bus.mask = 0) :
    latchIf b c s = { s with bus.latched := s.bus.latched ||| bitIf b (attnBit c) } := by
  unfold latchIf
  cases b with
  | true => exact latch_masked c h
  | false =>
    have hzero : bitIf false (attnBit c) = 0#16 := rfl
    rw [hzero, BitVec.or_zero]
    rfl

/-- The slots in a state. -/
def slotsIn (st : SlotState) (s : State) : List PlateId := plateIds.filter fun i => slotState s i == st

theorem mem_slotsIn {st : SlotState} : i ∈ slotsIn st s ↔ slotState s i = st := by
  simp [slotsIn, mem_plateIds]

theorem slotsIn_nodup (st : SlotState) (s : State) : (slotsIn st s).Nodup := List.Nodup.filter _ (by decide)

theorem resolveQueued_foldl_absent (hnone : ∀ p, plateOf s p = none) (why : Reason) (l : List PlateId) :
    ∃ ram, l.foldl (fun t i => resolveQueued i why t) s = { s with bus.ram := ram } := by
  obtain ⟨-, -, hframe⟩ := resolve_foldl why l s
  have hplates : (l.foldl (fun t i => resolveQueued i why t) s).tracker.plates = s.tracker.plates := by
    have hone (i : PlateId) (u : State) (hu : u.tracker.plates = s.tracker.plates) :
        (resolveQueued i why u).tracker.plates = s.tracker.plates := by
      have hmod : modPlate i (fun r => { r with stage := .ended }) u = u := by
        have hi : plateOf u i = none := by
          rw [← hnone i]
          exact congrArg (fun v : Vector (Option Plate) 48 => v[i]) hu
        unfold modPlate
        rw [hi]
      unfold resolveQueued
      rw [hmod]
      exact hu
    exact List.foldlRecOn (motive := fun u => u.tracker.plates = s.tracker.plates) l _ rfl fun u hu i _ => hone i u hu
  dsimp only at hframe
  rw [hplates] at hframe
  exact ⟨_, hframe⟩

/-- The slots that a reset resolves, with no cause enabled and no plate there (R20). -/
theorem resolveSlots_effect (hmask : s.bus.mask = 0) (hnone : ∀ p, plateOf s p = none) :
    (let t := resolveSlots s
     (∀ i, slotState s i = .queued → slotState t i = .refused ∧ lastTaken t i = lastTaken s i ∧
       slotWord t i 33 = 9 ∧ slotWord t i 34 = 0 ∧ slotWord t i 35 = 9) ∧
     (∀ i, slotState s i = .active → LostAt s t i) ∧
     (∀ i, slotState s i ≠ .queued → slotState s i ≠ .active → ∀ o : Fin 64, slotWord t i o.val = slotWord s i o.val) ∧
     ∃ ram, t = { s with
       bus.ram := ram
       bus.latched := s.bus.latched ||| bitIf (!(slotsIn .queued s).isEmpty) 8 ||| bitIf (!(slotsIn .active s).isEmpty) 8 }) := by
  obtain ⟨hqueued, hothers, -⟩ := resolve_foldl .partReset (slotsIn .queued s) s
  obtain ⟨ram, hfold⟩ := resolveQueued_foldl_absent hnone .partReset (slotsIn .queued s)
  have hfirst : resolveQueuedSlots .partReset s = latchIf (!(slotsIn .queued s).isEmpty) .slot
      ((slotsIn .queued s).foldl (fun t i => resolveQueued i .partReset t) s) := rfl
  rw [hfold] at hqueued hothers hfirst
  rw [latchIf_masked (s := { s with bus.ram := ram }) _ _ hmask] at hfirst
  obtain ⟨hlost, hstand, ram', hlose⟩ := lose_foldl (slotsIn_nodup .active s) (resolveQueuedSlots .partReset s)
  have hresolve : resolveSlots s = latchIf (!(slotsIn .active s).isEmpty) .slot
      ((slotsIn .active s).foldl (fun u i => loseSlot i u) (resolveQueuedSlots .partReset s)) := rfl
  dsimp only at hlost hstand hlose
  rw [hlose] at hlost hstand hresolve
  rw [hfirst] at hlost hstand hresolve
  rw [latchIf_masked _ _ (by exact hmask)] at hresolve
  rw [hresolve]
  refine ⟨fun i hi => ?_, fun i hi => ?_, fun i hq ha o => ?_, ram', rfl⟩
  · have hout : i ∉ slotsIn .active s := by rw [mem_slotsIn, hi]; decide
    obtain ⟨hstate, hlast, h33, h34, h35, -⟩ := hqueued i (mem_slotsIn.mpr hi)
    obtain ⟨-, hwords⟩ := hstand i hout
    exact ⟨(slotState_of_word (hwords 32)).trans hstate, (lastTaken_of_word (hwords 32)).trans hlast,
      (hwords 33).trans h33, (hwords 34).trans h34, (hwords 35).trans h35⟩
  · have hout : i ∉ slotsIn .queued s := by rw [mem_slotsIn, hi]; decide
    exact (hlost i (mem_slotsIn.mpr hi)).congr (hothers i hout).2 rfl
  · have hout : i ∉ slotsIn .queued s := fun h => hq (mem_slotsIn.mp h)
    have hout' : i ∉ slotsIn .active s := fun h => ha (mem_slotsIn.mp h)
    exact ((hstand i hout').2 o).trans ((hothers i hout).2 o)

end

end Sys2Proof.Machine

/-! PROOFS. The obligation about the pin reset (R20, R200). -/

namespace Sys2Proof.Machine

section
variable {s : State}

theorem plateOf_pinBase (p : PlateId) (s : State) : plateOf (pinBase s) p = none := plateOf_reset p

theorem pinBase_mask (s : State) : (pinBase s).bus.mask = 0 := rfl

/-- The words of the RAM that are no report words stand (R20). -/
theorem ramRead_resolveSlots (a : Nat) (ha : inTickets a = true → slotOffset a < 32) :
    ramRead (resolveSlots s) a = ramRead s a := (partRun_resolveSlots .refl).read a ha

/-- The state that a pin reset brings up: its slots are resolved (R20). -/
theorem pinBase_resolved (s : State) : ∃ ram, resolveSlots (pinBase s) = { pinBase s with
    bus.ram := ram
    bus.latched := bitIf (!(slotsIn .queued s).isEmpty) 8 ||| bitIf (!(slotsIn .active s).isEmpty) 8 } := by
  obtain ⟨-, -, -, ram, hresolved⟩ := resolveSlots_effect (pinBase_mask s) fun p => plateOf_pinBase p s
  have hzero : (pinBase s).bus.latched = 0#16 := rfl
  rw [hzero, BitVec.zero_or] at hresolved
  exact ⟨ram, hresolved⟩

theorem slot_latched (a b : Bool) : bitIf a 8 ||| bitIf b 8 = if a || b then 0x0100 else 0 := by
  cases a <;> cases b <;> rfl

/-- A pin reset with no operation running loads the live values of the store, or the defaults (R205). -/
theorem pinReset_live (hrun : s.cal.running = none) :
    liveValues (resetItem s) (pinReset s) ∧ (pinReset s).cal.state = (if storeGood s then .valid else .default) ∧
    (pinReset s).cal.store = s.cal.store := by
  obtain ⟨ram, hresolved⟩ := pinBase_resolved s
  have hcut : cutStore s = s := by
    unfold cutStore
    rw [hrun]
  have hbase : (pinBase s).cal.store = (cutStore s).cal.store := rfl
  have hstore : (resolveSlots (pinBase s)).cal.store = s.cal.store := by
    rw [hresolved]
    rw [hcut] at hbase
    exact hbase
  have hread : storeRead (resolveSlots (pinBase s)) = storeRead s := funext fun a => storeRead_congr hstore a
  have hgood : storeGood (resolveSlots (pinBase s)) = storeGood s := by
    unfold storeGood storeMarked allItemsOk
    rw [hread]
  have hitem : resetItem (resolveSlots (pinBase s)) = resetItem s := by
    funext a
    unfold resetItem
    rw [hgood, hread]
  have hlive := liveValues_bringUp (fun _ => s.wash.load) (resolveSlots (pinBase s))
  obtain ⟨-, -, -, -, -, -, -, -, -, -, -, -, hkept, hstate, -⟩ := bringUp_parts (fun _ => s.wash.load) (resolveSlots (pinBase s))
  rw [hitem] at hlive
  rw [hgood] at hstate
  exact ⟨hlive, hstate, hkept.trans hstore⟩

/-- What the slots resolved leave of the reset: the header's settings and the line time. -/
theorem resolved_parts (s : State) :
    (let v := resolveSlots (pinBase s)
     (v.bus.interval = (ramRead s 0x0021).toNat ∧ v.bus.hbTimeout = (ramRead s 0x0023).toNat ∧
       v.bus.hbTimer = (if (ramRead s 0x0023).toNat = 0 then none else some (0 + (ramRead s 0x0023).toNat * 1000)) ∧
       v.bus.resetSource = .resetPin ∧ v.bus.capture = none ∧ v.bus.hold = none ∧ v.bus.mask = 0 ∧ v.bus.attn = false ∧
       v.bus.protect = 0 ∧ v.bus.holdOff = none) ∧
     v.intake.lastSeen = ramRead s 0x0020 ∧ v.intake.order = 0 ∧
     v.supervisor = { State.reset.supervisor with lineTime := s.supervisor.lineTime } ∧
     v.tracker = State.reset.tracker ∧ v.shuttle = State.reset.shuttle ∧ v.chamber = State.reset.chamber ∧ v.pins = s.pins ∧
     v.drying = State.reset.drying ∧ v.admission.commitments = 0 ∧ v.admission.queue = [] ∧
     v.admission.mark = (ramRead s 0x0022).toNat ∧ v.safety.lineSafe = false ∧ v.pending = s.pending) := by
  obtain ⟨ram, hresolved⟩ := pinBase_resolved s
  rw [hresolved]
  exact ⟨⟨rfl, rfl, rfl, rfl, rfl, rfl, rfl, rfl, rfl, rfl⟩, rfl, rfl, rfl, rfl, rfl, rfl, rfl, rfl, rfl, rfl, rfl, rfl, rfl⟩

theorem hbTimer_eq (w : Word) : (if w.toNat = 0 then none else some (0 + w.toNat * 1000)) =
    if w = 0 then none else some (w.toNat * 1000) := by
  have hzero : w.toNat = 0 ↔ w = 0 := ⟨fun h => BitVec.eq_of_toNat_eq h, fun h => by rw [h]; rfl⟩
  simp only [hzero, Nat.zero_add]

end

/-- Settles O10: `resolveSlots` writes report words alone, and `bringUp` leaves the bus. -/
theorem pinResetKeepsTheMemoryAndResolvesTheSlots : Obligations.PinResetKeepsTheMemoryAndResolvesTheSlots := by
  unfold Obligations.PinResetKeepsTheMemoryAndResolvesTheSlots
  refine ⟨fun s hrun => ⟨pinReset s, rfl, ?kept⟩, fun s => ⟨pinReset s, rfl, ?slots⟩⟩
  case kept =>
    obtain ⟨hlive, hcal, hstore⟩ := pinReset_live hrun
    obtain ⟨hbus, hintake, hline, htracker, hshuttle, hchamber, hpins, hrack, hcommitments, hqueue, hmark, hsafe, -, -, hload,
      -, hestop, -, hpending⟩ := bringUp_parts (fun _ => s.wash.load) (resolveSlots (pinBase s))
    obtain ⟨⟨vinterval, vtimeout, vtimer, vsource, vcapture, vhold, vmask, vattn, vprotect, vholdOff⟩, vseen, vorder, vline,
      vtracker, vshuttle, vchamber, vpins, vdrying, vcommitments, vqueue, vmark, vsafe, vpending⟩ := resolved_parts s
    have hread (a : Nat) (ha : inTickets a = true → slotOffset a < 32) : ramRead (pinReset s) a = ramRead s a :=
      (ramRead_congr (congrArg BusInterface.ram hbus) a).trans (ramRead_resolveSlots a ha)
    have htime : (pinReset s).supervisor.lineTime = s.supervisor.lineTime :=
      (congrArg Supervisor.lineTime hline).trans (by rw [vline])
    rw [vpins] at hestop hpending
    rw [vpending] at hpending
    refine ⟨hread, (congrArg BusInterface.interval hbus).trans vinterval, hmark.trans vmark,
      (congrArg BusInterface.hbTimeout hbus).trans vtimeout,
      (congrArg BusInterface.hbTimer hbus).trans (vtimer.trans (hbTimer_eq _)), (congrArg Intake.lastSeen hintake).trans vseen,
      htime, hload, hstore, fun ⟨hmarked, hitems⟩ => ?_, fun hbad => ?_,
      (congrArg BusInterface.resetSource hbus).trans vsource, (congrArg BusInterface.capture hbus).trans vcapture,
      (congrArg BusInterface.hold hbus).trans vhold, (congrArg BusInterface.mask hbus).trans vmask,
      (congrArg BusInterface.attn hbus).trans vattn, (congrArg BusInterface.protect hbus).trans vprotect,
      (congrArg BusInterface.holdOff hbus).trans vholdOff, congrArg Supervisor.line (hline.trans vline),
      congrArg Supervisor.cause (hline.trans vline), hcommitments.trans vcommitments, hqueue.trans vqueue, htracker.trans vtracker,
      (congrArg Intake.order hintake).trans vorder, hrack.trans (congrArg Drying.rack vdrying), hshuttle.trans vshuttle,
      hchamber.trans vchamber, hpending, hestop, hsafe.trans vsafe, hpins.trans vpins⟩
    · obtain ⟨hgood, hitem⟩ := resetItem_good hmarked hitems
      exact ⟨hcal.trans (if_pos hgood), hitem ▸ hlive⟩
    · obtain ⟨hgood, hitem⟩ := resetItem_bad hbad
      exact ⟨hcal.trans (if_neg (by rw [hgood]; decide)), hitem ▸ hlive⟩
  case slots =>
    obtain ⟨hqueued, hactive, hother, ram, hresolved⟩ := resolveSlots_effect (pinBase_mask s) fun p => plateOf_pinBase p s
    obtain ⟨hbus, -⟩ := bringUp_parts (fun _ => s.wash.load) (resolveSlots (pinBase s))
    have hword (i : PlateId) (o : Nat) : slotWord (pinReset s) i o = slotWord (resolveSlots (pinBase s)) i o :=
      slotWord_congr (congrArg BusInterface.ram hbus) i o
    have hlatched : (pinReset s).bus.latched =
        if !(slotsIn .queued s).isEmpty || !(slotsIn .active s).isEmpty then 0x0100 else 0 := by
      obtain ⟨ram, hframe⟩ := pinBase_resolved s
      rw [← slot_latched]
      exact (congrArg BusInterface.latched hbus).trans (by rw [hframe])
    refine ⟨fun i hi => ?_, fun i hi => ?_, fun i hq ha o => (hword i o).trans (hother i hq ha o), fun ⟨i, hi⟩ => ?_, fun hnone => ?_⟩
    · obtain ⟨hstate, hlast, h33, h34, h35⟩ := hqueued i hi
      exact ⟨(slotState_of_word (hword i 32)).trans hstate, (lastTaken_of_word (hword i 32)).trans hlast, (hword i 33).trans h33,
        (hword i 34).trans h34, (hword i 35).trans h35⟩
    · obtain ⟨hstate, hlast, h33, h35, h56, h57, ⟨hb0, hb1⟩, ⟨hm0, hm1⟩⟩ := (hactive i hi).then fun o => hword i o.val
      exact ⟨hstate, hlast, h33, h35, h56, h57, hb0, hb1, hm0, hm1⟩
    · rw [hlatched]
      refine if_pos ?_
      rcases hi with hi | hi
      · simp [List.ne_nil_of_mem (mem_slotsIn.mpr hi)]
      · simp [List.ne_nil_of_mem (mem_slotsIn.mpr hi)]
    · rw [hlatched]
      have hempty (st : SlotState) (h : ∀ i, slotState s i ≠ st) : slotsIn st s = [] :=
        List.eq_nil_iff_forall_not_mem.mpr fun i hi => h i (mem_slotsIn.mp hi)
      rw [hempty .queued fun i => (hnone i).1, hempty .active fun i => (hnone i).2]
      rfl

end Sys2Proof.Machine

/-! PROOFS. What every word of the memory map reads (R186, R187). -/

namespace Sys2Proof.Machine

section
variable {s : State} {a : Nat}

/-! ## Encodings of a word -/

theorem wordOfInt_toInt {x : Int} (hlo : -32768 ≤ x) (hhi : x ≤ 32767) : (wordOfInt x).toInt = x := by
  unfold wordOfInt
  rw [BitVec.toInt_ofInt]
  have h : Int.bmod x (2 ^ 16) = x := Int.bmod_eq_of_le (by omega) (by omega)
  exact h

theorem words_pair {v : Nat} (h : v < 4294967296) : (lowWord v).toNat + 65536 * (highWord v).toNat = v := by
  unfold lowWord highWord
  rw [BitVec.toNat_ofNat, BitVec.toNat_ofNat]
  omega

/-- A flag as a count. -/
def flagged (b : Bool) (v : Nat) : Nat := if b then v else 0

theorem flags_one (a : Bool) : bitIf a 0 = w16 (flagged a 1) := by
  cases a <;> rfl

theorem flags_three (a b c : Bool) : bitIf a 0 ||| bitIf b 1 ||| bitIf c 2 =
    w16 (flagged a 1 + flagged b 2 + flagged c 4) := by
  cases a <;> cases b <;> cases c <;> rfl

theorem flags_two (a b : Bool) : bitIf a 0 ||| bitIf b 1 = w16 (flagged a 1 + flagged b 2) := by
  cases a <;> cases b <;> rfl

theorem flags_four (a b c d : Bool) : bitIf a 0 ||| bitIf b 1 ||| bitIf c 2 ||| bitIf d 3 =
    w16 (flagged a 1 + flagged b 2 + flagged c 4 + flagged d 8) := by
  cases a <;> cases b <;> cases c <;> cases d <;> rfl

/-! ## Where a word reads (section 10.2) -/

theorem readWord_ram (h1 : 0x0040 ≤ a) (h2 : a < 0x1000) : readWord s a = ramRead s a := by
  unfold readWord
  rw [if_neg (by omega), if_pos h2]

theorem readWord_live (h1 : 0x1000 ≤ a) (h2 : a < 0x1100) : readWord s a = livePageWord s a := by
  unfold readWord
  rw [if_neg (by omega), if_neg (by omega), if_pos h2]

theorem readWord_general (h1 : 0x1110 ≤ a) (h2 : a < 0x3FF8) : readWord s a = ramRead s a := by
  unfold readWord
  rw [if_neg (by omega), if_neg (by omega), if_neg (by omega), if_neg (by omega), if_pos h2]

/-! ## The drawers (R138) -/

theorem placesInService_eq (s : State) : placesInService s =
    4 * ((List.finRange 6).filter fun k => decide (s.drying.drawers[k].service = .inService)).length := by
  have hids : List.finRange 6 = drawerIds := by decide
  rw [hids]
  rfl

theorem readWord_drawer (k : Fin 6) {o : Nat} (ho : o < 8) (ha : a = 0x1060 + 8 * k.val + o) :
    readWord s a = drawerWord s s.drying.drawers[k] o := by
  have hk := k.isLt
  rw [readWord_live (by omega) (by omega)]
  unfold livePageWord
  have hblock : ¬ a < 0x1010 ∧ ¬ a < 0x1020 ∧ ¬ a < 0x1030 ∧ ¬ a < 0x1040 ∧ ¬ a < 0x1050 ∧ ¬ a < 0x1060 ∧ a < 0x1090 := by
    omega
  simp only [hblock, if_true, if_false]
  have hdiv : Fin.ofNat 6 ((a - 0x1060) / 8) = k := by
    refine Fin.ext ?_
    rw [Fin.val_ofNat]
    omega
  have hmod : (a - 0x1060) % 8 = o := by omega
  exact congrArg₂ (fun k o => drawerWord s s.drying.drawers[k] o) hdiv hmod

theorem readWord_node (n : Fin 15) {o : Nat} (ho : o < 3) (ha : a = 0x10C0 + 3 * n.val + o) :
    readWord s a = nodeWord s.link.nodes[n] o := by
  have hn := n.isLt
  rw [readWord_live (by omega) (by omega)]
  unfold livePageWord
  have hblock : ¬ a < 0x1010 ∧ ¬ a < 0x1020 ∧ ¬ a < 0x1030 ∧ ¬ a < 0x1040 ∧ ¬ a < 0x1050 ∧ ¬ a < 0x1060 ∧ ¬ a < 0x1090 ∧
      ¬ a < 0x10A0 ∧ ¬ a < 0x10B0 ∧ (0x10C0 ≤ a ∧ a < 0x10C0 + 45) := by
    omega
  simp only [hblock, if_true, if_false, and_self]
  have hdiv : Fin.ofNat 15 ((a - 0x10C0) / 3) = n := by
    refine Fin.ext ?_
    rw [Fin.val_ofNat]
    omega
  have hmod : (a - 0x10C0) % 3 = o := by omega
  exact congrArg₂ (fun n o => nodeWord s.link.nodes[n] o) hdiv hmod

/-- The dry remaining of the DRYING residents of a drawer, in slot order. -/
def dryingResidents (s : State) (w : Drawer) : List Nat :=
  w.slots.toList.filterMap fun o => (o.bind (plateOf s)).bind fun r =>
    if r.stage = .drying then some r.dryRemaining else none

theorem residents_eq (s : State) (w : Drawer) :
    (drawerSlotIds.filterMap fun m => dryingRemaining s w.slots[m]) = dryingResidents s w := by
  have hlist {α : Type} (v : Vector α 4) : v.toList = drawerSlotIds.map fun m => v[m] := by
    obtain ⟨⟨l⟩, hl⟩ := v
    match l, hl with
    | [a, b, c, d], _ => rfl
  have hone (o : Option PlateId) : dryingRemaining s o = (o.bind (plateOf s)).bind fun r =>
      if r.stage = .drying then some r.dryRemaining else none := by
    unfold dryingRemaining
    cases o.bind (plateOf s) <;> rfl
  unfold dryingResidents
  rw [hlist, List.filterMap_map]
  exact List.filterMap_congr fun m _ => hone _

theorem remainingMinimum_none {w : Drawer} (h : dryingResidents s w = []) : remainingMinimum s w = 0 := by
  unfold remainingMinimum
  rw [residents_eq, h]

theorem remainingMinimum_least {w : Drawer} {x : Nat} (hx : x ∈ dryingResidents s w) (hleast : ∀ y ∈ dryingResidents s w, x ≤ y) :
    remainingMinimum s w = (x + 999) / 1000 := by
  unfold remainingMinimum
  rw [residents_eq]
  cases hres : dryingResidents s w with
  | nil =>
    rw [hres] at hx
    exact absurd hx List.not_mem_nil
  | cons y ys =>
    rw [hres] at hx hleast
    have hmin : ys.foldl min y = x := foldl_min_eq ((List.mem_cons.mp hx).symm.imp id id)
      (fun z hz => hleast z (List.mem_cons_of_mem _ hz)) (hleast y List.mem_cons_self)
    dsimp only
    rw [hmin]
    rfl

theorem shownPlate_eq (p : Option PlateId) : shownPlate p = (p.map fun i => i.val + 1).getD 0 := by
  cases p <;> rfl

/-! ## LINE_STAT (section 10.6) -/

theorem lineStat_eq (s : State) : lineStat s = w16 (lineCode s.supervisor.line + flagged s.safety.estop 16 +
    flagged (!s.safety.coverClosed) 32 + flagged s.safety.lineSafe 64 + 256 * scanModeCode s.link.mode) := by
  unfold lineStat
  generalize s.safety.estop = a, (!s.safety.coverClosed) = b, s.safety.lineSafe = c
  cases s.supervisor.line <;> cases s.link.mode <;> revert a b c <;> decide

theorem tubes_eq (c : Chamber) : w16 (tubeCode c.tubeA + 4 * tubeCode c.tubeC + (if c.doorClosed then 16 else 0)) =
    w16 (tubeCode c.tubeA + 4 * tubeCode c.tubeC + flagged c.doorClosed 16) := rfl

/-! ## The unassigned words -/

theorem readWord_zero (r : Nat × Nat) (hr : r ∈ [(0x000D, 0x000E), (0x0012, 0x0020), (0x0025, 0x0040), (0x100A, 0x1010),
      (0x101A, 0x1020), (0x102A, 0x1030), (0x1036, 0x1040), (0x1045, 0x1050), (0x1053, 0x1060), (0x109A, 0x10A0),
      (0x10A5, 0x10A6), (0x10AF, 0x10C0), (0x10ED, 0x1100), (0x1106, 0x1110)]) (a : Nat) (h1 : r.1 ≤ a) (h2 : a < r.2) :
    readWord s a = 0 := by
  fin_cases hr
  all_goals
    dsimp only at h1 h2
    interval_cases a <;> rfl

theorem readWord_ofRam (r : Nat × Nat) (hr : r ∈ [(0x0020, 0x0025), (0x0040, 0x1000), (0x1100, 0x1103), (0x1110, 0x3FF8)])
    (a : Nat) (h1 : r.1 ≤ a) (h2 : a < r.2) : readWord s a = ramRead s a := by
  fin_cases hr
  · dsimp only at h1 h2
    interval_cases a <;> rfl
  · exact readWord_ram h1 h2
  · dsimp only at h1 h2
    interval_cases a <;> rfl
  · exact readWord_general h1 h2

end

/-- Settles O14: block by block; a word of a block is the field by the definition of the block. -/
theorem wordsReadTheirFields : Obligations.WordsReadTheirFields := by
  unfold Obligations.WordsReadTheirFields
  refine ⟨fun s => ⟨?header, ?banks, ?transport, ?wash, ?rack, ?drawers, ?shuttle, ?chamber, ?nodes, ⟨rfl, rfl, rfl⟩, ?registers,
    readWord_ofRam, readWord_zero⟩, by decide⟩
  case header =>
    exact ⟨rfl, rfl, rfl, rfl, rfl, rfl, rfl, rfl, rfl, rfl, congrArg w16 (placesInService_eq s), rfl, rfl, words_pair, words_pair⟩
  case banks =>
    intro x hx
    fin_cases hx
    all_goals
      exact ⟨rfl, rfl, rfl, rfl, wordOfInt_toInt, rfl, flags_three _ _ _, rfl, words_pair⟩
  case transport => exact ⟨words_pair, rfl, rfl, rfl, flags_one _⟩
  case wash => exact ⟨rfl, rfl, rfl, rfl, flags_two _ _⟩
  case rack =>
    have hshown (k : Fin 2) : readWord s (0x1051 + k.val) = w16 (shownEntry s.drying.rack[k.val]?) := by
      fin_cases k <;> rfl
    refine ⟨congrArg w16 (placesInService_eq s), fun k => ⟨fun h => ?_, fun h => ?_, fun p h => ?_⟩⟩
    all_goals
      refine (hshown k).trans ?_
      rw [h]
      rfl
  case drawers =>
    intro k
    refine ⟨readWord_drawer k (o := 0) (by decide) rfl, fun hlo hhi => ?temp, ?flags, fun j => ?plates, fun h => ?least, fun x hx hy => ?least'⟩
    case temp =>
      exact (congrArg BitVec.toInt (readWord_drawer k (o := 1) (by decide) rfl)).trans (wordOfInt_toInt hlo hhi)
    case flags => exact (readWord_drawer k (o := 2) (by decide) rfl).trans (flags_two _ _)
    case plates =>
      have hword : drawerWord s s.drying.drawers[k] (3 + j.val) = w16 (shownPlate s.drying.drawers[k].slots[j]) := by
        fin_cases j <;> rfl
      exact (readWord_drawer k (o := 3 + j.val) (by omega) (by omega)).trans
        (hword.trans (congrArg w16 (shownPlate_eq _)))
    case least =>
      exact (readWord_drawer k (o := 7) (by decide) rfl).trans (congrArg w16 (remainingMinimum_none h))
    case least' =>
      exact (readWord_drawer k (o := 7) (by decide) rfl).trans (congrArg w16 (remainingMinimum_least hx hy))
  case shuttle =>
    have hfigure (f : Move → Nat) (m : Move) (hm : s.shuttle.move = some m) : moveFigure s f = w16 (f m) := by
      unfold moveFigure
      rw [hm]
    have hnone (f : Move → Nat) (hm : s.shuttle.move = none) : moveFigure s f = w16 0 := by
      unfold moveFigure
      rw [hm]
      rfl
    refine ⟨rfl, fun hm a ha => ?absent, fun m hm => ⟨hfigure _ m hm, hfigure _ m hm, hfigure _ m hm, hfigure _ m hm, hfigure _ m hm⟩,
      flags_four _ _ _ _, rfl, rfl, rfl⟩
    case absent =>
      fin_cases ha
      all_goals exact hnone _ hm
  case chamber =>
    have hopen : readWord s 0x10AB = w16 (openRemaining s) := rfl
    refine ⟨rfl, congrArg w16 (shownPlate_eq _), congrArg w16 (shownPlate_eq _), rfl, rfl, words_pair, words_pair, flags_four _ _ _ _,
      fun d hd => ?_, fun hd => ?_, rfl, rfl, tubes_eq _⟩
    all_goals
      refine hopen.trans ?_
      unfold openRemaining
      rw [hd]
      rfl
  case nodes =>
    exact fun n => ⟨readWord_node n (o := 0) (by decide) rfl, readWord_node n (o := 1) (by decide) rfl,
      readWord_node n (o := 2) (by decide) rfl⟩
  case registers => exact ⟨rfl, rfl, lineStat_eq s, rfl, rfl, rfl, rfl, rfl⟩

end Sys2Proof.Machine

/-! PROOFS. The handling units: what a batch writes, what the chamber asks for next, its fault and its exposure (R157 to
R168). -/

namespace Sys2Proof.Machine

/-- A plate's record but for what the finishing chamber writes into it (R164, R167). -/
def unfinished (r : Plate) : Plate := { r with uvaDose := 0, uvcDose := 0, finishVerdict := none }

/-- From `s` to `t` of the plates and slots only the finish figures change (R164, R167). -/
structure FinishOnly (s t : State) : Prop where
  word : ∀ (q : PlateId) (o : Nat), o < 64 → o ∉ [51, 52, 53] → slotWord t q o = slotWord s q o
  record : ∀ q : PlateId, (plateOf t q).map unfinished = (plateOf s q).map unfinished

section
variable {s t u : State} {p : PlateId}

/-! ## What a batch writes -/

theorem FinishOnly.refl : FinishOnly s s := ⟨fun _ _ _ _ => rfl, fun _ => rfl⟩

theorem FinishOnly.trans (h : FinishOnly s t) (h' : FinishOnly t u) : FinishOnly s u :=
  ⟨fun q o ho hne => (h'.word q o ho hne).trans (h.word q o ho hne), fun q => (h'.record q).trans (h.record q)⟩

theorem finishOnly_of_eq (h : FinishOnly s t) (hram : u.bus.ram = t.bus.ram) (hplates : u.tracker.plates = t.tracker.plates) :
    FinishOnly s u :=
  h.trans ⟨fun q o _ _ => slotWord_congr hram q o, fun q => by simp only [plateOf, hplates]⟩

/-- What does not speak of the finish figures stands in a plate's record. -/
theorem FinishOnly.figure {α : Type} {r : Plate} (h : FinishOnly s t) (f : Plate → α) (hf : ∀ r, f (unfinished r) = f r)
    (hr : plateOf s p = some r) : ∃ q, plateOf t p = some q ∧ f q = f r := by
  have hrecord := h.record p
  rw [hr] at hrecord
  cases hq : plateOf t p with
  | none => simp [hq] at hrecord
  | some q =>
    rw [hq] at hrecord
    exact ⟨q, rfl, (hf q).symm.trans ((congrArg f (Option.some.inj hrecord)).trans (hf r))⟩

theorem FinishOnly.state (h : FinishOnly s t) (q : PlateId) : slotState t q = slotState s q := by
  unfold slotState
  exact congrArg (fun v => slotStateOfCode (highByte v)) (h.word q 32 (by decide) (by decide))

theorem finishOnly_putSlot {o : Nat} {v : Word} (ho : o ∈ [51, 52, 53]) (h : FinishOnly s t) :
    FinishOnly s (putSlot p o v t) := by
  have hlt : o < 64 := by
    fin_cases ho <;> decide
  refine h.trans ⟨fun q o' ho' hne => ?_, fun _ => rfl⟩
  rw [slotWord_putSlot p q o o' v t hlt ho', if_neg]
  rintro ⟨-, rfl⟩
  exact hne ho

theorem finishOnly_modPlate {f : Plate → Plate} (hf : ∀ r, unfinished (f r) = unfinished r) (h : FinishOnly s t) :
    FinishOnly s (modPlate p f t) := by
  refine h.trans ⟨fun q o _ _ => slotWord_congr (by simp) q o, fun q => ?_⟩
  rw [plateOf_modPlate]
  split
  · next e =>
    rw [e, Option.map_map]
    exact congrArg (Option.map · (plateOf t p)) (funext fun r => hf r)
  · rfl

theorem finishOnly_finishPlate {x y : Nat} {v : Verdict} (h : FinishOnly s t) : FinishOnly s (finishPlate p x y v t) :=
  finishOnly_putSlot (o := 53) (by decide) (finishOnly_putSlot (o := 52) (by decide) (finishOnly_putSlot (o := 51) (by decide)
    (finishOnly_modPlate (fun _ => rfl) h)))

theorem finishOnly_finishOccupant {q : Option (PlateId × Mark)} {x y : Nat} {v : Verdict} (h : FinishOnly s t) :
    FinishOnly s (finishOccupant q x y v t) := by
  unfold finishOccupant
  split
  · exact h
  · exact finishOnly_finishPlate h

theorem finishOnly_unloadNext (h : FinishOnly s t) : FinishOnly s (unloadNext t) := finishOnly_of_eq h (by simp) (by simp)

theorem finishOnly_endBatch {v : Verdict} (h : FinishOnly s t) : FinishOnly s (endBatch v t) :=
  finishOnly_unloadNext (finishOnly_of_eq (finishOnly_finishOccupant (finishOnly_finishOccupant h)) rfl rfl)

theorem finishOnly_enterExposing (h : FinishOnly s t) : FinishOnly s (enterExposing t) := by
  unfold enterExposing
  dsimp only
  split
  · exact finishOnly_endBatch (finishOnly_of_eq h rfl rfl)
  · exact finishOnly_of_eq h rfl rfl

theorem finishOnly_startExposure (h : FinishOnly s t) : FinishOnly s (startExposure t) := by
  unfold startExposure
  dsimp only
  split
  · exact finishOnly_of_eq h rfl rfl
  · exact finishOnly_enterExposing (finishOnly_of_eq h rfl rfl)

theorem finishOnly_withdrawSecondAsk (h : FinishOnly s t) : FinishOnly s (withdrawSecondAsk t) := by
  unfold withdrawSecondAsk
  split
  · split
    · exact finishOnly_startExposure h
    · exact h
  · exact h

theorem finishOnly_lightTubes (h : FinishOnly s t) : FinishOnly s (lightTubes t) := finishOnly_of_eq h (by simp) (by simp)

/-- With the shuttle not READY the tests of the handling units write no more than the finish figures. -/
theorem finishOnly_handlingTests (hready : t.shuttle.state ≠ .ready) (h : FinishOnly s t) :
    FinishOnly s (handlingTests t) := by
  have hgrant : handlingTests t = lightTubes (withdrawSecondAsk t) := grant_of_not_ready _ (by simpa using hready)
  rw [hgrant]
  exact finishOnly_lightTubes (finishOnly_withdrawSecondAsk h)

/-- The doses of a plate in its record and its slot (R164, R167). -/
theorem finishPlate_effect {r : Plate} (x y : Nat) (v : Verdict) (hr : plateOf s p = some r) :
    (let t := finishPlate p x y v s
     plateOf t p = some { r with uvaDose := x, uvcDose := y, finishVerdict := some v } ∧
     slotWord t p 51 = w16 x ∧ slotWord t p 52 = w16 y ∧ slotWord t p 53 = w16 (verdictCode v) ∧
     ramKeptOutside [slotBase p + 51, slotBase p + 52, slotBase p + 53] s t) := by
  have hplate : plateOf (modPlate p (fun r => { r with uvaDose := x, uvcDose := y, finishVerdict := some v }) s) p =
      some { r with uvaDose := x, uvcDose := y, finishVerdict := some v } := by
    rw [plateOf_modPlate, if_pos rfl, hr]
    rfl
  refine ⟨hplate, ?_, ?_, ?_, ?_⟩
  · simp [finishPlate, putSlotNat, slotWord_putSlot, oFinish, oUvc, oUva]
  · simp [finishPlate, putSlotNat, slotWord_putSlot, oFinish, oUvc, oUva]
  · simp [finishPlate, putSlotNat, slotWord_putSlot, oFinish, oUvc, oUva]
  · exact ramKept_write (by simp [oFinish]) (ramKept_write (by simp [oUvc]) (ramKept_write (by simp [oUva])
      (ramKept_of_ram (by simp) ramKept_refl)))

/-! ## The candidate for LOAD -/

theorem loadCandidate_congr (hplates : t.tracker.plates = s.tracker.plates) (hdrying : t.drying = s.drying)
    (cls : Option (Nat × Nat)) : loadCandidate t cls = loadCandidate s cls := by
  have heligible : eligible t cls = eligible s cls := by
    funext q
    simp only [eligible, plateOf, hplates, hdrying]
  unfold loadCandidate
  rw [heligible, hdrying]

/-! ## What the chamber asks for next (R166 to R168) -/

theorem unloadNext_moving (h : chamberMove s = true) : unloadNext s = s := if_pos h

theorem unloadNext_unloading_ask (h : s.chamber.state = .unloading) (hmove : chamberMove s = false)
    (hempty : batchEmpty s.chamber = false) : unloadNext s = { s with
      chamber.ask := unloadAsk (fun m => m == .finished) s.chamber } := by
  simp [unloadNext, hmove, h, hempty]

theorem unloadNext_unloading_ready (h : s.chamber.state = .unloading) (hmove : chamberMove s = false)
    (hempty : batchEmpty s.chamber = true) : unloadNext s = enterReady { s with chamber.batchClass := none } := by
  simp [unloadNext, hmove, h, hempty]

theorem unloadAsk_no_load (pass : Mark → Bool) (c : Chamber) (pos : ChamberPos) (cls : Option (Nat × Nat)) :
    unloadAsk pass c ≠ .load pos cls := by
  unfold unloadAsk
  split
  · nofun
  · split <;> nofun

/-- A FAULTED chamber with no reset taken stays FAULTED and asks for no LOAD (R167). -/
theorem unloadNext_faulted (h : s.chamber.state = .faulted) (hreset : s.chamber.resetAccepted = false)
    (hask : ∀ pos cls, s.chamber.ask ≠ .load pos cls) :
    ∃ cls ask, unloadNext s = { s with chamber := { s.chamber with batchClass := cls, ask := ask } } ∧
      ∀ pos cls', ask ≠ .load pos cls' := by
  cases hmove : chamberMove s with
  | true => exact ⟨s.chamber.batchClass, s.chamber.ask, unloadNext_moving hmove, hask⟩
  | false =>
    cases hempty : batchEmpty s.chamber with
    | true => exact ⟨none, .none, by simp [unloadNext, hmove, h, hempty, hreset], nofun⟩
    | false => exact ⟨s.chamber.batchClass, _, unloadNext_faulted_ask h hmove hempty, unloadAsk_no_load _ _⟩

/-! ## The fault of the chamber (R167) -/

/-- The chamber at its fault, before it asks for an UNLOAD. -/
def faultedChamber (c : Chamber) : Chamber :=
  { stopChamberTimers c with
    state := .faulted, igniteOrder := none, openA := false, openC := false, resetAccepted := false
    ask := match c.ask with | .load _ _ => .none | .unload p q m => .unload p q m | .none => .none
    pos1 := spoilMark c.pos1, pos2 := spoilMark c.pos2 }

theorem faultedChamber_ask (c : Chamber) (pos : ChamberPos) (cls : Option (Nat × Nat)) :
    (faultedChamber c).ask ≠ .load pos cls := by
  unfold faultedChamber
  dsimp only
  split <;> nofun

theorem chamberFault_effect (s : State) :
    (let t := chamberFault s
     (∃ cls ask, t.chamber = { faultedChamber s.chamber with batchClass := cls, ask := ask } ∧
       ∀ pos cls', ask ≠ .load pos cls') ∧
     t.bus.latched.getLsbD 4 = true ∧ t.supervisor = s.supervisor ∧ t.shuttle = s.shuttle ∧ t.drying = s.drying ∧
     t.transport = s.transport ∧ t.now = s.now) := by
  generalize ha : (if exposureStarted s.chamber then reportedDose s.chamber.accA else 0) = a
  generalize hu : (if exposureStarted s.chamber then reportedDose s.chamber.accC else 0) = b
  have hfault : chamberFault s = unloadNext (latch .handling { spoilOccupant s.chamber.pos2 a b
      (spoilOccupant s.chamber.pos1 a b s) with chamber := faultedChamber s.chamber }) := by
    rw [← ha, ← hu]
    rfl
  generalize hw : latch .handling { spoilOccupant s.chamber.pos2 a b (spoilOccupant s.chamber.pos1 a b s) with
    chamber := faultedChamber s.chamber } = w at hfault
  have hchamber : w.chamber = faultedChamber s.chamber := by simp [← hw]
  have hbit : w.bus.latched.getLsbD 4 = true := by
    rw [← hw]
    exact getLsbD_latch .handling _
  obtain ⟨cls, ask, hnext, hask⟩ := unloadNext_faulted (s := w) (by rw [hchamber]; rfl) (by rw [hchamber]; rfl)
    (by rw [hchamber]; exact faultedChamber_ask _)
  dsimp only
  rw [hfault]
  refine ⟨⟨cls, ask, ?_, hask⟩, by simpa using hbit, by simp [← hw], by simp [← hw], by simp [← hw], by simp [← hw], by simp [← hw]⟩
  rw [hnext, hchamber]

/-! ## The exposure (R162, R164) -/

/-- The batch whose exposure starts (R162). -/
def exposureStart (c : Chamber) : Chamber :=
  { c with
    accA := 0, accC := 0, onA := (groupTargets c).1 == 0, onC := (groupTargets c).2 == 0, openA := false, openC := false
    ask := .none, second := none, openDeadline := none, openStanding := some 1800000 }

theorem startExposure_suspended (h : s.supervisor.line = .safe ∨ s.chamber.doorClosed = false) : startExposure s = { s with
    chamber := { exposureStart s.chamber with state := .suspended } } := by
  refine if_pos ?_
  unfold isSafe
  rcases h with h | h <;> simp [h]

theorem startExposure_goes (hline : s.supervisor.line ≠ .safe) (hdoor : s.chamber.doorClosed = true) :
    startExposure s = enterExposing { s with chamber := exposureStart s.chamber } :=
  if_neg (by simp [isSafe, hline, hdoor])

/-- The end of a batch with a chamber move current (R164). -/
theorem endBatch_eq (v : Verdict) (s : State) : endBatch v s = unloadNext { finishOccupant s.chamber.pos2
      (reportedDose s.chamber.accA) (reportedDose s.chamber.accC) v (finishOccupant s.chamber.pos1
        (reportedDose s.chamber.accA) (reportedDose s.chamber.accC) v s) with chamber := { s.chamber with
    state := .unloading, openA := false, openC := false, openDeadline := none, openStanding := none
    pos1 := markOccupant .finished s.chamber.pos1, pos2 := markOccupant .finished s.chamber.pos2 } } := rfl

theorem reportedDose_min (x : Nat) : reportedDose x = min 65535 ((x + 500) / 1000) := by
  rw [reportedDose_eq]
  split <;> omega

end

end Sys2Proof.Machine

/-! PROOFS. The expiries of the timers of the chamber, the replenish retry and the shuttle move (R125, R148, R157 to
R168). -/

namespace Sys2Proof.Machine

section
variable {s t : State} {d : Nat}

theorem onExpiry_some {timer : Option Nat} (f : State → State) (h : timer = some d) :
    onExpiry timer f s = f (advanceTo d s) := by
  rw [h]
  rfl

/-! ## The chamber's timers -/

theorem ignition_expires (hshuttle : s.shuttle.state ≠ .ready) (htimer : s.chamber.ignition = some d)
    (hstate : s.chamber.state = .igniting) :
    exec .ignitionTimerExpiry s = .next (chamberFault { advanceTo d s with chamber.ignition := none }) := by
  have hexpired : ignitionExpired (advanceTo d s) =
      handlingTests (chamberFault { advanceTo d s with chamber.ignition := none }) := if_pos (by simpa using hstate)
  have hexec : exec .ignitionTimerExpiry s = .next (ignitionExpired (advanceTo d s)) :=
    congrArg Host.Outcome.next (onExpiry_some ignitionExpired htimer)
  obtain ⟨⟨cls, ask, hchamber, -⟩, -, -, hsame, -⟩ := chamberFault_effect { advanceTo d s with chamber.ignition := none }
  rw [hexec, hexpired, handlingTests_idle]
  · rw [hsame]
    simpa using hshuttle
  · rw [hchamber]
    nofun
  · rw [hchamber]
    nofun

theorem stabilizing_expires (htimer : s.chamber.stabilizing = some d)
    (hstate : s.chamber.state = .stabilizing) : exec .stabilizingTimerExpiry s = .next (handlingTests { advanceTo d s with
      chamber.stabilizing := none, chamber.state := .ready, chamber.idle := some (max s.now d + 900000)
      chamber.ask := .load .one none }) := by
  have hexpired : stabilizingExpired (advanceTo d s) =
      handlingTests (enterReady { advanceTo d s with chamber.stabilizing := none }) := if_pos (by simpa using hstate)
  refine (congrArg Host.Outcome.next ((onExpiry_some stabilizingExpired htimer).trans hexpired)).trans ?_
  unfold enterReady
  dsimp only
  rw [advanceTo_now]

theorem idle_expires (hshuttle : s.shuttle.state ≠ .ready) (htimer : s.chamber.idle = some d)
    (hstate : s.chamber.state = .ready) (hnone : loadCandidate s none = none) : exec .idleTimerExpiry s = .next { advanceTo d s with
      chamber.idle := none, chamber.state := .dark, chamber.ask := .none } := by
  have hexpired : idleExpired (advanceTo d s) = handlingTests { advanceTo d s with
      chamber.idle := none, chamber.state := .dark, chamber.ask := .none } := if_pos (by simpa using hstate)
  refine congrArg Host.Outcome.next ((onExpiry_some idleExpired htimer).trans (hexpired.trans ?_))
  exact handlingTests_idle (by simpa using hshuttle) nofun fun _ =>
    (loadCandidate_congr (s := s) (by simp) (by simp) none).trans hnone

theorem second_expires (htimer : s.chamber.second = some d) (hstate : s.chamber.state = .loading) :
    exec .secondPlateTimerExpiry s =
      .next (handlingTests (startExposure { advanceTo d s with chamber.second := none })) := by
  have hexpired : secondExpired (advanceTo d s) =
      handlingTests (startExposure { advanceTo d s with chamber.second := none }) := if_pos (by simpa using hstate)
  exact congrArg Host.Outcome.next ((onExpiry_some secondExpired htimer).trans hexpired)

theorem openShutter_expires (htimer : s.chamber.openDeadline = some d) (hstate : s.chamber.state = .exposing) :
    exec .openShutterTimerExpiry s =
      .next (handlingTests (endBatch .short { advanceTo d s with chamber.openDeadline := none })) := by
  have hexpired : openShutterExpired (advanceTo d s) =
      handlingTests (endBatch .short { advanceTo d s with chamber.openDeadline := none }) := if_pos (by simpa using hstate)
  exact congrArg Host.Outcome.next ((onExpiry_some openShutterExpired htimer).trans hexpired)

theorem chamberMove_congr (h : t.shuttle.move = s.shuttle.move) : chamberMove t = chamberMove s := by
  unfold chamberMove
  rw [h]

/-- The end of a batch of one plate, with no chamber move current (R164, R166). -/
theorem endBatch_single {p : PlateId} {m : Mark} (v : Verdict) (hpos1 : s.chamber.pos1 = some (p, m))
    (hpos2 : s.chamber.pos2 = none) (hmove : chamberMove s = false) :
    endBatch v s = { finishPlate p (reportedDose s.chamber.accA) (reportedDose s.chamber.accC) v s with
      chamber := { s.chamber with
        state := .unloading, openA := false, openC := false, openDeadline := none, openStanding := none
        pos1 := some (p, .finished), pos2 := none, ask := .unload p .one false } } := by
  rw [endBatch_eq, hpos1, hpos2]
  dsimp only [finishOccupant, markOccupant, Option.map]
  rw [unloadNext_unloading_ask rfl ((chamberMove_congr (s := s) (by simp)).trans hmove) rfl]
  rfl

/-! ## The retry timer and the move timer -/

theorem retry_expires (htimer : s.wash.retry = some d) (hstate : s.wash.replenish = .retryWait) :
    exec .retryTimerExpiry s = .next (orderOrPend { advanceTo d s with wash.retry := none }) := by
  have hexpired : retryExpired (advanceTo d s) = orderOrPend { advanceTo d s with wash.retry := none } :=
    if_pos (by simpa using hstate)
  exact congrArg Host.Outcome.next ((onExpiry_some retryExpired htimer).trans hexpired)

theorem move_expires {m : Move} (htimer : s.shuttle.timer = some d) (hmove : s.shuttle.move = some m) :
    exec .moveTimerExpiry s = .next (handlingTests (failMove m { advanceTo d s with shuttle.timer := none })) := by
  have hfail : failCurrentMove { advanceTo d s with shuttle.timer := none } =
      failMove m { advanceTo d s with shuttle.timer := none } := by
    have hsame : ({ advanceTo d s with shuttle.timer := none } : State).shuttle.move = some m := by simpa using hmove
    unfold failCurrentMove
    rw [hsame]
  refine congrArg Host.Outcome.next ((onExpiry_some moveExpired htimer).trans ?_)
  unfold moveExpired
  rw [hfail]

theorem takeOrder_issued {st : Station} {n : Fin 15} (h : nodeOf s st = some n) :
    (takeOrder st s).link.nodes[n] = { s.link.nodes[n] with issued := some (nextOrder s st) } := by
  unfold takeOrder
  rw [h]
  simp [putNode]

theorem finishOnly_loadFailed {pos : ChamberPos} (h : FinishOnly s t) : FinishOnly s (loadFailed pos t) := by
  unfold loadFailed
  split
  · exact finishOnly_unloadNext h
  · split
    · exact finishOnly_of_eq h rfl rfl
    · exact finishOnly_startExposure h

/-- What the failure of a move is, after its plate has ended (R40, R148, R161). -/
def afterFailure (m : Move) (s : State) : State :=
  match m.kind with
  | .store => giveBackPlace s
  | .load => loadFailed (placePos m.dest) s
  | .unload => unloadNext s

theorem finishOnly_afterFailure (m : Move) (h : FinishOnly s t) : FinishOnly s (afterFailure m t) := by
  unfold afterFailure
  split
  · exact finishOnly_of_eq h rfl rfl
  · exact finishOnly_loadFailed h
  · exact finishOnly_unloadNext h

theorem afterFailure_frame (m : Move) (s : State) : (afterFailure m s).drying = s.drying ∧
    (afterFailure m s).transport = s.transport ∧ (afterFailure m s).supervisor = s.supervisor ∧
    (afterFailure m s).now = s.now ∧ (afterFailure m s).shuttle = s.shuttle ∧
    (afterFailure m s).admission.commitments =
      (if m.kind = .store then s.admission.commitments - 1 else s.admission.commitments) := by
  unfold afterFailure
  split
  · next h => simp [h, giveBackPlace]
  · next h => simp [h]
  · next h => simp [h]

/-- The failure of a move: its plate ends SPOILED and the shuttle is FAULTED (R148). -/
theorem failMove_effect {m : Move} {r : Plate} (hr : plateOf s m.plate = some r) (hstage : r.stage ≠ .ended) :
    (let t := failMove m s
     t.shuttle = { s.shuttle with move := none, timer := none, state := .faulted } ∧ t.bus.latched.getLsbD 4 = true ∧
     slotState t m.plate = .done ∧ slotWord t m.plate 33 = 18 ∧
     (∃ q, plateOf t m.plate = some q ∧ q.stage = .ended ∧ q.disposition = some .spoiled) ∧
     t.admission.commitments = (if m.kind = .store then s.admission.commitments - 1 else s.admission.commitments) ∧
     t.drying = s.drying ∧ t.transport = s.transport ∧ t.supervisor = s.supervisor ∧ t.now = s.now) := by
  generalize hu : endPlate m.plate true { s with shuttle.move := none, shuttle.timer := none } = u
  have hfail : failMove m s = latch .handling { afterFailure m u with shuttle.state := .faulted } := by
    rw [← hu]
    rfl
  obtain ⟨hrecord, hdone, -, hreason, -⟩ := endPlate_effect (s := { s with shuttle.move := none, shuttle.timer := none })
    true hr hstage
  rw [hu] at hrecord hdone hreason
  have hunits : u.shuttle = { s.shuttle with move := none, timer := none } ∧ u.drying = s.drying ∧ u.transport = s.transport ∧
      u.supervisor = s.supervisor ∧ u.now = s.now ∧ u.admission = s.admission := by simp [← hu]
  obtain ⟨hshuttle, hdrying, htransport, hsupervisor, hnow, hadmission⟩ := hunits
  obtain ⟨hdrying', htransport', hsupervisor', hnow', hshuttle', hcommitments⟩ := afterFailure_frame m u
  have hfinish : FinishOnly u (latch .handling { afterFailure m u with shuttle.state := .faulted }) :=
    finishOnly_of_eq (finishOnly_afterFailure m .refl) (by simp) (by simp)
  dsimp only
  rw [hfail]
  refine ⟨?_, getLsbD_latch .handling _, (hfinish.state _).trans hdone, (hfinish.word _ 33 (by decide) (by decide)).trans hreason,
    ?_, ?_, by simp [hdrying', hdrying], by simp [htransport', htransport], by simp [hsupervisor', hsupervisor], by simp [hnow', hnow]⟩
  · simp [hshuttle', hshuttle]
  · obtain ⟨q, hq, hfigures⟩ := hfinish.figure (fun r => (r.stage, r.disposition)) (fun _ => rfl) hrecord
    obtain ⟨hended, hspoiled⟩ := Prod.mk.inj hfigures
    exact ⟨q, hq, hended, hspoiled⟩
  · simp [hcommitments, hadmission]

end

/-- Settles O50: each expiry in its state. -/
theorem handlingTimersExpire : Obligations.HandlingTimersExpire := by
  unfold Obligations.HandlingTimersExpire
  refine ⟨fun d s hshuttle => ⟨fun htimer hstate => ?ignition, fun htimer hstate => ?stabilizing, idle_expires hshuttle,
    fun htimer hstate => ?second, fun htimer hstate hmove p m r hpos1 hpos2 hr => ?shutter⟩,
    fun d s => ⟨fun htimer hstate => ⟨fun hpresent hline => ?issued, fun hnot => ?pending⟩, fun m r htimer hmove hr hstage => ?move⟩⟩
  case ignition =>
    obtain ⟨⟨cls, ask, hchamber, -⟩, hbit, hsupervisor, hsame, hdrying, htransport, hnow⟩ :=
      chamberFault_effect { advanceTo d s with chamber.ignition := none }
    refine ⟨_, ignition_expires hshuttle htimer hstate, ?_⟩
    rw [hchamber, hsupervisor, hsame, hdrying, htransport, hnow]
    exact ⟨rfl, rfl, rfl, rfl, rfl, rfl, rfl, rfl, rfl, hbit, by simp, by simp, by simp, by simp, advanceTo_now d s⟩
  case stabilizing =>
    exact (stabilizing_expires htimer hstate).trans (congrArg Host.Outcome.next
      (handlingTests_idle (by simpa using hshuttle) nofun nofun))
  case second =>
    obtain ⟨banks, hu, -⟩ := advanceTo_eq d s
    have hexec := second_expires htimer hstate
    rw [hu] at hexec ⊢
    refine ⟨fun hstop => ?_, fun hline hdoor htargets => ?_⟩
    · rw [startExposure_suspended (s := { s with now := max s.now d, banks := banks, chamber.second := none }) hstop] at hexec
      exact hexec.trans (congrArg Host.Outcome.next (handlingTests_idle hshuttle nofun nofun))
    · have hopens : ((groupTargets s.chamber).1 == 0 && (groupTargets s.chamber).2 == 0) = false := by
        rw [Bool.and_eq_false_iff, beq_eq_false_iff_ne, beq_eq_false_iff_ne]
        exact htargets
      have hopen (x : Nat) : (!(x == 0)) = decide (x ≠ 0) := by
        rw [decide_not]
        rfl
      rw [startExposure_goes (s := { s with now := max s.now d, banks := banks, chamber.second := none }) hline hdoor,
        enterExposing_opens hopens] at hexec
      rw [← hopen, ← hopen]
      exact hexec.trans (congrArg Host.Outcome.next (handlingTests_idle hshuttle nofun nofun))
  case shutter =>
    obtain ⟨banks, hu, -⟩ := advanceTo_eq d s
    have hended := endBatch_single (s := { advanceTo d s with chamber.openDeadline := none }) .short (by simpa using hpos1)
      (by simpa using hpos2) ((chamberMove_congr (s := s) (by simp)).trans hmove)
    obtain ⟨hrecord, huva, huvc, hverdict, hram⟩ := finishPlate_effect (reportedDose s.chamber.accA)
      (reportedDose s.chamber.accC) .short (s := { advanceTo d s with chamber.openDeadline := none }) (p := p) (r := r) (by rw [hu]; exact hr)
    have hidle : handlingTests (endBatch .short { advanceTo d s with chamber.openDeadline := none }) =
        endBatch .short { advanceTo d s with chamber.openDeadline := none } := by
      refine handlingTests_idle (by simpa using hshuttle) ?_ ?_
      all_goals
        rw [hended]
        nofun
    have hexec := openShutter_expires htimer hstate
    rw [hidle, hended] at hexec
    rw [hu] at hexec hrecord huva huvc hverdict hram
    rw [reportedDose_min, reportedDose_min] at hrecord
    rw [reportedDose_min] at huva huvc
    exact ⟨_, hexec, rfl, rfl, rfl, rfl, rfl, rfl, hrecord, huva, huvc, hverdict, hram⟩
  case issued =>
    obtain ⟨banks, hu, -⟩ := advanceTo_eq d s
    have hexec := retry_expires htimer hstate
    rw [hu] at hexec ⊢
    obtain ⟨attn, holdOff, hissued⟩ := orderOrPend_issued
      (s := { s with now := max s.now d, banks := banks, wash.retry := none }) (by
        have hsafe : decide (s.supervisor.line = .safe) = false := by simp [hline]
        exact (congrArg₂ (fun a b => a && !b) hpresent hsafe : canReplenish _ = _))
    rw [hissued] at hexec
    exact ⟨_, hexec, rfl, rfl, rfl, fun n hn => takeOrder_issued (s := { s with now := max s.now d, banks := banks, wash.retry := none }) hn⟩
  case pending =>
    obtain ⟨banks, hu, -⟩ := advanceTo_eq d s
    rw [retry_expires htimer hstate, hu, orderOrPend_absent]
    have hcan : canReplenish { s with now := max s.now d, banks := banks, wash.retry := none } =
      (isPresent s .wash && !isSafe s) := rfl
    rw [hcan]
    rcases hnot with h | h <;> simp [h, isSafe]
  case move =>
    obtain ⟨banks, hu, -⟩ := advanceTo_eq d s
    obtain ⟨hsame, hbit, hdone, hreason, ⟨q, hq, hended, hspoiled⟩, hcommitments, hdrying, htransport, hsupervisor, hnow⟩ :=
      failMove_effect (s := { advanceTo d s with shuttle.timer := none }) (m := m) (r := r) (by rw [hu]; exact hr) hstage
    have hexec := move_expires htimer hmove
    generalize failMove m { advanceTo d s with shuttle.timer := none } = u at *
    have hready : u.shuttle.state ≠ .ready := by
      rw [hsame]
      nofun
    have hfinish : FinishOnly u (handlingTests u) := finishOnly_handlingTests hready .refl
    have hgrant : handlingTests u = lightTubes (withdrawSecondAsk u) := grant_of_not_ready _ (by simpa using hready)
    obtain ⟨q', hq', hfigures⟩ := hfinish.figure (fun r => (r.stage, r.disposition)) (fun _ => rfl) hq
    obtain ⟨hended', hspoiled'⟩ := Prod.mk.inj hfigures
    have hshuttle : (handlingTests u).shuttle = u.shuttle := by simp [hgrant]
    refine ⟨_, hexec, ?_, ?_, ?_, ?_, (hfinish.state _).trans hdone, (hfinish.word _ 33 (by decide) (by decide)).trans hreason,
      ⟨q', hq', hended'.trans hended, hspoiled'.trans hspoiled⟩, ?_, ?_, ?_, ?_, ?_⟩
    · rw [hshuttle, hsame]
    · rw [hshuttle, hsame]
    · rw [hshuttle, hsame]
    · simpa using hbit
    · simp [hgrant, hcommitments]
    · simp [hgrant, hdrying]
    · simp [hgrant, htransport]
    · simp [hgrant, hsupervisor]
    · simp [hgrant, hnow, advanceTo_now]

end Sys2Proof.Machine

/-! PROOFS. The end of a visit and the delivery of a good response (R173, R177 to R180, R183). -/

namespace Sys2Proof.Machine

section
variable {s t : State} {n : Fin 15} {again : Bool} {addr : Byte} {cmd : NodeCmd} {bytes : List RxByte} {stat : Byte}
  {d : Vector Byte 6} {ready fault : Bool} {result : OrderResult}

/-! ## What a delivery leaves of the scan -/

/-- The scan but for the node records. -/
def scanView (s : State) (nodes : Vector NodeRec 15) : Link := { s.link with nodes := nodes }

/-- From `s` to `t` of the line link only orders were issued. -/
structure OrdersOnly (s t : State) : Prop where
  nodes : nodesView t = nodesView s
  scan : scanView t = scanView s

theorem OrdersOnly.refl : OrdersOnly s s := ⟨rfl, rfl⟩

theorem OrdersOnly.trans {u : State} (h : OrdersOnly s t) (h' : OrdersOnly t u) : OrdersOnly s u :=
  ⟨h'.nodes.trans h.nodes, h'.scan.trans h.scan⟩

theorem ordersOnly_of_link (h : t.link = s.link) : OrdersOnly s t :=
  ⟨nodesView_of_link h, by unfold scanView; rw [h]⟩

theorem ordersOnly_after {u : State} (h' : OrdersOnly t u) (h : t.link = s.link) : OrdersOnly s u :=
  (ordersOnly_of_link h).trans h'

/-- A figure of the scan stands. -/
theorem OrdersOnly.figure {α : Type} (h : OrdersOnly s t) (f : Link → α) (hf : ∀ l nodes, f { l with nodes := nodes } = f l) :
    f t.link = f s.link :=
  (hf t.link s.link.nodes).symm.trans ((congrArg f (congrFun h.scan s.link.nodes)).trans (hf s.link s.link.nodes))

theorem OrdersOnly.station (h : OrdersOnly s t) (m : Fin 15) : t.link.nodes[m].station = s.link.nodes[m].station := by
  have e := congrArg NodeRec.station (congrFun h.nodes m)
  exact e

theorem ordersOnly_takeOrder (st : Station) (s : State) : OrdersOnly s (takeOrder st s) := by
  refine ⟨nodesView_takeOrder st s, ?_⟩
  unfold takeOrder
  split <;> rfl

theorem ordersOnly_board (kind : MoveKind) (p : PlateId) (src dst : Place) (spoiled : Bool) (s : State) :
    OrdersOnly s (board kind p src dst spoiled s) := by
  have hboarded : OrdersOnly (takeOrder .shuttle (setStage p .inShuttle s)) (board kind p src dst spoiled s) :=
    ordersOnly_of_link rfl
  exact ((ordersOnly_of_link (by simp)).trans (ordersOnly_takeOrder .shuttle (setStage p .inShuttle s))).trans hboarded

theorem ordersOnly_grant (s : State) : OrdersOnly s (grant s) := by
  by_cases hready : s.shuttle.state = .ready
  · rcases grant_cases hready with h | ⟨-, h⟩ | ⟨-, -, h⟩ | ⟨-, -, -, h⟩
    · obtain ⟨p, rest, dm, e, -⟩ := grantStore_some s _ h
      rw [e]
      exact ordersOnly_after (ordersOnly_board ..) rfl
    · obtain ⟨p, pos, sp, e, -⟩ := grantUnload_some s _ h
      rw [e]
      exact ordersOnly_after (ordersOnly_board ..) rfl
    · obtain ⟨pos, cls, p, r, d, m, e, -⟩ := grantLoad_some s _ h
      rw [e]
      exact ordersOnly_after (ordersOnly_board ..) (by simp)
    · rw [h]
      exact .refl
  · rw [grant_of_not_ready s hready]
    exact .refl

theorem ordersOnly_lightTubes (s : State) : OrdersOnly s (lightTubes s) := by
  unfold lightTubes
  split
  · exact (ordersOnly_takeOrder .finisher s).trans (ordersOnly_of_link rfl)
  · exact .refl

theorem ordersOnly_handlingTests (s : State) : OrdersOnly s (handlingTests s) :=
  ((ordersOnly_of_link (by simp)).trans (ordersOnly_lightTubes (withdrawSecondAsk s))).trans (ordersOnly_grant _)

theorem ordersOnly_orderOrPend (s : State) : OrdersOnly s (orderOrPend s) := by
  cases h : canReplenish s with
  | true =>
    obtain ⟨attn, holdOff, he⟩ := orderOrPend_issued h
    rw [he]
    exact (ordersOnly_takeOrder .wash s).trans ⟨rfl, by unfold scanView takeOrder; split <;> rfl⟩
  | false =>
    rw [orderOrPend_absent h]
    exact ordersOnly_of_link rfl

theorem ordersOnly_orderIfWaiting (s : State) : OrdersOnly s (orderIfWaiting s) := by
  unfold orderIfWaiting
  split
  · exact ordersOnly_after (ordersOnly_orderOrPend _) rfl
  · exact .refl

theorem ordersOnly_takeWashReport (ready fault : Bool) (result : OrderResult) (d : Vector Byte 6) (s : State) :
    OrdersOnly s (takeWashReport ready fault result d s) := by
  unfold takeWashReport
  dsimp only
  split
  · split
    · exact ordersOnly_of_link rfl
    · split
      · cases result with
        | done =>
          dsimp only [completeReplenish]
          split
          · exact ordersOnly_of_link (by simp)
          · exact ordersOnly_after (ordersOnly_orderOrPend _) (by simp)
        | failed => exact ordersOnly_of_link rfl
        | none => exact ordersOnly_of_link rfl
      · exact ordersOnly_of_link rfl
  · exact ordersOnly_of_link rfl

theorem ordersOnly_takeShuttleReport (b ready fault : Bool) (result : OrderResult) (d : Vector Byte 6) (s : State) :
    OrdersOnly s (takeShuttleReport b ready fault result d s) := by
  have htested : OrdersOnly s (testUnload s.shuttle.stackFull (recordShuttle ready fault result d s)) := by
    unfold testUnload
    split
    · exact ordersOnly_of_link rfl
    · exact ordersOnly_after (ordersOnly_grant _) rfl
  exact (htested.trans (ordersOnly_of_link (by simp))).trans (ordersOnly_handlingTests _)

theorem ordersOnly_takeFinisherReport (d : Vector Byte 6) (s : State) : OrdersOnly s (takeFinisherReport d s) :=
  ordersOnly_after (ordersOnly_handlingTests _) (by simp)

theorem ordersOnly_takeDrawerReport (k : Fin 6) (d : Vector Byte 6) (s : State) : OrdersOnly s (takeDrawerReport k d s) := by
  refine OrdersOnly.trans (ordersOnly_of_link ?_) (ordersOnly_handlingTests _)
  unfold putDrawer
  dsimp only
  split
  · simp
  · rfl

theorem ordersOnly_deliver (st : Station) (b : Bool) (stat : Byte) (d : Vector Byte 6) (s : State) :
    OrdersOnly s (deliver st b stat d s) := by
  cases st with
  | drive => exact ordersOnly_of_link (by simp [deliver])
  | wash => exact (ordersOnly_takeWashReport ..).trans (ordersOnly_of_link rfl)
  | shuttle => exact (ordersOnly_takeShuttleReport ..).trans (ordersOnly_of_link rfl)
  | finisher => exact (ordersOnly_takeFinisherReport ..).trans (ordersOnly_of_link rfl)
  | drawer k => exact (ordersOnly_takeDrawerReport ..).trans (ordersOnly_of_link rfl)
  | none => exact ordersOnly_of_link rfl

theorem ordersOnly_toldPresent (st : Station) (s : State) : OrdersOnly s (toldPresent st s) := by
  cases st with
  | drive => exact .refl
  | wash => exact ordersOnly_orderIfWaiting s
  | shuttle => exact ordersOnly_after (ordersOnly_handlingTests _) (by simp)
  | finisher => exact ordersOnly_handlingTests s
  | drawer k => exact ordersOnly_after (ordersOnly_handlingTests _) (by simp)
  | none => exact .refl

/-! ## The end of a visit (R173) -/

theorem nextVisited_of_stations (h : ∀ m : Fin 15, t.link.nodes[m].station = s.link.nodes[m].station) (k : Nat) :
    nextVisited t k = nextVisited s k := by
  simp only [nextVisited, h]

/-- A visit that is not the last of its pass (R173). -/
theorem endVisit_more (h : t.link.revisit ≠ none ∨ nextVisited t (n.val + 1) ≠ none) :
    endVisit n t = { t with link.phase := .guard (n.val + 1) } :=
  if_neg fun hnone => h.elim (fun h => h hnone.1) fun h => h hnone.2

/-! ## A good response (R178 to R180, R183) -/

theorem exec_good (hphase : s.link.phase = .window n again addr cmd) (hjudge : judge addr bytes = .good stat d) :
    exec (.responseFrame bytes) s = .next (endVisit n (goodOutcome n again cmd stat d s)) := by
  have hvisit : visitOutcome (fun addr => judge addr bytes) s = endVisit n (goodOutcome n again cmd stat d s) := by
    unfold visitOutcome
    rw [hphase]
    dsimp only
    rw [hjudge]
  exact congrArg Host.Outcome.next hvisit

/-- The revisit that a good response marks (R183). -/
def markedRevisit (n : Fin 15) (again : Bool) (stat : Byte) (s : State) : Option (Fin 15) :=
  if stat.getLsbD 5 = true ∧ again = false then some n else s.link.revisit

/-- The state that the owner of a station finds at a good response (R178, R179). -/
def recorded (n : Fin 15) (stat : Byte) (d : Vector Byte 6) (s : State) : State :=
  let s1 := putNode n (goodNode stat d s.link.nodes[n]) s
  if s.link.nodes[n].state = .present then s1 else toldPresent s.link.nodes[n].station s1

theorem ordersOnly_recorded (n : Fin 15) (stat : Byte) (d : Vector Byte 6) (s : State) :
    OrdersOnly (putNode n (goodNode stat d s.link.nodes[n]) s) (recorded n stat d s) := by
  unfold recorded
  dsimp only
  split
  · exact .refl
  · exact ordersOnly_toldPresent _ _

/-- What the delivery of a good response leaves of the scan. -/
theorem ordersOnly_delivered (st : Station) (b : Bool) (n : Fin 15) (stat : Byte) (d : Vector Byte 6) (s : State) :
    OrdersOnly (putNode n (goodNode stat d s.link.nodes[n]) s) (deliver st b stat d (recorded n stat d s)) :=
  (ordersOnly_recorded ..).trans (ordersOnly_deliver ..)

theorem goodOutcome_eq : goodOutcome n again cmd stat d s =
    { deliver s.link.nodes[n].station (cmd == .reset) stat d (recorded n stat d s) with
      link := { (deliver s.link.nodes[n].station (cmd == .reset) stat d (recorded n stat d s)).link with
        revisit := markedRevisit n again stat s } } := by
  have hkept : (deliver s.link.nodes[n].station (cmd == .reset) stat d (recorded n stat d s)).link.revisit =
      s.link.revisit := (ordersOnly_delivered ..).figure Link.revisit fun _ _ => rfl
  have houtcome : goodOutcome n again cmd stat d s = (if (stat.getLsbD 5 && !again) = true then
      { deliver s.link.nodes[n].station (cmd == .reset) stat d (recorded n stat d s) with link.revisit := some n }
      else deliver s.link.nodes[n].station (cmd == .reset) stat d (recorded n stat d s)) := rfl
  rw [houtcome]
  generalize deliver s.link.nodes[n].station (cmd == .reset) stat d (recorded n stat d s) = u at hkept ⊢
  unfold markedRevisit
  by_cases h : stat.getLsbD 5 = true ∧ again = false
  · obtain ⟨hbit, hagain⟩ := h
    simp [hbit, hagain]
  · rw [if_neg h, if_neg (by simpa using h), ← hkept]

/-- A good response in a pass with a further visit: what its owner makes of it, and the end of the visit. -/
theorem exec_delivers (hphase : s.link.phase = .window n again addr cmd) (hjudge : judge addr bytes = .good stat d)
    (hmore : s.link.revisit ≠ none ∨ nextVisited s (n.val + 1) ≠ none) :
    exec (.responseFrame bytes) s = .next
      { deliver s.link.nodes[n].station (cmd == .reset) stat d (recorded n stat d s) with
        link := { (deliver s.link.nodes[n].station (cmd == .reset) stat d (recorded n stat d s)).link with
          revisit := markedRevisit n again stat s, phase := .guard (n.val + 1) } } := by
  have hstations (m : Fin 15) : (goodOutcome n again cmd stat d s).link.nodes[m].station = s.link.nodes[m].station := by
    rw [goodOutcome_eq]
    refine ((ordersOnly_delivered s.link.nodes[n].station (cmd == .reset) n stat d s).station m).trans ?_
    change (putNode n (goodNode stat d s.link.nodes[n]) s).link.nodes[m].station = _
    rw [nodes_putNode]
    split
    · next h =>
      subst h
      rfl
    · rfl
  have hrevisit : (goodOutcome n again cmd stat d s).link.revisit = markedRevisit n again stat s := by
    rw [goodOutcome_eq]
  have hfurther : (goodOutcome n again cmd stat d s).link.revisit ≠ none ∨
      nextVisited (goodOutcome n again cmd stat d s) (n.val + 1) ≠ none := by
    rw [hrevisit, nextVisited_of_stations hstations]
    unfold markedRevisit
    split
    · exact .inl nofun
    · exact hmore
  rw [exec_good hphase hjudge, endVisit_more hfurther, goodOutcome_eq]

/-- The record of a PRESENT node after a good response (R178). -/
theorem recorded_present (h : s.link.nodes[n].state = .present) : recorded n stat d s = { s with
    link.nodes := s.link.nodes.set n { s.link.nodes[n] with miss := 0, stat := stat, data := d, echoed := d[5].toNat } } := by
  have hnode : goodNode stat d s.link.nodes[n] =
      { s.link.nodes[n] with miss := 0, stat := stat, data := d, echoed := d[5].toNat } := by
    unfold goodNode
    rw [if_neg (by rw [h]; nofun), ← h]
  unfold recorded
  dsimp only
  rw [if_pos h, hnode]
  rfl

/-- The report taken by an owner, one free value drawn. -/
def drawn (s : State) : State := { s with freeCount := s.freeCount + 1 }

theorem deliver_drive {b : Bool} (s : State) : deliver .drive b stat d s =
    drawn (takeDriveReport (stat.getLsbD 7) (stat.getLsbD 6) s) := rfl

theorem deliver_wash {b : Bool} (s : State) : deliver .wash b stat d s =
    drawn (takeWashReport (stat.getLsbD 7) (stat.getLsbD 6) (orderResultOfCode (stat.toNat / 4 % 8)) d s) := rfl

theorem deliver_shuttle (s : State) : deliver .shuttle (cmd == .reset) stat d s = drawn (takeShuttleReport
    (decide (cmd = .reset)) (stat.getLsbD 7) (stat.getLsbD 6) (orderResultOfCode (stat.toNat / 4 % 8)) d s) := by
  have hcmd : decide (cmd = .reset) = (cmd == .reset) := rfl
  rw [hcmd]
  rfl

theorem deliver_finisher {b : Bool} (s : State) : deliver .finisher b stat d s = drawn (takeFinisherReport d s) := rfl

theorem deliver_drawer {b : Bool} {k : Fin 6} (s : State) : deliver (.drawer k) b stat d s = drawn (takeDrawerReport k d s) :=
  rfl

/-! ## The drive's report (R65) -/

theorem takeDriveReport_ramps (h : s.transport.beltState = .settled) (hreport : ready = false ∨ fault = true) :
    takeDriveReport ready fault s = { s with transport := { s.transport with
      driveReady := ready, driveFault := fault, beltState := .ramping
      settleRun := none, deviationRun := none, stallRun := none } } := by
  have hramps : (ready && !fault) = false := by
    rcases hreport with h | h <;> simp [h]
  unfold takeDriveReport
  dsimp only
  rw [if_pos ⟨h, hramps⟩, setBeltState, if_neg (by simp [h])]
  rfl

theorem takeDriveReport_stands (h : s.transport.beltState ≠ .settled ∨ (ready = true ∧ fault = false)) :
    takeDriveReport ready fault s = { s with transport.driveReady := ready, transport.driveFault := fault } := by
  unfold takeDriveReport
  dsimp only
  rw [if_neg]
  rintro ⟨hsettled, hreport⟩
  rcases h with h | ⟨hready, hfault⟩
  · exact h hsettled
  · simp [hready, hfault] at hreport

end

/-- Settles O56: the delivery of each station's owner, then the mark and the end of the visit. -/
theorem goodResponsesAreDelivered : Obligations.GoodResponsesAreDelivered := by
  unfold Obligations.GoodResponsesAreDelivered
  intro n again addr cmd bytes stat d s hphase hjudge
  refine ⟨fun hmore => ?record, fun hstation hpresent hmore => ?drive, fun hpresent hmore => ?owners⟩
  case record =>
    refine ⟨_, exec_delivers hphase hjudge hmore, ?_, rfl, fun hbit hagain => if_pos ⟨hbit, hagain⟩, fun hnot => if_neg ?_⟩
    · have hview : nodesView (deliver s.link.nodes[n].station (cmd == .reset) stat d (recorded n stat d s)) n =
          { goodNode stat d s.link.nodes[n] with issued := none } := by
        rw [(ordersOnly_delivered ..).nodes]
        unfold nodesView
        rw [nodes_putNode, if_pos rfl]
      have hfigure {α : Type} (f : NodeRec → α) (hf : ∀ r, f { r with issued := none } = f r) :
          f (deliver s.link.nodes[n].station (cmd == .reset) stat d (recorded n stat d s)).link.nodes[n] =
            f (goodNode stat d s.link.nodes[n]) :=
        (hf _).symm.trans ((congrArg f hview).trans (hf _))
      refine ⟨hfigure NodeRec.state fun _ => rfl, hfigure NodeRec.miss fun _ => rfl, hfigure NodeRec.check fun _ => rfl,
        hfigure NodeRec.seq fun _ => rfl, hfigure NodeRec.stat fun _ => rfl, hfigure NodeRec.data fun _ => rfl,
        hfigure NodeRec.echoed fun _ => rfl, hfigure NodeRec.station fun _ => rfl, fun hdrive => ?_⟩
      have hlink : (deliver .drive (cmd == .reset) stat d (recorded n stat d s)).link.nodes[n] =
          goodNode stat d s.link.nodes[n] := by
        have hrecorded : recorded n stat d s = putNode n (goodNode stat d s.link.nodes[n]) s := by
          unfold recorded
          dsimp only
          rw [hdrive]
          exact ite_self _
        rw [hrecorded]
        have hkept : (deliver .drive (cmd == .reset) stat d (putNode n (goodNode stat d s.link.nodes[n]) s)).link =
          (putNode n (goodNode stat d s.link.nodes[n]) s).link := by simp [deliver]
        rw [hkept]
        exact (nodes_putNode ..).trans (if_pos rfl)
      dsimp only
      rw [hdrive, hlink]
      rfl
    · rintro ⟨hbit, hagain⟩
      rcases hnot with h | h
      · exact absurd (hbit.symm.trans h) (by decide)
      · exact absurd (hagain.symm.trans h) (by decide)
  case drive =>
    have hexec := exec_delivers hphase hjudge hmore
    rw [recorded_present hpresent, hstation, deliver_drive] at hexec
    generalize s.link.nodes.set n _ = nodes at hexec
    have hnone {b : Bool} (h : b = false) (h' : b = true) : False := nomatch h.symm.trans h'
    by_cases hramps : s.transport.beltState = .settled ∧ (stat.getLsbD 7 = false ∨ stat.getLsbD 6 = true)
    · rw [takeDriveReport_ramps (s := { s with link.nodes := nodes }) hramps.1 hramps.2] at hexec
      refine ⟨_, hexec, rfl, rfl, fun _ _ => ⟨rfl, rfl, rfl, rfl⟩, fun hstands => ?_, rfl⟩
      obtain ⟨hsettled, hreport⟩ := hramps
      rcases hstands with h | ⟨hready, hfault⟩
      · exact absurd hsettled h
      · rcases hreport with h | h
        · exact (hnone h hready).elim
        · exact (hnone hfault h).elim
    · have hstands : s.transport.beltState ≠ .settled ∨ (stat.getLsbD 7 = true ∧ stat.getLsbD 6 = false) := by
        rw [not_and_or, not_or, Bool.not_eq_false, Bool.not_eq_true] at hramps
        exact hramps
      rw [takeDriveReport_stands (s := { s with link.nodes := nodes }) hstands] at hexec
      exact ⟨_, hexec, rfl, rfl, fun hsettled hreport => absurd ⟨hsettled, hreport⟩ hramps, fun _ => rfl, rfl⟩
  case owners =>
    have hexec := exec_delivers hphase hjudge hmore
    rw [recorded_present hpresent] at hexec
    unfold markedRevisit at hexec
    dsimp only
    refine ⟨fun hstation => ?_, fun hstation => ?_, fun hstation => ?_, fun k hstation => ?_⟩
    · rw [hstation, deliver_wash] at hexec
      generalize takeWashReport _ _ _ d _ = u at hexec ⊢
      exact hexec
    · rw [hstation, deliver_shuttle] at hexec
      generalize takeShuttleReport _ _ _ _ d _ = u at hexec ⊢
      exact hexec
    · rw [hstation, deliver_finisher] at hexec
      generalize takeFinisherReport d _ = u at hexec ⊢
      exact hexec
    · rw [hstation, deliver_drawer] at hexec
      generalize takeDrawerReport k d _ = u at hexec ⊢
      exact hexec

end Sys2Proof.Machine

/-! PROOFS. The grant of a READY shuttle (R141 to R144). -/

namespace Sys2Proof.Machine

/-- In `t` a plate has boarded the shuttle under the next order of `s`, at a time (R144). -/
def Sent (kind : MoveKind) (p : PlateId) (a b : Place) (time : Nat) (s t : State) : Prop :=
  t.shuttle.state = .moving ∧ t.shuttle.timer = some (time + 90000) ∧
    (t.shuttle.move.map fun m => (m.kind, m.plate, m.source, m.dest, m.order)) =
      some (kind, p, a, b, nextOrder s .shuttle) ∧
    ∀ r, plateOf s p = some r → r.stage ≠ .ended → (plateOf t p).map (fun q => q.stage) = some .inShuttle ∧
      slotWord t p 35 = 5

/-- STORE does not stand: the rack head is no plate, or no drawer offers a slot (R141). -/
def noStore (s : State) : Prop :=
  s.drying.rack = [] ∨ (∃ rest, s.drying.rack = .stray :: rest) ∨ storeDest s = none

/-- What the units do before the grant of the tests (R157, R160). -/
def beforeGrant (s : State) : State := lightTubes (withdrawSecondAsk s)

section
variable {s t u v w : State} {p : PlateId} {r : Plate} {kind : MoveKind} {a b : Place} {sp : Bool} {time : Nat}
  {st : Station} {d : Fin 6} {m : Fin 4} {rest : List RackEntry} {pos : ChamberPos} {cls : Option (Nat × Nat)}

/-! ## The next order of a station (R181) -/

theorem nodeOf_station {n : Fin 15} (h : nodeOf s st = some n) : s.link.nodes[n].station = st := by
  have hfound := List.find?_some h
  exact of_decide_eq_true hfound

theorem nodeOf_of_stations (h : ∀ m : Fin 15, t.link.nodes[m].station = s.link.nodes[m].station) (st : Station) :
    nodeOf t st = nodeOf s st := by
  simp only [nodeOf, h]

theorem nextOrder_of_nodes (hstation : ∀ m : Fin 15, t.link.nodes[m].station = s.link.nodes[m].station)
    (hissued : ∀ m : Fin 15, nodeOf s st = some m → t.link.nodes[m].issued = s.link.nodes[m].issued) :
    nextOrder t st = nextOrder s st := by
  unfold nextOrder
  rw [nodeOf_of_stations hstation]
  split
  · rfl
  · next n hn => rw [hissued n hn]

theorem nextOrder_of_link (h : t.link = s.link) : nextOrder t st = nextOrder s st :=
  nextOrder_of_nodes (fun m => by rw [h]) fun m _ => by rw [h]

theorem nextOrder_takeOrder {st' : Station} (hne : st ≠ st') : nextOrder (takeOrder st s) st' = nextOrder s st' := by
  refine nextOrder_of_nodes (fun m => (ordersOnly_takeOrder st s).station m) fun n hn => ?_
  unfold takeOrder
  split
  · rfl
  · next k hk =>
    rw [nodes_putNode, if_neg]
    rintro rfl
    exact hne ((nodeOf_station hk).symm.trans (nodeOf_station hn))

theorem nextOrder_orderOrPend (hne : .wash ≠ st) : nextOrder (orderOrPend s) st = nextOrder s st := by
  cases h : canReplenish s with
  | true =>
    obtain ⟨attn, holdOff, he⟩ := orderOrPend_issued h
    rw [he, ← nextOrder_takeOrder (s := s) hne]
    exact nextOrder_of_nodes (fun _ => rfl) fun _ _ => rfl
  | false =>
    rw [orderOrPend_absent h]
    exact nextOrder_of_link rfl

theorem nextOrder_changeLoad (hne : .wash ≠ st) (x : Nat) : nextOrder (changeLoad x s) st = nextOrder s st := by
  unfold changeLoad openCycle
  split
  · rw [nextOrder_orderOrPend hne]
    exact nextOrder_of_link (by simp)
  · exact nextOrder_of_link (by simp)

theorem nextOrder_departTrain (hne : .wash ≠ st) : nextOrder (departTrain p s) st = nextOrder s st := by
  unfold departTrain leaveWash
  split
  · exact nextOrder_of_link rfl
  · split
    · exact nextOrder_of_link rfl
    · rw [nextOrder_changeLoad hne]
      exact nextOrder_of_link rfl

theorem nextOrder_rackPlate (hne : .wash ≠ st) : nextOrder (rackPlate p s) st = nextOrder s st := by
  have hracked : nextOrder (rackPlate p s) st = nextOrder (departTrain p (closeNormally p .main (closeNormally p .back s))) st := by
    unfold rackPlate
    exact nextOrder_of_link (by simp)
  rw [hracked, nextOrder_departTrain hne]
  exact nextOrder_of_link (by simp)

theorem nextOrder_lightTubes (hne : .finisher ≠ st) : nextOrder (lightTubes s) st = nextOrder s st := by
  unfold lightTubes
  split
  · rw [← nextOrder_takeOrder (s := s) hne]
    exact nextOrder_of_link rfl
  · rfl

/-! ## Boarding (R144) -/

theorem board_tracker : (board kind p a b sp s).tracker = (setStage p .inShuttle s).tracker := by
  unfold board takeOrder
  dsimp only
  split <;> rfl

theorem board_ram : (board kind p a b sp s).bus.ram = (setStage p .inShuttle s).bus.ram := by
  unfold board takeOrder
  dsimp only
  split <;> rfl

theorem board_move : (board kind p a b sp s).shuttle = { s.shuttle with
    state := .moving, timer := some (s.now + 90000)
    move := some { kind := kind, plate := p, source := a, dest := b, order := nextOrder s .shuttle, spoiled := sp } } := by
  have hshuttle : (takeOrder .shuttle (setStage p .inShuttle s)).shuttle = s.shuttle := by simp
  have hnow : (setStage p .inShuttle s).now = s.now := by simp
  have horder : nextOrder (setStage p .inShuttle s) .shuttle = nextOrder s .shuttle := nextOrder_of_link (by simp)
  unfold board
  dsimp only
  rw [hshuttle, hnow, horder]

theorem plateOf_board (hr : plateOf s p = some r) (hstage : r.stage ≠ .ended) (q : PlateId) :
    plateOf (board kind p a b sp s) q = if q = p then some { r with stage := .inShuttle } else plateOf s q := by
  have hplate : plateOf (board kind p a b sp s) q = plateOf (setStage p .inShuttle s) q := by
    unfold plateOf
    rw [board_tracker]
  rw [hplate, plateOf_setStage, hr, Option.map_some, if_neg hstage]

/-- The slot of a plate that boards shows its stage, and no other word changes. -/
theorem slotWord_boarded (hr : plateOf s p = some r) (hstage : r.stage ≠ .ended) (q : PlateId) {o : Nat} (ho : o < 64) :
    slotWord (board kind p a b sp s) q o = if q = p ∧ o = 35 then 5 else slotWord s q o :=
  (slotWord_congr board_ram q o).trans (slotWord_setStage hr hstage ho)

theorem board_sent (horder : nextOrder u .shuttle = nextOrder s .shuttle)
    (hlive : ∀ r, plateOf s p = some r → r.stage ≠ .ended → ∃ q, plateOf u p = some q ∧ q.stage ≠ .ended) :
    Sent kind p a b u.now s (board kind p a b sp u) := by
  unfold Sent
  rw [board_move]
  refine ⟨rfl, rfl, ?_, fun r hr hstage => ?_⟩
  · rw [← horder]
    rfl
  · obtain ⟨q, hq, hqstage⟩ := hlive r hr hstage
    rw [plateOf_board hq hqstage, slotWord_boarded hq hqstage p (by decide), if_pos rfl, if_pos ⟨rfl, rfl⟩]
    exact ⟨rfl, rfl⟩

/-- What was sent as seen from an earlier state. -/
theorem Sent.from (h : Sent kind p a b time u t) (horder : nextOrder u .shuttle = nextOrder s .shuttle)
    (hlive : ∀ r, plateOf s p = some r → r.stage ≠ .ended → ∃ q, plateOf u p = some q ∧ q.stage ≠ .ended) :
    Sent kind p a b time s t := by
  obtain ⟨hstate, htimer, hmove, hplate⟩ := h
  refine ⟨hstate, htimer, horder ▸ hmove, fun r hr hstage => ?_⟩
  obtain ⟨q, hq, hqstage⟩ := hlive r hr hstage
  exact hplate q hq hqstage

/-! ## The requests -/

theorem storeDest_congr (h : t.drying.drawers = s.drying.drawers) : storeDest t = storeDest s := by
  simp only [storeDest, storeSlot, h]

theorem grantStore_stands (hrack : s.drying.rack = .plate p :: rest) (hdest : storeDest s = some (d, m)) :
    grantStore s = some (board .store p .rack (.slot d m) false { s with drying.rack := rest }) := by
  unfold grantStore
  rw [hrack]
  dsimp only
  rw [hdest]
  rfl

theorem grantStore_none (h : noStore s) : grantStore s = none := by
  unfold grantStore
  rcases h with h | ⟨rest, h⟩ | h
  · rw [h]
  · rw [h]
  · split
    · rw [h]
      rfl
    · rfl
    · rfl

theorem grantUnload_stands (hask : s.chamber.ask = .unload p pos sp) (hstack : s.shuttle.stackFull = false) :
    grantUnload s = some (board .unload p (.chamber pos) .output sp
      { s with chamber := { clearPos pos s.chamber with ask := .none } }) := by
  simp [grantUnload, hask, hstack]

theorem grantUnload_none (h : (∀ p pos sp, s.chamber.ask ≠ .unload p pos sp) ∨ s.shuttle.stackFull = true) :
    grantUnload s = none := by
  unfold grantUnload
  split
  · next p pos sp hask => exact h.elim (fun h => absurd hask (h p pos sp)) fun h => if_pos h
  · rfl
  · rfl

theorem grantLoad_stands (hask : s.chamber.ask = .load pos cls) (hcandidate : loadCandidate s cls = some p)
    (hr : plateOf s p = some r) (hslot : r.drawerSlot = some (d, m)) :
    grantLoad s = some (board .load p (.slot d m) (.chamber pos) false (loadGranted pos p (takeFromDrawer p r d m s))) := by
  simp [grantLoad, hask, hcandidate, hr, hslot]

theorem grantLoad_none (h : ∀ pos cls, s.chamber.ask = .load pos cls → loadCandidate s cls = none) : grantLoad s = none := by
  unfold grantLoad
  split
  · next pos cls hask => rw [h pos cls hask]
  · rfl
  · rfl

/-! ## The plate that a LOAD takes (R144 steps 1 and 3) -/

/-- The state in which the plate of a LOAD boards. -/
def loadTaken (pos : ChamberPos) (p : PlateId) (r : Plate) (d : Fin 6) (m : Fin 4) (s : State) : State :=
  loadGranted pos p (takeFromDrawer p r d m s)

theorem plateOf_loadTaken (q : PlateId) : plateOf (loadTaken pos p r d m s) q =
    if q = p then some { r with dryAchieved := some (dryAchieved r) } else plateOf s q := by
  have hput := plateOf_putPlate p q (some { r with dryAchieved := some (dryAchieved r) }) s
  cases pos <;> exact hput

theorem loadTaken_frame : (loadTaken pos p r d m s).link = s.link ∧ (loadTaken pos p r d m s).now = s.now ∧
    (loadTaken pos p r d m s).shuttle = s.shuttle ∧
    (loadTaken pos p r d m s).admission = { s.admission with commitments := s.admission.commitments - 1 } ∧
    (loadTaken pos p r d m s).drying = { s.drying with
      drawers := s.drying.drawers.set d { s.drying.drawers[d] with slots := s.drying.drawers[d].slots.set m none }
      dryList := s.drying.dryList.erase p } := by
  cases pos <;> exact ⟨rfl, rfl, rfl, rfl, rfl⟩

theorem slotWord_loadTaken (q : PlateId) {o : Nat} (ho : o < 64) : slotWord (loadTaken pos p r d m s) q o =
    if q = p ∧ o = 50 then w16 (dryAchieved r) else slotWord s q o := by
  have hput := slotWord_putSlot p q 50 o (w16 (dryAchieved r)) s (by decide) ho
  cases pos <;> exact hput

theorem loadTaken_one : (loadTaken .one p r d m s).chamber = { s.chamber with
    state := .loading, idle := none, ask := .none, batchClass := some (r.uvaFinish, r.uvcFinish) } := by
  have hclass : finishClass (takeFromDrawer p r d m s) p = some (r.uvaFinish, r.uvcFinish) := by
    have hput := plateOf_putPlate p p (some { r with dryAchieved := some (dryAchieved r) }) s
    unfold finishClass
    exact congrArg (Option.map fun r => (r.uvaFinish, r.uvcFinish)) (hput.trans (if_pos rfl))
  unfold loadTaken loadGranted
  dsimp only
  rw [hclass]
  rfl

theorem loadTaken_two : (loadTaken .two p r d m s).chamber = { s.chamber with second := none, ask := .none } := rfl

/-! ## The grant in each case (R144) -/

theorem grant_stores (hready : s.shuttle.state = .ready) (hrack : s.drying.rack = .plate p :: rest)
    (hdest : storeDest s = some (d, m)) :
    grant s = board .store p .rack (.slot d m) false { s with drying.rack := rest } :=
  grant_of_store hready (grantStore_stands hrack hdest)

theorem grant_unloads (hready : s.shuttle.state = .ready) (hstore : noStore s) (hask : s.chamber.ask = .unload p pos sp)
    (hstack : s.shuttle.stackFull = false) : grant s = board .unload p (.chamber pos) .output sp
      { s with chamber := { clearPos pos s.chamber with ask := .none } } :=
  grant_of_unload hready (grantStore_none hstore) (grantUnload_stands hask hstack)

theorem grant_loads (hready : s.shuttle.state = .ready) (hstore : noStore s) (hask : s.chamber.ask = .load pos cls)
    (hcandidate : loadCandidate s cls = some p) (hr : plateOf s p = some r) (hslot : r.drawerSlot = some (d, m)) :
    grant s = board .load p (.slot d m) (.chamber pos) false (loadTaken pos p r d m s) :=
  grant_of_load hready (grantStore_none hstore) (grantUnload_none (.inl fun _ _ _ h => nomatch hask.symm.trans h))
    (grantLoad_stands hask hcandidate hr hslot)

/-- With no request the grant does nothing. -/
theorem grant_idle (hstore : noStore s)
    (hunload : (∀ p pos sp, s.chamber.ask ≠ .unload p pos sp) ∨ s.shuttle.stackFull = true)
    (hload : ∀ pos cls, s.chamber.ask = .load pos cls → loadCandidate s cls = none) : grant s = s :=
  grant_of_none (grantStore_none hstore) (grantUnload_none hunload) (grantLoad_none hload)

/-! ## The tests before the grant -/

theorem beforeGrant_effect (s : State) : FinishOnly s (beforeGrant s) ∧ (beforeGrant s).drying = s.drying ∧ (beforeGrant s).shuttle = s.shuttle ∧
    (beforeGrant s).now = s.now ∧ (beforeGrant s).admission = s.admission ∧
    nextOrder (beforeGrant s) .shuttle = nextOrder s .shuttle ∧ (beforeGrant s).tracker.train = s.tracker.train :=
  ⟨finishOnly_lightTubes (finishOnly_withdrawSecondAsk .refl), by simp [beforeGrant], by simp [beforeGrant], by simp [beforeGrant],
    by simp [beforeGrant], (nextOrder_lightTubes (by decide)).trans (nextOrder_of_link (by simp)), by simp [beforeGrant]⟩

theorem withdrawSecondAsk_stands (h : ∀ cls, s.chamber.ask = .load .two cls → loadCandidate s cls ≠ none) :
    withdrawSecondAsk s = s := by
  unfold withdrawSecondAsk
  split
  · next cls _ hask =>
    refine if_neg ?_
    rw [Option.isNone_iff_eq_none]
    exact h cls hask
  · rfl

theorem lightTubes_ask (s : State) : (lightTubes s).chamber.ask = s.chamber.ask := by
  unfold lightTubes
  split
  · simp
  · rfl

theorem FinishOnly.live (h : FinishOnly s t) (hr : plateOf s p = some r) (hstage : r.stage ≠ .ended) :
    ∃ q, plateOf t p = some q ∧ q.stage ≠ .ended := by
  obtain ⟨q, hq, hsame⟩ := h.figure Plate.stage (fun _ => rfl) hr
  exact ⟨q, hq, hsame ▸ hstage⟩

/-- A store that stands is granted by the tests. -/
theorem handlingTests_stores (hready : s.shuttle.state = .ready) (hrack : s.drying.rack = .plate p :: rest)
    (hdest : storeDest s = some (d, m)) :
    handlingTests s = board .store p .rack (.slot d m) false { beforeGrant s with drying.rack := rest } ∧
    Sent .store p .rack (.slot d m) s.now s (handlingTests s) := by
  obtain ⟨hfinish, hdrying, hshuttle, hnow, -, horder, -⟩ := beforeGrant_effect s
  have hgrant : handlingTests s = board .store p .rack (.slot d m) false { beforeGrant s with drying.rack := rest } :=
    grant_stores (s := beforeGrant s) (by rw [hshuttle, hready]) (by rw [hdrying, hrack])
      ((storeDest_congr (by rw [hdrying])).trans hdest)
  rw [hgrant, ← hnow]
  exact ⟨rfl, board_sent (u := { beforeGrant s with drying.rack := rest }) ((nextOrder_of_link rfl).trans horder)
    fun r hr hstage => hfinish.live hr hstage⟩

theorem noStore_congr (hdrying : t.drying = s.drying) (h : noStore s) : noStore t := by
  unfold noStore at h ⊢
  rwa [hdrying, storeDest_congr (t := t) (s := s) (by rw [hdrying])]

/-- An UNLOAD that stands without a STORE is granted by the tests. -/
theorem handlingTests_unloads (hready : s.shuttle.state = .ready) (hstore : noStore s)
    (hask : s.chamber.ask = .unload p pos sp) (hstack : s.shuttle.stackFull = false) :
    handlingTests s = board .unload p (.chamber pos) .output sp
      { lightTubes s with chamber := { clearPos pos (lightTubes s).chamber with ask := .none } } ∧
    Sent .unload p (.chamber pos) .output s.now s (handlingTests s) := by
  obtain ⟨-, hdrying, hshuttle, hnow, -, horder, -⟩ := beforeGrant_effect s
  have hstands : beforeGrant s = lightTubes s :=
    congrArg lightTubes (withdrawSecondAsk_stands fun _ h => nomatch hask.symm.trans h)
  rw [hstands] at hdrying hshuttle hnow horder
  have hgrant : handlingTests s = board .unload p (.chamber pos) .output sp
      { lightTubes s with chamber := { clearPos pos (lightTubes s).chamber with ask := .none } } :=
    (congrArg grant hstands).trans (grant_unloads (s := lightTubes s) (by rw [hshuttle, hready]) (noStore_congr hdrying hstore)
      ((lightTubes_ask s).trans hask) (by rw [hshuttle, hstack]))
  rw [hgrant, ← hnow]
  refine ⟨rfl, board_sent (u := { lightTubes s with chamber := { clearPos pos (lightTubes s).chamber with ask := .none } })
    ((nextOrder_of_link rfl).trans horder) fun r hr hstage => ?_⟩
  exact (finishOnly_lightTubes .refl : FinishOnly s (lightTubes s)).live hr hstage

/-- A LOAD that stands without a STORE is granted by the tests. -/
theorem handlingTests_loads (hready : s.shuttle.state = .ready) (hstore : noStore s) (hask : s.chamber.ask = .load pos cls)
    (hcandidate : loadCandidate s cls = some p) (hr : plateOf s p = some r) (hslot : r.drawerSlot = some (d, m)) :
    handlingTests s = board .load p (.slot d m) (.chamber pos) false (loadTaken pos p r d m (lightTubes s)) ∧
    Sent .load p (.slot d m) (.chamber pos) s.now s (handlingTests s) := by
  obtain ⟨-, hdrying, hshuttle, hnow, -, horder, -⟩ := beforeGrant_effect s
  have hstands : beforeGrant s = lightTubes s := congrArg lightTubes (withdrawSecondAsk_stands fun cls' h => by
    obtain ⟨-, rfl⟩ := Ask.load.inj (hask.symm.trans h)
    rw [hcandidate]
    nofun)
  rw [hstands] at hdrying hshuttle hnow horder
  have hplates : (lightTubes s).tracker.plates = s.tracker.plates := by simp
  have hr' : plateOf (lightTubes s) p = some r := by
    unfold plateOf at hr ⊢
    rw [hplates, hr]
  have hgrant : handlingTests s = board .load p (.slot d m) (.chamber pos) false (loadTaken pos p r d m (lightTubes s)) :=
    (congrArg grant hstands).trans (grant_loads (s := lightTubes s) (by rw [hshuttle, hready]) (noStore_congr hdrying hstore)
      ((lightTubes_ask s).trans hask) ((loadCandidate_congr hplates hdrying cls).trans hcandidate) hr' hslot)
  obtain ⟨hlink, hnow', -⟩ := loadTaken_frame (pos := pos) (p := p) (r := r) (d := d) (m := m) (s := lightTubes s)
  rw [hgrant, ← hnow, ← hnow']
  refine ⟨rfl, board_sent ((nextOrder_of_link hlink).trans horder) fun x hx hstage => ?_⟩
  obtain rfl := Option.some.inj (hr.symm.trans hx)
  exact ⟨_, (plateOf_loadTaken p).trans (if_pos rfl), hstage⟩

end

end Sys2Proof.Machine

/-! PROOFS. The obligation about the grant of a READY shuttle (R141 to R144). -/

namespace Sys2Proof.Machine

section
variable {s t u v w : State} {p : PlateId} {r : Plate} {d : Fin 6} {m : Fin 4} {pos : ChamberPos} {sp : Bool}
  {cls : Option (Nat × Nat)} {x : Nat}

/-! ## What boarding leaves -/

/-- A move boarded on `u`, as the grant of `s` says it. -/
theorem board_moved {kind : MoveKind} {a b : Place} (hnow : u.now = s.now)
    (horder : nextOrder u .shuttle = nextOrder s .shuttle)
    (hlive : ∀ r, plateOf s p = some r → r.stage ≠ .ended → ∃ q, plateOf u p = some q ∧ q.stage ≠ .ended)
    (hline : u.supervisor = s.supervisor) (htransport : u.transport = s.transport) (hwash : u.wash = s.wash)
    (htrain : u.tracker.train = s.tracker.train) :
    (let t := board kind p a b sp u
     t.shuttle.state = .moving ∧ t.shuttle.timer = some (s.now + 90000) ∧
       (t.shuttle.move.map fun m => (m.kind, m.plate, m.source, m.dest, m.order)) =
         some (kind, p, a, b, nextOrder s .shuttle) ∧
       (∀ r, plateOf s p = some r → r.stage ≠ .ended → (plateOf t p).map (fun q => q.stage) = some .inShuttle ∧
         slotWord t p 35 = 5) ∧
       t.supervisor = s.supervisor ∧ t.transport = s.transport ∧ t.wash = s.wash ∧ t.tracker.train = s.tracker.train) := by
  obtain ⟨hstate, htimer, hmove, hplate⟩ := board_sent (kind := kind) (a := a) (b := b) (sp := sp) horder hlive
  rw [hnow] at htimer
  exact ⟨hstate, htimer, hmove, hplate, by simp [hline], by simp [htransport], by simp [hwash], by simp [htrain]⟩

/-! ## The events that make a request stand -/

theorem exec_rackClear (s : State) : exec .rackClear s = .next (setOutcome .accepted (handlingTests (clearStrays (unheld s)))) :=
  exec_of_command (code := 10) rfl

/-- The exit tail edge, whatever its latched position (R50, R56). -/
theorem exec_exitTail (htimer : s.transport.exit.timer = some x) (hpin : s.pins.exit = false)
    (hsettled : s.transport.exit.settled = true) :
    exec (.settleTimerExpiry .exit) s = .next (handlingTests (exitTail (settledAtLevel .exit x false s))) := by
  have hunit : sensorUnit (advanceTo x s) .exit = s.transport.exit := by simp [sensorUnit]
  have hpin' : sensorPin (advanceTo x s) .exit = false := by
    rw [← hpin]
    simp [sensorPin]
  have hedge : settleSensor .exit (advanceTo x s) = _ := if_neg (by rw [hpin', hunit, hsettled]; decide)
  refine congrArg Host.Outcome.next ((onExpiry_some (settleSensor .exit) htimer).trans (hedge.trans ?_))
  rw [hpin']
  rfl

theorem rackPlate_units (p : PlateId) (s : State) : (rackPlate p s).tracker.train = s.tracker.train.erase p ∧
    (rackPlate p s).drying = { s.drying with rack := s.drying.rack ++ [.plate p] } ∧
    (rackPlate p s).admission.commitments = s.admission.commitments ∧ (rackPlate p s).shuttle = s.shuttle ∧
    (rackPlate p s).now = s.now := by
  simp [rackPlate]

/-! ## The report of an able shuttle that was STOPPED (R140, R146) -/

/-- The shuttle READY with a report taken. -/
def madeReady (ready fault : Bool) (result : OrderResult) (d : Vector Byte 6) (s : State) : State :=
  { recordShuttle ready fault result d s with shuttle.state := .ready }

theorem takeShuttleReport_stopped {b ready fault : Bool} {result : OrderResult} {d : Vector Byte 6}
    (hstate : s.shuttle.state = .stopped) (hmove : s.shuttle.move = none) (hpresent : isPresent s .shuttle = true)
    (hready : ready = true) (hfault : fault = false) (hline : s.supervisor.line ≠ .safe) :
    takeShuttleReport b ready fault result d s = handlingTests (madeReady ready fault result d s) := by
  have htested : testUnload s.shuttle.stackFull (recordShuttle ready fault result d s) = recordShuttle ready fault result d s := by
    unfold testUnload
    rw [grant_of_not_ready (recordShuttle ready fault result d s) (by
      change s.shuttle.state ≠ .ready
      rw [hstate]
      nofun)]
    exact ite_self _
  have hleft : testMove d[5].toNat result (recordShuttle ready fault result d s) = recordShuttle ready fault result d s := by
    unfold testMove
    have hnone : (recordShuttle ready fault result d s).shuttle.move = none := hmove
    rw [hnone]
  have hable : shuttleAble (recordShuttle ready fault result d s) = true := by
    have hnode : isPresent (recordShuttle ready fault result d s) .shuttle = isPresent s .shuttle := rfl
    unfold shuttleAble isSafe
    rw [hnode, hpresent]
    simp [recordShuttle, hready, hfault, hline]
  have hevaluated : evalShuttle (recordShuttle ready fault result d s) = madeReady ready fault result d s :=
    evalShuttle_stopped hstate hable
  have hreset : endShuttleReset b ready fault (madeReady ready fault result d s) = madeReady ready fault result d s :=
    if_neg fun h => nomatch h.1
  unfold takeShuttleReport
  dsimp only
  rw [htested, hleft, hevaluated, hreset]

theorem flagByte_indicates {k place : Nat} {b : Byte} (h : b = 0 ∨ b = 1) : flagByte k place b = decide (b = 1) := by
  rcases h with rfl | rfl <;> rfl

/-- The state with the record of a PRESENT node that has answered (R178). -/
def answered (n : Fin 15) (stat : Byte) (data : Vector Byte 6) (s : State) : State := { s with
  link.nodes := s.link.nodes.set n { s.link.nodes[n] with miss := 0, stat := stat, data := data, echoed := data[5].toNat } }

theorem answered_node {n : Fin 15} {stat : Byte} {data : Vector Byte 6} (k : Fin 15) :
    (answered n stat data s).link.nodes[k] = if k = n then
      { s.link.nodes[n] with miss := 0, stat := stat, data := data, echoed := data[5].toNat } else s.link.nodes[k] :=
  nodes_putNode n k _ s

theorem answered_keeps {α : Type} {n : Fin 15} {stat : Byte} {data : Vector Byte 6} (f : NodeRec → α)
    (hf : ∀ (r : NodeRec) (x : Nat), f { r with miss := 0, stat := stat, data := data, echoed := x } = f r) (k : Fin 15) :
    f (answered n stat data s).link.nodes[k] = f s.link.nodes[k] := by
  rw [answered_node]
  split
  · next h =>
    rw [h]
    exact hf _ _
  · rfl

theorem nextOrder_answered {n : Fin 15} {stat : Byte} {data : Vector Byte 6} {st : Station} :
    nextOrder (answered n stat data s) st = nextOrder s st :=
  nextOrder_of_nodes (answered_keeps NodeRec.station fun _ _ => rfl) fun k _ => answered_keeps NodeRec.issued (fun _ _ => rfl) k

theorem isPresent_answered {n : Fin 15} {stat : Byte} {data : Vector Byte 6} {st : Station} :
    isPresent (answered n stat data s) st = isPresent s st := by
  have hnode : nodeOf (answered n stat data s) st = nodeOf s st :=
    nodeOf_of_stations (answered_keeps NodeRec.station fun _ _ => rfl) st
  have hstate : stationState (answered n stat data s) st = stationState s st := by
    unfold stationState
    rw [hnode]
    split
    · rfl
    · exact answered_keeps NodeRec.state (fun _ _ => rfl) _
  unfold isPresent
  rw [hstate]

theorem isPresent_of_node {n : Fin 15} {st : Station} (hnode : nodeOf s st = some n) (h : s.link.nodes[n].state = .present) :
    isPresent s st = true := by
  have hstate : stationState s st = .present := by
    unfold stationState
    rw [hnode]
    exact h
  exact decide_eq_true hstate

/-- A good response of a PRESENT node of the shuttle: its owner's report, and the end of the visit. -/
theorem exec_shuttleReport {n : Fin 15} {again : Bool} {cmd : NodeCmd} {bytes : List RxByte} {stat : Byte}
    {data : Vector Byte 6} (hgood : goodResponse .shuttle n again cmd bytes stat data s)
    (hpresent : s.link.nodes[n].state = .present) : ∃ link count, exec (.responseFrame bytes) s = .next
      { takeShuttleReport (decide (cmd = .reset)) (stat.getLsbD 7) (stat.getLsbD 6) (orderResultOfCode (stat.toNat / 4 % 8)) data
          (answered n stat data s) with link := link, freeCount := count } := by
  obtain ⟨addr, hphase, hjudge, hstation, hmore⟩ := hgood
  have hexec := exec_delivers hphase hjudge hmore
  have hanswered : recorded n stat data s = answered n stat data s := recorded_present hpresent
  rw [hanswered, hstation, deliver_shuttle] at hexec
  exact ⟨_, _, hexec⟩

end

/-- Settles O51: the grant request by request, then the events that make one stand. -/
theorem grantGoesToStoreThenUnloadThenLoad : Obligations.GrantGoesToStoreThenUnloadThenLoad := by
  unfold Obligations.GrantGoesToStoreThenUnloadThenLoad
  refine ⟨fun s hready => ⟨fun p rest d m hrack hdest => ?store, fun hstore => ⟨fun p pos sp hask => ⟨fun hstack => ?unload,
      fun hstack => grant_idle hstore (.inr hstack) fun pos cls h => nomatch hask.symm.trans h⟩, fun pos cls hask => ⟨fun hnone => ?noload,
      fun p r d m hcandidate hr hslot => ?load⟩, fun hask => ?none⟩⟩,
    fun s => ⟨fun hready => ⟨fun p rest d m hrack hdest => ?clear, fun x p rest r d m htimer hpin hsettled htrain hr hconfirmed hrack hdest => ?tail,
      fun x p r d m htimer hstate hstore hcandidate hr hslot => ?stabilized⟩,
      fun n again cmd bytes stat d hgood hnode hpresent hstate hmove hline hbit7 hbit6 hfull => ?report⟩⟩
  case store =>
    rw [grant_stores hready hrack hdest]
    refine ⟨board_moved rfl (nextOrder_of_link rfl) (fun r hr hstage => ⟨r, hr, hstage⟩) rfl rfl rfl rfl, ?_, ?_, ?_⟩
    · simp
    · simp
    · simp
  case unload =>
    rw [grant_unloads hready hstore hask hstack]
    refine ⟨board_moved rfl (nextOrder_of_link rfl) (fun r hr hstage => ⟨r, hr, hstage⟩) rfl rfl rfl rfl, ?_, ?_, ?_, ?_, ?_⟩
    · simp
    · rintro rfl
      simp [clearPos]
    · rintro rfl
      simp [clearPos]
    · simp
    · simp
  case noload =>
    refine grant_idle hstore (.inl fun _ _ _ h => nomatch hask.symm.trans h) fun pos' cls' h => ?_
    obtain ⟨-, rfl⟩ := Ask.load.inj (hask.symm.trans h)
    exact hnone
  case load =>
    obtain ⟨hlink, hnow, hshuttle, hadmission, hdrying⟩ :=
      loadTaken_frame (pos := pos) (p := p) (r := r) (d := d) (m := m) (s := s)
    have hplate := plateOf_loadTaken (pos := pos) (p := p) (r := r) (d := d) (m := m) (s := s) p
    rw [if_pos rfl] at hplate
    rw [grant_loads hready hstore hask hcandidate hr hslot]
    refine ⟨board_moved hnow (nextOrder_of_link hlink) (fun x hx hstage => ?_) ?_ ?_ ?_ ?_, ?_, ?_, ?_, ?_, ?_, ?_, ?_⟩
    · obtain rfl := Option.some.inj (hr.symm.trans hx)
      exact ⟨_, hplate, hstage⟩
    · cases pos <;> rfl
    · cases pos <;> rfl
    · cases pos <;> rfl
    · cases pos <;> rfl
    · cases pos <;> simp [loadTaken, loadGranted]
    · rintro rfl
      simp [loadTaken_one]
    · rintro rfl
      simp [loadTaken_two]
    · simp [hdrying]
    · simp [hdrying]
    · have hkept : (board .load p (.slot d m) (.chamber pos) false (loadTaken pos p r d m s)).admission =
          (loadTaken pos p r d m s).admission := by simp
      rw [hkept, hadmission]
    · have hword := slotWord_loadTaken (pos := pos) (p := p) (r := r) (d := d) (m := m) (s := s) p (o := 50) (by decide)
      rw [if_pos ⟨rfl, rfl⟩] at hword
      have hboard : slotWord (board .load p (.slot d m) (.chamber pos) false (loadTaken pos p r d m s)) p 50 =
          slotWord (loadTaken pos p r d m s) p 50 := slotWord_board (by decide) fun h => nomatch h
      exact hboard.trans hword
  case none =>
    exact grant_idle hstore (.inl fun _ _ _ h => nomatch hask.symm.trans h) fun _ _ h => nomatch hask.symm.trans h
  case clear =>
    obtain ⟨hgrant, hsent⟩ := handlingTests_stores (s := clearStrays (unheld s)) hready hrack hdest
    obtain ⟨-, hdrying, -, -, hadmission, -, -⟩ := beforeGrant_effect (clearStrays (unheld s))
    refine ⟨_, exec_rackClear s, hsent, ?_, ?_, ?_⟩
    · have hboard : (handlingTests (clearStrays (unheld s))).drying =
          { (beforeGrant (clearStrays (unheld s))).drying with rack := rest } := by simp [hgrant]
      exact hboard.trans (by rw [hdrying]; rfl)
    · have hboard : (handlingTests (clearStrays (unheld s))).admission = (beforeGrant (clearStrays (unheld s))).admission := by
        simp [hgrant]
      exact hboard.trans hadmission
    · have hkept : (handlingTests (clearStrays (unheld s))).supervisor = s.supervisor := by simp [clearStrays, unheld]
      exact congrArg (fun v : Supervisor => { v with outcome := .accepted }) hkept
  case tail =>
    obtain ⟨banks, hu, -⟩ := advanceTo_eq x s
    obtain ⟨v, hv⟩ : ∃ v, settledAtLevel .exit x false s = v := ⟨_, rfl⟩
    have hexec := exec_exitTail htimer hpin hsettled
    have hshown := settledAtLevel_exit (s := s) (d := x) false
    rw [hu] at hshown
    rw [hv] at hexec hshown
    have hvplate : plateOf v p = some r := by rw [hshown]; exact hr
    have hvtrain : v.tracker.train = p :: rest := by rw [hshown]; exact htrain
    have hvdrying : v.drying = s.drying := by rw [hshown]
    have hvcommit : v.admission = s.admission := by rw [hshown]
    have hvshuttle : v.shuttle = s.shuttle := by rw [hshown]
    have hvnow : v.now = max s.now x := by rw [hshown]
    have hvorder : nextOrder v .shuttle = nextOrder s .shuttle := nextOrder_of_link (by rw [hshown])
    have hracks : exitTail v = rackPlate p v :=
      exitTail_confirmed (confirmedHead_of hvtrain hvplate hconfirmed) (by rw [hvdrying, hrack]; decide)
    obtain ⟨htrain', hdrying', hcommit', hshuttle', hnow'⟩ := rackPlate_units p v
    rw [hvdrying, hrack] at hdrying'
    rw [hracks] at hexec
    obtain ⟨hgrant, hsent⟩ := handlingTests_stores (s := rackPlate p v) (p := p) (rest := []) (d := d) (m := m)
      (by rw [hshuttle', hvshuttle, hready]) (by rw [hdrying']; rfl)
      ((storeDest_congr (t := rackPlate p v) (s := s) (by rw [hdrying'])).trans hdest)
    obtain ⟨-, hdrying, -, -, hadmission, -, htrain''⟩ := beforeGrant_effect (rackPlate p v)
    rw [hnow', hvnow] at hsent
    refine ⟨_, hexec, hsent.from ((nextOrder_rackPlate (by decide)).trans hvorder) fun y hy hstage => ?_, ?_, ?_, ?_⟩
    · obtain rfl := Option.some.inj (hr.symm.trans hy)
      obtain ⟨-, -, ⟨q, hq, hracked, -⟩, -⟩ := rackPlate_effect hvplate hstage
      exact ⟨q, hq, by rw [hracked]; decide⟩
    · have hboard : (handlingTests (rackPlate p v)).drying = { (beforeGrant (rackPlate p v)).drying with rack := [] } := by
        simp [hgrant]
      rw [hboard, hdrying, hdrying', ← hrack]
    · have hboard : (handlingTests (rackPlate p v)).tracker.train = (beforeGrant (rackPlate p v)).tracker.train := by simp [hgrant]
      rw [hboard, htrain'', htrain', hvtrain, List.erase_cons_head]
    · have hboard : (handlingTests (rackPlate p v)).admission = (beforeGrant (rackPlate p v)).admission := by simp [hgrant]
      rw [hboard, hadmission, hcommit', hvcommit]
  case stabilized =>
    obtain ⟨banks, hu, -⟩ := advanceTo_eq x s
    have hexec := stabilizing_expires htimer hstate
    rw [hu] at hexec
    obtain ⟨w, hw⟩ : ∃ w : State, { s with
        now := max s.now x, banks := banks, chamber.stabilizing := none, chamber.state := .ready
        chamber.idle := some (max s.now x + 900000), chamber.ask := .load .one none } = w := ⟨_, rfl⟩
    have hwplate : plateOf w p = some r := by rw [← hw]; exact hr
    obtain ⟨hgrant, hsent⟩ := handlingTests_loads (s := w) (by rw [← hw]; exact hready)
      (noStore_congr (s := s) (by rw [← hw]) hstore) (by rw [← hw]) ((loadCandidate_congr (by rw [← hw]) (by rw [← hw]) none).trans hcandidate)
      hwplate hslot
    have hlight : lightTubes w = w := if_neg fun h => by
      have hdark := h.1
      rw [← hw] at hdark
      nomatch hdark
    have hchamber : (handlingTests w).chamber = (loadTaken .one p r d m w).chamber := by
      rw [hgrant, hlight]
      simp
    have hnow : w.now = max s.now x := by rw [← hw]
    rw [hnow] at hsent
    refine ⟨handlingTests w, ?_, hsent.from (nextOrder_of_link (by rw [← hw])) fun y hy hstage => ?_, ?_⟩
    · rw [← hw]
      exact hexec
    · exact ⟨y, by rw [← hw]; exact hy, hstage⟩
    · rw [hchamber, loadTaken_one, ← hw]
  case report =>
    obtain ⟨link, count, hexec⟩ := exec_shuttleReport hgood hpresent
    rw [takeShuttleReport_stopped (s := answered n stat d s) hstate hmove (isPresent_answered.trans (isPresent_of_node hnode hpresent))
      hbit7 hbit6 hline] at hexec
    obtain ⟨w, hw⟩ : ∃ w, madeReady (stat.getLsbD 7) (stat.getLsbD 6) (orderResultOfCode (stat.toNat / 4 % 8)) d
      (answered n stat d s) = w := ⟨_, rfl⟩
    rw [hw] at hexec
    have hready : w.shuttle.state = .ready := by rw [← hw]; rfl
    have hidle : w.shuttle.move = none := by rw [← hw]; exact hmove
    have hstack : w.shuttle.stackFull = decide (d[1] = 1) := by
      rw [← hw]
      exact flagByte_indicates hfull
    have hdrying : w.drying = s.drying := by rw [← hw]; rfl
    have hchamber : w.chamber = s.chamber := by rw [← hw]; rfl
    have hplates : w.tracker.plates = s.tracker.plates := by rw [← hw]; rfl
    have hplate (p : PlateId) : plateOf w p = plateOf s p := by rw [← hw]; rfl
    have hnow : w.now = s.now := by rw [← hw]; rfl
    have horder : nextOrder w .shuttle = nextOrder s .shuttle := by
      rw [← hw]
      exact (nextOrder_of_link rfl).trans nextOrder_answered
    have hfrom {kind : MoveKind} {p : PlateId} {a b : Place} (h : Sent kind p a b w.now w (handlingTests w)) :
        Sent kind p a b s.now s (handlingTests w) := by
      rw [hnow] at h
      exact h.from horder fun r hr hstage => ⟨r, (hplate p).trans hr, hstage⟩
    clear hw
    refine ⟨_, hexec, fun p rest k m hrack hdest => ?_, fun hstore => ⟨fun p pos sp hask hnotFull => ?_,
      fun pos cls p r k m hask hcandidate hr hslot => ?_, fun hnone => ?_⟩⟩
    · obtain ⟨hgrant, hsent⟩ := handlingTests_stores hready (by rw [hdrying, hrack])
        ((storeDest_congr (t := w) (s := s) (by rw [hdrying])).trans hdest)
      refine ⟨hfrom hsent, ?_⟩
      rw [hgrant]
      simp
    · obtain ⟨hgrant, hsent⟩ := handlingTests_unloads hready (noStore_congr hdrying hstore) (by rw [hchamber, hask])
        (by rw [hstack, hnotFull]; decide)
      refine ⟨hfrom hsent, ?_⟩
      rw [hgrant]
      simp
    · obtain ⟨hgrant, hsent⟩ := handlingTests_loads hready (noStore_congr hdrying hstore) (by rw [hchamber, hask])
        ((loadCandidate_congr hplates hdrying cls).trans hcandidate) ((hplate p).trans hr) hslot
      refine ⟨hfrom hsent, ?_⟩
      rw [hgrant]
      cases pos <;> simp [loadTaken_one, loadTaken_two]
    · have hnotTwo (pos : ChamberPos) (cls : Option (Nat × Nat)) : w.chamber.ask ≠ .load pos cls := by
        rw [hchamber]
        rcases hnone with h | ⟨⟨p, pos', sp, h⟩, -⟩ <;> rw [h] <;> nofun
      have hstands : handlingTests w = grant (lightTubes w) :=
        congrArg (fun x => grant (lightTubes x)) (withdrawSecondAsk_stands fun cls h => absurd h (hnotTwo .two cls))
      have hgrant : grant (lightTubes w) = lightTubes w := by
        refine grant_idle (noStore_congr (by simp [hdrying]) hstore) ?_ fun pos cls h => absurd ((lightTubes_ask w).symm.trans h) (hnotTwo pos cls)
        rcases hnone with h | ⟨-, h⟩
        · exact .inl fun p pos sp h' => nomatch (h.symm.trans ((congrArg Chamber.ask hchamber.symm).trans ((lightTubes_ask w).symm.trans h')))
        · exact .inr (by simp [hstack, h])
      rw [hstands, hgrant]
      simp [hready, hidle]

end Sys2Proof.Machine

/-! PROOFS. A visit that is not good, and the loss of a node (R178, R179, R182). -/

namespace Sys2Proof.Machine

section
variable {s t u : State} {p : PlateId} {n : Fin 15}

/-! ## What the loss of a node latches -/

theorem latches_after (h' : Latches t u) (h : t.bus.latched = s.bus.latched) : Latches s u := (latches_of_eq h).trans h'

theorem latches_completeSlot (p : PlateId) (d : Disposition) (s : State) : Latches s (completeSlot p d s) :=
  latches_after (latches_latch .slot _) (by simp)

theorem latches_endPlate (p : PlateId) (b : Bool) (s : State) : Latches s (endPlate p b s) := by
  unfold endPlate
  split
  · exact latches_of_eq rfl
  · dsimp only
    split
    · exact latches_of_eq rfl
    · split
      · exact latches_of_eq (by simp)
      · exact latches_after (latches_completeSlot p _ _) (by simp)

theorem latches_spoilFromTrain (p : PlateId) (s : State) : Latches s (spoilFromTrain p s) := by
  have hdeparted : Latches s (departTrain p s) := latches_after (latches_leaveWash p _) rfl
  exact fun k hk => latches_endPlate p true _ k (hdeparted k hk)

theorem latches_spoilTrain (s : State) : Latches s (spoilTrain s) := by
  refine List.foldlRecOn (motive := Latches s) s.tracker.train _ (latches_of_eq rfl) fun u hu p _ => ?_
  exact hu.trans (latches_spoilFromTrain p u)

theorem latches_stopLine (cause : HaltCause) (attn : Attn) (l : LineState) (s : State) : Latches s (stopLine cause attn l s) := by
  have hspoilt : Latches s (spoilTrain (closeGate s)) := latches_after (latches_spoilTrain _) rfl
  have hstopped : Latches (spoilTrain (closeGate s)) (stopLine cause attn l s) := by
    have hset : (stopLine cause attn l s).bus.latched =
        (latch attn { forceBanks (endEpoch (spoilTrain (closeGate s))) with supervisor.cause := cause }).bus.latched := by
      simp [stopLine]
    exact (latches_after (latches_latch attn _) (by simp [forceBanks])).trans (latches_of_eq hset)
  exact hspoilt.trans hstopped

theorem latches_raiseHalt (cause : HaltCause) (s : State) : Latches s (raiseHalt cause s) := by
  unfold raiseHalt
  split
  · exact latches_stopLine _ _ _ _
  · exact latches_stopLine _ _ _ _
  · exact latches_stopLine _ _ _ _
  · exact latches_of_eq rfl
  · exact latches_of_eq rfl

theorem afterFailure_latched (m : Move) (s : State) : (afterFailure m s).bus.latched = s.bus.latched := by
  unfold afterFailure
  split
  · rfl
  · simp
  · simp

theorem latches_failMove (m : Move) (s : State) : Latches s (failMove m s) := by
  generalize hu : endPlate m.plate true { s with shuttle.move := none, shuttle.timer := none } = u
  have hended : Latches s u := by
    rw [← hu]
    exact latches_after (latches_endPlate m.plate true _) rfl
  have hfail : failMove m s = latch .handling { afterFailure m u with shuttle.state := .faulted } := by
    rw [← hu]
    rfl
  rw [hfail]
  exact hended.trans (latches_after (latches_latch .handling _) (afterFailure_latched m u))

theorem latches_failCurrentMove (s : State) : Latches s (failCurrentMove s) := by
  unfold failCurrentMove
  split
  · exact latches_of_eq rfl
  · exact latches_failMove _ s

theorem chamberFault_latch (s : State) : ∃ x, chamberFault s = unloadNext (latch .handling x) ∧
    x.bus.latched = s.bus.latched := ⟨_, rfl, by simp⟩

theorem latches_chamberFault (s : State) : Latches s (chamberFault s) := by
  obtain ⟨x, hfault, hlatched⟩ := chamberFault_latch s
  rw [hfault]
  exact (latches_after (latches_latch .handling x) hlatched).trans (latches_of_eq (by simp))

theorem latches_finisherLost (s : State) : Latches s (finisherLost s) := by
  unfold finisherLost
  split <;> first | exact latches_of_eq rfl | exact latches_chamberFault s

theorem latches_toldLost (st : Station) (s : State) : Latches s (toldLost st s) := by
  cases st with
  | drive => exact (latches_raiseHalt .driveLost s).trans (latches_of_eq (by simp [toldLost]))
  | wash => exact latches_raiseHalt .washLost s
  | shuttle => exact (latches_failCurrentMove s).trans (latches_of_eq (by simp [toldLost]))
  | finisher => exact (latches_finisherLost s).trans (latches_of_eq (by simp [toldLost]))
  | drawer d => exact latches_of_eq (by simp [toldLost])
  | none => exact latches_of_eq rfl

/-! ## What the loss of a node leaves of the scan -/

theorem ordersOnly_changeLoad (x : Nat) (s : State) : OrdersOnly s (changeLoad x s) := by
  unfold changeLoad openCycle
  split
  · exact ordersOnly_after (ordersOnly_orderOrPend _) (by simp)
  · exact ordersOnly_of_link (by simp)

theorem ordersOnly_departTrain (p : PlateId) (s : State) : OrdersOnly s (departTrain p s) := by
  unfold departTrain leaveWash
  split
  · exact ordersOnly_of_link rfl
  · split
    · exact ordersOnly_of_link rfl
    · exact ordersOnly_after (ordersOnly_changeLoad _ _) rfl

theorem ordersOnly_spoilFromTrain (p : PlateId) (s : State) : OrdersOnly s (spoilFromTrain p s) :=
  (ordersOnly_departTrain p s).trans (ordersOnly_of_link (by simp [spoilFromTrain, giveBackPlace]))

theorem ordersOnly_stopLine (cause : HaltCause) (attn : Attn) (l : LineState) (s : State) :
    OrdersOnly s (stopLine cause attn l s) := by
  have hspoilt : OrdersOnly s (spoilTrain (closeGate s)) := by
    refine List.foldlRecOn (motive := OrdersOnly s) (closeGate s).tracker.train _ (ordersOnly_of_link rfl) fun u hu p _ => ?_
    exact hu.trans (ordersOnly_spoilFromTrain p u)
  exact hspoilt.trans (ordersOnly_of_link (by simp [stopLine, forceBanks]))

theorem ordersOnly_raiseHalt (cause : HaltCause) (s : State) : OrdersOnly s (raiseHalt cause s) := by
  unfold raiseHalt
  split
  · exact ordersOnly_stopLine ..
  · exact ordersOnly_stopLine ..
  · exact ordersOnly_stopLine ..
  · exact .refl
  · exact .refl

theorem ordersOnly_toldLost (st : Station) (s : State) : OrdersOnly s (toldLost st s) := by
  cases st with
  | drive => exact (ordersOnly_raiseHalt .driveLost s).trans (ordersOnly_of_link (by simp [toldLost]))
  | wash => exact ordersOnly_raiseHalt .washLost s
  | shuttle => exact ordersOnly_after (ordersOnly_handlingTests _) (by simp)
  | finisher => exact ordersOnly_after (ordersOnly_handlingTests _) (by simp)
  | drawer d => exact ordersOnly_after (ordersOnly_handlingTests _) (by simp)
  | none => exact .refl

/-! ## What the end of a visit keeps (R172, R173) -/

/-- A start of a pass keeps what the link, the owners told and the tests of the handling units keep. -/
theorem takeAssignment_keeps (P : State → Prop) (hlink : ∀ s l, P s → P { s with link := l })
    (htold : ∀ st s, P s → P (toldLeft st s)) (htests : ∀ s, P s → P (handlingTests s)) (h : P s) : P (takeAssignment s) := by
  unfold takeAssignment
  refine htests _ (List.foldlRecOn (motive := P) nodeIds _ (hlink s _ h) fun u hu m _ => ?_)
  dsimp only
  split
  · exact htold _ u hu
  · exact hu

theorem endVisit_keeps (P : State → Prop) (hlink : ∀ s l, P s → P { s with link := l })
    (htold : ∀ st s, P s → P (toldLeft st s)) (htests : ∀ s, P s → P (handlingTests s)) (h : P s) : P (endVisit n s) := by
  have hstart (u : State) (hu : P u) : P (startPass u) := by
    have htaken : P (takeAssignment u) := takeAssignment_keeps P hlink htold htests hu
    unfold startPass
    dsimp only
    split
    · exact hlink _ _ htaken
    · split
      · exact hlink _ _ htaken
      · exact hlink _ _ htaken
      · exact hlink _ _ htaken
  have hend (u : State) (hu : P u) : P (endPass u) := by
    unfold endPass
    split
    · split
      · exact hstart u hu
      · exact hlink _ _ hu
    · exact hlink _ _ hu
  unfold endVisit
  dsimp only
  split
  · exact hend _ (hlink _ _ h)
  · exact hlink _ _ h

/-! ## What stands through the end of the visit -/

theorem takeDriveReport_figures (ready fault : Bool) (s : State) : (takeDriveReport ready fault s).transport.driveReady = ready ∧
    (takeDriveReport ready fault s).transport.driveFault = fault := by
  unfold takeDriveReport
  dsimp only
  split
  · unfold setBeltState
    split <;> exact ⟨rfl, rfl⟩
  · exact ⟨rfl, rfl⟩

/-- A drive report that is not ready stays through the end of a visit. -/
theorem driveLost_endVisit (h : s.transport.driveReady = false ∧ s.transport.driveFault = false) :
    (endVisit n s).transport.driveReady = false ∧ (endVisit n s).transport.driveFault = false := by
  refine endVisit_keeps (fun s => s.transport.driveReady = false ∧ s.transport.driveFault = false) (fun _ _ h => h)
    (fun st s h => ?_) (fun s h => by simpa using h) h
  cases st with
  | drive => exact takeDriveReport_figures false false s
  | shuttle => simpa [toldLeft] using h
  | drawer d => simpa [toldLeft] using h
  | wash => exact h
  | finisher => exact h
  | none => exact h

/-- In `t` the shuttle is FAULTED without a move, and of a plate that has ended the slot stands. -/
def SpoiledAboard (p : PlateId) (t : State) : Prop :=
  t.shuttle.state = .faulted ∧ t.shuttle.move = none ∧ slotState t p = .done ∧ slotWord t p 33 = 18

theorem spoiledAboard_of (h : SpoiledAboard p s) (hshuttle : t.shuttle = s.shuttle) (hfinish : FinishOnly s t) :
    SpoiledAboard p t := by
  obtain ⟨hstate, hmove, hdone, hreason⟩ := h
  exact ⟨hshuttle ▸ hstate, hshuttle ▸ hmove, (hfinish.state p).trans hdone, (hfinish.word p 33 (by decide) (by decide)).trans hreason⟩

theorem evalShuttle_faulted (h : s.shuttle.state = .faulted) : evalShuttle s = s := by
  simp only [evalShuttle, h]

theorem spoiledAboard_handlingTests (h : SpoiledAboard p s) : SpoiledAboard p (handlingTests s) := by
  have hready : s.shuttle.state ≠ .ready := by
    rw [h.1]
    nofun
  have hgrant : handlingTests s = lightTubes (withdrawSecondAsk s) := grant_of_not_ready _ (by simpa using hready)
  exact spoiledAboard_of h (by simp [hgrant]) (finishOnly_handlingTests hready .refl)

theorem spoiledAboard_endVisit (h : SpoiledAboard p s) : SpoiledAboard p (endVisit n s) := by
  refine endVisit_keeps (SpoiledAboard p) (fun _ _ h => h) (fun st s h => ?_) (fun _ => spoiledAboard_handlingTests) h
  cases st with
  | shuttle =>
    have hsame : toldLeft .shuttle s = s := evalShuttle_faulted h.1
    rwa [hsame]
  | drive => exact spoiledAboard_of h (by simp [toldLeft]) (finishOnly_of_eq .refl (by simp) (by simp))
  | drawer d => exact spoiledAboard_of h (by simp [toldLeft]) (finishOnly_of_eq .refl (by simp) (by simp))
  | wash => exact h
  | finisher => exact h
  | none => exact h

/-- The chamber is FAULTED, its shutters closed, and asks for no LOAD (R167). -/
def chamberStopped (c : Chamber) : Prop :=
  c.state = .faulted ∧ c.openA = false ∧ c.openC = false ∧ ∀ pos cls, c.ask ≠ .load pos cls

theorem chamberStopped_grant (h : chamberStopped s.chamber) : chamberStopped (grant s).chamber := by
  obtain ⟨hstate, hopenA, hopenC, hask⟩ := h
  by_cases hready : s.shuttle.state = .ready
  · rcases grant_cases hready with h' | ⟨-, h'⟩ | ⟨-, -, h'⟩ | ⟨-, -, -, h'⟩
    · obtain ⟨p, rest, dm, e, -⟩ := grantStore_some s _ h'
      rw [e]
      simp [chamberStopped, hstate, hopenA, hopenC, hask]
    · obtain ⟨p, pos, sp, e, -⟩ := grantUnload_some s _ h'
      rw [e]
      cases pos <;> simp [chamberStopped, clearPos, hstate, hopenA, hopenC]
    · obtain ⟨pos, cls, p, r, d, m, -, hload, -⟩ := grantLoad_some s _ h'
      exact absurd hload (hask pos cls)
    · rw [h']
      exact ⟨hstate, hopenA, hopenC, hask⟩
  · rw [grant_of_not_ready s hready]
    exact ⟨hstate, hopenA, hopenC, hask⟩

theorem chamberStopped_handlingTests (h : chamberStopped s.chamber) : chamberStopped (handlingTests s).chamber := by
  have hwithdraw : withdrawSecondAsk s = s := withdrawSecondAsk_stands fun cls hask => absurd hask (h.2.2.2 .two cls)
  have hlight : lightTubes s = s := if_neg fun hdark => absurd (h.1.symm.trans hdark.1) (by decide)
  have htests : handlingTests s = grant s := by
    unfold handlingTests
    rw [hwithdraw, hlight]
  rw [htests]
  exact chamberStopped_grant h

theorem chamberStopped_endVisit (h : chamberStopped s.chamber) : chamberStopped (endVisit n s).chamber :=
  endVisit_keeps (fun s => chamberStopped s.chamber) (fun _ _ h => h)
    (fun st s h => by
      have hsame : (toldLeft st s).chamber = s.chamber := by simp
      rwa [hsame]) (fun _ => chamberStopped_handlingTests) h

theorem chamberStopped_fault (s : State) : chamberStopped (chamberFault s).chamber := by
  obtain ⟨⟨cls, ask, hchamber, hask⟩, -⟩ := chamberFault_effect s
  rw [hchamber]
  exact ⟨rfl, rfl, rfl, hask⟩

/-! ## The two outcomes that are not good (R178, R179) -/

/-- The counts of a visit that is not good (R178). -/
def missed (isCheck : Bool) (r : NodeRec) : NodeRec :=
  { r with miss := min 7 (r.miss + 1), check := if isCheck then min 255 (r.check + 1) else r.check }

theorem notGood_counts {isCheck : Bool} (h : s.link.nodes[n].state ≠ .present ∨ s.link.nodes[n].miss < 2) :
    notGood n isCheck s = putNode n (missed isCheck s.link.nodes[n]) s := by
  refine if_neg ?_
  rintro ⟨hpresent, hmiss⟩
  have hmiss' : 3 ≤ min 7 (s.link.nodes[n].miss + 1) := hmiss
  rcases h with h | h
  · exact h hpresent
  · omega

theorem notGood_loses {isCheck : Bool} (hpresent : s.link.nodes[n].state = .present) (hmiss : 2 ≤ s.link.nodes[n].miss) :
    notGood n isCheck s = toldLost s.link.nodes[n].station
      (latch .node (putNode n { missed isCheck s.link.nodes[n] with state := .lost } s)) := by
  refine if_pos ⟨hpresent, ?_⟩
  change 3 ≤ min 7 (s.link.nodes[n].miss + 1)
  omega

end

/-- What a visit that is not good does, as R178, R179 and R182 say it. -/
def MissCounted (n : Fin 15) (isCheck : Bool) (c : Instr) (s : State) : Prop :=
  let r := s.link.nodes[n]
  (r.state ≠ .present ∨ r.miss < 2 → s.link.revisit ≠ none ∨ nextVisited s (n.val + 1) ≠ none →
    ∃ t, exec c s = .next t ∧ t.link.nodes[n] = missed isCheck r ∧ (∀ m : Fin 15, m ≠ n → t.link.nodes[m] = s.link.nodes[m]) ∧
      t.link.phase = .guard (n.val + 1) ∧ { t with link.nodes := s.link.nodes, link.phase := s.link.phase } = s) ∧
  (r.state = .present → 2 ≤ r.miss →
    ∃ t, exec c s = .next t ∧ t.bus.latched.getLsbD 2 = true ∧
      (s.link.revisit ≠ none ∨ nextVisited s (n.val + 1) ≠ none →
        t.link.nodes[n].state = .lost ∧ t.link.nodes[n].miss = min 7 (r.miss + 1)) ∧
      (r.station = .drive → s.supervisor.line ≠ .halted → s.supervisor.line ≠ .safe →
        t.supervisor.line = .halted ∧ t.supervisor.cause = .driveLost ∧ t.transport.driveReady = false ∧
        t.transport.driveFault = false ∧ t.tracker.train = []) ∧
      (r.station = .wash → s.supervisor.line ≠ .halted → s.supervisor.line ≠ .safe →
        t.supervisor.line = .halted ∧ t.supervisor.cause = .washLost ∧ t.tracker.train = []) ∧
      (r.station = .shuttle → ∀ (m : Move) (x : Plate), s.shuttle.move = some m → plateOf s m.plate = some x →
        x.stage ≠ .ended → t.shuttle.state = .faulted ∧ t.shuttle.move = none ∧ t.bus.latched.getLsbD 4 = true ∧
        slotState t m.plate = .done ∧ slotWord t m.plate 33 = 18) ∧
      (r.station = .finisher → s.chamber.state ≠ .dark → s.chamber.state ≠ .faulted →
        t.chamber.state = .faulted ∧ t.chamber.openA = false ∧ t.chamber.openC = false ∧
        t.bus.latched.getLsbD 4 = true))

/-- A node other than one that is set keeps its station, as that one does. -/
theorem station_putNode {s : State} {n : Fin 15} {q : NodeRec} (hq : q.station = s.link.nodes[n].station) (m : Fin 15) :
    (putNode n q s).link.nodes[m].station = s.link.nodes[m].station := by
  rw [nodes_putNode]
  split
  · next h => rw [h, hq]
  · rfl

theorem missCounted_of {s : State} {n : Fin 15} {isCheck : Bool} {c : Instr}
    (hexec : exec c s = .next (endVisit n (notGood n isCheck s))) : MissCounted n isCheck c s := by
  refine ⟨fun hstays hmore => ?_, fun hpresent hmiss => ?_⟩
  · rw [notGood_counts hstays, endVisit_more (t := putNode n (missed isCheck s.link.nodes[n]) s)] at hexec
    · exact ⟨_, hexec, (nodes_putNode n n _ s).trans (if_pos rfl), fun m hm => (nodes_putNode n m _ s).trans (if_neg hm), rfl, rfl⟩
    · refine hmore.imp_right fun h => ?_
      rwa [nextVisited_of_stations (s := s) (station_putNode (q := missed isCheck s.link.nodes[n]) rfl)]
  · rw [notGood_loses hpresent hmiss] at hexec
    obtain ⟨x, hx⟩ : ∃ x, latch .node (putNode n { missed isCheck s.link.nodes[n] with state := .lost } s) = x := ⟨_, rfl⟩
    rw [hx] at hexec
    have hlatched : (endVisit n (toldLost s.link.nodes[n].station x)).bus.latched =
        (toldLost s.link.nodes[n].station x).bus.latched := by simp
    have hsupervisor (u : State) : (endVisit n u).supervisor = u.supervisor := by simp
    have htrain (u : State) : (endVisit n u).tracker.train = u.tracker.train := by simp
    have hline : x.supervisor = s.supervisor := by simp [← hx]
    have hbit : x.bus.latched.getLsbD 2 = true := by
      rw [← hx]
      exact getLsbD_latch .node _
    refine ⟨_, hexec, ?_, fun hmore => ?_, fun hdrive hhalted hsafe => ?_, fun hwash hhalted hsafe => ?_,
      fun hshuttle m r hmove hr hstage => ?_, fun hfinisher hdark hfaulted => ?_⟩
    · rw [hlatched]
      exact latches_toldLost _ x 2 hbit
    · have hkept := ordersOnly_toldLost s.link.nodes[n].station x
      have hstation (m : Fin 15) : x.link.nodes[m].station = s.link.nodes[m].station := by
        rw [← hx]
        simpa using station_putNode (s := s) (q := { missed isCheck s.link.nodes[n] with state := .lost }) rfl m
      have hrevisit : x.link.revisit = s.link.revisit := by simp [← hx]
      have hmore' : (toldLost s.link.nodes[n].station x).link.revisit ≠ none ∨
          nextVisited (toldLost s.link.nodes[n].station x) (n.val + 1) ≠ none := by
        rw [hkept.figure Link.revisit fun _ _ => rfl, hrevisit,
          nextVisited_of_stations (s := s) fun m => (hkept.station m).trans (hstation m)]
        exact hmore
      have hnode : x.link.nodes[n] = { missed isCheck s.link.nodes[n] with state := .lost } := by
        rw [← hx]
        simp
      have hview := congrFun hkept.nodes n
      unfold nodesView at hview
      rw [hnode] at hview
      have hlost := congrArg NodeRec.state hview
      have hmissed := congrArg NodeRec.miss hview
      rw [endVisit_more hmore']
      exact ⟨hlost, hmissed⟩
    · have hstop : toldLost .drive x = takeDriveReport false false (stopLine .driveLost .halt .halted x) := by
        unfold toldLost
        dsimp only
        rw [raiseHalt_moving (by rw [hline]; exact hhalted) (by rw [hline]; exact hsafe)]
      obtain ⟨hstopped, -, -, -, hempty, -⟩ := stopLine_effect (cause := .driveLost) (attn := .halt) (line := .halted) (.inl rfl) x
      obtain ⟨hready, hfault⟩ := driveLost_endVisit (n := n) (s := toldLost .drive x) (by
        rw [hstop]
        exact takeDriveReport_figures false false _)
      have hreport : (toldLost .drive x).supervisor = (stopLine .driveLost .halt .halted x).supervisor ∧
          (toldLost .drive x).tracker.train = (stopLine .driveLost .halt .halted x).tracker.train := by
        rw [hstop]
        simp
      rw [hdrive, hsupervisor, htrain, hreport.1, hreport.2]
      exact ⟨congrArg Supervisor.line hstopped, congrArg Supervisor.cause hstopped, hready, hfault, hempty⟩
    · have hstop : toldLost .wash x = stopLine .washLost .halt .halted x :=
        raiseHalt_moving (by rw [hline]; exact hhalted) (by rw [hline]; exact hsafe)
      obtain ⟨hstopped, -, -, -, hempty, -⟩ := stopLine_effect (cause := .washLost) (attn := .halt) (line := .halted) (.inl rfl) x
      rw [hwash, hsupervisor, htrain, hstop]
      exact ⟨congrArg Supervisor.line hstopped, congrArg Supervisor.cause hstopped, hempty⟩
    · have hplate : plateOf x m.plate = some r := by
        rw [← hr, ← hx]
        simp [plateOf]
      have hmove' : x.shuttle.move = some m := by
        rw [← hmove, ← hx]
        simp
      obtain ⟨hstate, hbit4, hdone, hreason, -⟩ := failMove_effect hplate hstage
      have hfail : failCurrentMove x = failMove m x := by
        unfold failCurrentMove
        rw [hmove']
      have hfaulted : (failMove m x).shuttle.state = .faulted := by rw [hstate]
      have htold : toldLost .shuttle x = handlingTests (failMove m x) := by
        unfold toldLost
        dsimp only
        rw [hfail, evalShuttle_faulted hfaulted]
      have haboard : SpoiledAboard m.plate (handlingTests (failMove m x)) :=
        spoiledAboard_handlingTests ⟨hfaulted, by rw [hstate], hdone, hreason⟩
      obtain ⟨hstate', hmove'', hdone', hreason'⟩ := spoiledAboard_endVisit (n := n) haboard
      have hbit4' : (handlingTests (failMove m x)).bus.latched.getLsbD 4 = true := by simpa using hbit4
      rw [hlatched, hshuttle, htold]
      exact ⟨hstate', hmove'', hbit4', hdone', hreason'⟩
    · have hchamber : x.chamber = s.chamber := by simp [← hx]
      have hlost : finisherLost x = chamberFault x := by
        rw [← hchamber] at hdark hfaulted
        unfold finisherLost
        split <;> first | rfl | contradiction
      have htold : toldLost .finisher x = handlingTests (chamberFault x) := by
        rw [← hlost]
        rfl
      obtain ⟨-, hbit4, -⟩ := chamberFault_effect x
      obtain ⟨hstate, hopenA, hopenC, -⟩ :=
        chamberStopped_endVisit (n := n) (chamberStopped_handlingTests (chamberStopped_fault x))
      have hbit4' : (handlingTests (chamberFault x)).bus.latched.getLsbD 4 = true := by simpa using hbit4
      rw [hlatched, hfinisher, htold]
      exact ⟨hstate, hopenA, hopenC, hbit4'⟩

/-- Settles O55: the counts, or the loss and what it does to each station, kept by the end of the visit. -/
theorem missedVisitsLoseTheNode : Obligations.MissedVisitsLoseTheNode := by
  unfold Obligations.MissedVisitsLoseTheNode
  intro n again addr cmd s hphase
  have hcounted (c : Instr) (isCheck : Bool) (hexec : exec c s = .next (endVisit n (notGood n isCheck s))) :
      MissCounted n isCheck c s :=
    missCounted_of hexec
  refine ⟨hcounted .responseTimeout false ?_, fun bytes hbytes => hcounted (.responseFrame bytes) true ?_⟩
  · refine congrArg Host.Outcome.next (?_ : visitOutcome _ s = _)
    unfold visitOutcome
    rw [hphase]
  · refine congrArg Host.Outcome.next (?_ : visitOutcome _ s = _)
    unfold visitOutcome
    rw [hphase]
    dsimp only
    rcases hbytes with h | h <;> rw [h]

end Sys2Proof.Machine

/-! PROOFS. What a report of the wash node does (R115, R123 to R125). -/

namespace Sys2Proof.Machine

section
variable {s t : State} {n : Fin 15} {again : Bool} {cmd : NodeCmd} {bytes : List RxByte} {stat : Byte}
  {d : Vector Byte 6} {ready fault : Bool} {result : OrderResult}

/-! ## Words of a response -/

theorem wordOfLowHigh_append (low high : Byte) : wordOfLowHigh low high = high ++ low := by
  refine BitVec.eq_of_toNat_eq ?_
  have hlow := low.isLt
  have hhigh := high.isLt
  unfold wordOfLowHigh
  rw [BitVec.toNat_ofNat, BitVec.toNat_append, Nat.shiftLeft_eq, Nat.mul_comm, ← Nat.two_pow_add_eq_or_of_lt hlow, Nat.mul_comm]
  omega

theorem wordOfLowHigh_toNat (low high : Byte) : (wordOfLowHigh low high).toNat = low.toNat + 256 * high.toNat := by
  have hlow := low.isLt
  have hhigh := high.isLt
  unfold wordOfLowHigh
  rw [BitVec.toNat_ofNat]
  omega

/-! ## The report (R115) -/

/-- The latest report of the wash node. -/
def washReport (ready fault : Bool) (result : OrderResult) (d : Vector Byte 6) (w : Wash) : Wash := { w with
  ready := ready, fault := fault, result := result
  level := (wordOfLowHigh d[0] d[1]).toNat, temp := wordOfLowHigh d[2] d[3], active := d[4].toNat, echo := d[5].toNat }

theorem washReport_eq (w : Wash) : washReport ready fault result d w = { w with
    ready := ready, fault := fault, result := result
    level := d[0].toNat + 256 * d[1].toNat, temp := d[3] ++ d[2], active := d[4].toNat, echo := d[5].toNat } := by
  rw [← wordOfLowHigh_toNat, ← wordOfLowHigh_append]
  rfl

/-- The state with the latest report of the wash node. -/
def washRecorded (ready fault : Bool) (result : OrderResult) (d : Vector Byte 6) (s : State) : State :=
  { s with wash := washReport ready fault result d s.wash }

theorem takeWashReport_eq : takeWashReport ready fault result d s =
    if s.wash.outstanding = some d[5].toNat then
      if d[4] = 1 then { washRecorded ready fault result d s with wash.replenish := .active }
      else if d[4] = 0 then
        match result with
        | .done => completeReplenish (washRecorded ready fault .done d s)
        | .failed => failReplenish (washRecorded ready fault .failed d s)
        | .none => washRecorded ready fault .none d s
      else washRecorded ready fault result d s
    else washRecorded ready fault result d s := by
  cases result <;> rfl

/-! ## The completion of an order (R124) -/

/-- The load after a replenish of a portion (R124). -/
def replenished (w : Wash) : Nat := ceilDiv (w.load * (w.volume - w.portion)) w.volume

theorem replenished_bounds {w : Wash} (h : 0 < w.volume) : w.load * (w.volume - w.portion) ≤ replenished w * w.volume ∧
    replenished w * w.volume < w.load * (w.volume - w.portion) + w.volume := by
  unfold replenished ceilDiv
  generalize w.load * (w.volume - w.portion) = left
  generalize w.volume = volume at h ⊢
  have hdiv := Nat.div_add_mod (left + (volume - 1)) volume
  have hmod := Nat.mod_lt (left + (volume - 1)) h
  rw [Nat.mul_comm] at hdiv
  omega

theorem solventHoldAfter_eq (load hard : Nat) (old : Bool) :
    solventHoldAfter load hard old = (decide (hard ≤ load) || (old && decide (hard - 2000 ≤ load))) := by
  unfold solventHoldAfter
  split
  · next h => simp [h]
  · next h =>
    split
    · next h' => simp [h, show ¬ hard - 2000 ≤ load by omega]
    · next h' => simp [h, show hard - 2000 ≤ load by omega]

/-- The wash unit with the load after a replenish and the hold evaluated (R121, R124). -/
def washReplenished (w : Wash) : Wash :=
  { w with load := replenished w, outstanding := none, hold := solventHoldAfter (replenished w) w.hard w.hold }

/-- The completion of the outstanding order: the new load, then the close of the cycle or its next order (R124). -/
theorem completeReplenish_eq (s : State) : ∃ latched attn holdOff,
    (let u : State := { s with
       wash := washReplenished s.wash, bus.latched := latched, bus.attn := attn, bus.holdOff := holdOff }
     completeReplenish s = if replenished s.wash < s.wash.regen - 2000 then { u with wash.replenish := .idle } else orderOrPend u) := by
  obtain ⟨attn, holdOff, hheld⟩ := latchIf_eq (solventHoldAfter (replenished s.wash) s.wash.hard s.wash.hold && !s.wash.hold) .solvent
    { s with wash := washReplenished s.wash }
  refine ⟨s.bus.latched ||| bitIf (solventHoldAfter (replenished s.wash) s.wash.hard s.wash.hold && !s.wash.hold)
    (attnBit .solvent), attn, holdOff, ?_⟩
  have hevaluated : evalSolventHold { s with wash.load := replenished s.wash, wash.outstanding := none } = _ := hheld
  unfold completeReplenish
  dsimp only
  have hload : ceilDiv (s.wash.load * (s.wash.volume - s.wash.portion)) s.wash.volume = replenished s.wash := rfl
  rw [hload, hevaluated]
  rfl

/-! ## What a report leaves -/

/-- From `s` to `t` only the wash unit, the orders, the attention line and the free count change. -/
def WashOnly (s t : State) : Prop := { exceptAttn s t with wash := s.wash, link := s.link, freeCount := s.freeCount } = s

theorem washOnly_orderOrPend {u : State} (h : WashOnly s u) : WashOnly s (orderOrPend u) := by
  cases hcan : canReplenish u with
  | true =>
    obtain ⟨attn, holdOff, he⟩ := orderOrPend_issued hcan
    rw [he]
    exact h
  | false =>
    rw [orderOrPend_absent hcan]
    exact h

theorem washOnly_takeWashReport : WashOnly s (takeWashReport ready fault result d s) := by
  rw [takeWashReport_eq]
  split
  · split
    · rfl
    · split
      · cases result with
        | done =>
          obtain ⟨latched, attn, holdOff, he⟩ := completeReplenish_eq (washRecorded ready fault .done d s)
          dsimp only at he ⊢
          rw [he]
          split
          · rfl
          · exact washOnly_orderOrPend rfl
        | failed => rfl
        | none => rfl
      · rfl
  · rfl

/-- A good response of the PRESENT node of the wash: its owner's report, and the end of the visit. -/
theorem exec_washReport (hgood : goodResponse .wash n again cmd bytes stat d s) (hpresent : s.link.nodes[n].state = .present) :
    ∃ link count, exec (.responseFrame bytes) s = .next
      { takeWashReport (stat.getLsbD 7) (stat.getLsbD 6) (orderResultOfCode (stat.toNat / 4 % 8)) d (answered n stat d s) with
        link := link, freeCount := count } := by
  obtain ⟨addr, hphase, hjudge, hstation, hmore⟩ := hgood
  have hexec := exec_delivers hphase hjudge hmore
  have hanswered : recorded n stat d s = answered n stat d s := recorded_present hpresent
  rw [hanswered, hstation, deliver_wash] at hexec
  exact ⟨_, _, hexec⟩

/-- What the report of a done order gives (R122 to R124). -/
theorem takeWashReport_done {u : State} (hout : u.wash.outstanding = some d[5].toNat) (hactive : d[4] = 0)
    (hpresent : isPresent u .wash = true) :
    (let t := takeWashReport ready fault .done d u
     let w := washReport ready fault .done d u.wash
     t.wash.load = replenished u.wash ∧
     t.wash.hold = solventHoldAfter (replenished u.wash) u.wash.hard u.wash.hold ∧
     (replenished u.wash < u.wash.regen - 2000 → t.wash = { w with
       load := t.wash.load, hold := t.wash.hold, outstanding := none, replenish := .idle }) ∧
     (u.wash.regen - 2000 ≤ replenished u.wash →
       (u.supervisor.line ≠ .safe → t.bus.latched.getLsbD 12 = true ∧ t.wash = { w with
         load := t.wash.load, hold := t.wash.hold, replenish := .ordered, portion := u.wash.replPortion
         outstanding := some (nextOrder u .wash) }) ∧
       (u.supervisor.line = .safe → t.wash = { w with
         load := t.wash.load, hold := t.wash.hold, outstanding := none, replenish := .pending }))) := by
  have hdone : takeWashReport ready fault .done d u = completeReplenish (washRecorded ready fault .done d u) := by
    rw [takeWashReport_eq, if_pos hout, if_neg (by rw [hactive]; decide), if_pos hactive]
  obtain ⟨latched, attn, holdOff, he⟩ := completeReplenish_eq (washRecorded ready fault .done d u)
  have hfigure : replenished (washRecorded ready fault .done d u).wash = replenished u.wash := rfl
  dsimp only at he ⊢
  have hlevel : (washRecorded ready fault .done d u).wash.regen = u.wash.regen := rfl
  rw [hdone, he, hfigure, hlevel]
  by_cases hclose : replenished u.wash < u.wash.regen - 2000
  · rw [if_pos hclose]
    exact ⟨rfl, rfl, fun _ => rfl, fun h => absurd hclose (by omega)⟩
  · rw [if_neg hclose]
    obtain ⟨v, hv⟩ : ∃ v : State, { washRecorded ready fault .done d u with
      wash := washReplenished (washRecorded ready fault .done d u).wash, bus.latched := latched, bus.attn := attn
      bus.holdOff := holdOff } = v := ⟨_, rfl⟩
    have hwash : v.wash = washReplenished (washReport ready fault .done d u.wash) := by rw [← hv]; rfl
    have hnext : nextOrder v .wash = nextOrder u .wash := nextOrder_of_link (by rw [← hv]; rfl)
    have hcan : canReplenish v = !isSafe u := by
      have hsame : canReplenish v = (isPresent u .wash && !isSafe u) := by rw [← hv]; rfl
      rw [hsame, hpresent, Bool.true_and]
    rw [hv]
    cases hsafe : isSafe u with
    | true =>
      have hline : u.supervisor.line = .safe := of_decide_eq_true hsafe
      rw [orderOrPend_absent (by rw [hcan, hsafe]; rfl)]
      dsimp only
      rw [hwash]
      exact ⟨rfl, rfl, fun h => absurd h hclose, fun _ => ⟨fun h => absurd hline h, fun _ => rfl⟩⟩
    | false =>
      have hline : u.supervisor.line ≠ .safe := of_decide_eq_false hsafe
      obtain ⟨attn', holdOff', hissued⟩ := orderOrPend_issued (s := v) (by rw [hcan, hsafe]; rfl)
      rw [hissued]
      dsimp only
      rw [hwash, hnext]
      exact ⟨rfl, rfl, fun h => absurd h hclose, fun _ => ⟨fun _ => ⟨getLsbD_or_bitIf _ rfl, rfl⟩, fun h => absurd h hline⟩⟩

end

/-- The reports of the wash node, as R115 and R123 to R125 say them. -/
theorem washReportActs {n : Fin 15} {again : Bool} {cmd : NodeCmd} {bytes : List RxByte} {stat : Byte} {d : Vector Byte 6}
    {s : State} (hgood : goodResponse .wash n again cmd bytes stat d s) (hnode : nodeOf s .wash = some n)
    (hpresent : s.link.nodes[n].state = .present) :
    (let result : OrderResult := orderResultOfCode (stat.toNat / 4 % 8)
     let report : Wash := washReport (stat.getLsbD 7) (stat.getLsbD 6) result d s.wash
     ∃ t, exec (.responseFrame bytes) s = .next t ∧
      { exceptAttn s t with wash := s.wash, link := s.link, freeCount := s.freeCount } = s ∧
      (s.wash.outstanding ≠ some d[5].toNat → t.wash = report) ∧
      (s.wash.outstanding = some d[5].toNat →
        (d[4] = 1 → t.wash = { report with replenish := .active }) ∧
        (d[4] = 0 → result = .none → t.wash = report) ∧
        (d[4] = 0 → result = .failed → t.wash = { report with
          outstanding := none, replenish := .retryWait, retry := some (s.now + 60000) }) ∧
        (d[4] = 0 → result = .done → 0 < s.wash.volume →
          (s.wash.load * (s.wash.volume - s.wash.portion) ≤ t.wash.load * s.wash.volume ∧
            t.wash.load * s.wash.volume < s.wash.load * (s.wash.volume - s.wash.portion) + s.wash.volume) ∧
          t.wash.hold = (decide (s.wash.hard ≤ t.wash.load) ||
            (s.wash.hold && decide (s.wash.hard - 2000 ≤ t.wash.load))) ∧
          (t.wash.load < s.wash.regen - 2000 → t.wash = { report with
            load := t.wash.load, hold := t.wash.hold, outstanding := none, replenish := .idle }) ∧
          (s.wash.regen - 2000 ≤ t.wash.load →
            (s.supervisor.line ≠ .safe → t.bus.latched.getLsbD 12 = true ∧ t.wash = { report with
              load := t.wash.load, hold := t.wash.hold, replenish := .ordered, portion := s.wash.replPortion
              outstanding := some ((s.link.nodes[n].issued.getD 0 + 1) % 256) }) ∧
            (s.supervisor.line = .safe → t.wash = { report with
              load := t.wash.load, hold := t.wash.hold, outstanding := none, replenish := .pending }))))) := by
  obtain ⟨link, count, hexec⟩ := exec_washReport hgood hpresent
  have hwash : (answered n stat d s).wash = s.wash := rfl
  have hline : (answered n stat d s).supervisor = s.supervisor := rfl
  have horder : nextOrder (answered n stat d s) .wash = (s.link.nodes[n].issued.getD 0 + 1) % 256 := by
    rw [nextOrder_answered]
    unfold nextOrder
    rw [hnode]
  have hnodePresent : isPresent (answered n stat d s) .wash = true := isPresent_answered.trans (isPresent_of_node hnode hpresent)
  generalize hresult : orderResultOfCode (stat.toNat / 4 % 8) = result at hexec ⊢
  have honly' := washOnly_takeWashReport (ready := stat.getLsbD 7) (fault := stat.getLsbD 6) (result := result) (d := d)
    (s := answered n stat d s)
  have heq := takeWashReport_eq (ready := stat.getLsbD 7) (fault := stat.getLsbD 6) (result := result) (d := d)
    (s := answered n stat d s)
  dsimp only
  obtain ⟨t, ht⟩ : ∃ t, takeWashReport (stat.getLsbD 7) (stat.getLsbD 6) result d (answered n stat d s) = t := ⟨_, rfl⟩
  rw [ht] at hexec heq honly'
  have hzero (h0 : d[4] = 0) : ¬ d[4] = 1 := by
    rw [h0]
    decide
  have honly : WashOnly s t := by
    unfold WashOnly at honly'
    have e := congrArg (fun v : State => { v with link := s.link }) honly'
    exact e
  refine ⟨_, hexec, honly, fun hout => ?_, fun hout => ⟨fun h1 => ?_, fun h0 hr => ?_, fun h0 hr => ?_, fun h0 hr hvolume => ?_⟩⟩
  · rw [if_neg (show (answered n stat d s).wash.outstanding ≠ some d[5].toNat from hout)] at heq
    rw [heq]
    rfl
  · rw [if_pos (show (answered n stat d s).wash.outstanding = some d[5].toNat from hout), if_pos h1] at heq
    rw [heq]
    rfl
  · rw [if_pos (show (answered n stat d s).wash.outstanding = some d[5].toNat from hout), if_neg (hzero h0), if_pos h0, hr] at heq
    rw [heq, hr]
    rfl
  · rw [if_pos (show (answered n stat d s).wash.outstanding = some d[5].toNat from hout), if_neg (hzero h0), if_pos h0, hr] at heq
    rw [heq, hr]
    rfl
  · subst hr
    have hdone := takeWashReport_done (ready := stat.getLsbD 7) (fault := stat.getLsbD 6) (d := d) (u := answered n stat d s)
      hout h0 hnodePresent
    dsimp only at hdone
    rw [ht, hwash, hline, horder] at hdone
    obtain ⟨hload, hhold, hclosed, hnext⟩ := hdone
    rw [← hload] at hhold hclosed hnext
    dsimp only
    refine ⟨?_, hhold.trans (solventHoldAfter_eq _ _ _), hclosed, hnext⟩
    rw [hload]
    exact replenished_bounds hvolume

end Sys2Proof.Machine

/-! PROOFS. The dry clock of a drawer (R136, R137). -/

namespace Sys2Proof.Machine

/-- A plate is left with no dry time by a time credited (R137). -/
def driesOut (delta : Nat) (s : State) (p : PlateId) : Bool :=
  (plateOf s p).any fun r => r.stage == .drying && r.dryRemaining ≤ delta

/-- A plate that has become DRY, with its DRY order (R137). -/
def madeDry (order : Nat) (r : Plate) : Plate := { r with dryRemaining := 0, stage := .dry, dryOrder := some order }

/-- From `s` to `t` a time was credited to the plates of a list, in its order (R136, R137). -/
structure Dried (delta : Nat) (l : List PlateId) (s t : State) : Prop where
  frame : { t with tracker := s.tracker, drying := s.drying, bus.ram := s.bus.ram } = s
  drying : t.drying = { s.drying with
    dryList := s.drying.dryList ++ l.filter (driesOut delta s)
    dryOrder := if l.filter (driesOut delta s) = [] then s.drying.dryOrder
      else (s.drying.dryOrder + (l.filter (driesOut delta s)).length) % 4294967296 }
  others : OthersStand l s t
  idle : ∀ p r, plateOf s p = some r → r.stage ≠ .drying → plateOf t p = some r
  rest : ∀ p ∈ l, ∀ r, plateOf s p = some r → r.stage = .drying → delta < r.dryRemaining →
    plateOf t p = some { r with dryRemaining := r.dryRemaining - delta }
  dry : ∀ (i : Nat) (p : PlateId) (r : Plate), (l.filter (driesOut delta s))[i]? = some p → plateOf s p = some r →
    plateOf t p = some (madeDry ((s.drying.dryOrder + i + 1) % 4294967296) r) ∧ slotWord t p 35 = 7
  ram : ramKeptOutside ((l.filter (driesOut delta s)).map fun p => slotBase p + 35) s t

section
variable {s t u : State} {p : PlateId} {r : Plate} {delta : Nat} {l l' : List PlateId}

theorem driesOut_of_plate (h : plateOf t p = plateOf s p) : driesOut delta t p = driesOut delta s p := by
  unfold driesOut
  rw [h]

theorem dried_nil : Dried delta [] s s where
  frame := rfl
  drying := by simp
  others := .refl
  idle := fun _ _ hr _ => hr
  rest := by simp
  dry := by simp
  ram := ramKept_refl

/-- One after the other. -/
theorem Dried.append (h : Dried delta l s t) (h' : Dried delta l' t u) (hdisjoint : ∀ p ∈ l, p ∉ l') :
    Dried delta (l ++ l') s u := by
  have hfilter : l'.filter (driesOut delta t) = l'.filter (driesOut delta s) :=
    List.filter_congr fun p hp => driesOut_of_plate (h.others p fun hl => hdisjoint p hl hp).1
  have hdry' := h'.dry
  have hdrying' := h'.drying
  have hram' := h'.ram
  rw [hfilter] at hdry' hdrying' hram'
  have hsub : ∀ p ∈ l.filter (driesOut delta s), p ∈ l := fun p hp => (List.mem_filter.mp hp).1
  have hsub' : ∀ p ∈ l'.filter (driesOut delta s), p ∈ l' := fun p hp => (List.mem_filter.mp hp).1
  have hdrying := h.drying
  have hdry := h.dry
  have hram := h.ram
  generalize hA : l.filter (driesOut delta s) = A at *
  generalize hB : l'.filter (driesOut delta s) = B at *
  have happend : (l ++ l').filter (driesOut delta s) = A ++ B := by rw [List.filter_append, hA, hB]
  have hother (p : PlateId) (hp : p ∈ l) : plateOf u p = plateOf t p ∧ ∀ o : Fin 64, slotWord u p o.val = slotWord t p o.val :=
    h'.others p (hdisjoint p hp)
  constructor
  case frame =>
    have e := congrArg (fun v : State => { v with tracker := s.tracker, drying := s.drying, bus.ram := s.bus.ram }) h'.frame
    exact e.trans h.frame
  case drying =>
    rw [happend, hdrying', hdrying, List.append_assoc]
    have hcount : (if B = [] then (if A = [] then s.drying.dryOrder else (s.drying.dryOrder + A.length) % 4294967296)
        else ((if A = [] then s.drying.dryOrder else (s.drying.dryOrder + A.length) % 4294967296) + B.length) % 4294967296) =
        (if A ++ B = [] then s.drying.dryOrder else (s.drying.dryOrder + (A ++ B).length) % 4294967296) := by
      by_cases hnilA : A = []
      · subst hnilA
        simp
      · by_cases hnilB : B = []
        · subst hnilB
          simp
        · simp only [hnilA, hnilB, if_false, List.append_eq_nil_iff, false_and, List.length_append]
          omega
    rw [hcount]
  case others => exact (h.others.mono (by simp +contextual)).trans (h'.others.mono (by simp +contextual))
  case idle => exact fun p r hr hstage => h'.idle p r (h.idle p r hr hstage) hstage
  case rest =>
    intro p hp r hr hstage hleft
    rcases List.mem_append.mp hp with hp | hp
    · rw [(hother p hp).1]
      exact h.rest p hp r hr hstage hleft
    · exact h'.rest p hp r ((h.others p fun hl => hdisjoint p hl hp).1.trans hr) hstage hleft
  case dry =>
    intro i p r hp hr
    rw [happend] at hp
    by_cases hi : i < A.length
    · rw [List.getElem?_append_left hi] at hp
      have hmem := hsub p (List.mem_of_getElem? hp)
      obtain ⟨hplate, hword⟩ := hdry i p r hp hr
      exact ⟨(hother p hmem).1.trans hplate, ((hother p hmem).2 ⟨35, by decide⟩).trans hword⟩
    · rw [List.getElem?_append_right (by omega)] at hp
      have hmem := hsub' p (List.mem_of_getElem? hp)
      obtain ⟨hplate, hword⟩ := hdry' (i - A.length) p r hp ((h.others p fun hl => hdisjoint p hl hmem).1.trans hr)
      have horder : (t.drying.dryOrder + (i - A.length) + 1) % 4294967296 = (s.drying.dryOrder + i + 1) % 4294967296 := by
        rw [hdrying]
        dsimp only
        split
        · next hnil =>
          subst hnil
          rfl
        · omega
      rw [horder] at hplate
      exact ⟨hplate, hword⟩
  case ram =>
    intro a ha
    rw [happend, List.map_append, List.mem_append, not_or] at ha
    exact (hram' a ha.2).trans (hram a ha.1)

/-! ## One resident -/

theorem dried_stands (h : ∀ r, plateOf s p = some r → r.stage ≠ .drying) : Dried delta [p] s (dryResident delta p s) := by
  have hsame : dryResident delta p s = s := by
    unfold dryResident
    split
    · rfl
    · next r hr => exact if_neg (h r hr)
  have hnot : [p].filter (driesOut delta s) = [] := by
    cases hr : plateOf s p with
    | none => simp [driesOut, hr]
    | some r => simp [driesOut, hr, h r hr]
  rw [hsame]
  constructor
  case frame => rfl
  case drying => simp [hnot]
  case others => exact .refl
  case idle => exact fun _ _ hr _ => hr
  case rest =>
    intro q hq r hr hstage
    rw [List.mem_singleton.mp hq] at hr
    exact absurd hstage (h r hr)
  case dry => simp [hnot]
  case ram => exact ramKept_refl

theorem dried_rests (hr : plateOf s p = some r) (hstage : r.stage = .drying) (hleft : delta < r.dryRemaining) :
    Dried delta [p] s (dryResident delta p s) := by
  have hput : dryResident delta p s = putPlate p (some { r with dryRemaining := r.dryRemaining - delta }) s := by
    unfold dryResident
    rw [hr]
    dsimp only
    rw [if_pos hstage, if_neg (by omega)]
  have hplate (q : PlateId) : plateOf (putPlate p (some { r with dryRemaining := r.dryRemaining - delta }) s) q =
      if q = p then some { r with dryRemaining := r.dryRemaining - delta } else plateOf s q := plateOf_putPlate p q _ s
  have hnot : [p].filter (driesOut delta s) = [] := by simp [driesOut, hr, hleft]
  rw [hput]
  constructor
  case frame => rfl
  case drying =>
    rw [hnot]
    simp
  case others => exact othersStand_putPlate (by simp) .refl
  case idle =>
    intro q x hx hidle
    rw [hplate, if_neg, hx]
    rintro rfl
    obtain rfl := Option.some.inj (hr.symm.trans hx)
    exact hidle hstage
  case rest =>
    intro q hq x hx _ _
    obtain rfl := List.mem_singleton.mp hq
    obtain rfl := Option.some.inj (hr.symm.trans hx)
    rw [hplate, if_pos rfl]
  case dry => simp [hnot]
  case ram => exact ramKept_of_ram rfl ramKept_refl

theorem dried_dries (hr : plateOf s p = some r) (hstage : r.stage = .drying) (hleft : r.dryRemaining ≤ delta) :
    Dried delta [p] s (dryResident delta p s) := by
  obtain ⟨order, horder⟩ : ∃ order, (s.drying.dryOrder + 1) % 4294967296 = order := ⟨_, rfl⟩
  have hput : dryResident delta p s = { putSlotNat p 35 7 (putPlate p (some (madeDry order r)) s) with
      drying.dryOrder := order, drying.dryList := s.drying.dryList ++ [p] } := by
    have hplate : plateOf { putPlate p (some { r with dryRemaining := 0, dryOrder := some order }) s with
        drying.dryOrder := order, drying.dryList := s.drying.dryList ++ [p] } p =
        some { r with dryRemaining := 0, dryOrder := some order } := (plateOf_putPlate p p _ s).trans (if_pos rfl)
    unfold dryResident
    rw [hr]
    dsimp only
    rw [if_pos hstage, if_pos (by omega)]
    have hnext : next32 s.drying.dryOrder = order := horder
    rw [hnext, setStage_live hplate (by simp [hstage])]
    unfold madeDry
    simp only [putPlate, Vector.set_set]
    rfl
  have hplate (q : PlateId) : plateOf (dryResident delta p s) q = if q = p then some (madeDry order r) else plateOf s q := by
    rw [hput]
    exact plateOf_putPlate p q _ s
  have hword : slotWord (dryResident delta p s) p 35 = 7 := by
    rw [hput]
    exact (slotWord_putSlot p p 35 35 7 _ (by decide) (by decide)).trans (if_pos ⟨rfl, rfl⟩)
  have hdries : [p].filter (driesOut delta s) = [p] := by simp [driesOut, hr, hstage, hleft]
  constructor
  case frame =>
    rw [hput]
    rfl
  case drying =>
    rw [hdries, hput, ← horder]
    rfl
  case others =>
    rw [hput]
    exact othersStand_of_eq (othersStand_putSlot (by simp) (by decide) (othersStand_putPlate (by simp) .refl)) rfl rfl
  case idle =>
    intro q x hx hidle
    rw [hplate, if_neg, hx]
    rintro rfl
    obtain rfl := Option.some.inj (hr.symm.trans hx)
    exact hidle hstage
  case rest =>
    intro q hq x hx _ hmore
    obtain rfl := List.mem_singleton.mp hq
    obtain rfl := Option.some.inj (hr.symm.trans hx)
    omega
  case dry =>
    intro i q x hq hx
    rw [hdries] at hq
    have hi : i = 0 := by
      by_contra hne
      rw [List.getElem?_eq_none (by simp; omega)] at hq
      nomatch hq
    subst hi
    obtain rfl : p = q := Option.some.inj hq
    obtain rfl := Option.some.inj (hr.symm.trans hx)
    rw [hplate, if_pos rfl, Nat.add_zero, horder]
    exact ⟨rfl, hword⟩
  case ram =>
    rw [hdries, hput]
    exact ramKept_of_ram rfl (ramKept_write (by simp) (ramKept_of_ram rfl ramKept_refl))

theorem dried_one (p : PlateId) (s : State) : Dried delta [p] s (dryResident delta p s) := by
  by_cases h : ∃ r, plateOf s p = some r ∧ r.stage = .drying
  · obtain ⟨r, hr, hstage⟩ := h
    by_cases hleft : delta < r.dryRemaining
    · exact dried_rests hr hstage hleft
    · exact dried_dries hr hstage (by omega)
  · exact dried_stands fun r hr hstage => h ⟨r, hr, hstage⟩

/-! ## The residents of a drawer, in slot order -/

theorem dried_foldl (hnodup : l.Nodup) (s : State) : Dried delta l s (l.foldl (fun t p => dryResident delta p t) s) := by
  induction l generalizing s with
  | nil => exact dried_nil
  | cons p rest ih =>
    obtain ⟨hout, hrest⟩ := List.nodup_cons.mp hnodup
    refine (dried_one p s).append (ih hrest _) fun q hq hmem => hout ?_
    rwa [← List.mem_singleton.mp hq]

/-- The plates of a drawer, in slot order. -/
def residentsOf (w : Drawer) : List PlateId := drawerSlotIds.filterMap fun m => w.slots[m]

theorem dryClockStep_eq (d : Fin 6) (delta : Nat) (s : State) : dryClockStep d delta s =
    (residentsOf s.drying.drawers[d]).foldl (fun t p => dryResident delta p t) s := by
  have hfold (l : List (Fin 4)) (u : State) : l.foldl (fun t m =>
      match s.drying.drawers[d].slots[m] with
      | none => t
      | some p => dryResident delta p t) u =
      (l.filterMap fun m => s.drying.drawers[d].slots[m]).foldl (fun t p => dryResident delta p t) u := by
    induction l generalizing u with
    | nil => rfl
    | cons m rest ih =>
      rw [List.foldl_cons, ih, List.filterMap_cons]
      cases s.drying.drawers[d].slots[m] <;> rfl
  exact hfold drawerSlotIds s

theorem dried_clockStep {d : Fin 6} (h : (residentsOf s.drying.drawers[d]).Nodup) :
    Dried delta (residentsOf s.drying.drawers[d]) s (dryClockStep d delta s) := by
  rw [dryClockStep_eq]
  exact dried_foldl h s

end

end Sys2Proof.Machine

/-! PROOFS. The obligation about the reports of the wash node and of the drawer nodes (R115, R133 to R137). -/

namespace Sys2Proof.Machine

section
variable {s t y : State} {k : Fin 6} {n : Fin 15} {d : Vector Byte 6} {stat : Byte} {delta : Nat} {p : PlateId}

/-! ## The tests of the handling units with the shuttle not READY -/

theorem handlingTests_lights (hshuttle : s.shuttle.state ≠ .ready) (hloading : s.chamber.state ≠ .loading) :
    handlingTests s = lightTubes s := by
  have hask : withdrawSecondAsk s = s := by
    unfold withdrawSecondAsk
    split
    · contradiction
    · rfl
  have hgrant : grant (lightTubes s) = lightTubes s := grant_of_not_ready _ (by simpa using hshuttle)
  unfold handlingTests
  rw [hask, hgrant]

theorem takeOrder_only (st : Station) (s : State) : ∃ link, takeOrder st s = { s with link := link } := by
  unfold takeOrder
  split
  · exact ⟨_, rfl⟩
  · exact ⟨_, rfl⟩

/-- The lighting of the tubes changes the chamber and the last order issued alone. -/
theorem lightTubes_only (s : State) : ∃ link, lightTubes s = { s with chamber := (lightTubes s).chamber, link := link } := by
  unfold lightTubes
  split
  · obtain ⟨link, htake⟩ := takeOrder_only .finisher s
    rw [htake]
    exact ⟨link, rfl⟩
  · exact ⟨_, rfl⟩

theorem lightTubes_chamber (s : State) : (lightTubes s).chamber =
    if s.chamber.state = .dark ∧ isPresent s .finisher = true ∧ (loadCandidate s none).isSome = true then
      { s.chamber with
        state := .igniting, igniteOrder := some (nextOrder s .finisher), ignition := some (s.now + 300000) }
    else s.chamber := by
  unfold lightTubes
  dsimp only
  split
  · obtain ⟨link, htake⟩ := takeOrder_only .finisher s
    rw [htake]
  · rfl

theorem lightTubes_undark (h : s.chamber.state ≠ .dark) : lightTubes s = s := if_neg fun hdark => h hdark.1

theorem lightTubes_not_loading (h : s.chamber.state ≠ .loading) : (lightTubes s).chamber.state ≠ .loading := by
  rw [lightTubes_chamber]
  split
  · nofun
  · exact h

/-! ## The places in service (R135) -/

/-- The drying places of a drawer in a service state. -/
def placesOf (x : Service) : Nat := if x = .inService then 4 else 0

theorem placesInService_sum (s : State) : placesInService s = placesOf s.drying.drawers[0].service + placesOf s.drying.drawers[1].service +
    placesOf s.drying.drawers[2].service + placesOf s.drying.drawers[3].service + placesOf s.drying.drawers[4].service +
    placesOf s.drying.drawers[5].service := by
  have hcount (l : List (Fin 6)) : 4 * (l.filter fun d => decide (s.drying.drawers[d].service = .inService)).length =
      (l.map fun d => placesOf s.drying.drawers[d].service).sum := by
    induction l with
    | nil => rfl
    | cons d rest ih =>
      rw [List.map_cons, List.sum_cons, ← ih, List.filter_cons]
      unfold placesOf
      split
      · simp_all
        omega
      · simp_all
  unfold placesInService
  rw [hcount]
  simp [drawerIds, Nat.add_assoc]

theorem placesInService_set {w : Drawer} (h : t.drying.drawers = s.drying.drawers.set k w) :
    placesInService t + placesOf s.drying.drawers[k].service = placesInService s + placesOf w.service := by
  rw [placesInService_sum, placesInService_sum, h]
  fin_cases k <;> simp <;> omega

/-! ## A drawer's report (R133, R134) -/

/-- A drawer with a report taken at a time (R133, R134). -/
def drawerRecord (now : Nat) (d : Vector Byte 6) (w : Drawer) : Drawer := { w with
  temp := (d[1] ++ d[0]).toInt, doorClosed := decide (d[2] = 1), heaterFault := decide (d[3] = 1), lastGood := some now
  service := if d[3] = 1 then .heatFault else .inService }

/-- A report counts for the dry clock: warm enough, and the door closed (R132, R136). -/
def drawerCounts (d : Vector Byte 6) (s : State) : Prop :=
  (s.drying.setpoint : Int) - s.drying.band ≤ (d[1] ++ d[0]).toInt ∧ d[2] = 1

/-- The state with a drawer's report kept and the time since the last one still to credit. -/
def drawerSeen (k : Fin 6) (d : Vector Byte 6) (s : State) : State :=
  putDrawer k { drawerRecord s.now d s.drying.drawers[k] with lastGood := s.drying.drawers[k].lastGood } s

/-- The time that a report of a drawer credits (R136). -/
def drawerDelta (k : Fin 6) (s : State) : Nat := (s.drying.drawers[k].lastGood.map fun x => min 1000 (s.now - x)).getD 0

/-- The state that the tests of the handling units find at a report of a drawer. -/
def drawerTaken (k : Fin 6) (d : Vector Byte 6) (s : State) (t : State) : Prop :=
  (drawerCounts d s → t = putDrawer k (drawerRecord s.now d s.drying.drawers[k])
    (dryClockStep k (drawerDelta k s) (drawerSeen k d s))) ∧
  (¬ drawerCounts d s → t = putDrawer k (drawerRecord s.now d s.drying.drawers[k]) s)

theorem drawers_dryClockStep : (dryClockStep k delta s).drying.drawers = s.drying.drawers := by
  rw [dryClockStep_eq]
  exact List.foldlRecOn (motive := fun t => t.drying.drawers = s.drying.drawers) _ _ rfl fun t ht p _ =>
    (dryResident_drawers delta p t).trans ht

theorem dryClockStep_only : { dryClockStep k delta s with
    tracker := s.tracker, drying := s.drying, bus.ram := s.bus.ram } = s := by
  rw [dryClockStep_eq]
  refine List.foldlRecOn (motive := fun t : State => { t with tracker := s.tracker, drying := s.drying, bus.ram := s.bus.ram } = s)
    _ _ rfl fun t ht p _ => ?_
  have hone := (dried_one (delta := delta) p t).frame
  exact (congrArg (fun v : State => { v with tracker := s.tracker, drying := s.drying, bus.ram := s.bus.ram }) hone).trans ht

theorem putDrawer_putDrawer (k : Fin 6) (w w' : Drawer) (s : State) : putDrawer k w' (putDrawer k w s) = putDrawer k w' s := by
  unfold putDrawer
  simp only [Vector.set_set]

theorem takeDrawerReport_eq (hpresent : isPresent s (.drawer k) = true) (hdoor : d[2] = 0 ∨ d[2] = 1) (hheater : d[3] = 0 ∨ d[3] = 1) :
    ∃ t, drawerTaken k d s t ∧ takeDrawerReport k d s = handlingTests t := by
  have hdoor' := flagByte_indicates (k := s.freeCount) (place := 1) hdoor
  have hheater' := flagByte_indicates (k := s.freeCount) (place := 2) hheater
  have htemp : signedOf (wordOfLowHigh d[0] d[1]) = (d[1] ++ d[0]).toInt := by rw [wordOfLowHigh_append, signedOf_eq_toInt]
  have hservice : serviceOf true (decide (d[3] = 1)) = if d[3] = 1 then .heatFault else .inService := by simp [serviceOf]
  have hdelta : dryDelta s.now s.drying.drawers[k].lastGood = drawerDelta k s := by
    unfold dryDelta drawerDelta
    cases s.drying.drawers[k].lastGood <;> rfl
  have hcounts : (qualifies s (d[1] ++ d[0]).toInt && decide (d[2] = 1)) = true ↔ drawerCounts d s := by
    simp [qualifies, drawerCounts]
  unfold takeDrawerReport
  dsimp only
  rw [hdoor', hheater', htemp, hpresent, hservice, hdelta]
  have hseen : putDrawer k { s.drying.drawers[k] with
      temp := (d[1] ++ d[0]).toInt, doorClosed := decide (d[2] = 1), heaterFault := decide (d[3] = 1)
      service := if d[3] = 1 then .heatFault else .inService } s = drawerSeen k d s := rfl
  have hrecord : (drawerSeen k d s).drying.drawers[k] =
      { drawerRecord s.now d s.drying.drawers[k] with lastGood := s.drying.drawers[k].lastGood } := Vector.getElem_set_self _
  rw [hseen]
  refine ⟨_, ⟨fun h => ?_, fun h => ?_⟩, rfl⟩
  · rw [if_pos (hcounts.mpr h), drawers_dryClockStep, hrecord]
    rfl
  · rw [if_neg (mt hcounts.mp h), hrecord]
    exact putDrawer_putDrawer ..

/-- What a report of a drawer changes before the tests of the handling units. -/
theorem drawerTaken_effect (h : drawerTaken k d s t) :
    { t with tracker := s.tracker, drying := s.drying, bus.ram := s.bus.ram } = s ∧
    t.drying.drawers = s.drying.drawers.set k (drawerRecord s.now d s.drying.drawers[k]) := by
  by_cases hcounts : drawerCounts d s
  · rw [h.1 hcounts]
    have honly := dryClockStep_only (k := k) (delta := drawerDelta k s) (s := drawerSeen k d s)
    have hdrawers := drawers_dryClockStep (k := k) (delta := drawerDelta k s) (s := drawerSeen k d s)
    refine ⟨congrArg (fun v : State => { v with tracker := s.tracker, drying := s.drying, bus.ram := s.bus.ram }) honly, ?_⟩
    unfold putDrawer
    dsimp only
    rw [hdrawers]
    simp [drawerSeen, putDrawer]
  · rw [h.2 hcounts]
    exact ⟨rfl, rfl⟩

/-- The dry clock at a report that counts (R136, R137). -/
theorem drawerTaken_dried (h : drawerTaken k d s t) (hcounts : drawerCounts d s) (hnodup : (residentsOf s.drying.drawers[k]).Nodup) :
    ∃ u, Dried (drawerDelta k s) (residentsOf s.drying.drawers[k]) (drawerSeen k d s) u ∧
      t = putDrawer k (drawerRecord s.now d s.drying.drawers[k]) u := by
  have hresidents : residentsOf (drawerSeen k d s).drying.drawers[k] = residentsOf s.drying.drawers[k] := by
    have hrecord : (drawerSeen k d s).drying.drawers[k] =
        { drawerRecord s.now d s.drying.drawers[k] with lastGood := s.drying.drawers[k].lastGood } := Vector.getElem_set_self _
    rw [hrecord]
    rfl
  have hdried := dried_clockStep (delta := drawerDelta k s) (s := drawerSeen k d s) (d := k) (by rwa [hresidents])
  rw [hresidents] at hdried
  exact ⟨_, hdried, h.1 hcounts⟩

/-! ## The state that a drawer's owner finds (R134, R179) -/

/-- In `y` the node of a drawer is PRESENT; the drawer's service state and the chamber's tubes may have followed. -/
structure DrawerFound (k : Fin 6) (s y : State) : Prop where
  only : ∃ x, y = { s with
    drying.drawers := s.drying.drawers.set k { s.drying.drawers[k] with service := x }, chamber := y.chamber, link := y.link }
  chamber : s.chamber.state ≠ .dark → y.chamber = s.chamber
  loads : s.chamber.state ≠ .loading → y.chamber.state ≠ .loading
  present : isPresent y (.drawer k) = true

theorem drawerNodeChanged_eq (k : Fin 6) (s : State) : drawerNodeChanged k s =
    putDrawer k { s.drying.drawers[k] with
      service := serviceOf (isPresent s (.drawer k)) s.drying.drawers[k].heaterFault
      lastGood := if isPresent s (.drawer k) then s.drying.drawers[k].lastGood else none } s := rfl

theorem isPresent_putNode {q : NodeRec} {st : Station} (hnode : nodeOf s st = some n) (hstation : q.station = s.link.nodes[n].station) :
    isPresent (putNode n q s) st = decide (q.state = .present) := by
  have hnode' : nodeOf (putNode n q s) st = some n := (nodeOf_of_stations (station_putNode hstation) st).trans hnode
  have hstate : stationState (putNode n q s) st = q.state := by
    unfold stationState
    rw [hnode']
    exact congrArg NodeRec.state ((nodes_putNode n n q s).trans (if_pos rfl))
  unfold isPresent
  rw [hstate]

theorem drawerFound_recorded (hnode : nodeOf s (.drawer k) = some n) (hshuttle : s.shuttle.state ≠ .ready)
    (hloading : s.chamber.state ≠ .loading) : DrawerFound k s (recorded n stat d s) := by
  obtain ⟨q, hq⟩ : ∃ q, goodNode stat d s.link.nodes[n] = q := ⟨_, rfl⟩
  have hpresent : isPresent (putNode n q s) (.drawer k) = true := by
    rw [isPresent_putNode hnode (by rw [← hq]; rfl), ← hq]
    rfl
  unfold recorded
  dsimp only
  rw [hq, nodeOf_station hnode]
  split
  · refine ⟨⟨s.drying.drawers[k].service, ?_⟩, fun _ => rfl, fun h => h, hpresent⟩
    have hself : s.drying.drawers.set k { s.drying.drawers[k] with service := s.drying.drawers[k].service } = s.drying.drawers :=
      Vector.set_getElem_self _
    rw [hself]
    rfl
  · obtain ⟨u, hu⟩ : ∃ u, drawerNodeChanged k (putNode n q s) = u := ⟨_, rfl⟩
    have hchanged : u = putDrawer k { s.drying.drawers[k] with
        service := serviceOf true s.drying.drawers[k].heaterFault } (putNode n q s) := by
      rw [← hu, drawerNodeChanged_eq, hpresent]
      rfl
    have hchamber : u.chamber = s.chamber := by rw [hchanged]; rfl
    have hlights : handlingTests u = lightTubes u :=
      handlingTests_lights (by rw [hchanged]; exact hshuttle) (by rw [hchamber]; exact hloading)
    obtain ⟨link, honly⟩ := lightTubes_only u
    unfold toldPresent
    dsimp only
    rw [hu, hlights]
    refine ⟨⟨serviceOf true s.drying.drawers[k].heaterFault, ?_⟩, fun h => ?_, fun h => ?_, ?_⟩
    · rw [honly, hchanged]
      rfl
    · rw [lightTubes_undark (by rwa [hchamber]), hchamber]
    · exact lightTubes_not_loading (by rwa [hchamber])
    · rw [isPresent_of_view (nodesView_lightTubes u), hchanged]
      exact hpresent

/-- The dry clock does not look at the drawers, the chamber and the link. -/
theorem Dried.elsewhere {l : List PlateId} {x u : State} (h : Dried delta l x u) (ws : Vector Drawer 6) (c : Chamber) (link : Link) :
    Dried delta l { x with drying.drawers := ws, chamber := c, link := link }
      { u with drying.drawers := ws, chamber := c, link := link } where
  frame := congrArg (fun v : State => { v with drying.drawers := ws, chamber := c, link := link }) h.frame
  drying := congrArg (fun v : Drying => { v with drawers := ws }) h.drying
  others := h.others
  idle := h.idle
  rest := h.rest
  dry := h.dry
  ram := h.ram

/-- What a report of a drawer does to the drawers, the plates and their slots (R133 to R137). -/
structure DrawerReported (k : Fin 6) (d : Vector Byte 6) (s t : State) : Prop where
  only : { t with
    tracker := s.tracker, drying := s.drying, chamber := s.chamber, link := s.link, freeCount := s.freeCount
    bus.ram := s.bus.ram } = s
  drawers : t.drying.drawers = s.drying.drawers.set k (drawerRecord s.now d s.drying.drawers[k])
  stands : ¬ drawerCounts d s → t.tracker = s.tracker ∧ t.bus.ram = s.bus.ram ∧
    t.drying = { s.drying with drawers := s.drying.drawers.set k (drawerRecord s.now d s.drying.drawers[k]) }
  dries : drawerCounts d s → (residentsOf s.drying.drawers[k]).Nodup →
    ∃ u, Dried (drawerDelta k s) (residentsOf s.drying.drawers[k]) s u ∧ t.tracker = u.tracker ∧ t.bus.ram = u.bus.ram ∧
      t.drying = { u.drying with drawers := s.drying.drawers.set k (drawerRecord s.now d s.drying.drawers[k]) }

theorem drawerReported_of (hfound : DrawerFound k s y) (h : drawerTaken k d y t) : DrawerReported k d s t := by
  obtain ⟨x, hy⟩ := hfound.only
  generalize y.chamber = c at hy
  generalize y.link = l at hy
  obtain ⟨honly, hdrawers⟩ := drawerTaken_effect h
  have hw : y.drying.drawers[k] = { s.drying.drawers[k] with service := x } := by
    rw [hy]
    exact Vector.getElem_set_self _
  have hset (w : Drawer) : y.drying.drawers.set k w = s.drying.drawers.set k w := by
    rw [hy]
    exact Vector.set_set ..
  have hnow : y.now = s.now := by rw [hy]
  have hcounts : drawerCounts d y ↔ drawerCounts d s := by
    rw [hy]
    exact Iff.rfl
  have hdelta : drawerDelta k y = drawerDelta k s := by
    unfold drawerDelta
    rw [hw, hnow]
  have hrecord : drawerRecord y.now d y.drying.drawers[k] = drawerRecord s.now d s.drying.drawers[k] := by
    rw [hnow, hw]
    rfl
  have hresidents : residentsOf y.drying.drawers[k] = residentsOf s.drying.drawers[k] := by
    rw [hw]
    rfl
  constructor
  case only =>
    have e := congrArg (fun v : State => { v with
      tracker := s.tracker, drying := s.drying, chamber := s.chamber, link := s.link, freeCount := s.freeCount
      bus.ram := s.bus.ram }) honly
    rw [hy] at e
    exact e
  case drawers => rw [hdrawers, hset, hrecord]
  case stands =>
    intro hnot
    rw [h.2 (mt hcounts.mp hnot), hrecord, hy]
    exact ⟨rfl, rfl, congrArg (fun v => { s.drying with drawers := v }) (Vector.set_set ..)⟩
  case dries =>
    intro hcount hnodup
    obtain ⟨u, hdried, ht⟩ := drawerTaken_dried h (hcounts.mpr hcount) (by rwa [hresidents])
    rw [hdelta, hresidents] at hdried
    have hmoved := hdried.elsewhere s.drying.drawers s.chamber s.link
    have hseen : { drawerSeen k d y with drying.drawers := s.drying.drawers, chamber := s.chamber, link := s.link } = s := by
      rw [hy]
      rfl
    rw [hseen] at hmoved
    rw [ht, hrecord]
    refine ⟨_, hmoved, rfl, rfl, ?_⟩
    have hdrawers' : u.drying.drawers.set k (drawerRecord s.now d s.drying.drawers[k]) =
        s.drying.drawers.set k (drawerRecord s.now d s.drying.drawers[k]) := by
      rw [hdried.drying]
      exact (Vector.set_set ..).trans (hset _)
    unfold putDrawer
    rw [hdrawers']

end

/-- A good response of a drawer's node: its owner's report, and the end of the visit. -/
theorem exec_drawerReport {s : State} {k : Fin 6} {n : Fin 15} {again : Bool} {cmd : NodeCmd} {bytes : List RxByte} {stat : Byte}
    {d : Vector Byte 6} (hgood : goodResponse (.drawer k) n again cmd bytes stat d s) : ∃ link count,
    exec (.responseFrame bytes) s = .next { takeDrawerReport k d (recorded n stat d s) with link := link, freeCount := count } := by
  obtain ⟨addr, hphase, hjudge, hstation, hmore⟩ := hgood
  have hexec := exec_delivers hphase hjudge hmore
  rw [hstation, deliver_drawer] at hexec
  exact ⟨_, _, hexec⟩

/-- The reports of the drawers (R133 to R137, R157). -/
theorem drawerReportActs {s : State} {k : Fin 6} {n : Fin 15} {again : Bool} {cmd : NodeCmd} {bytes : List RxByte} {stat : Byte}
    {d : Vector Byte 6} (hgood : goodResponse (.drawer k) n again cmd bytes stat d s) (hnode : nodeOf s (.drawer k) = some n)
    (hshuttle : s.shuttle.state ≠ .ready) (hloading : s.chamber.state ≠ .loading) (hdoor : d[2] = 0 ∨ d[2] = 1)
    (hheater : d[3] = 0 ∨ d[3] = 1) :
    ∃ t, exec (.responseFrame bytes) s = .next t ∧ DrawerReported k d s t ∧
      (s.chamber.state ≠ .dark → t.chamber = s.chamber) ∧
      (s.chamber.state = .dark → s.link.nodes[n].state = .present → t.chamber =
        if isPresent s .finisher = true ∧ (loadCandidate t none).isSome = true then
          { s.chamber with
            state := .igniting, igniteOrder := some (nextOrder s .finisher), ignition := some (s.now + 300000) }
        else s.chamber) := by
  obtain ⟨link, count, hexec⟩ := exec_drawerReport hgood
  have hfound : DrawerFound k s (recorded n stat d s) := drawerFound_recorded hnode hshuttle hloading
  have hanswered : s.link.nodes[n].state = .present → recorded n stat d s = answered n stat d s := fun h => recorded_present h
  generalize recorded n stat d s = y at hexec hfound hanswered
  obtain ⟨v, htaken, hreport⟩ := takeDrawerReport_eq hfound.present hdoor hheater
  obtain ⟨honly, -⟩ := drawerTaken_effect htaken
  have hreported := drawerReported_of hfound htaken
  have hchamber : v.chamber = y.chamber := (congrArg State.chamber honly :)
  have hlink : v.link = y.link := (congrArg State.link honly :)
  have hnow : v.now = s.now := (congrArg State.now hreported.only :)
  have hready : v.shuttle.state ≠ .ready := by
    have hsame : v.shuttle = s.shuttle := (congrArg State.shuttle hreported.only :)
    rwa [hsame]
  rw [hreport, handlingTests_lights hready (by rw [hchamber]; exact hfound.loads hloading)] at hexec
  obtain ⟨l, hlights⟩ := lightTubes_only v
  refine ⟨_, hexec, ?_, fun hdark => ?_, fun hdark hpresent => ?_⟩
  · rw [hlights]
    exact ⟨hreported.only, hreported.drawers, hreported.stands, hreported.dries⟩
  · have hstands : lightTubes v = v := lightTubes_undark (by rwa [hchamber, hfound.chamber hdark])
    rw [hstands]
    exact hchamber.trans (hfound.chamber hdark)
  · have hy : y = answered n stat d s := hanswered hpresent
    have hkept : v.chamber = s.chamber := by
      rw [hchamber, hy]
      rfl
    have hfinisher : isPresent v .finisher = isPresent s .finisher := by
      have hview : nodesView v = nodesView y := nodesView_of_link hlink
      rw [isPresent_of_view hview, hy, isPresent_answered]
    have horder : nextOrder v .finisher = nextOrder s .finisher := by rw [nextOrder_of_link hlink, hy, nextOrder_answered]
    have hcandidate : loadCandidate { lightTubes v with link := link, freeCount := count } none = loadCandidate v none :=
      loadCandidate_congr (by simp) (by simp) none
    rw [hcandidate]
    refine (lightTubes_chamber v).trans ?_
    rw [hkept, hfinisher, horder, hnow]
    simp only [hdark, true_and]

/-- The loss of a drawer's node (R134, R182). -/
theorem drawerLost {s : State} {k : Fin 6} {n : Fin 15} {again : Bool} {addr : Byte} {cmd : NodeCmd}
    (hphase : s.link.phase = .window n again addr cmd) (hstation : s.link.nodes[n].station = .drawer k)
    (hnode : nodeOf s (.drawer k) = some n) (hpresent : s.link.nodes[n].state = .present) (hmiss : 2 ≤ s.link.nodes[n].miss)
    (hshuttle : s.shuttle.state ≠ .ready) (hmore : s.link.revisit ≠ none ∨ nextVisited s (n.val + 1) ≠ none) :
    ∃ t, exec .responseTimeout s = .next t ∧ t.drying = { s.drying with
        drawers := s.drying.drawers.set k { s.drying.drawers[k] with service := .outOfService, lastGood := none } } ∧
      t.admission = s.admission ∧ t.shuttle = s.shuttle ∧ t.supervisor = s.supervisor := by
  have hexec : exec .responseTimeout s = .next (endVisit n (notGood n false s)) := by
    refine congrArg Host.Outcome.next ?_
    unfold visitOutcome
    rw [hphase]
  obtain ⟨x, hx⟩ : ∃ x, latch .node (putNode n { missed false s.link.nodes[n] with state := .lost } s) = x := ⟨_, rfl⟩
  rw [notGood_loses hpresent hmiss, hstation, hx] at hexec
  have hmore' : (toldLost (.drawer k) x).link.revisit ≠ none ∨ nextVisited (toldLost (.drawer k) x) (n.val + 1) ≠ none := by
    have hkept := ordersOnly_toldLost (.drawer k) x
    have hstation' (m : Fin 15) : x.link.nodes[m].station = s.link.nodes[m].station := by
      rw [← hx]
      simpa using station_putNode (s := s) (q := { missed false s.link.nodes[n] with state := .lost }) rfl m
    have hrevisit : x.link.revisit = s.link.revisit := by simp [← hx]
    rw [hkept.figure Link.revisit fun _ _ => rfl, hrevisit,
      nextVisited_of_stations (s := s) fun m => (hkept.station m).trans (hstation' m)]
    exact hmore
  rw [endVisit_more hmore'] at hexec
  obtain ⟨u, hu⟩ : ∃ u, drawerNodeChanged k x = u := ⟨_, rfl⟩
  have hlost : isPresent x (.drawer k) = false := by
    rw [← hx, isPresent_of_view (nodesView_latch .node _), isPresent_putNode (q := { missed false s.link.nodes[n] with state := .lost }) hnode rfl]
    rfl
  have hchanged := drawerNodeChanged_eq k x
  rw [hlost, hu] at hchanged
  have htold : toldLost (.drawer k) x = lightTubes (withdrawSecondAsk u) := by
    have hready : u.shuttle.state ≠ .ready := by simpa [← hu, ← hx] using hshuttle
    unfold toldLost
    dsimp only
    rw [hu]
    exact grant_of_not_ready _ (by simpa using hready)
  rw [htold] at hexec
  refine ⟨_, hexec, ?_, ?_, ?_, ?_⟩
  · simp [hchanged, ← hx, putDrawer, serviceOf]
  · simp [← hu, ← hx]
  · simp [← hu, ← hx]
  · simp [← hu, ← hx]

/-- Settles O57: the wash reports, the drawer reports and the loss of a drawer. -/
theorem stationReportsAct : Obligations.StationReportsAct := by
  unfold Obligations.StationReportsAct
  refine ⟨fun n again cmd bytes stat d s hgood hnode hpresent => ?wash,
    fun k n again cmd bytes stat d s hgood hnode hshuttle hloading hdoor hheater => ?drawer,
    fun k n again addr cmd s hphase hstation hnode hpresent hmiss hshuttle hmore =>
      drawerLost hphase hstation hnode hpresent hmiss hshuttle hmore⟩
  case wash =>
    have hacts := washReportActs hgood hnode hpresent
    dsimp only at hacts ⊢
    rw [washReport_eq] at hacts
    exact hacts
  case drawer =>
    obtain ⟨t, hexec, hreported, hstands, hlights⟩ := drawerReportActs hgood hnode hshuttle hloading hdoor hheater
    refine ⟨t, hexec, hreported.only, placesInService_set hreported.drawers, hreported.stands, fun hcounts hnodup => ?_, hstands,
      fun hdark hpresent => ⟨fun hfinisher hcandidate => ?_, fun hnone => ?_⟩⟩
    · obtain ⟨u, hdried, htracker, hram, hdrying⟩ := hreported.dries hcounts hnodup
      have hplate (p : PlateId) : plateOf t p = plateOf u p := by
        unfold plateOf
        rw [htracker]
      have hword (p : PlateId) (o : Nat) : slotWord t p o = slotWord u p o := slotWord_congr hram p o
      have hout (p : PlateId) (r : Plate) (hr : plateOf s p = some r) (hp : p ∉ residentsOf s.drying.drawers[k]) :
          plateOf t p = some r := (hplate p).trans ((hdried.others p hp).1.trans hr)
      refine ⟨?_, fun p r hr => ⟨fun h => h.elim (hout p r hr) fun h => (hplate p).trans (hdried.idle p r hr h),
        fun hp hstage hleft => (hplate p).trans (hdried.rest p hp r hr hstage hleft)⟩, fun i p r hp hr => ?_, ?_⟩
      · rw [hdrying, hdried.drying]
        rfl
      · obtain ⟨hmade, hshown⟩ := hdried.dry i.val p r hp hr
        exact ⟨(hplate p).trans hmade, (hword p 35).trans hshown⟩
      · exact ramKept_of_ram hram hdried.ram
    · rw [hlights hdark hpresent, if_pos ⟨hfinisher, Option.isSome_iff_ne_none.mpr hcandidate⟩]
    · rw [hlights hdark hpresent, if_neg]
      rintro ⟨hfinisher, hcandidate⟩
      rcases hnone with h | h
      · exact absurd (hfinisher.symm.trans h) (by decide)
      · rw [h] at hcandidate
        nomatch hcandidate

end Sys2Proof.Machine

/-! PROOFS. The obligation about the reports of the finisher node (R156, R158, R163 to R165, R167). -/

namespace Sys2Proof.Machine

/-- What the finishing chamber keeps of the latest report of its node (R156). -/
def chamberReport (c : Chamber) : Nat × Nat × TubeState × TubeState × Bool × Nat × Option Nat :=
  (c.eUva, c.eUvc, c.tubeA, c.tubeC, c.doorClosed, c.echo, c.lastGood)

/-- The dose of a group after a response: its shutter open, it takes E for an interval (R163). -/
def creditedDose (isOpen : Bool) (acc e dt : Nat) : Nat := if isOpen = true then min 4294967295 (acc + e * dt) else acc

/-- A group reaches its target at a response (R163). -/
def onTarget (isOpen : Bool) (target acc : Nat) : Bool := isOpen && decide (target * 1000 ≤ acc)

/-- The chamber with the doses of a response credited (R163). -/
def creditedChamber (dt : Nat) (c : Chamber) : Chamber :=
  let accA := creditedDose c.openA c.accA c.eUva dt
  let accC := creditedDose c.openC c.accC c.eUvc dt
  let hitA := onTarget c.openA (c.batchClass.getD (0, 0)).1 accA
  let hitC := onTarget c.openC (c.batchClass.getD (0, 0)).2 accC
  { c with
    accA := accA, accC := accC, onA := c.onA || hitA, onC := c.onC || hitC
    openA := c.openA && !hitA, openC := c.openC && !hitC }

section
variable {s t u : State} {p : PlateId} {r : Plate} {d : Vector Byte 6}

/-! ## The report stands (R156) -/

theorem chamberReport_unloadNext (s : State) : chamberReport (unloadNext s).chamber = chamberReport s.chamber := by
  unfold unloadNext enterReady
  dsimp only
  split
  · rfl
  · split
    · split <;> rfl
    · split
      · split <;> rfl
      · rfl
    all_goals rfl

theorem chamberReport_endBatch (v : Verdict) (s : State) : chamberReport (endBatch v s).chamber = chamberReport s.chamber :=
  chamberReport_unloadNext _

theorem chamberReport_enterExposing (s : State) : chamberReport (enterExposing s).chamber = chamberReport s.chamber := by
  unfold enterExposing
  dsimp only
  split
  · exact chamberReport_endBatch _ _
  · rfl

theorem chamberReport_startExposure (s : State) : chamberReport (startExposure s).chamber = chamberReport s.chamber := by
  unfold startExposure
  dsimp only
  split
  · rfl
  · exact chamberReport_enterExposing _

theorem chamberReport_chamberFault (s : State) : chamberReport (chamberFault s).chamber = chamberReport s.chamber := by
  obtain ⟨⟨cls, ask, hchamber, -⟩, -⟩ := chamberFault_effect s
  rw [hchamber]
  rfl

theorem creditGroups_eq (dt : Nat) (h : s.chamber.state = .exposing) : creditGroups dt s =
    if (creditedChamber dt s.chamber).onA && (creditedChamber dt s.chamber).onC then
      endBatch .inTol { s with chamber := creditedChamber dt s.chamber }
    else { s with chamber := creditedChamber dt s.chamber } := by
  have hcredited : creditedChamber dt s.chamber =
      (let c := s.chamber
       let a := creditGroup c.accA c.eUva dt (groupTargets c).1
       let u := creditGroup c.accC c.eUvc dt (groupTargets c).2
       let c1 := if c.openA then { c with accA := a.1, onA := c.onA || a.2, openA := !a.2 } else c
       if c.openC then { c1 with accC := u.1, onC := c.onC || u.2, openC := !u.2 } else c1) := by
    generalize s.chamber = c
    cases c
    simp only [creditedChamber, creditedDose, onTarget, creditGroup, satAdd, top32, groupTargets]
    split <;> split <;> simp_all
  rw [hcredited]
  exact if_pos h

theorem chamberReport_creditGroups (dt : Nat) (s : State) : chamberReport (creditGroups dt s).chamber = chamberReport s.chamber := by
  by_cases h : s.chamber.state = .exposing
  · rw [creditGroups_eq dt h]
    split
    · exact chamberReport_endBatch _ _
    · rfl
  · exact congrArg (fun t : State => chamberReport t.chamber) (if_neg h)

theorem chamberReport_testTubes (s : State) : chamberReport (testTubes s).chamber = chamberReport s.chamber := by
  unfold testTubes
  dsimp only
  split
  · split
    · split
      · rfl
      · split
        · exact chamberReport_chamberFault s
        · rfl
    · rfl
  · rfl
  · rfl
  all_goals
    split
    · rfl
    · exact chamberReport_chamberFault s

theorem chamberReport_testDoor (s : State) : chamberReport (testDoor s).chamber = chamberReport s.chamber := by
  unfold testDoor resumeBatch suspendBatch
  dsimp only
  split
  · split
    · exact chamberReport_enterExposing s
    · rfl
  · split <;> rfl

theorem chamberReport_grant (s : State) : chamberReport (grant s).chamber = chamberReport s.chamber :=
  grant_keeps (fun s => chamberReport s.chamber) s (fun _ _ _ => by simp)
    (fun _ pos _ => by cases pos <;> simp [chamberReport, clearPos])
    fun pos _ _ _ _ => by cases pos <;> simp [chamberReport, loadGranted]

theorem chamberReport_handlingTests (s : State) : chamberReport (handlingTests s).chamber = chamberReport s.chamber := by
  have hwithdraw : chamberReport (withdrawSecondAsk s).chamber = chamberReport s.chamber := by
    unfold withdrawSecondAsk
    split
    · split
      · exact chamberReport_startExposure s
      · rfl
    · rfl
  have hlight : chamberReport (lightTubes (withdrawSecondAsk s)).chamber = chamberReport (withdrawSecondAsk s).chamber := by
    rw [lightTubes_chamber]
    split <;> rfl
  exact (chamberReport_grant _).trans (hlight.trans hwithdraw)

/-! ## The doses written (R164, R167) -/

/-- The doses and the finish verdict of a plate stand in its record and its slot. -/
def Finished (p : PlateId) (r : Plate) (x y : Nat) (v : Verdict) (code : Word) (t : State) : Prop :=
  plateOf t p = some { r with uvaDose := x, uvcDose := y, finishVerdict := some v } ∧
    slotWord t p 51 = w16 x ∧ slotWord t p 52 = w16 y ∧ slotWord t p 53 = code

variable {q : PlateId} {x y : Nat} {v : Verdict} {code : Word} {o : Option (PlateId × Mark)} {m : Mark}

theorem finished_finishPlate (hr : plateOf s p = some r) :
    Finished p r x y v (w16 (verdictCode v)) (finishPlate p x y v s) := by
  obtain ⟨hplate, huva, huvc, hverdict, -⟩ := finishPlate_effect x y v hr
  exact ⟨hplate, huva, huvc, hverdict⟩

theorem finished_of_eq (h : Finished p r x y v code t) (hram : u.bus.ram = t.bus.ram) (hplates : u.tracker.plates = t.tracker.plates) :
    Finished p r x y v code u := by
  have hword (o : Nat) : slotWord u p o = slotWord t p o := slotWord_congr hram p o
  have hplate : plateOf u p = plateOf t p := by simp only [plateOf, hplates]
  unfold Finished
  rw [hword, hword, hword, hplate]
  exact h

theorem othersStand_finishPlate (p : PlateId) (x y : Nat) (v : Verdict) (s : State) : OthersStand [p] s (finishPlate p x y v s) :=
  othersStand_putSlot (by simp) (by decide) (othersStand_putSlot (by simp) (by decide)
    (othersStand_putSlot (by simp) (by decide) (othersStand_modPlate (by simp) .refl)))

theorem Finished.other (h : Finished p r x y v code s) (hothers : OthersStand [q] s t) (hne : p ≠ q) : Finished p r x y v code t := by
  obtain ⟨hplate, hword⟩ := hothers p (by simpa using hne)
  have h51 := hword ⟨51, by decide⟩
  have h52 := hword ⟨52, by decide⟩
  have h53 := hword ⟨53, by decide⟩
  unfold Finished
  rw [hplate, h51, h52, h53]
  exact h

theorem Finished.finishOccupant {a b : Nat} {w : Verdict} (h : Finished p r x y v code s) (hne : occupant o ≠ some p) :
    Finished p r x y v code (finishOccupant o a b w s) := by
  unfold Machine.finishOccupant
  split
  · exact h
  · exact h.other (othersStand_finishPlate _ _ _ _ _) fun hpq => hne (by simp [occupant, hpq])

theorem Finished.spoilOccupant {a b : Nat} (h : Finished p r x y v code s) (hne : occupant o ≠ some p) :
    Finished p r x y v code (spoilOccupant o a b s) := by
  unfold Machine.spoilOccupant
  split
  · exact h.other (othersStand_finishPlate _ _ _ _ _) fun hpq => hne (by simp [occupant, hpq])
  · exact h
  · exact h
  · exact h

/-! ## The fault of the chamber (R167) -/

/-- A dose that the chamber reports at its fault (R167). -/
def faultDose (c : Chamber) (acc : Nat) : Nat := if exposureStarted c then min 65535 ((acc + 500) / 1000) else 0

/-- The chamber is FAULTED, its timers stopped and shutters closed, and an undecided plate of `s` is spoiled with doses (R167). -/
def Faulted (x y : Nat) (s t : State) : Prop :=
  t.chamber.state = .faulted ∧ t.bus.latched.getLsbD 4 = true ∧ t.chamber.openA = false ∧
    t.chamber.openC = false ∧ t.chamber.igniteOrder = none ∧ t.chamber.ignition = none ∧
    t.chamber.stabilizing = none ∧ t.chamber.idle = none ∧ t.chamber.second = none ∧
    t.chamber.openDeadline = none ∧ t.chamber.openStanding = none ∧
    (∀ (pos : ChamberPos) (cls : Option (Nat × Nat)), t.chamber.ask ≠ .load pos cls) ∧
    (∀ (p : PlateId) (r : Plate), occupant s.chamber.pos2 ≠ some p → plateOf s p = some r →
      s.chamber.pos1 = some (p, .undecided) → t.chamber.pos1 = some (p, .spoiled) ∧ Finished p r x y .incomplete 6 t)

theorem faulted_chamberFault (s : State) :
    Faulted (faultDose s.chamber s.chamber.accA) (faultDose s.chamber s.chamber.accC) s (chamberFault s) := by
  obtain ⟨⟨cls, ask, hchamber, hask⟩, hbit, -⟩ := chamberFault_effect s
  have hspoils (p : PlateId) (r : Plate) (hne : occupant s.chamber.pos2 ≠ some p) (hr : plateOf s p = some r)
      (hpos : s.chamber.pos1 = some (p, .undecided)) : (chamberFault s).chamber.pos1 = some (p, .spoiled) ∧
        Finished p r (faultDose s.chamber s.chamber.accA) (faultDose s.chamber s.chamber.accC) .incomplete 6 (chamberFault s) := by
    have hpos1 : (chamberFault s).chamber.pos1 = spoilMark s.chamber.pos1 := by
      rw [hchamber]
      rfl
    refine ⟨by rw [hpos1, hpos]; rfl, ?_⟩
    have hdose (acc : Nat) : (if exposureStarted s.chamber then reportedDose acc else 0) = faultDose s.chamber acc := by
      unfold faultDose
      rw [reportedDose_min]
    have hspoilt : Finished p r (faultDose s.chamber s.chamber.accA) (faultDose s.chamber s.chamber.accC) .incomplete 6
        (spoilOccupant s.chamber.pos1 (faultDose s.chamber s.chamber.accA) (faultDose s.chamber s.chamber.accC) s) := by
      rw [hpos]
      exact finished_finishPlate hr
    have hboth := hspoilt.spoilOccupant (a := faultDose s.chamber s.chamber.accA) (b := faultDose s.chamber s.chamber.accC) hne
    refine finished_of_eq hboth ?_ ?_
    · rw [← hdose, ← hdose]
      simp [chamberFault]
    · rw [← hdose, ← hdose]
      simp [chamberFault]
  unfold Faulted
  rw [hchamber] at hspoils ⊢
  exact ⟨rfl, hbit, rfl, rfl, rfl, rfl, rfl, rfl, rfl, rfl, rfl, hask, hspoils⟩

/-! ## The tests after a report -/

theorem handlingTests_quiet (hshuttle : s.shuttle.state ≠ .ready) (hask : ∀ cls, s.chamber.ask ≠ .load .two cls)
    (hdark : s.chamber.state = .dark → loadCandidate s none = none) : handlingTests s = s := by
  have hwithdraw : withdrawSecondAsk s = s := withdrawSecondAsk_stands fun cls h => absurd h (hask cls)
  have hlight : lightTubes s = s := if_neg fun h => by simp [hdark h.1] at h
  unfold handlingTests
  rw [hwithdraw, hlight, grant_of_not_ready s hshuttle]

theorem testDoor_idle (h1 : s.chamber.state ≠ .suspended) (h2 : s.chamber.state ≠ .exposing) : testDoor s = s := by
  have hresume : resumeBatch s = s := if_neg fun h => h1 h.1
  have hsuspend : suspendBatch s = s := if_neg h2
  unfold testDoor
  rw [hresume, hsuspend, ite_self]

/-- The states in which a group that is not LIT faults the chamber (R167). -/
def needsLight : ChamberState → Bool
  | .stabilizing | .ready | .loading | .exposing | .suspended | .unloading => true
  | .dark | .igniting | .faulted => false

theorem testTubes_lit (h : s.chamber.state ≠ .igniting) (hA : s.chamber.tubeA = .lit) (hC : s.chamber.tubeC = .lit) :
    testTubes s = s := by
  unfold testTubes
  dsimp only
  split
  · contradiction
  · rfl
  · rfl
  all_goals exact if_pos ⟨hA, hC⟩

theorem testTubes_out (h : needsLight s.chamber.state = true) (hout : ¬ (s.chamber.tubeA = .lit ∧ s.chamber.tubeC = .lit)) :
    testTubes s = chamberFault s := by
  unfold testTubes
  dsimp only
  split
  all_goals first
    | exact if_neg hout
    | (next hstate => rw [hstate] at h; nomatch h)

/-- What comes after a fault of the chamber changes nothing. -/
theorem fault_settled (hshuttle : s.shuttle.state ≠ .ready) :
    handlingTests (testDoor (chamberFault s)) = chamberFault s := by
  obtain ⟨hstate, -, -, -, -, -, -, -, -, -, -, hask, -⟩ := faulted_chamberFault s
  have hdoor : testDoor (chamberFault s) = chamberFault s := testDoor_idle (by rw [hstate]; nofun) (by rw [hstate]; nofun)
  rw [hdoor]
  exact handlingTests_quiet (by simpa using hshuttle) (hask .two) fun h => nomatch hstate.symm.trans h

/-! ## A report, chamber state by chamber state -/

/-- The chamber with a report of its node taken (R156). -/
def finisherReport (now : Nat) (d : Vector Byte 6) (c : Chamber) : Chamber := { c with
  eUva := min 10000 (d[0].toNat + 256 * d[1].toNat), eUvc := min 10000 (d[2].toNat + 256 * d[3].toNat)
  tubeA := tubeOfCode (d[4].toNat % 4), tubeC := tubeOfCode (d[4].toNat / 4 % 4)
  doorClosed := decide (d[4].toNat / 16 % 2 = 1), echo := d[5].toNat, lastGood := some now }

/-- The interval that a report credits, ms (R156). -/
def reportInterval (s : State) : Nat := (s.chamber.lastGood.map fun x => max 1 (min 100 (s.now - x))).getD 1

/-- The state with a report of the finisher node kept. -/
def finisherSeen (d : Vector Byte 6) (s : State) : State := { s with chamber := finisherReport s.now d s.chamber }

theorem takeFinisherReport_eq : takeFinisherReport d s =
    handlingTests (testDoor (testTubes (creditGroups (reportInterval s) (finisherSeen d s)))) := by
  have hinterval : finisherDt s.now s.chamber.lastGood = reportInterval s := by
    unfold finisherDt reportInterval
    cases s.chamber.lastGood with
    | none => rfl
    | some x =>
      change clampNat 1 100 (s.now - x) = max 1 (min 100 (s.now - x))
      unfold clampNat
      split
      · omega
      · split <;> omega
  unfold takeFinisherReport
  dsimp only
  rw [hinterval, wordOfLowHigh_toNat, wordOfLowHigh_toNat]
  rfl

theorem tubeOfCode_lit {k : Nat} : tubeOfCode k = .lit ↔ k = 2 := by
  unfold tubeOfCode
  repeat' split
  all_goals simp_all

theorem tubeOfCode_failed {k : Nat} (h : k < 4) : tubeOfCode k = .failed ↔ k = 3 := by
  have hall : ∀ k : Fin 4, tubeOfCode k.val = .failed ↔ k.val = 3 := by decide
  exact hall ⟨k, h⟩

/-- Both groups are LIT in a report (R158). -/
def bothLit (d : Vector Byte 6) : Prop := d[4].toNat % 4 = 2 ∧ d[4].toNat / 4 % 4 = 2

theorem bothLit_iff {now : Nat} {c : Chamber} :
    ((finisherReport now d c).tubeA = .lit ∧ (finisherReport now d c).tubeC = .lit) ↔ bothLit d :=
  and_congr tubeOfCode_lit tubeOfCode_lit

theorem report_of {v w : State} (hcredit : creditGroups (reportInterval s) (finisherSeen d s) = u) (htubes : testTubes u = v)
    (hdoor : testDoor v = w) (hquiet : handlingTests w = w) : takeFinisherReport d s = w := by
  rw [takeFinisherReport_eq, hcredit, htubes, hdoor, hquiet]

theorem report_faults (hcredit : creditGroups (reportInterval s) (finisherSeen d s) = u) (htubes : testTubes u = chamberFault u)
    (hshuttle : s.shuttle.state ≠ .ready) : takeFinisherReport d s = chamberFault u := by
  have hready : u.shuttle.state ≠ .ready := by
    rw [← hcredit]
    simpa [finisherSeen] using hshuttle
  rw [takeFinisherReport_eq, hcredit, htubes, fault_settled hready]

theorem creditGroups_idle {dt : Nat} (h : s.chamber.state ≠ .exposing) : creditGroups dt s = s := if_neg h

theorem testTubes_igniting (h : s.chamber.state = .igniting) : testTubes s =
    if s.chamber.igniteOrder = some s.chamber.echo then
      if s.chamber.tubeA = .lit ∧ s.chamber.tubeC = .lit then { s with chamber := { s.chamber with
        state := .stabilizing, ignition := none, igniteOrder := none, stabilizing := some (s.now + 120000) } }
      else if s.chamber.tubeA = .failed ∨ s.chamber.tubeC = .failed then chamberFault s
      else s
    else s := by
  simp only [testTubes, h]

theorem testDoor_closed (h : s.chamber.doorClosed = true) : testDoor s = resumeBatch s := if_pos h

theorem testDoor_open (h : s.chamber.doorClosed = false) : testDoor s = suspendBatch s := if_neg (by simp [h])

theorem bothFailed_iff {now : Nat} {c : Chamber} :
    ((finisherReport now d c).tubeA = .failed ∨ (finisherReport now d c).tubeC = .failed) ↔
      d[4].toNat % 4 = 3 ∨ d[4].toNat / 4 % 4 = 3 :=
  or_congr (tubeOfCode_failed (Nat.mod_lt _ (by decide))) (tubeOfCode_failed (Nat.mod_lt _ (by decide)))

/-- Without a state that looks at the report nothing but the report changes. -/
theorem report_idle (hshuttle : s.shuttle.state ≠ .ready) (hask : ∀ cls, s.chamber.ask ≠ .load .two cls)
    (h : s.chamber.state = .faulted ∨ (s.chamber.state = .dark ∧ loadCandidate s none = none)) :
    takeFinisherReport d s = finisherSeen d s := by
  have hne (st : ChamberState) (h1 : st ≠ .faulted) (h2 : st ≠ .dark) : s.chamber.state ≠ st := fun e =>
    h.elim (fun h => h1 (e.symm.trans h)) fun h => h2 (e.symm.trans h.1)
  refine report_of (creditGroups_idle (hne .exposing nofun nofun)) ?_
    (testDoor_idle (s := finisherSeen d s) (hne .suspended nofun nofun) (hne .exposing nofun nofun))
    (handlingTests_quiet (s := finisherSeen d s) hshuttle hask fun hdark => ?_)
  · rcases h with h | ⟨h, -⟩ <;> simp only [testTubes, finisherSeen, finisherReport, h]
  · rcases h with h | ⟨-, h⟩
    · exact nomatch h.symm.trans hdark
    · exact (loadCandidate_congr rfl rfl none).trans h

/-- The reports of IGNITING (R158). -/
theorem report_igniting (hshuttle : s.shuttle.state ≠ .ready) (hask : ∀ cls, s.chamber.ask ≠ .load .two cls)
    (h : s.chamber.state = .igniting) :
    (s.chamber.igniteOrder ≠ some d[5].toNat ∨ (¬ bothLit d ∧ d[4].toNat % 4 ≠ 3 ∧ d[4].toNat / 4 % 4 ≠ 3) →
      takeFinisherReport d s = finisherSeen d s) ∧
    (s.chamber.igniteOrder = some d[5].toNat → bothLit d → takeFinisherReport d s = { s with
      chamber := { finisherReport s.now d s.chamber with
        state := .stabilizing, ignition := none, igniteOrder := none, stabilizing := some (s.now + 120000) } }) ∧
    (s.chamber.igniteOrder = some d[5].toNat → d[4].toNat % 4 = 3 ∨ d[4].toNat / 4 % 4 = 3 →
      takeFinisherReport d s = chamberFault (finisherSeen d s)) := by
  have hcredit : creditGroups (reportInterval s) (finisherSeen d s) = finisherSeen d s :=
    creditGroups_idle (s := finisherSeen d s) (by rw [show (finisherSeen d s).chamber.state = .igniting from h]; nofun)
  have htubes := testTubes_igniting (s := finisherSeen d s) h
  refine ⟨fun hwaits => ?_, fun horder hlit => ?_, fun horder hfailed => ?_⟩
  · refine report_of hcredit (htubes.trans ?_) (testDoor_idle (s := finisherSeen d s) ?_ ?_)
      (handlingTests_quiet (s := finisherSeen d s) hshuttle hask fun hdark => nomatch h.symm.trans hdark)
    · split
      · next horder =>
        obtain ⟨hout, hfailed⟩ := hwaits.resolve_left fun hne => hne horder
        exact (if_neg (mt bothLit_iff.mp hout)).trans (if_neg (mt bothFailed_iff.mp (by omega)))
      · rfl
    · exact fun e => nomatch h.symm.trans e
    · exact fun e => nomatch h.symm.trans e
  · refine report_of hcredit (htubes.trans ((if_pos horder).trans (if_pos (bothLit_iff.mpr hlit)))) (testDoor_idle ?_ ?_)
      (handlingTests_quiet hshuttle hask ?_)
    · nofun
    · nofun
    · nofun
  · have hout : ¬ bothLit d := fun hlit => by
      obtain ⟨hA, hC⟩ := hlit
      omega
    exact report_faults hcredit (htubes.trans ((if_pos horder).trans ((if_neg (mt bothLit_iff.mp hout)).trans
      (if_pos (bothFailed_iff.mpr hfailed))))) hshuttle

/-- A group that is not LIT faults a chamber that needs its light and does not expose (R167). -/
theorem report_out (hshuttle : s.shuttle.state ≠ .ready) (hneeds : needsLight s.chamber.state = true)
    (hstate : s.chamber.state ≠ .exposing) (hout : ¬ bothLit d) : takeFinisherReport d s = chamberFault (finisherSeen d s) :=
  report_faults (creditGroups_idle (s := finisherSeen d s) hstate)
    (testTubes_out (s := finisherSeen d s) hneeds (mt bothLit_iff.mp hout)) hshuttle

/-- A LIT report that the door does not change anything by. -/
theorem report_lit (hshuttle : s.shuttle.state ≠ .ready) (hask : ∀ cls, s.chamber.ask ≠ .load .two cls)
    (hneeds : needsLight s.chamber.state = true) (hstate : s.chamber.state ≠ .exposing) (hlit : bothLit d)
    (hdoor : testDoor (finisherSeen d s) = finisherSeen d s) : takeFinisherReport d s = finisherSeen d s := by
  obtain ⟨hA, hC⟩ := (bothLit_iff (now := s.now) (c := s.chamber)).mpr hlit
  have hne (st : ChamberState) (h : needsLight st = false) : s.chamber.state ≠ st := fun e => nomatch (e ▸ hneeds).symm.trans h
  exact report_of (creditGroups_idle (s := finisherSeen d s) hstate)
    (testTubes_lit (s := finisherSeen d s) (hne .igniting rfl) hA hC) hdoor
    (handlingTests_quiet (s := finisherSeen d s) hshuttle hask fun hdark => absurd hdark (hne .dark rfl))

/-- A suspended batch goes on (R165). -/
theorem report_resumes (hshuttle : s.shuttle.state ≠ .ready) (hask : ∀ cls, s.chamber.ask ≠ .load .two cls)
    (hstate : s.chamber.state = .suspended) (hlit : bothLit d) (hdoor : d[4].toNat / 16 % 2 = 1)
    (hline : s.supervisor.line ≠ .safe) (hon : (s.chamber.onA && s.chamber.onC) = false) :
    takeFinisherReport d s = { s with chamber := { finisherReport s.now d s.chamber with
      state := .exposing, openA := !s.chamber.onA, openC := !s.chamber.onC
      openDeadline := some (s.now + s.chamber.openStanding.getD 0), openStanding := none } } := by
  obtain ⟨hA, hC⟩ := (bothLit_iff (now := s.now) (c := s.chamber)).mpr hlit
  have hclosed : (finisherSeen d s).chamber.doorClosed = true := decide_eq_true hdoor
  have hresumed : testDoor (finisherSeen d s) = _ := (testDoor_closed hclosed).trans
    ((resumeBatch_resumes (s := finisherSeen d s) hstate hclosed hline).trans (enterExposing_opens (s := finisherSeen d s) hon))
  refine report_of (creditGroups_idle (s := finisherSeen d s) fun e => nomatch hstate.symm.trans e)
    (testTubes_lit (s := finisherSeen d s) (fun e => nomatch hstate.symm.trans e) hA hC) hresumed
    (handlingTests_quiet hshuttle hask ?_)
  nofun

/-! ## The reports of EXPOSING (R163 to R165) -/

/-- The chamber with a report taken and its doses credited (R163). -/
def reportCredited (d : Vector Byte 6) (s : State) : Chamber :=
  creditedChamber (reportInterval s) (finisherReport s.now d s.chamber)

theorem creditGroups_exposing (hstate : s.chamber.state = .exposing) : creditGroups (reportInterval s) (finisherSeen d s) =
    if (reportCredited d s).onA && (reportCredited d s).onC then endBatch .inTol { s with chamber := reportCredited d s }
    else { s with chamber := reportCredited d s } := creditGroups_eq (s := finisherSeen d s) _ hstate

section
variable (hshuttle : s.shuttle.state ≠ .ready) (hask : ∀ cls, s.chamber.ask ≠ .load .two cls)
  (hstate : s.chamber.state = .exposing) (hboth : ((reportCredited d s).onA && (reportCredited d s).onC) = false)
include hshuttle hstate hboth

theorem report_exposing_out (hout : ¬ bothLit d) : takeFinisherReport d s = chamberFault { s with chamber := reportCredited d s } := by
  have hneeds : needsLight (reportCredited d s).state = true := by
    have hkept : (reportCredited d s).state = .exposing := hstate
    rw [hkept]
    rfl
  exact report_faults ((creditGroups_exposing hstate).trans (if_neg (by rw [hboth]; decide)))
    (testTubes_out (s := { s with chamber := reportCredited d s }) hneeds
      (mt (bothLit_iff (now := s.now) (c := s.chamber)).mp hout)) hshuttle

include hask

theorem report_exposing_lit (hlit : bothLit d) : takeFinisherReport d s =
    if d[4].toNat / 16 % 2 = 1 then { s with chamber := reportCredited d s }
    else { s with chamber := { reportCredited d s with
      state := .suspended, openA := false, openC := false
      openDeadline := none, openStanding := s.chamber.openDeadline.map fun x => x - s.now } } := by
  obtain ⟨hA, hC⟩ := (bothLit_iff (now := s.now) (c := s.chamber)).mpr hlit
  have hcredit := (creditGroups_exposing (d := d) hstate).trans (if_neg (by rw [hboth]; decide))
  have hkept : (reportCredited d s).state = .exposing := hstate
  have htubes : testTubes { s with chamber := reportCredited d s } = { s with chamber := reportCredited d s } :=
    testTubes_lit (fun e => nomatch hkept.symm.trans e) hA hC
  split
  · next hdoor =>
    have hidle : resumeBatch { s with chamber := reportCredited d s } = { s with chamber := reportCredited d s } :=
      if_neg fun h => absurd (hkept.symm.trans h.1) (by decide)
    exact report_of hcredit htubes ((testDoor_closed (decide_eq_true hdoor)).trans hidle)
      (handlingTests_quiet hshuttle hask fun e => nomatch hkept.symm.trans e)
  · next hdoor =>
    refine report_of hcredit htubes ((testDoor_open (decide_eq_false hdoor)).trans (if_pos hstate))
      (handlingTests_quiet hshuttle hask ?_)
    nofun

end

/-- The end of a batch at a report (R163, R164, R166). -/
theorem report_ends_batch (hshuttle : s.shuttle.state ≠ .ready) (hstate : s.chamber.state = .exposing)
    (hboth : ((reportCredited d s).onA && (reportCredited d s).onC) = true) (hlit : bothLit d) (hmove : chamberMove s = false)
    (hpos : s.chamber.pos1 = some (p, m)) (hne : occupant s.chamber.pos2 ≠ some p) (hr : plateOf s p = some r) :
    (takeFinisherReport d s).chamber = { reportCredited d s with
        state := .unloading, openA := false, openC := false, openDeadline := none, openStanding := none
        pos1 := some (p, .finished), pos2 := s.chamber.pos2.map fun x => (x.1, .finished)
        ask := .unload p .one false } ∧
      Finished p r (min 65535 (((reportCredited d s).accA + 500) / 1000)) (min 65535 (((reportCredited d s).accC + 500) / 1000))
        .inTol 1 (takeFinisherReport d s) := by
  obtain ⟨hA, hC⟩ := (bothLit_iff (now := s.now) (c := s.chamber)).mpr hlit
  obtain ⟨c, hc⟩ : ∃ c, reportCredited d s = c := ⟨_, rfl⟩
  have hcredit := (creditGroups_exposing (d := d) hstate).trans (if_pos hboth)
  have hpos1 : c.pos1 = some (p, m) := by rw [← hc]; exact hpos
  have hpos2 : c.pos2 = s.chamber.pos2 := by rw [← hc]; rfl
  rw [hc] at hcredit ⊢
  obtain ⟨u, hu⟩ : ∃ u, finishOccupant c.pos2 (reportedDose c.accA) (reportedDose c.accC) .inTol
      (finishOccupant c.pos1 (reportedDose c.accA) (reportedDose c.accC) .inTol { s with chamber := c }) = u := ⟨_, rfl⟩
  have hwritten : Finished p r (reportedDose c.accA) (reportedDose c.accC) .inTol 1 u := by
    rw [← hu, hpos1]
    exact (finished_finishPlate (s := { s with chamber := c }) hr).finishOccupant (by rwa [hpos2])
  have hmove' : chamberMove u = false := by
    rw [← hmove]
    exact chamberMove_congr (by simp [← hu])
  have hended : endBatch .inTol { s with chamber := c } = { u with chamber := { c with
      state := .unloading, openA := false, openC := false, openDeadline := none, openStanding := none
      pos1 := some (p, .finished), pos2 := s.chamber.pos2.map fun x => (x.1, .finished)
      ask := .unload p .one false } } := by
    rw [endBatch_eq]
    dsimp only
    rw [hu, hpos1, hpos2]
    exact unloadNext_unloading_ask rfl hmove' rfl
  have htubes : testTubes (endBatch .inTol { s with chamber := c }) = endBatch .inTol { s with chamber := c } := by
    rw [hended]
    refine testTubes_lit ?_ (by rw [← hc]; exact hA) (by rw [← hc]; exact hC)
    nofun
  have hdoor : testDoor (endBatch .inTol { s with chamber := c }) = endBatch .inTol { s with chamber := c } := by
    rw [hended]
    exact testDoor_idle nofun nofun
  have hquiet : handlingTests (endBatch .inTol { s with chamber := c }) = endBatch .inTol { s with chamber := c } := by
    refine handlingTests_quiet (by simpa using hshuttle) ?_ ?_
    · rw [hended]
      nofun
    · rw [hended]
      nofun
  rw [report_of hcredit htubes hdoor hquiet, hended, ← reportedDose_min, ← reportedDose_min]
  exact ⟨rfl, hwritten⟩

end

/-- A good response of a PRESENT finisher node: its owner's report, and the end of the visit. -/
theorem exec_finisherReport {s : State} {n : Fin 15} {again : Bool} {cmd : NodeCmd} {bytes : List RxByte} {stat : Byte}
    {d : Vector Byte 6} (hgood : goodResponse .finisher n again cmd bytes stat d s) (hpresent : s.link.nodes[n].state = .present) :
    ∃ link count, exec (.responseFrame bytes) s =
      .next { takeFinisherReport d (answered n stat d s) with link := link, freeCount := count } := by
  obtain ⟨addr, hphase, hjudge, hstation, hmore⟩ := hgood
  have hexec := exec_delivers hphase hjudge hmore
  have hanswered : recorded n stat d s = answered n stat d s := recorded_present hpresent
  rw [hanswered, hstation, deliver_finisher] at hexec
  exact ⟨_, _, hexec⟩

theorem chamberReport_take (d : Vector Byte 6) (s : State) :
    chamberReport (takeFinisherReport d s).chamber = chamberReport (finisherReport s.now d s.chamber) := by
  rw [takeFinisherReport_eq, chamberReport_handlingTests, chamberReport_testDoor, chamberReport_testTubes, chamberReport_creditGroups]
  rfl

/-- The doses at a fault before and during an exposure (R167). -/
theorem faultDose_unexposed {c : Chamber} {acc : Nat} (h1 : c.state ≠ .exposing) (h2 : c.state ≠ .suspended) : faultDose c acc = 0 :=
  if_neg (by simp [exposureStarted, h1, h2])

theorem faultDose_exposed {c : Chamber} {acc : Nat} (h : c.state = .exposing ∨ c.state = .suspended) :
    faultDose c acc = min 65535 ((acc + 500) / 1000) :=
  if_pos (by rcases h with h | h <;> simp [exposureStarted, h])

/-- The fault before an exposure reports no dose. -/
theorem faulted_unexposed {s : State} (h1 : s.chamber.state ≠ .exposing) (h2 : s.chamber.state ≠ .suspended) :
    Faulted 0 0 s (chamberFault s) := by
  have hfaulted := faulted_chamberFault s
  rwa [faultDose_unexposed h1 h2, faultDose_unexposed h1 h2] at hfaulted

theorem faulted_exposed {s : State} (h : s.chamber.state = .exposing ∨ s.chamber.state = .suspended) :
    Faulted (min 65535 ((s.chamber.accA + 500) / 1000)) (min 65535 ((s.chamber.accC + 500) / 1000)) s (chamberFault s) := by
  have hfaulted := faulted_chamberFault s
  rwa [faultDose_exposed h, faultDose_exposed h] at hfaulted

/-- Settles O59: the report by the chamber's state. -/
theorem finisherReportsCreditAndTest : Obligations.FinisherReportsCreditAndTest := by
  unfold Obligations.FinisherReportsCreditAndTest
  intro n again cmd bytes stat d s hgood hpresent
  obtain ⟨link, count, hexec⟩ := exec_finisherReport hgood hpresent
  have hreport : chamberReport (takeFinisherReport d (answered n stat d s)).chamber =
      chamberReport (finisherReport s.now d s.chamber) := chamberReport_take d (answered n stat d s)
  have honly (x : Chamber) (h : takeFinisherReport d (answered n stat d s) = { answered n stat d s with chamber := x }) :
      { { takeFinisherReport d (answered n stat d s) with link := link, freeCount := count } with
        link := s.link, freeCount := s.freeCount } = { s with chamber := x } := by
    rw [h]
    rfl
  have hfaulted (a b : Nat) (x : Chamber) (hx : x.pos1 = s.chamber.pos1 ∧ x.pos2 = s.chamber.pos2)
      (h : takeFinisherReport d (answered n stat d s) = chamberFault { answered n stat d s with chamber := x })
      (hf : Faulted a b { answered n stat d s with chamber := x } (chamberFault { answered n stat d s with chamber := x })) :
      Faulted a b s { takeFinisherReport d (answered n stat d s) with link := link, freeCount := count } := by
    rw [h]
    unfold Faulted at hf ⊢
    dsimp only at hf
    rw [hx.1, hx.2] at hf
    exact hf
  refine ⟨_, hexec, ?_, fun hshuttle hask => ?_⟩
  · obtain ⟨huva, hrest⟩ := Prod.mk.inj hreport
    obtain ⟨huvc, hrest⟩ := Prod.mk.inj hrest
    obtain ⟨htubeA, hrest⟩ := Prod.mk.inj hrest
    obtain ⟨htubeC, hrest⟩ := Prod.mk.inj hrest
    obtain ⟨hdoor, hrest⟩ := Prod.mk.inj hrest
    obtain ⟨hecho, hlast⟩ := Prod.mk.inj hrest
    exact ⟨huva, huvc, htubeA, htubeC, hdoor, hecho, hlast⟩
  · have hunexposed (h1 : s.chamber.state ≠ .exposing) (h2 : s.chamber.state ≠ .suspended)
        (htake : takeFinisherReport d (answered n stat d s) = chamberFault (finisherSeen d (answered n stat d s))) :
        Faulted 0 0 s { takeFinisherReport d (answered n stat d s) with link := link, freeCount := count } :=
      hfaulted 0 0 (finisherReport s.now d s.chamber) ⟨rfl, rfl⟩ htake
        (faulted_unexposed (s := finisherSeen d (answered n stat d s)) h1 h2)
    have hburns (hneeds : needsLight s.chamber.state = true) (h1 : s.chamber.state ≠ .exposing) (h2 : s.chamber.state ≠ .suspended) :
        (bothLit d → takeFinisherReport d (answered n stat d s) = finisherSeen d (answered n stat d s)) ∧
        (¬ bothLit d → Faulted 0 0 s { takeFinisherReport d (answered n stat d s) with link := link, freeCount := count }) :=
      ⟨fun hlit => report_lit (s := answered n stat d s) hshuttle hask hneeds h1 hlit
        (testDoor_idle (s := finisherSeen d (answered n stat d s)) h2 h1),
        fun hout => hunexposed h1 h2 (report_out (s := answered n stat d s) hshuttle hneeds h1 hout)⟩
    refine ⟨fun hidle => honly _ ?_, fun hstate => ?igniting, fun hstate => ?burning, fun hstate => ?suspended, fun hstate => ?exposing⟩
    · refine report_idle (s := answered n stat d s) hshuttle hask (hidle.imp_right fun h => ⟨h.1, ?_⟩)
      exact (loadCandidate_congr rfl rfl none).trans h.2
    case igniting =>
      obtain ⟨hwaits, hlights, hfails⟩ := report_igniting (s := answered n stat d s) (d := d) hshuttle hask hstate
      refine ⟨fun h => honly _ (hwaits h), fun horder hlit => honly _ (hlights horder hlit),
        fun horder hfailed => hunexposed ?_ ?_ (hfails horder hfailed)⟩
      · rw [hstate]
        nofun
      · rw [hstate]
        nofun
    case burning =>
      have hburns' : (bothLit d → takeFinisherReport d (answered n stat d s) = finisherSeen d (answered n stat d s)) ∧
          (¬ bothLit d → Faulted 0 0 s { takeFinisherReport d (answered n stat d s) with link := link, freeCount := count }) := by
        rcases hstate with h | h | h | h <;> exact hburns (by rw [h]; rfl) (by rw [h]; nofun) (by rw [h]; nofun)
      exact ⟨fun hlit => honly _ (hburns'.1 hlit), hburns'.2⟩
    case suspended =>
      have hneeds : needsLight s.chamber.state = true := by rw [hstate]; rfl
      have hunlit : s.chamber.state ≠ .exposing := by rw [hstate]; nofun
      refine ⟨fun hout => ?_, fun hlit hstays => honly _ ?_, fun hlit hdoor hline hon => honly _ ?_⟩
      · exact hfaulted _ _ (finisherReport s.now d s.chamber) ⟨rfl, rfl⟩ (report_out (s := answered n stat d s) hshuttle hneeds hunlit hout)
          (faulted_exposed (s := finisherSeen d (answered n stat d s)) (.inr hstate))
      · refine report_lit (s := answered n stat d s) hshuttle hask hneeds hunlit hlit ?_
        by_cases hdoor : d[4].toNat / 16 % 2 = 1
        · exact (testDoor_closed (s := finisherSeen d (answered n stat d s)) (decide_eq_true hdoor)).trans
            (if_neg fun h => absurd (hstays.resolve_left fun hne => hne hdoor) (of_decide_eq_false h.2.2))
        · exact (testDoor_open (s := finisherSeen d (answered n stat d s)) (decide_eq_false hdoor)).trans (if_neg hunlit)
      · exact report_resumes (s := answered n stat d s) hshuttle hask hstate hlit hdoor hline hon
    case exposing =>
      refine ⟨fun hboth hlit hdoor => honly _ ?_, fun hboth hlit hdoor => honly _ ?_, fun hboth hout => ?_,
        fun hboth hlit hmove p m r hpos hne hr => ?_⟩
      · exact (report_exposing_lit (s := answered n stat d s) hshuttle hask hstate hboth hlit).trans (if_pos hdoor)
      · exact (report_exposing_lit (s := answered n stat d s) hshuttle hask hstate hboth hlit).trans (if_neg hdoor)
      · exact hfaulted _ _ (reportCredited d (answered n stat d s)) ⟨rfl, rfl⟩
          (report_exposing_out (s := answered n stat d s) hshuttle hstate hboth hout)
          (faulted_exposed (s := { answered n stat d s with chamber := reportCredited d (answered n stat d s) }) (.inl hstate))
      · exact report_ends_batch (s := answered n stat d s) hshuttle hstate hboth hlit hmove hpos hne hr

end Sys2Proof.Machine

/-! PROOFS. The obligation about the passes and visits of the line link (R172 to R176, R183): a further pass of SINGLE that
finds no station assigned ends the scan. -/

namespace Sys2Proof.Machine

/-- In SINGLE with its further pass due and the pass timer expired, the visit of node 1, the drive's, is open as the last of its
pass, and the live assignment, which the next pass takes, assigns no station. -/
def unassignedSingle : State := { State.reset with
  link := { State.reset.link with
    mode := .single, further := true, passTimer := none, revisit := none, phase := .window 0 false 1 .stop
    assign := Vector.replicate 15 .none
    nodes := Vector.ofFn fun n : Fin 15 => if n = 0 then State.reset.link.nodes[n]
      else { State.reset.link.nodes[n] with station := .none, state := .notScanned } } }

theorem unassignedSingle_pass : unassignedSingle.link.phase = .window 0 false 1 .stop ∧ unassignedSingle.link.revisit = none ∧
    nextVisited unassignedSingle 1 = none ∧ passFollows unassignedSingle.link = true := by
  refine ⟨rfl, rfl, ?_, rfl⟩
  decide

/-- The pass that follows has no node to visit: it ends the scan of SINGLE. -/
theorem unassignedSingle_stops : (endVisit 0 (notGood 0 false unassignedSingle)).link.mode = .stopped := by
  decide

/-- Refutes O52: with no station assigned the further pass of SINGLE ends at once and leaves the mode STOPPED, where the
statement has a pass that follows keep the mode. -/
theorem not_linkPassesAndVisits : ¬ Obligations.LinkPassesAndVisits := by
  unfold Obligations.LinkPassesAndVisits
  rintro ⟨-, hends, -, -⟩
  obtain ⟨hphase, hrevisit, hlast, hfollows⟩ := unassignedSingle_pass
  obtain ⟨⟨t, hexec, -, hkeeps, -⟩, -⟩ := hends 0 false 1 .stop unassignedSingle hphase hrevisit hlast
  have hstops : exec .responseTimeout unassignedSingle = .next (endVisit 0 (notGood 0 false unassignedSingle)) := rfl
  obtain rfl := Host.Outcome.next.inj (hstops.symm.trans hexec)
  exact absurd ((hkeeps hfollows).1.symm.trans unassignedSingle_stops) (by decide)

end Sys2Proof.Machine

/-! PROOFS. What the grant and the tests of the handling units leave to a plate that no request takes (R144, R157, R160). -/

namespace Sys2Proof.Machine

/-- The record and the slot of a plate stand from `s` to `t`. -/
def PlateStands (p : PlateId) (s t : State) : Prop :=
  plateOf t p = plateOf s p ∧ ∀ o : Nat, o < 64 → slotWord t p o = slotWord s p o

/-- A plate that no request of the shuttle's can take: it is in neither the rack nor the dry list, and no UNLOAD asks for it. -/
structure Untaken (p : PlateId) (s : State) : Prop where
  rack : p ∉ rackPlates s
  dry : p ∉ s.drying.dryList
  ask : ∀ pos b, s.chamber.ask ≠ .unload p pos b

/-- A plate that no request can take and that is not in the batch either. -/
structure Aside (p : PlateId) (s : State) : Prop where
  untaken : Untaken p s
  pos1 : occupant s.chamber.pos1 ≠ some p
  pos2 : occupant s.chamber.pos2 ≠ some p

/-- The kind of the move that is current. -/
def moveKind (s : State) : Option MoveKind := s.shuttle.move.map fun x => x.kind

/-- What the grant of a READY shuttle with no move can do to the chamber, the admission unit and the drawers (R144). -/
def Granted (s t : State) : Prop :=
  (t.chamber = s.chamber ∧ t.admission = s.admission ∧ t.drying.drawers = s.drying.drawers ∧
    moveKind t ≠ some .unload ∧ moveKind t ≠ some .load) ∨
  (∃ p pos sp, s.chamber.ask = .unload p pos sp ∧ t.chamber = { clearPos pos s.chamber with ask := .none } ∧
    t.admission = s.admission ∧ t.drying.drawers = s.drying.drawers ∧ moveKind t = some .unload ∧
    t.shuttle.move.map (fun x => x.plate) = some p) ∨
  (∃ pos cls p r d m, s.chamber.ask = .load pos cls ∧ loadCandidate s cls = some p ∧ plateOf s p = some r ∧
    r.drawerSlot = some (d, m) ∧ t.chamber = (loadTaken pos p r d m s).chamber ∧
    t.admission = { s.admission with commitments := s.admission.commitments - 1 } ∧
    t.drying.drawers = s.drying.drawers.set d { s.drying.drawers[d] with slots := s.drying.drawers[d].slots.set m none } ∧
    moveKind t = some .load)

section
variable {s t u : State} {p q : PlateId} {r : Plate} {kind : MoveKind} {a b : Place} {sp : Bool} {o : Nat}

theorem PlateStands.refl : PlateStands p s s := ⟨rfl, fun _ _ => rfl⟩

theorem PlateStands.trans (h : PlateStands p s t) (h' : PlateStands p t u) : PlateStands p s u :=
  ⟨h'.1.trans h.1, fun o ho => (h'.2 o ho).trans (h.2 o ho)⟩

theorem plateStands_of_eq (hram : t.bus.ram = s.bus.ram) (hplates : t.tracker.plates = s.tracker.plates) : PlateStands p s t :=
  ⟨by simp only [plateOf, hplates], fun o _ => slotWord_congr hram p o⟩

theorem plateStands_of_others {l : List PlateId} (h : OthersStand l s t) (hp : p ∉ l) : PlateStands p s t := by
  obtain ⟨hplate, hword⟩ := h p hp
  exact ⟨hplate, fun o ho => hword ⟨o, ho⟩⟩

/-! ## The grant -/

theorem othersStand_setStage (st : Stage) (q : PlateId) (s : State) : OthersStand [q] s (setStage q st s) := by
  unfold setStage
  split
  · exact .refl
  · split
    · exact .refl
    · exact othersStand_putSlot (by simp) (by decide) (othersStand_putPlate (by simp) .refl)

theorem plateStands_board (hne : p ≠ q) : PlateStands p s (board kind q a b sp s) := by
  refine (plateStands_of_others (othersStand_setStage .inShuttle q s) (by simpa using hne)).trans (plateStands_of_eq board_ram ?_)
  rw [board_tracker]

theorem plateStands_loadTaken {pos : ChamberPos} {d : Fin 6} {m : Fin 4} (hne : p ≠ q) :
    PlateStands p s (loadTaken pos q r d m s) :=
  ⟨(plateOf_loadTaken p).trans (if_neg hne), fun _ ho => (slotWord_loadTaken p ho).trans (if_neg fun h => hne h.1)⟩

/-- The grant leaves a plate that waits neither for STORE nor for LOAD, and that it does not take by UNLOAD. -/
theorem grant_leaves_unasked (hrack : p ∉ rackPlates s) (hdry : p ∉ s.drying.dryList)
    (hask : ∀ pos b, s.chamber.ask = .unload p pos b → moveKind (grant s) ≠ some .unload) : PlateStands p s (grant s) := by
  by_cases hready : s.shuttle.state = .ready
  · rcases grant_cases hready with h' | ⟨-, h'⟩ | ⟨-, -, h'⟩ | ⟨-, -, -, h'⟩
    · obtain ⟨q, rest, dm, e, hhead, -⟩ := grantStore_some s _ h'
      rw [e]
      refine plateStands_board (s := { s with drying.rack := rest }) fun hpq => hrack ?_
      rw [hpq]
      simp [rackPlates, hhead]
    · obtain ⟨q, pos, sp, e, hasked, -⟩ := grantUnload_some s _ h'
      have hkind : moveKind (grant s) = some .unload := by
        rw [moveKind, e, board_move]
        rfl
      rw [e]
      refine plateStands_board (s := { s with chamber := { clearPos pos s.chamber with ask := .none } }) fun hpq => ?_
      exact hask pos sp (hpq ▸ hasked) hkind
    · obtain ⟨pos, cls, q, r, d, m, e, -, hcandidate, -⟩ := grantLoad_some s _ h'
      rw [e]
      have hne : p ≠ q := fun hpq => hdry (hpq ▸ loadCandidate_mem hcandidate)
      exact (plateStands_loadTaken hne).trans (plateStands_board hne)
    · rw [h']
      exact .refl
  · rw [grant_of_not_ready s hready]
    exact .refl

theorem grant_leaves (h : Untaken p s) : PlateStands p s (grant s) :=
  grant_leaves_unasked h.rack h.dry fun pos b hask => absurd hask (h.ask pos b)

/-- A READY shuttle without a move stays so or is sent (R144). -/
theorem grant_outcome (hready : s.shuttle.state = .ready) (hmove : s.shuttle.move = none) :
    (grant s).shuttle.state = .ready ∧ (grant s).shuttle.move = none ∨
      (grant s).shuttle.state = .moving ∧ (grant s).shuttle.timer = some (s.now + 90000) := by
  rcases grant_cases hready with h | ⟨-, h⟩ | ⟨-, -, h⟩ | ⟨-, -, -, h⟩
  · obtain ⟨p, rest, dm, e, -⟩ := grantStore_some s _ h
    rw [e, board_move]
    exact .inr ⟨rfl, rfl⟩
  · obtain ⟨p, pos, sp, e, -⟩ := grantUnload_some s _ h
    rw [e, board_move]
    exact .inr ⟨rfl, rfl⟩
  · obtain ⟨pos, cls, p, r, d, m, e, -⟩ := grantLoad_some s _ h
    rw [e, board_move]
    refine .inr ⟨rfl, ?_⟩
    cases pos <;> rfl
  · rw [h]
    exact .inl ⟨hready, hmove⟩

theorem granted_grant (hready : s.shuttle.state = .ready) (hmove : s.shuttle.move = none) : Granted s (grant s) := by
  rcases grant_cases hready with h | ⟨-, h⟩ | ⟨-, -, h⟩ | ⟨-, -, -, h⟩
  · obtain ⟨p, rest, dm, e, -⟩ := grantStore_some s _ h
    refine .inl ⟨by simp [e], by simp [e], by simp [e], ?_⟩
    rw [moveKind, e, board_move]
    exact ⟨by simp, by simp⟩
  · obtain ⟨p, pos, sp, e, hask, -⟩ := grantUnload_some s _ h
    refine .inr (.inl ⟨p, pos, sp, hask, by simp [e], by simp [e], by simp [e], ?_⟩)
    rw [moveKind, e, board_move]
    exact ⟨rfl, rfl⟩
  · obtain ⟨pos, cls, p, r, d, m, e, hask, hcandidate, hr, hslot⟩ := grantLoad_some s _ h
    have htaken : grant s = board .load p (.slot d m) (.chamber pos) false (loadTaken pos p r d m s) := e
    obtain ⟨-, -, -, hadmission, hdrying⟩ := loadTaken_frame (pos := pos) (p := p) (r := r) (d := d) (m := m) (s := s)
    refine .inr (.inr ⟨pos, cls, p, r, d, m, hask, hcandidate, hr, hslot, by simp [htaken], by simp [htaken, hadmission], ?_, ?_⟩)
    · simp [htaken, hdrying]
    · rw [moveKind, htaken, board_move]
      rfl
  · rw [h]
    exact .inl ⟨rfl, rfl, rfl, by simp [moveKind, hmove], by simp [moveKind, hmove]⟩

/-! ## The tests before the grant -/

theorem unloadNext_batch (s : State) : (unloadNext s).chamber.pos1 = s.chamber.pos1 ∧ (unloadNext s).chamber.pos2 = s.chamber.pos2 ∧
    ∀ p pos b, (unloadNext s).chamber.ask = .unload p pos b → s.chamber.ask = .unload p pos b ∨
      occupant s.chamber.pos1 = some p ∨ occupant s.chamber.pos2 = some p := by
  have hasked (pass : Mark → Bool) (p : PlateId) (pos : ChamberPos) (b : Bool) (h : unloadAsk pass s.chamber = .unload p pos b) :
      occupant s.chamber.pos1 = some p ∨ occupant s.chamber.pos2 = some p := by
    have hat := unloadAsk_occupant h
    cases pos
    · exact .inl hat
    · exact .inr hat
  unfold unloadNext enterReady
  dsimp only
  split
  · exact ⟨rfl, rfl, fun _ _ _ h => .inl h⟩
  · split
    · split
      · exact ⟨rfl, rfl, fun _ _ _ h => nomatch h⟩
      · exact ⟨rfl, rfl, fun p pos b h => .inr (hasked _ p pos b h)⟩
    · split
      · split
        · exact ⟨rfl, rfl, fun _ _ _ h => nomatch h⟩
        · exact ⟨rfl, rfl, fun _ _ _ h => nomatch h⟩
      · exact ⟨rfl, rfl, fun p pos b h => .inr (hasked _ p pos b h)⟩
    all_goals exact ⟨rfl, rfl, fun _ _ _ h => .inl h⟩

theorem Aside.of (h : Aside p s) (hrack : t.drying.rack = s.drying.rack) (hdry : t.drying.dryList = s.drying.dryList) (hpos1 : occupant t.chamber.pos1 = occupant s.chamber.pos1)
    (hpos2 : occupant t.chamber.pos2 = occupant s.chamber.pos2)
    (hask : ∀ pos b, t.chamber.ask = .unload p pos b → s.chamber.ask = .unload p pos b) : Aside p t := by
  obtain ⟨⟨hnotRack, hnotDry, hnot⟩, h1, h2⟩ := h
  refine ⟨⟨?_, by rwa [hdry], fun pos b e => hnot pos b (hask pos b e)⟩, by rwa [hpos1], by rwa [hpos2]⟩
  unfold rackPlates
  rw [hrack]
  exact hnotRack

theorem Aside.unloadNext (h : Aside p s) : Aside p (unloadNext s) := by
  obtain ⟨hpos1, hpos2, hask⟩ := unloadNext_batch s
  refine h.of (by simp) (by simp) (by rw [hpos1]) (by rw [hpos2]) fun pos b e => ?_
  exact (hask p pos b e).resolve_right fun hat => hat.elim h.pos1 h.pos2

theorem plateStands_finishOccupant {x : Option (PlateId × Mark)} {m n : Nat} {v : Verdict} (h : occupant x ≠ some p) :
    PlateStands p s (finishOccupant x m n v s) := by
  unfold finishOccupant
  split
  · exact .refl
  · next q _ => exact plateStands_of_others (othersStand_finishPlate q m n v s) (by
      rw [List.mem_singleton]
      rintro rfl
      exact h rfl)

theorem endBatch_leaves (v : Verdict) (h : Aside p s) : PlateStands p s (endBatch v s) ∧ Aside p (endBatch v s) := by
  rw [endBatch_eq]
  refine ⟨?_, Aside.unloadNext (h.of (by simp) (by simp) (occupant_markOccupant _ _) (occupant_markOccupant _ _)
    fun _ _ e => e)⟩
  generalize reportedDose s.chamber.accA = m
  generalize reportedDose s.chamber.accC = n
  have hboth : PlateStands p s (finishOccupant s.chamber.pos2 m n v (finishOccupant s.chamber.pos1 m n v s)) :=
    (plateStands_finishOccupant h.pos1).trans (plateStands_finishOccupant h.pos2)
  generalize finishOccupant s.chamber.pos2 m n v (finishOccupant s.chamber.pos1 m n v s) = u at hboth
  exact hboth.trans (plateStands_of_eq (by simp) (by simp))

theorem enterExposing_leaves (h : Aside p s) : PlateStands p s (enterExposing s) ∧ Aside p (enterExposing s) := by
  unfold enterExposing
  dsimp only
  split
  · exact endBatch_leaves (s := { s with chamber := { s.chamber with
      state := .exposing, openA := !s.chamber.onA, openC := !s.chamber.onC
      openDeadline := some (s.now + s.chamber.openStanding.getD 0), openStanding := none } }) .inTol (h.of rfl rfl rfl rfl fun _ _ e => e)
  · exact ⟨plateStands_of_eq rfl rfl, h.of rfl rfl rfl rfl fun _ _ e => e⟩

theorem startExposure_leaves (h : Aside p s) : PlateStands p s (startExposure s) ∧ Aside p (startExposure s) := by
  have hstart : Aside p { s with chamber := exposureStart s.chamber } := h.of rfl rfl rfl rfl fun _ _ e => nomatch e
  unfold startExposure
  dsimp only
  split
  · exact ⟨plateStands_of_eq rfl rfl, hstart.of rfl rfl rfl rfl fun _ _ e => e⟩
  · exact enterExposing_leaves hstart

theorem beforeGrant_leaves (h : Aside p s) : PlateStands p s (beforeGrant s) ∧ Aside p (beforeGrant s) := by
  have hwithdrawn : PlateStands p s (withdrawSecondAsk s) ∧ Aside p (withdrawSecondAsk s) := by
    unfold withdrawSecondAsk
    split
    · split
      · exact startExposure_leaves h
      · exact ⟨.refl, h⟩
    · exact ⟨.refl, h⟩
  obtain ⟨hstands, haside⟩ := hwithdrawn
  unfold beforeGrant
  refine ⟨hstands.trans (plateStands_of_eq (by simp) (by simp)), haside.of (by simp) (by simp) ?_ ?_ ?_⟩
  · rw [lightTubes_chamber]
    split <;> rfl
  · rw [lightTubes_chamber]
    split <;> rfl
  · rw [lightTubes_ask]
    exact fun _ _ e => e

/-- The tests leave a plate that is aside. -/
theorem handlingTests_leaves (h : Aside p s) : PlateStands p s (handlingTests s) := by
  obtain ⟨hstands, haside⟩ := beforeGrant_leaves h
  exact hstands.trans (grant_leaves haside.untaken)

/-! ## The figures of any plate -/

/-- The grant leaves every plate its finish figures, in its record and its slot. -/
theorem grant_figures (p : PlateId) (s : State) : (∀ o : Nat, o < 64 → o ∉ [35, 50] → slotWord (grant s) p o = slotWord s p o) ∧
    (plateOf (grant s) p).map (fun q => (q.uvaDose, q.uvcDose, q.finishVerdict)) =
      (plateOf s p).map fun q => (q.uvaDose, q.uvcDose, q.finishVerdict) := by
  have hboard (kind : MoveKind) (q : PlateId) (a b : Place) (sp : Bool) (u : State) :
      (∀ o : Nat, o < 64 → o ∉ [35, 50] → slotWord (board kind q a b sp u) p o = slotWord u p o) ∧
      (plateOf (board kind q a b sp u) p).map (fun q => (q.uvaDose, q.uvcDose, q.finishVerdict)) =
        (plateOf u p).map fun q => (q.uvaDose, q.uvcDose, q.finishVerdict) := by
    refine ⟨fun o ho hne => slotWord_board ho fun h => ?_, ?_⟩
    · simp [h] at hne
    · have hplate : plateOf (board kind q a b sp u) p = plateOf (setStage q .inShuttle u) p := by
        unfold plateOf
        rw [board_tracker]
      rw [hplate, plateOf_setStage]
      split
      · next h =>
        subst h
        cases plateOf u p with
        | none => rfl
        | some r =>
          simp only [Option.map_some]
          split <;> rfl
      · rfl
  by_cases hready : s.shuttle.state = .ready
  · rcases grant_cases hready with h' | ⟨-, h'⟩ | ⟨-, -, h'⟩ | ⟨-, -, -, h'⟩
    · obtain ⟨q, rest, dm, e, -⟩ := grantStore_some s _ h'
      rw [e]
      exact hboard .store q .rack (.slot dm.1 dm.2) false { s with drying.rack := rest }
    · obtain ⟨q, pos, sp, e, -⟩ := grantUnload_some s _ h'
      rw [e]
      exact hboard .unload q (.chamber pos) .output sp { s with chamber := { clearPos pos s.chamber with ask := .none } }
    · obtain ⟨pos, cls, q, r, d, m, e, -, -, hr, -⟩ := grantLoad_some s _ h'
      have htaken : grant s = board .load q (.slot d m) (.chamber pos) false (loadTaken pos q r d m s) := e
      obtain ⟨hword, hrecord⟩ := hboard .load q (.slot d m) (.chamber pos) false (loadTaken pos q r d m s)
      rw [htaken]
      refine ⟨fun o ho hne => (hword o ho hne).trans ((slotWord_loadTaken p ho).trans (if_neg ?_)), hrecord.trans ?_⟩
      · rintro ⟨-, rfl⟩
        simp at hne
      · rw [plateOf_loadTaken]
        split
        · next h =>
          rw [h, hr]
          rfl
        · rfl
    · rw [h']
      exact ⟨fun _ _ _ => rfl, rfl⟩
  · rw [grant_of_not_ready s hready]
    exact ⟨fun _ _ _ => rfl, rfl⟩

end

end Sys2Proof.Machine

/-! PROOFS. A report of the shuttle node and the end of its move (R146 to R148, R150). -/

namespace Sys2Proof.Machine

/-- The shuttle with a report of its node taken (R146). -/
def shuttleReport (stat : Byte) (d : Vector Byte 6) (w : Shuttle) : Shuttle := { w with
  ready := stat.getLsbD 7, fault := stat.getLsbD 6, result := orderResultOfCode (stat.toNat / 4 % 8), position := d[0].toNat
  stackFull := decide (d[1] = 1), echo := d[5].toNat }

/-- The state with a report of the shuttle node taken. -/
def shuttleSeen (stat : Byte) (d : Vector Byte 6) (s : State) : State := { s with shuttle := shuttleReport stat d s.shuttle }

/-- What is done with a report of the shuttle node, in the words of its response (R146). -/
def shuttleTaken (cmd : NodeCmd) (stat : Byte) (d : Vector Byte 6) (s : State) : State :=
  takeShuttleReport (decide (cmd = .reset)) (stat.getLsbD 7) (stat.getLsbD 6) (orderResultOfCode (stat.toNat / 4 % 8)) d s

/-- The figures of a report that the arbiter keeps. -/
def shuttleFigures (w : Shuttle) : Bool × Bool × OrderResult × Nat × Bool × Nat :=
  (w.ready, w.fault, w.result, w.position, w.stackFull, w.echo)

/-- What the units do at the completion of a move, but for the shuttle's own state (R147). -/
def moveDone (m : Move) (s : State) : State :=
  match m.kind with
  | .store => storeCompleted m.plate m.dest (moveEnded s)
  | .load => loadCompleted (placePos m.dest) m.plate (moveEnded s)
  | .unload => unloadNext (endPlate m.plate m.spoiled (moveEnded s))

/-- The state after the completion of a move, the shuttle READY or STOPPED. -/
def moveDoneAs (x : ShuttleState) (m : Move) (s : State) : State := { moveDone m s with shuttle.state := x }

section
variable {s t u : State} {p : PlateId} {r : Plate} {m : Move} {cmd : NodeCmd} {stat : Byte} {d : Vector Byte 6}

/-! ## The report -/

theorem recordShuttle_eq (hfull : d[1] = 0 ∨ d[1] = 1) : recordShuttle (stat.getLsbD 7) (stat.getLsbD 6)
    (orderResultOfCode (stat.toNat / 4 % 8)) d s = shuttleSeen stat d s := by
  have hflag := flagByte_indicates (k := s.freeCount) (place := 0) hfull
  unfold recordShuttle
  rw [hflag]
  rfl

theorem testUnload_unready {b : Bool} (h : s.shuttle.state ≠ .ready) : testUnload b s = s := by
  unfold testUnload
  rw [grant_of_not_ready s h, ite_self]

theorem shuttleTaken_unready (hfull : d[1] = 0 ∨ d[1] = 1) (h : s.shuttle.state ≠ .ready) : shuttleTaken cmd stat d s =
    handlingTests (endShuttleReset (decide (cmd = .reset)) (stat.getLsbD 7) (stat.getLsbD 6)
      (evalShuttle (testMove d[5].toNat (orderResultOfCode (stat.toNat / 4 % 8)) (shuttleSeen stat d s)))) := by
  have hunload : testUnload s.shuttle.stackFull (shuttleSeen stat d s) = shuttleSeen stat d s := testUnload_unready h
  unfold shuttleTaken takeShuttleReport
  dsimp only
  rw [recordShuttle_eq hfull, hunload]

theorem testMove_none {n : Nat} {x : OrderResult} (h : s.shuttle.move = none) : testMove n x s = s := by
  unfold testMove
  rw [h]

theorem testMove_left {n : Nat} {x : OrderResult} (hmove : s.shuttle.move = some m) (h : n ≠ m.order ∨ x = .none) :
    testMove n x s = s := by
  unfold testMove
  rw [hmove]
  dsimp only
  split
  · next e =>
    rw [h.resolve_left fun hne => hne e]
  · rfl

theorem testMove_done {n : Nat} (hmove : s.shuttle.move = some m) (h : n = m.order) : testMove n .done s = completeMove m s := by
  unfold testMove
  rw [hmove]
  exact if_pos h

theorem testMove_failed {n : Nat} (hmove : s.shuttle.move = some m) (h : n = m.order) : testMove n .failed s = failMove m s := by
  unfold testMove
  rw [hmove]
  exact if_pos h

theorem endShuttleReset_idle {a b c : Bool} (h : s.shuttle.state ≠ .faulted ∨ (a && b && !c) = false) :
    endShuttleReset a b c s = s :=
  if_neg fun e => h.elim (fun h => h e.1) fun h => absurd (h.symm.trans e.2.2) (by decide)

theorem evalShuttle_moving (h : s.shuttle.state = .moving) : evalShuttle s = s := by
  simp only [evalShuttle, h]

/-! ## The completion of a move -/

theorem moveDone_frame (m : Move) (s : State) : (moveDone m s).shuttle = { s.shuttle with move := none, timer := none } ∧
    (moveDone m s).link = s.link ∧ (moveDone m s).supervisor = s.supervisor ∧ (moveDone m s).now = s.now ∧
    (moveDone m s).admission = s.admission ∧ (moveDone m s).drying.rack = s.drying.rack ∧
    (moveDone m s).drying.dryList = s.drying.dryList := by
  unfold moveDone
  split <;> simp [moveEnded]

theorem completeMove_eq (m : Move) (s : State) : completeMove m s =
    moveDoneAs (if shuttleAble s then .ready else .stopped) m s := by
  have hdone : completeMove m s = moveDoneAs (if shuttleAble (moveDone m s) then .ready else .stopped) m s := rfl
  obtain ⟨hshuttle, hlink, hsupervisor, -⟩ := moveDone_frame m s
  have hpresent : isPresent (moveDone m s) .shuttle = isPresent s .shuttle :=
    isPresent_of_view (funext fun n => congrFun (nodesView_of_link hlink) n) .shuttle
  have hable : shuttleAble (moveDone m s) = shuttleAble s := by
    unfold shuttleAble isSafe
    rw [hpresent, hshuttle, hsupervisor]
  rw [hdone, hable]

theorem evalShuttle_done {x : ShuttleState} (h : x = if shuttleAble s then .ready else .stopped) :
    evalShuttle (moveDoneAs x m s) = moveDoneAs x m s := by
  have hstate : (moveDoneAs x m s).shuttle.state = x := rfl
  obtain ⟨hshuttle, hlink, hsupervisor, -⟩ := moveDone_frame m s
  have hpresent : isPresent (moveDoneAs x m s) .shuttle = isPresent s .shuttle :=
    isPresent_of_view (funext fun n => congrFun (nodesView_of_link hlink) n) .shuttle
  have hable : shuttleAble (moveDoneAs x m s) = shuttleAble s := by
    unfold shuttleAble isSafe
    rw [hpresent]
    unfold moveDoneAs
    dsimp only
    rw [hshuttle, hsupervisor]
  cases hcase : shuttleAble s with
  | true =>
    rw [hcase] at h
    have hready : (moveDoneAs x m s).shuttle.state = .ready := h
    simp only [evalShuttle, hready, hable, hcase, if_true]
  | false =>
    rw [hcase] at h
    have hstopped : (moveDoneAs x m s).shuttle.state = .stopped := h
    simp only [evalShuttle, hstopped, hable, hcase]
    rfl

/-- A report that completes the current move (R146, R147). -/
theorem shuttleTaken_done (hfull : d[1] = 0 ∨ d[1] = 1) (hstate : s.shuttle.state = .moving) (hmove : s.shuttle.move = some m)
    (hecho : d[5].toNat = m.order) (hresult : orderResultOfCode (stat.toNat / 4 % 8) = .done) :
    shuttleTaken cmd stat d s = handlingTests (moveDoneAs (if shuttleAble (shuttleSeen stat d s) then .ready else .stopped) m
      (shuttleSeen stat d s)) := by
  rw [shuttleTaken_unready hfull (by rw [hstate]; nofun), hresult, testMove_done (s := shuttleSeen stat d s) hmove hecho,
    completeMove_eq, evalShuttle_done rfl, endShuttleReset_idle (.inl ?_)]
  have hstate : (moveDoneAs (if shuttleAble (shuttleSeen stat d s) then .ready else .stopped) m (shuttleSeen stat d s)).shuttle.state =
      if shuttleAble (shuttleSeen stat d s) then .ready else .stopped := rfl
  rw [hstate]
  split <;> nofun

/-- A report that fails the current move (R146, R148). -/
theorem shuttleTaken_failed (hfull : d[1] = 0 ∨ d[1] = 1) (hstate : s.shuttle.state = .moving) (hmove : s.shuttle.move = some m)
    (hcmd : cmd ≠ .reset) (hecho : d[5].toNat = m.order) (hresult : orderResultOfCode (stat.toNat / 4 % 8) = .failed) :
    shuttleTaken cmd stat d s = handlingTests (failMove m (shuttleSeen stat d s)) := by
  have hfaulted : (failMove m (shuttleSeen stat d s)).shuttle.state = .faulted := by simp [failMove]
  rw [shuttleTaken_unready hfull (by rw [hstate]; nofun), hresult, testMove_failed (s := shuttleSeen stat d s) hmove hecho,
    evalShuttle_faulted hfaulted, endShuttleReset_idle (.inr (by simp [hcmd]))]

/-- A report that leaves the current move. -/
theorem shuttleTaken_left (hfull : d[1] = 0 ∨ d[1] = 1) (hstate : s.shuttle.state = .moving) (hmove : s.shuttle.move = some m)
    (h : d[5].toNat ≠ m.order ∨ orderResultOfCode (stat.toNat / 4 % 8) = .none) :
    shuttleTaken cmd stat d s = handlingTests (shuttleSeen stat d s) := by
  rw [shuttleTaken_unready hfull (by rw [hstate]; nofun), testMove_left (s := shuttleSeen stat d s) hmove h,
    evalShuttle_moving (s := shuttleSeen stat d s) hstate, endShuttleReset_idle (s := shuttleSeen stat d s) (.inl ?_)]
  exact fun e => nomatch hstate.symm.trans e

/-! ## The report stands -/

theorem figures_grant (s : State) : shuttleFigures (grant s).shuttle = shuttleFigures s.shuttle :=
  grant_keeps (fun s => shuttleFigures s.shuttle) s (fun _ _ _ => by rw [board_move]; rfl) (fun _ _ _ => by rw [board_move]; rfl)
    fun pos _ _ _ _ => by
      rw [board_move]
      cases pos <;> rfl

theorem figures_handlingTests (s : State) : shuttleFigures (handlingTests s).shuttle = shuttleFigures s.shuttle :=
  (figures_grant _).trans (by simp)

theorem figures_evalShuttle (s : State) : shuttleFigures (evalShuttle s).shuttle = shuttleFigures s.shuttle := by
  unfold evalShuttle
  split
  · split <;> rfl
  · split <;> rfl
  · rfl
  · rfl

theorem figures_testMove (n : Nat) (x : OrderResult) (s : State) :
    shuttleFigures (testMove n x s).shuttle = shuttleFigures s.shuttle := by
  unfold testMove
  split
  · rfl
  · next m _ =>
    split
    · split
      · rw [completeMove_eq]
        have hkept : shuttleFigures (moveDone m s).shuttle = shuttleFigures s.shuttle := by
          rw [(moveDone_frame m s).1]
          rfl
        exact hkept
      · have hfailed : shuttleFigures (failMove m s).shuttle = shuttleFigures (endPlate m.plate true (moveEnded s)).shuttle := by
          have hafter := (afterFailure_frame m (endPlate m.plate true (moveEnded s))).2.2.2.2.1
          have hfail : (failMove m s).shuttle =
              { (afterFailure m (endPlate m.plate true (moveEnded s))).shuttle with state := .faulted } := by
            have hlatch : failMove m s = latch .handling
              { afterFailure m (endPlate m.plate true (moveEnded s)) with shuttle.state := .faulted } := rfl
            rw [hlatch]
            simp
          rw [hfail, hafter]
          rfl
        rw [hfailed]
        have hsame : (endPlate m.plate true (moveEnded s)).shuttle = (moveEnded s).shuttle := by simp
        rw [hsame]
        rfl
      · rfl
    · rfl

theorem figures_shuttleTaken (hfull : d[1] = 0 ∨ d[1] = 1) :
    shuttleFigures (shuttleTaken cmd stat d s).shuttle = shuttleFigures (shuttleReport stat d s.shuttle) := by
  have hreset (a b c : Bool) (u : State) : shuttleFigures (endShuttleReset a b c u).shuttle = shuttleFigures u.shuttle := by
    unfold endShuttleReset
    split <;> rfl
  have hunload (b : Bool) (u : State) : shuttleFigures (testUnload b u).shuttle = shuttleFigures u.shuttle := by
    unfold testUnload
    split
    · rfl
    · exact figures_grant u
  unfold shuttleTaken takeShuttleReport
  dsimp only
  rw [figures_handlingTests, hreset, figures_evalShuttle, figures_testMove, hunload, recordShuttle_eq hfull]
  rfl

end

end Sys2Proof.Machine

/-! PROOFS. The end of a STORE, an UNLOAD and a LOAD (R147, R160, R162, R166, R167). -/

namespace Sys2Proof.Machine

/-- The chamber with a batch whose exposure starts or stands suspended (R162). -/
def batchStarted (now : Nat) (stops : Prop) [Decidable stops] (c : Chamber) : Chamber :=
  if stops then { exposureStart c with state := .suspended }
  else { exposureStart c with
    state := .exposing, openA := !(exposureStart c).onA, openC := !(exposureStart c).onC
    openDeadline := some (now + 1800000), openStanding := none }

/-- The state in which a plate has entered a position of the batch. -/
def loadEntered (pos : ChamberPos) (p : PlateId) (k : Mark) (s : State) : State :=
  { setStage p .inChamber s with chamber := enterPos pos p k s.chamber }

section
variable {s t u : State} {p : PlateId} {r : Plate} {m : Move} {k : Fin 6} {j : Fin 4} {pos : ChamberPos}

/-! ## STORE -/

/-- A stored plate stands in its drawer slot (R147). -/
theorem storeCompleted_effect (hr : plateOf s p = some r) (hstage : r.stage ≠ .ended) :
    (let t := storeCompleted p (.slot k j) s
     plateOf t p = some { r with drawerSlot := some (k, j), stage := .drying } ∧ slotWord t p 35 = 6 ∧
     slotWord t p 49 = w16 ((k.val + 1) * 256 + (j.val + 1)) ∧
     t.drying = { s.drying with drawers := s.drying.drawers.set k { s.drying.drawers[k] with
       slots := s.drying.drawers[k].slots.set j (some p) } } ∧
     ramKeptOutside [slotBase p + 35, slotBase p + 49] s t ∧ OthersStand [p] s t) := by
  obtain ⟨u, hu⟩ : ∃ u, putSlot p oDrawer (wordOfBytes (k.val + 1) (j.val + 1))
    (modPlate p (fun r => { r with drawerSlot := some (k, j) }) (putDrawerSlot k j (some p) s)) = u := ⟨_, rfl⟩
  have hplate : plateOf u p = some { r with drawerSlot := some (k, j) } := by
    have hmod := plateOf_modPlate p p (fun r => { r with drawerSlot := some (k, j) }) (putDrawerSlot k j (some p) s)
    have hsame : plateOf (putDrawerSlot k j (some p) s) p = some r := hr
    rw [if_pos rfl, hsame, Option.map_some] at hmod
    rw [← hu]
    exact hmod
  have hdrying : u.drying = { s.drying with drawers := s.drying.drawers.set k { s.drying.drawers[k] with
      slots := s.drying.drawers[k].slots.set j (some p) } } := by
    rw [← hu]
    simp [putDrawerSlot]
  have hword (o : Nat) (ho : o < 64) : slotWord u p o = if o = 49 then w16 ((k.val + 1) * 256 + (j.val + 1)) else slotWord s p o := by
    have hput := slotWord_putSlot p p 49 o (wordOfBytes (k.val + 1) (j.val + 1))
      (modPlate p (fun r => { r with drawerSlot := some (k, j) }) (putDrawerSlot k j (some p) s)) (by decide) ho
    have hram : slotWord (modPlate p (fun r => { r with drawerSlot := some (k, j) }) (putDrawerSlot k j (some p) s)) p o =
        slotWord s p o := slotWord_congr (by simp [putDrawerSlot]) p o
    rw [hram] at hput
    simp only [true_and] at hput
    rw [← hu]
    exact hput
  have hothers : OthersStand [p] s u := by
    rw [← hu]
    exact othersStand_putSlot (by simp) (by decide) (othersStand_modPlate (by simp) (othersStand_of_eq .refl rfl rfl))
  have hram : ramKeptOutside [slotBase p + 35, slotBase p + 49] s u := by
    rw [← hu]
    exact ramKept_write (by simp [oDrawer]) (ramKept_of_ram (by simp [putDrawerSlot]) ramKept_refl)
  have hset : storeCompleted p (.slot k j) s = setStage p .drying u := by rw [← hu]; rfl
  dsimp only
  rw [hset, setStage_live hplate hstage]
  refine ⟨?_, ?_, ?_, hdrying, ?_, ?_⟩
  · exact (plateOf_putPlate p p _ u).trans (if_pos rfl)
  · exact (slotWord_putSlot p p 35 35 _ _ (by decide) (by decide)).trans (if_pos ⟨rfl, rfl⟩)
  · exact (slotWord_putSlot p p 35 49 _ _ (by decide) (by decide)).trans ((if_neg (by simp)).trans
      ((hword 49 (by decide)).trans (if_pos rfl)))
  · exact ramKept_write (by simp) (ramKept_of_ram rfl hram)
  · exact othersStand_putSlot (by simp) (by decide) (othersStand_putPlate (by simp) hothers)

/-! ## UNLOAD -/

/-- The chamber at the end of an UNLOAD: it asks for its lowest finished plate, or is READY with none (R166). -/
theorem unloadNext_lowest (hstate : s.chamber.state = .unloading) (hmove : s.shuttle.move = none) :
    (∀ p, (pos = .one ∧ s.chamber.pos1 = some (p, .finished) ∨
        pos = .two ∧ s.chamber.pos1 = none ∧ s.chamber.pos2 = some (p, .finished)) →
      unloadNext s = { s with chamber.ask := .unload p pos false }) ∧
    (s.chamber.pos1 = none → s.chamber.pos2 = none → unloadNext s = { s with chamber := { s.chamber with
      state := .ready, idle := some (s.now + 900000), ask := .load .one none, batchClass := none } }) := by
  have hidle : chamberMove s = false := by
    unfold chamberMove
    rw [hmove]
  refine ⟨fun p hlowest => ?_, fun h1 h2 => ?_⟩
  · rcases hlowest with ⟨rfl, h1⟩ | ⟨rfl, h1, h2⟩
    · rw [unloadNext_unloading_ask hstate hidle (by simp [batchEmpty, h1])]
      simp [unloadAsk, markedAt, h1, Option.filter]
    · rw [unloadNext_unloading_ask hstate hidle (by simp [batchEmpty, h1, h2])]
      simp [unloadAsk, markedAt, h1, h2, Option.filter]
  · rw [unloadNext_unloading_ready hstate hidle (by simp [batchEmpty, h1, h2])]
    rfl

/-! ## LOAD -/

theorem startExposure_started (h : (groupTargets s.chamber).1 ≠ 0 ∨ (groupTargets s.chamber).2 ≠ 0) : startExposure s =
    { s with chamber := batchStarted s.now (s.supervisor.line = .safe ∨ s.chamber.doorClosed = false) s.chamber } := by
  unfold batchStarted
  split
  · next hstops => exact startExposure_suspended hstops
  · next hgoes =>
    rw [not_or, Bool.not_eq_false] at hgoes
    have hopens : ((exposureStart s.chamber).onA && (exposureStart s.chamber).onC) = false := by
      have hon : ((groupTargets s.chamber).1 == 0 && (groupTargets s.chamber).2 == 0) = false := by
        rw [Bool.and_eq_false_iff, beq_eq_false_iff_ne, beq_eq_false_iff_ne]
        exact h
      exact hon
    rw [startExposure_goes hgoes.1 hgoes.2, enterExposing_opens hopens]
    rfl

theorem loadEntered_frame (pos : ChamberPos) (p : PlateId) (k : Mark) (s : State) : (loadEntered pos p k s).now = s.now ∧
    (loadEntered pos p k s).supervisor = s.supervisor ∧ (loadEntered pos p k s).shuttle = s.shuttle ∧
    (loadEntered pos p k s).drying = s.drying ∧ (loadEntered pos p k s).admission = s.admission := by
  unfold loadEntered
  simp

theorem loadEntered_plate {k : Mark} (hr : plateOf s p = some r) (hstage : r.stage ≠ .ended) :
    plateOf (loadEntered pos p k s) p = some { r with stage := .inChamber } ∧ slotWord (loadEntered pos p k s) p 35 = 8 := by
  have hplate := plateOf_setStage p p .inChamber s
  rw [if_pos rfl, hr, Option.map_some, if_neg hstage] at hplate
  exact ⟨hplate, (slotWord_setStage hr hstage (by decide)).trans (if_pos ⟨rfl, rfl⟩)⟩

/-- The stage of a plate does not matter to its eligibility (R143). -/
theorem loadCandidate_setStage (st : Stage) (p : PlateId) (cls : Option (Nat × Nat)) (s : State) :
    loadCandidate (setStage p st s) cls = loadCandidate s cls := by
  have heligible : eligible (setStage p st s) cls = eligible s cls := by
    funext q
    have hdrying : (setStage p st s).drying = s.drying := by simp
    unfold eligible
    rw [hdrying, plateOf_setStage]
    by_cases hq : q = p
    · subst hq
      rw [if_pos rfl]
      cases plateOf s q with
      | none => rfl
      | some r =>
        rw [Option.map_some]
        by_cases hended : r.stage = .ended
        · rw [if_pos hended]
        · rw [if_neg hended]
    · rw [if_neg hq]
  have hdrying : (setStage p st s).drying = s.drying := by simp
  unfold loadCandidate
  rw [heligible, hdrying]

theorem loadCompleted_faulted (hstate : s.chamber.state = .faulted) :
    loadCompleted pos p s = unloadNext (finishPlate p 0 0 .incomplete (loadEntered pos p .spoiled s)) := by
  have hchamber : (setStage p .inChamber s).chamber = s.chamber := by simp
  unfold loadCompleted loadEntered
  dsimp only
  rw [hchamber, if_pos hstate]

theorem loadCompleted_asks (hstate : s.chamber.state ≠ .faulted) (hcandidate : loadCandidate s s.chamber.batchClass ≠ none) :
    loadCompleted .one p s = { loadEntered .one p .undecided s with
      chamber.ask := .load .two s.chamber.batchClass, chamber.second := some (s.now + 60000) } := by
  have hchamber : (setStage p .inChamber s).chamber = s.chamber := by simp
  have hnow : (setStage p .inChamber s).now = s.now := by simp
  unfold loadCompleted loadEntered
  dsimp only
  rw [hchamber, if_neg hstate, hnow]
  have hsame : loadCandidate { setStage p .inChamber s with chamber := enterPos .one p .undecided s.chamber } s.chamber.batchClass =
      loadCandidate s s.chamber.batchClass := loadCandidate_setStage .inChamber p _ s
  exact if_pos (by
    rw [Option.isSome_iff_ne_none]
    exact hsame ▸ hcandidate)

theorem loadCompleted_starts (hstate : s.chamber.state ≠ .faulted)
    (h : pos = .two ∨ loadCandidate s s.chamber.batchClass = none) :
    loadCompleted pos p s = startExposure (loadEntered pos p .undecided s) := by
  have hchamber : (setStage p .inChamber s).chamber = s.chamber := by simp
  have hsame : loadCandidate { setStage p .inChamber s with chamber := enterPos .one p .undecided s.chamber } s.chamber.batchClass =
      loadCandidate s s.chamber.batchClass := loadCandidate_setStage .inChamber p _ s
  unfold loadCompleted loadEntered
  dsimp only
  rw [hchamber, if_neg hstate]
  cases pos with
  | one =>
    have hnone := h.resolve_left nofun
    exact if_neg (by
      rw [Option.isSome_iff_ne_none, not_not]
      exact hsame.trans hnone)
  | two => rfl

theorem batchEmpty_enterPos {k : Mark} {c : Chamber} : batchEmpty (enterPos pos p k c) = false := by
  cases pos <;> simp [batchEmpty, enterPos]

/-- A LOAD that ends in a FAULTED chamber (R167). -/
theorem loadCompleted_faulted_effect (hr : plateOf s p = some r) (hstage : r.stage ≠ .ended) (hstate : s.chamber.state = .faulted)
    (hmove : s.shuttle.move = none) :
    (loadCompleted pos p s).chamber = { enterPos pos p .spoiled s.chamber with
      ask := unloadAsk (fun m => m == .finished || s.chamber.resetAccepted) (enterPos pos p .spoiled s.chamber) } ∧
    Finished p { r with stage := .inChamber } 0 0 .incomplete 6 (loadCompleted pos p s) := by
  obtain ⟨u, hu⟩ : ∃ u, finishPlate p 0 0 .incomplete (loadEntered pos p .spoiled s) = u := ⟨_, rfl⟩
  have hfinished : Finished p { r with stage := .inChamber } 0 0 .incomplete 6 u := by
    rw [← hu]
    exact finished_finishPlate (loadEntered_plate hr hstage).1
  have hchamber : u.chamber = enterPos pos p .spoiled s.chamber := by
    rw [← hu]
    simp [loadEntered]
  have hfaulted : u.chamber.state = .faulted := by
    rw [hchamber]
    cases pos <;> exact hstate
  have hreset : u.chamber.resetAccepted = s.chamber.resetAccepted := by
    rw [hchamber]
    cases pos <;> rfl
  have hidle : chamberMove u = false := by
    have hsame : u.shuttle.move = none := by
      rw [← hu]
      simp [loadEntered, hmove]
    unfold chamberMove
    rw [hsame]
  rw [loadCompleted_faulted hstate, hu, unloadNext_faulted_ask hfaulted hidle (by rw [hchamber]; exact batchEmpty_enterPos)]
  refine ⟨?_, finished_of_eq hfinished rfl rfl⟩
  dsimp only
  rw [hreset, hchamber]
  cases pos <;> rfl

/-- A LOAD that ends with no group to expose: the batch ends at once (R162, R164). -/
theorem loadCompleted_onTarget (hr : plateOf s p = some r) (hstage : r.stage ≠ .ended) (hstate : s.chamber.state ≠ .faulted)
    (h : pos = .two ∨ loadCandidate s s.chamber.batchClass = none) (hmove : s.shuttle.move = none)
    (htargets : groupTargets s.chamber = (0, 0)) (hline : s.supervisor.line ≠ .safe) (hdoor : s.chamber.doorClosed = true)
    (hpos1 : occupant s.chamber.pos1 ≠ some p) (hpos2 : occupant s.chamber.pos2 ≠ some p) :
    (loadCompleted pos p s).chamber.state = .unloading ∧
    (∀ pos' cls, (loadCompleted pos p s).chamber.ask ≠ .load pos' cls) ∧
    Finished p { r with stage := .inChamber } 0 0 .inTol 1 (loadCompleted pos p s) := by
  obtain ⟨y, hy⟩ : ∃ y, loadEntered pos p .undecided s = y := ⟨_, rfl⟩
  obtain ⟨-, hsupervisor, hshuttle, -, -⟩ := loadEntered_frame pos p .undecided s
  obtain ⟨hplate, -⟩ := loadEntered_plate (pos := pos) (k := .undecided) hr hstage
  have hchamber : y.chamber = enterPos pos p .undecided s.chamber := by rw [← hy]; rfl
  rw [hy] at hsupervisor hshuttle hplate
  have hentered : (enterPos pos p .undecided s.chamber).doorClosed = true ∧
      groupTargets (enterPos pos p .undecided s.chamber) = (0, 0) := by
    cases pos <;> exact ⟨hdoor, htargets⟩
  rw [loadCompleted_starts hstate h, hy, startExposure_goes (by rwa [hsupervisor]) (by rw [hchamber]; exact hentered.1)]
  obtain ⟨c, hc⟩ : ∃ c : Chamber, { exposureStart y.chamber with
    state := .exposing, openA := !(exposureStart y.chamber).onA, openC := !(exposureStart y.chamber).onC
    openDeadline := some (y.now + (exposureStart y.chamber).openStanding.getD 0), openStanding := none } = c := ⟨_, rfl⟩
  have hexposed : enterExposing { y with chamber := exposureStart y.chamber } = endBatch .inTol { y with chamber := c } := by
    have hboth : ((exposureStart y.chamber).onA && (exposureStart y.chamber).onC) = true := by
      unfold exposureStart
      rw [hchamber, hentered.2]
      rfl
    rw [← hc]
    exact if_pos hboth
  have haccs : reportedDose c.accA = 0 ∧ reportedDose c.accC = 0 := by
    have hnone : reportedDose 0 = 0 := by decide
    rw [← hc]
    exact ⟨hnone, hnone⟩
  have hbatch : c.pos1 = (enterPos pos p .undecided s.chamber).pos1 ∧ c.pos2 = (enterPos pos p .undecided s.chamber).pos2 := by
    rw [← hc, hchamber]
    exact ⟨rfl, rfl⟩
  rw [hexposed, endBatch_eq]
  dsimp only
  rw [haccs.1, haccs.2, hbatch.1, hbatch.2]
  obtain ⟨w, hw⟩ : ∃ w, finishOccupant (enterPos pos p .undecided s.chamber).pos2 0 0 .inTol
    (finishOccupant (enterPos pos p .undecided s.chamber).pos1 0 0 .inTol { y with chamber := c }) = w := ⟨_, rfl⟩
  have hfinished : Finished p { r with stage := .inChamber } 0 0 .inTol 1 w := by
    rw [← hw]
    cases pos with
    | one => exact (finished_finishPlate (s := { y with chamber := c }) hplate).finishOccupant hpos2
    | two =>
      have hkept : PlateStands p { y with chamber := c } (finishOccupant s.chamber.pos1 0 0 .inTol { y with chamber := c }) :=
        plateStands_finishOccupant hpos1
      exact finished_finishPlate (s := finishOccupant s.chamber.pos1 0 0 .inTol { y with chamber := c }) (hkept.1.trans hplate)
  have hidle : w.shuttle.move = none := by
    rw [← hw]
    simp [hshuttle, hmove]
  rw [hw, unloadNext_unloading_ask rfl (by unfold chamberMove; dsimp only; rw [hidle])
    (by cases pos <;> simp [batchEmpty, enterPos, markOccupant])]
  exact ⟨rfl, unloadAsk_no_load _ _, finished_of_eq hfinished rfl rfl⟩

/-! ## A plate that no request takes -/

theorem aside_of_nowhere (h : Nowhere s p) : Aside p s := by
  obtain ⟨-, hwork, -, hdry, hask⟩ := h
  unfold workCount at hwork
  refine ⟨⟨List.count_eq_zero.mp (by omega), hdry, hask⟩, ne_of_oneIf (by omega), ne_of_oneIf (by omega)⟩

end

end Sys2Proof.Machine

/-! PROOFS. The end of a move with the shuttle READY, and the grant of the same event (R144, R147). -/

namespace Sys2Proof.Machine

/-- A plate ended by an UNLOAD: its record, its slot and the latch (R17, R18). -/
def UnloadedAs (m : Move) (r : Plate) (t : State) : Prop :=
  let fine (v : Option Verdict) : Prop := v = some .inTol ∨ v = some .notRequired
  let good : Prop := fine r.dose.back.verdict ∧ fine r.dose.main.verdict ∧ fine r.finishVerdict
  let ends (x : Disposition) (code : Word) : Prop :=
    plateOf t m.plate = some { r with stage := .ended, disposition := some x } ∧ slotWord t m.plate 33 = code
  slotState t m.plate = .done ∧ slotWord t m.plate 35 = 9 ∧ t.bus.latched.getLsbD 8 = true ∧
  (m.spoiled = true → ends .spoiled 18) ∧
  (m.spoiled = false → (good → ends .good 16) ∧ (¬ good → ends .outOfTol 17))

/-- The chamber with no batch left, READY (R166). -/
def emptiedChamber (now : Nat) (c : Chamber) : Chamber := { c with
  state := .ready, idle := some (now + 900000), ask := .load .one none, batchClass := none }

section
variable {s t u w : State} {p : PlateId} {r : Plate} {m : Move} {k : Fin 6} {j : Fin 4} {pos : ChamberPos}

/-! ## An unloaded plate -/

theorem endedDose_closed {d : DoseRecord} (hback : d.back.isOpen = false) (hmain : d.main.isOpen = false) : endedDose d = d := by
  have hfirst : closedIncomplete .back d = d := if_neg (by
    have h : (stationOf d .back).isOpen = false := hback
    simp [h])
  have hsecond : closedIncomplete .main d = d := if_neg (by
    have h : (stationOf d .main).isOpen = false := hmain
    simp [h])
  unfold endedDose
  rw [hfirst, hsecond]

theorem unloadedAs_endPlate (hr : plateOf s m.plate = some r) (hstage : r.stage ≠ .ended) (hback : r.dose.back.isOpen = false)
    (hmain : r.dose.main.isOpen = false) : UnloadedAs m r (endPlate m.plate m.spoiled s) := by
  obtain ⟨hplate, hdone, -, hreason, hstageWord, -, -, hbit, -⟩ := endPlate_effect m.spoiled hr hstage
  have hdose : ({ r with dose := endedDose r.dose } : Plate) = r := by rw [endedDose_closed hback hmain]
  have hgood : (verdictGood r.dose.back.verdict && verdictGood r.dose.main.verdict && verdictGood r.finishVerdict) = true ↔
      (r.dose.back.verdict = some .inTol ∨ r.dose.back.verdict = some .notRequired) ∧
      (r.dose.main.verdict = some .inTol ∨ r.dose.main.verdict = some .notRequired) ∧
      (r.finishVerdict = some .inTol ∨ r.finishVerdict = some .notRequired) := by
    simp [verdictGood, and_assoc]
  rw [endedDose_closed hback hmain] at hplate
  unfold endedAs at hplate hreason
  rw [hdose] at hplate hreason
  refine ⟨hdone, hstageWord, hbit, fun hspoiled => ?_, fun hspoiled => ⟨fun hfine => ?_, fun hnot => ?_⟩⟩
  · rw [hspoiled] at hplate hreason ⊢
    exact ⟨hplate, hreason⟩
  · have hends : finishedDisposition r = .good := if_pos (hgood.mpr hfine)
    rw [hspoiled] at hplate hreason ⊢
    rw [if_neg (by decide), hends] at hplate hreason
    exact ⟨hplate, hreason⟩
  · have hends : finishedDisposition r = .outOfTol := if_neg (mt hgood.mp hnot)
    rw [hspoiled] at hplate hreason ⊢
    rw [if_neg (by decide), hends] at hplate hreason
    exact ⟨hplate, hreason⟩

theorem UnloadedAs.stands (h : UnloadedAs m r s) (hstands : PlateStands m.plate s t) (hbit : t.bus.latched = s.bus.latched) :
    UnloadedAs m r t := by
  obtain ⟨hplate, hword⟩ := hstands
  have hslot : slotState t m.plate = slotState s m.plate := congrArg (fun v => slotStateOfCode (highByte v)) (hword 32 (by decide))
  unfold UnloadedAs at h ⊢
  rw [hslot, hplate, hword 35 (by decide), hword 33 (by decide), hbit]
  exact h

/-! ## What a grant gives -/

theorem Granted.admission (h : Granted s t) :
    (moveKind t = some .load → t.admission = { s.admission with commitments := s.admission.commitments - 1 }) ∧
    (moveKind t ≠ some .load → t.admission = s.admission) := by
  rcases h with ⟨-, h, -, -, hkind⟩ | ⟨p, pos, sp, -, -, h, -, hkind, -⟩ | ⟨pos, cls, p, r, d, m, -, -, -, -, -, h, -, hkind⟩
  · exact ⟨fun e => absurd e hkind, fun _ => h⟩
  · exact ⟨fun e => absurd (hkind.symm.trans e) (by decide), fun _ => h⟩
  · exact ⟨fun _ => h, fun e => absurd hkind e⟩

theorem readyDone : (moveDoneAs .ready m s).shuttle.state = .ready ∧
    (moveDoneAs .ready m s).shuttle.move = none := by
  obtain ⟨hshuttle, -⟩ := moveDone_frame m s
  unfold moveDoneAs
  dsimp only
  rw [hshuttle]
  exact ⟨rfl, rfl⟩

theorem granted_tests (hready : w.shuttle.state = .ready) (hmove : w.shuttle.move = none) :
    Granted (beforeGrant w) (handlingTests w) := by
  obtain ⟨-, -, hshuttle, -⟩ := beforeGrant_effect w
  exact granted_grant (by rw [hshuttle, hready]) (by rw [hshuttle, hmove])

/-- The admission unit at the end of a move: a LOAD granted gives the commitment back (R144). -/
theorem admission_done : (moveKind (handlingTests (moveDoneAs .ready m s)) = some .load →
      (handlingTests (moveDoneAs .ready m s)).admission = { s.admission with commitments := s.admission.commitments - 1 }) ∧
    (moveKind (handlingTests (moveDoneAs .ready m s)) ≠ some .load →
      (handlingTests (moveDoneAs .ready m s)).admission = s.admission) := by
  obtain ⟨hready, hidle⟩ := readyDone (m := m) (s := s)
  have hgranted := granted_tests hready hidle
  obtain ⟨-, -, -, -, hadmission, -⟩ := beforeGrant_effect (moveDoneAs .ready m s)
  obtain ⟨-, -, -, -, hkept, -⟩ := moveDone_frame m s
  have hsame : (beforeGrant (moveDoneAs .ready m s)).admission = s.admission := hadmission.trans hkept
  rw [← hsame]
  exact hgranted.admission

/-- The shuttle at the end of a move (R144, R147). -/
theorem outcome_done : (handlingTests (moveDoneAs .ready m s)).shuttle.state = .ready ∧
      (handlingTests (moveDoneAs .ready m s)).shuttle.move = none ∨
    (handlingTests (moveDoneAs .ready m s)).shuttle.state = .moving ∧
      (handlingTests (moveDoneAs .ready m s)).shuttle.timer = some (s.now + 90000) := by
  obtain ⟨hready, hidle⟩ := readyDone (m := m) (s := s)
  obtain ⟨-, -, hshuttle, hnow, -⟩ := beforeGrant_effect (moveDoneAs .ready m s)
  obtain ⟨-, -, -, hkept, -⟩ := moveDone_frame m s
  have hsame : (beforeGrant (moveDoneAs .ready m s)).now = s.now := hnow.trans hkept
  rw [← hsame]
  exact grant_outcome (s := beforeGrant (moveDoneAs .ready m s)) (by rw [hshuttle, hready]) (by rw [hshuttle, hidle])

/-! ## STORE -/

section
variable (hplaces : placesInv s) (hmove : s.shuttle.move = some m) (hr : plateOf s m.plate = some r) (hstage : r.stage ≠ .ended)
include hplaces hmove

theorem aside_moveEnded : Aside m.plate (moveEnded s) := aside_of_nowhere (nowhere_moveEnded hplaces hmove).1

include hr hstage

theorem store_done (hkind : m.kind = .store) (hdest : m.dest = .slot k j) :
    (let t := handlingTests (moveDoneAs .ready m s)
     plateOf t m.plate = some { r with drawerSlot := some (k, j), stage := .drying } ∧ slotWord t m.plate 35 = 6 ∧
     slotWord t m.plate 49 = w16 ((k.val + 1) * 256 + (j.val + 1)) ∧
     ((∀ p ∈ s.drying.dryList, (plateOf s p).bind (fun q => q.drawerSlot) ≠ some (k, j)) →
       t.drying.drawers[k].slots[j] = some m.plate)) := by
  obtain ⟨w, hw⟩ : ∃ w, moveDoneAs .ready m s = w := ⟨_, rfl⟩
  have hdone : w = { storeCompleted m.plate (.slot k j) (moveEnded s) with shuttle.state := .ready } := by
    rw [← hw]
    unfold moveDoneAs moveDone
    rw [hkind, hdest]
  obtain ⟨hplate, hword, hslot, hdrying, -, hothers⟩ := storeCompleted_effect (k := k) (j := j) (s := moveEnded s) hr hstage
  have haside : Aside m.plate w := by
    rw [hdone]
    exact (aside_moveEnded hplaces hmove).of (by simp) (by simp) (by simp) (by simp) fun _ _ e => by simpa using e
  obtain ⟨hrecord, hwords⟩ := handlingTests_leaves haside
  dsimp only
  rw [hw, hrecord, hwords 35 (by decide), hwords 49 (by decide), hdone]
  refine ⟨hplate, hword, hslot, fun hfree => ?_⟩
  rw [← hdone]
  have hstored : w.drying.drawers[k].slots[j] = some m.plate := by
    rw [hdone]
    dsimp only
    rw [hdrying]
    simp
  obtain ⟨hready, hidle⟩ := readyDone (m := m) (s := s)
  rw [hw] at hready hidle
  obtain ⟨hfinish, hkept, -⟩ := beforeGrant_effect w
  rcases granted_tests hready hidle with ⟨-, -, h, -⟩ | ⟨p, pos, sp, -, -, -, h, -⟩ | ⟨pos, cls, p, q, k', j', -, hcandidate, hq, hslot', -, -, h, -⟩
  · rw [h, hkept, hstored]
  · rw [h, hkept, hstored]
  · have hdry : p ∈ s.drying.dryList := by
      have hmem := loadCandidate_mem hcandidate
      rw [hkept, hdone] at hmem
      simpa [moveEnded] using hmem
    have hne : p ≠ m.plate := fun e => (aside_moveEnded hplaces hmove).untaken.dry (e ▸ hdry)
    have hrecord' : plateOf w p = plateOf s p := by
      rw [hdone]
      exact (hothers p (by simpa using hne)).1
    have hslots : (plateOf s p).bind (fun q => q.drawerSlot) = some (k', j') := by
      rw [← hrecord']
      cases hp : plateOf w p with
      | none =>
        have hnone := hfinish.record p
        rw [hp, hq] at hnone
        nomatch hnone
      | some x =>
        obtain ⟨y, hy, hsame⟩ := hfinish.figure Plate.drawerSlot (fun _ => rfl) hp
        obtain rfl := Option.some.inj (hq.symm.trans hy)
        exact hsame.symm.trans hslot'
    have hother : (k', j') ≠ (k, j) := fun e => hfree p hdry (hslots.trans (congrArg some e))
    rw [h, hkept]
    by_cases hk : k' = k
    · subst hk
      have hj : j' ≠ j := fun e => hother (by rw [e])
      have hjv : j'.val ≠ j.val := fun e => hj (Fin.ext e)
      simpa [Vector.getElem_set, hjv] using hstored
    · have hkv : k'.val ≠ k.val := fun e => hk (Fin.ext e)
      simpa [Vector.getElem_set, hkv] using hstored

/-! ## UNLOAD -/

theorem unload_done (hkind : m.kind = .unload) (hback : r.dose.back.isOpen = false) (hmain : r.dose.main.isOpen = false) :
    UnloadedAs m r (handlingTests (moveDoneAs .ready m s)) := by
  obtain ⟨x, hx⟩ : ∃ x, endPlate m.plate m.spoiled (moveEnded s) = x := ⟨_, rfl⟩
  have hdone : moveDoneAs .ready m s = { unloadNext x with shuttle.state := .ready } := by
    unfold moveDoneAs moveDone
    rw [hkind]
    dsimp only
    rw [hx]
  have hended : UnloadedAs m r x := by
    rw [← hx]
    exact unloadedAs_endPlate (s := moveEnded s) hr hstage hback hmain
  have haside : Aside m.plate x := by
    rw [← hx]
    exact (aside_moveEnded hplaces hmove).of (by simp) (by simp) (by simp) (by simp) fun _ _ e => by simpa using e
  have haside' : Aside m.plate (moveDoneAs .ready m s) := by
    rw [hdone]
    exact haside.unloadNext.of rfl rfl rfl rfl fun _ _ e => e
  have hnext : PlateStands m.plate x (moveDoneAs .ready m s) := by
    rw [hdone]
    exact plateStands_of_eq (by simp) (by simp)
  refine hended.stands (hnext.trans (handlingTests_leaves haside')) ?_
  rw [hdone]
  simp

end

/-- The chamber at the end of an UNLOAD and after the grant (R144, R166). -/
theorem unload_done_chamber (hkind : m.kind = .unload) (hstate : s.chamber.state = .unloading) :
    (let t := handlingTests (moveDoneAs .ready m s)
     (∀ (p : PlateId) (pos : ChamberPos), (pos = .one ∧ s.chamber.pos1 = some (p, .finished) ∨
         pos = .two ∧ s.chamber.pos1 = none ∧ s.chamber.pos2 = some (p, .finished)) →
       t.chamber = { s.chamber with ask := .unload p pos false } ∨
       moveKind t = some .unload ∧ t.shuttle.move.map (fun x => x.plate) = some p ∧ t.chamber = { s.chamber with
         ask := .none, pos1 := none, pos2 := if pos = .one then s.chamber.pos2 else none }) ∧
     (s.chamber.pos1 = none → s.chamber.pos2 = none → t.chamber = emptiedChamber s.now s.chamber ∨
       moveKind t = some .load ∧ t.chamber = { emptiedChamber s.now s.chamber with
         state := .loading, idle := none, ask := .none, batchClass := t.chamber.batchClass })) := by
  obtain ⟨x, hx⟩ : ∃ x, endPlate m.plate m.spoiled (moveEnded s) = x := ⟨_, rfl⟩
  obtain ⟨w, hw⟩ : ∃ w, moveDoneAs .ready m s = w := ⟨_, rfl⟩
  have hdone : w = { unloadNext x with shuttle.state := .ready } := by
    rw [← hw]
    unfold moveDoneAs moveDone
    rw [hkind]
    dsimp only
    rw [hx]
  have hchamber : x.chamber = s.chamber := by simp [← hx, moveEnded]
  have hnow : x.now = s.now := by simp [← hx, moveEnded]
  have hidle : x.shuttle.move = none := by simp [← hx, moveEnded]
  obtain ⟨hready, hnone⟩ := readyDone (m := m) (s := s)
  rw [hw] at hready hnone
  have hnext (pos : ChamberPos) := unloadNext_lowest (pos := pos) (s := x) (by rw [hchamber, hstate]) hidle
  rw [hchamber, hnow] at hnext
  dsimp only
  rw [hw]
  refine ⟨fun p pos hlowest => ?_, fun h1 h2 => ?_⟩
  · have hasks : w.chamber = { s.chamber with ask := .unload p pos false } := by
      rw [hdone, (hnext pos).1 p hlowest]
    have hgrant : handlingTests w = grant w := handlingTests_grant (by rw [hasks, hstate]; nofun) (by rw [hasks]; nofun)
    rw [hgrant]
    rcases granted_grant hready hnone with ⟨h, -⟩ | ⟨p', pos', sp, hask, h, -, -, hsent, hplate⟩ | ⟨pos', cls, p', q, k', j', hask, -⟩
    · exact .inl (h.trans hasks)
    · rw [hasks] at hask
      obtain ⟨rfl, rfl, -⟩ := Ask.unload.inj hask
      refine .inr ⟨hsent, hplate, ?_⟩
      rw [h, hasks]
      rcases hlowest with ⟨rfl, -⟩ | ⟨rfl, h1, -⟩
      · rfl
      · simp [clearPos, h1]
    · rw [hasks] at hask
      nomatch hask
  · have hempty : w.chamber = emptiedChamber s.now s.chamber := by
      rw [hdone, (hnext .one).2 h1 h2]
      rfl
    have hgrant : handlingTests w = grant w := handlingTests_grant (by rw [hempty]; nofun) (by rw [hempty]; nofun)
    rw [hgrant]
    rcases granted_grant hready hnone with ⟨h, -⟩ | ⟨p', pos', sp, hask, -⟩ | ⟨pos', cls, p', q, k', j', hask, -, -, -, h, -, -, hsent⟩
    · exact .inl (h.trans hempty)
    · rw [hempty] at hask
      nomatch hask
    · rw [hempty] at hask
      obtain ⟨rfl, -⟩ := Ask.load.inj hask
      refine .inr ⟨hsent, ?_⟩
      rw [h, loadTaken_one, hempty]

end

end Sys2Proof.Machine

/-! PROOFS. The end of a LOAD with the shuttle READY, and the grant of the same event (R144, R160, R162, R167). -/

namespace Sys2Proof.Machine

/-- The chamber with a plate joined, its exposure about to start (R160, R162). -/
def joinedChamber (pos : ChamberPos) (p : PlateId) (c : Chamber) : Chamber := { c with
  pos1 := if pos = .one then some (p, .undecided) else c.pos1
  pos2 := if pos = .two then some (p, .undecided) else c.pos2
  accA := 0, accC := 0, onA := decide ((c.batchClass.getD (0, 0)).1 = 0), onC := decide ((c.batchClass.getD (0, 0)).2 = 0)
  second := none }

/-- The chamber in which a joined batch is exposed, or stands suspended (R162). -/
def StartedAs (pos : ChamberPos) (p : PlateId) (s t : State) : Prop :=
  let group : Nat × Nat := s.chamber.batchClass.getD (0, 0)
  (s.supervisor.line ≠ .safe → s.chamber.doorClosed = true → t.chamber = { joinedChamber pos p s.chamber with
    state := .exposing, openA := decide (group.1 ≠ 0), openC := decide (group.2 ≠ 0)
    openDeadline := some (s.now + 1800000), openStanding := none }) ∧
  (s.supervisor.line = .safe ∨ s.chamber.doorClosed = false → t.chamber = { joinedChamber pos p s.chamber with
    state := .suspended, openA := false, openC := false
    openDeadline := none, openStanding := some 1800000 })

section
variable {s t u w : State} {p : PlateId} {r : Plate} {m : Move} {pos : ChamberPos} {x : ShuttleState}

theorem moveDoneAs_load (hkind : m.kind = .load) (hdest : m.dest = .chamber pos) :
    moveDoneAs x m s = { loadCompleted pos m.plate (moveEnded s) with shuttle.state := x } := by
  unfold moveDoneAs moveDone
  rw [hkind, hdest]
  rfl

theorem exposureStart_entered (pos : ChamberPos) (p : PlateId) (c : Chamber) : exposureStart (enterPos pos p .undecided c) =
    { joinedChamber pos p c with
      openA := false, openC := false, ask := .none, openDeadline := none, openStanding := some 1800000 } := by
  cases pos <;> rfl

/-- A LOAD with which the exposure starts (R160, R162). -/
theorem load_starts (hkind : m.kind = .load) (hdest : m.dest = .chamber pos) (hr : plateOf s m.plate = some r)
    (hstage : r.stage ≠ .ended) (hstate : s.chamber.state = .loading) (hask : s.chamber.ask = .none)
    (h : pos = .two ∨ loadCandidate s s.chamber.batchClass = none)
    (htargets : (s.chamber.batchClass.getD (0, 0)).1 ≠ 0 ∨ (s.chamber.batchClass.getD (0, 0)).2 ≠ 0) :
    (let w := moveDoneAs x m s
     StartedAs pos m.plate s w ∧ w.chamber.ask = .none ∧ w.chamber.state ≠ .loading ∧ w.chamber.state ≠ .dark ∧
     plateOf w m.plate = some { r with stage := .inChamber } ∧ slotWord w m.plate 35 = 8) := by
  obtain ⟨y, hy⟩ : ∃ y, loadEntered pos m.plate .undecided (moveEnded s) = y := ⟨_, rfl⟩
  obtain ⟨hnow, hsupervisor, -⟩ := loadEntered_frame pos m.plate .undecided (moveEnded s)
  obtain ⟨hplate, hword⟩ := loadEntered_plate (s := moveEnded s) (pos := pos) (k := .undecided) hr hstage
  have hchamber : y.chamber = enterPos pos m.plate .undecided s.chamber := by rw [← hy]; rfl
  rw [hy] at hnow hsupervisor hplate hword
  have hgroup : groupTargets (enterPos pos m.plate .undecided s.chamber) = s.chamber.batchClass.getD (0, 0) := by cases pos <;> rfl
  have hdone : moveDoneAs x m s = { y with
      chamber := batchStarted y.now (y.supervisor.line = .safe ∨ y.chamber.doorClosed = false) y.chamber
      shuttle.state := x } := by
    have hne : (moveEnded s).chamber.state ≠ .faulted := fun e => nomatch hstate.symm.trans e
    rw [moveDoneAs_load hkind hdest, loadCompleted_starts (s := moveEnded s) hne h, hy,
      startExposure_started (by rw [hchamber, hgroup]; exact htargets)]
  have hdoorKept : (enterPos pos m.plate .undecided s.chamber).doorClosed = s.chamber.doorClosed := by cases pos <;> rfl
  have hsuspended (hstops : s.supervisor.line = .safe ∨ s.chamber.doorClosed = false) :
      (moveDoneAs x m s).chamber = { joinedChamber pos m.plate s.chamber with
        state := .suspended, openA := false, openC := false, openDeadline := none, openStanding := some 1800000 } := by
    have hstart : (moveDoneAs x m s).chamber = { exposureStart (enterPos pos m.plate .undecided s.chamber) with
        state := .suspended } := by
      rw [hdone, hchamber]
      exact if_pos (by rw [hsupervisor, hdoorKept]; exact hstops)
    rw [hstart, exposureStart_entered, ← hask]
    rfl
  have hexposed (hline : s.supervisor.line ≠ .safe) (hdoor : s.chamber.doorClosed = true) :
      (moveDoneAs x m s).chamber = { joinedChamber pos m.plate s.chamber with
        state := .exposing, openA := decide ((s.chamber.batchClass.getD (0, 0)).1 ≠ 0)
        openC := decide ((s.chamber.batchClass.getD (0, 0)).2 ≠ 0)
        openDeadline := some (s.now + 1800000), openStanding := none } := by
    have hstart : (moveDoneAs x m s).chamber = { exposureStart (enterPos pos m.plate .undecided s.chamber) with
        state := .exposing, openA := !(exposureStart (enterPos pos m.plate .undecided s.chamber)).onA
        openC := !(exposureStart (enterPos pos m.plate .undecided s.chamber)).onC
        openDeadline := some (s.now + 1800000), openStanding := none } := by
      rw [hdone, hchamber, hnow]
      refine if_neg ?_
      rw [hsupervisor, hdoorKept, not_or, Bool.not_eq_false]
      exact ⟨hline, hdoor⟩
    rw [hstart, exposureStart_entered, decide_not, decide_not, ← hask]
    rfl
  have hone : (moveDoneAs x m s).chamber.ask = .none ∧ (moveDoneAs x m s).chamber.state ≠ .loading ∧
      (moveDoneAs x m s).chamber.state ≠ .dark := by
    by_cases hstops : s.supervisor.line = .safe ∨ s.chamber.doorClosed = false
    · rw [hsuspended hstops]
      exact ⟨hask, nofun, nofun⟩
    · rw [not_or, Bool.not_eq_false] at hstops
      rw [hexposed hstops.1 hstops.2]
      exact ⟨hask, nofun, nofun⟩
  refine ⟨⟨hexposed, hsuspended⟩, hone.1, hone.2.1, hone.2.2, ?_, ?_⟩
  · rw [hdone]
    exact hplate
  · rw [hdone]
    exact hword

/-- A LOAD after which a second one is asked for (R160). -/
theorem load_asks (hkind : m.kind = .load) (hdest : m.dest = .chamber .one) (hr : plateOf s m.plate = some r)
    (hstage : r.stage ≠ .ended) (hstate : s.chamber.state = .loading)
    (hcandidate : loadCandidate s s.chamber.batchClass ≠ none) :
    (let w := moveDoneAs x m s
     w.chamber = { s.chamber with
       pos1 := some (m.plate, .undecided), ask := .load .two s.chamber.batchClass, second := some (s.now + 60000) } ∧
     withdrawSecondAsk w = w ∧ plateOf w m.plate = some { r with stage := .inChamber } ∧ slotWord w m.plate 35 = 8) := by
  have hne : (moveEnded s).chamber.state ≠ .faulted := fun e => nomatch hstate.symm.trans e
  obtain ⟨hplate, hword⟩ := loadEntered_plate (s := moveEnded s) (pos := .one) (k := .undecided) hr hstage
  have hdone : moveDoneAs x m s = { loadEntered .one m.plate .undecided (moveEnded s) with
      chamber.ask := .load .two s.chamber.batchClass, chamber.second := some (s.now + 60000), shuttle.state := x } := by
    rw [moveDoneAs_load hkind hdest, loadCompleted_asks (s := moveEnded s) hne hcandidate]
    rfl
  have hchamber : (moveDoneAs x m s).chamber = { s.chamber with
      pos1 := some (m.plate, .undecided), ask := .load .two s.chamber.batchClass, second := some (s.now + 60000) } := by
    rw [hdone]
    rfl
  refine ⟨hchamber, withdrawSecondAsk_stands fun cls hask => ?_, ?_, ?_⟩
  · rw [hchamber] at hask
    obtain ⟨-, rfl⟩ := Ask.load.inj hask
    have hkept : loadCandidate (moveDoneAs x m s) s.chamber.batchClass =
        loadCandidate (setStage m.plate .inChamber (moveEnded s)) s.chamber.batchClass := by
      rw [hdone]
      exact loadCandidate_congr rfl rfl _
    rw [hkept, loadCandidate_setStage]
    exact hcandidate
  · rw [hdone]
    exact hplate
  · rw [hdone]
    exact hword

/-- The plate that is asked for stands at the position named, with a marking that passes. -/
theorem unloadAsk_marked {pass : Mark → Bool} {c : Chamber} {b : Bool} (h : unloadAsk pass c = .unload p pos b) :
    ∃ k, (match pos with | .one => c.pos1 | .two => c.pos2) = some (p, k) ∧ pass k = true := by
  unfold unloadAsk at h
  split at h
  · next hmarked =>
    obtain ⟨hat, hpass⟩ := Option.filter_eq_some_iff.mp hmarked
    cases h
    exact ⟨_, hat, hpass⟩
  · split at h
    · next hmarked =>
      obtain ⟨hat, hpass⟩ := Option.filter_eq_some_iff.mp hmarked
      cases h
      exact ⟨_, hat, hpass⟩
    · cases h

/-- A LOAD that ends in a FAULTED chamber (R167). -/
theorem load_faulted (hkind : m.kind = .load) (hdest : m.dest = .chamber pos) (hr : plateOf s m.plate = some r)
    (hstage : r.stage ≠ .ended) (hstate : s.chamber.state = .faulted) :
    (moveDoneAs x m s).chamber = { enterPos pos m.plate .spoiled s.chamber with
      ask := unloadAsk (fun k => k == .finished || s.chamber.resetAccepted) (enterPos pos m.plate .spoiled s.chamber) } ∧
    Finished m.plate { r with stage := .inChamber } 0 0 .incomplete 6 (moveDoneAs x m s) := by
  obtain ⟨hchamber, hfinished⟩ := loadCompleted_faulted_effect (s := moveEnded s) (pos := pos) hr hstage hstate rfl
  rw [moveDoneAs_load hkind hdest]
  exact ⟨hchamber, finished_of_eq hfinished rfl rfl⟩

/-! ## The grant after a LOAD -/

section
variable (hplaces : placesInv s) (hmove : s.shuttle.move = some m)
include hplaces hmove

theorem unrequested_done : m.plate ∉ rackPlates (moveDoneAs x m s) ∧ m.plate ∉ (moveDoneAs x m s).drying.dryList := by
  obtain ⟨⟨hrack, hdry, -⟩, -, -⟩ := aside_moveEnded hplaces hmove
  obtain ⟨-, -, -, -, -, hkeptRack, hkeptDry⟩ := moveDone_frame m s
  have hkept : (moveDoneAs x m s).drying.rack = s.drying.rack := hkeptRack
  have hkept' : (moveDoneAs x m s).drying.dryList = s.drying.dryList := hkeptDry
  unfold rackPlates at hrack ⊢
  rw [hkept, hkept']
  exact ⟨hrack, hdry⟩

variable (hkind : m.kind = .load) (hdest : m.dest = .chamber pos) (hr : plateOf s m.plate = some r) (hstage : r.stage ≠ .ended)
include hkind hdest hr hstage

theorem load_starts_granted (hstate : s.chamber.state = .loading) (hask : s.chamber.ask = .none)
    (h : pos = .two ∨ loadCandidate s s.chamber.batchClass = none)
    (htargets : (s.chamber.batchClass.getD (0, 0)).1 ≠ 0 ∨ (s.chamber.batchClass.getD (0, 0)).2 ≠ 0) :
    (let t := handlingTests (moveDoneAs .ready m s)
     plateOf t m.plate = some { r with stage := .inChamber } ∧ slotWord t m.plate 35 = 8 ∧ StartedAs pos m.plate s t) := by
  obtain ⟨hstarted, hnone, -, hdark, hplate, hword⟩ := load_starts (x := .ready) hkind hdest hr hstage hstate hask h htargets
  obtain ⟨hrack, hdry⟩ := unrequested_done (x := .ready) hplaces hmove
  generalize moveDoneAs .ready m s = w at *
  have hgrant : handlingTests w = grant w := handlingTests_grant hdark (by rw [hnone]; nofun)
  obtain ⟨hrecord, hwords⟩ := grant_leaves (p := m.plate) (s := w) ⟨hrack, hdry, by rw [hnone]; nofun⟩
  dsimp only
  rw [hgrant, hrecord, hwords 35 (by decide)]
  refine ⟨hplate, hword, ?_⟩
  unfold StartedAs at hstarted ⊢
  rw [grant_chamber hnone]
  exact hstarted

theorem load_onTarget_granted (hstate : s.chamber.state = .loading)
    (h : pos = .two ∨ loadCandidate s s.chamber.batchClass = none) (htargets : s.chamber.batchClass.getD (0, 0) = (0, 0))
    (hline : s.supervisor.line ≠ .safe) (hdoor : s.chamber.doorClosed = true) :
    (let t := handlingTests (moveDoneAs .ready m s)
     slotWord t m.plate 51 = 0 ∧ slotWord t m.plate 52 = 0 ∧ slotWord t m.plate 53 = 1 ∧ t.chamber.state = .unloading ∧
     (plateOf t m.plate).map (fun q => (q.uvaDose, q.uvcDose, q.finishVerdict)) = some (0, 0, some .inTol)) := by
  have hne : (moveEnded s).chamber.state ≠ .faulted := fun e => nomatch hstate.symm.trans e
  obtain ⟨-, hpos1, hpos2⟩ := aside_moveEnded hplaces hmove
  obtain ⟨hunloading, hnoLoad, hfinished⟩ := loadCompleted_onTarget (s := moveEnded s) (pos := pos) hr hstage hne h rfl htargets
    hline hdoor hpos1 hpos2
  obtain ⟨hready, hidle⟩ := readyDone (m := m) (s := s)
  have hdone := moveDoneAs_load (x := .ready) (s := s) hkind hdest
  obtain ⟨w, hw⟩ : ∃ w, moveDoneAs .ready m s = w := ⟨_, rfl⟩
  have hstateDone : w.chamber.state = .unloading := by rw [← hw, hdone]; exact hunloading
  have hnoLoadDone : ∀ pos' cls, w.chamber.ask ≠ .load pos' cls := by rw [← hw, hdone]; exact hnoLoad
  have hdoses : Finished m.plate { r with stage := .inChamber } 0 0 .inTol 1 w := by
    rw [← hw, hdone]
    exact finished_of_eq hfinished rfl rfl
  rw [hw] at hready hidle ⊢
  have hgrant : handlingTests w = grant w := handlingTests_grant (by rw [hstateDone]; nofun) (hnoLoadDone .two)
  obtain ⟨hwords, hrecord⟩ := grant_figures m.plate w
  obtain ⟨hplate, h51, h52, h53⟩ := hdoses
  dsimp only
  rw [hgrant, hwords 51 (by decide) (by decide), hwords 52 (by decide) (by decide), hwords 53 (by decide) (by decide), hrecord, hplate]
  refine ⟨h51, h52, h53, ?_, rfl⟩
  rcases granted_grant hready hidle with ⟨h, -⟩ | ⟨p', pos', sp, -, h, -⟩ | ⟨pos', cls, p', q, k', j', hask, -⟩
  · rw [h, hstateDone]
  · rw [h]
    cases pos' <;> exact hstateDone
  · exact absurd hask (hnoLoadDone pos' cls)

theorem load_asks_granted (hpos : pos = .one) (hstate : s.chamber.state = .loading)
    (hcandidate : loadCandidate s s.chamber.batchClass ≠ none) :
    (let t := handlingTests (moveDoneAs .ready m s)
     plateOf t m.plate = some { r with stage := .inChamber } ∧ slotWord t m.plate 35 = 8 ∧
     (t.chamber = { s.chamber with
        pos1 := some (m.plate, .undecided), ask := .load .two s.chamber.batchClass, second := some (s.now + 60000) } ∨
      moveKind t = some .load ∧ t.chamber = { s.chamber with
        pos1 := some (m.plate, .undecided), ask := .none, second := none })) := by
  subst hpos
  obtain ⟨hchamber, hwithdraw, hplate, hword⟩ := load_asks (x := .ready) hkind hdest hr hstage hstate hcandidate
  obtain ⟨hrack, hdry⟩ := unrequested_done (x := .ready) hplaces hmove
  obtain ⟨hready, hidle⟩ := readyDone (m := m) (s := s)
  generalize moveDoneAs .ready m s = w at *
  have hgrant : handlingTests w = grant w := by
    have hlight : lightTubes w = w := lightTubes_undark (by rw [hchamber, hstate]; nofun)
    unfold handlingTests
    rw [hwithdraw, hlight]
  obtain ⟨hrecord, hwords⟩ := grant_leaves (p := m.plate) (s := w) ⟨hrack, hdry, by rw [hchamber]; nofun⟩
  dsimp only
  rw [hgrant, hrecord, hwords 35 (by decide)]
  refine ⟨hplate, hword, ?_⟩
  rcases granted_grant hready hidle with ⟨h, -⟩ | ⟨p', pos', sp, hask, -⟩ | ⟨pos', cls, p', q, k', j', hask, -, -, -, h, -, -, hsent⟩
  · exact .inl (h.trans hchamber)
  · rw [hchamber] at hask
    nomatch hask
  · rw [hchamber] at hask
    obtain ⟨rfl, -⟩ := Ask.load.inj hask
    refine .inr ⟨hsent, ?_⟩
    rw [h, loadTaken_two, hchamber]

theorem load_faulted_granted (hstate : s.chamber.state = .faulted) :
    (let t := handlingTests (moveDoneAs .ready m s)
     let held : Prop := (if pos = .one then t.chamber.pos1 else t.chamber.pos2) = some (m.plate, .spoiled) ∧
       plateOf t m.plate = some { r with
         stage := .inChamber, uvaDose := 0, uvcDose := 0, finishVerdict := some .incomplete }
     slotWord t m.plate 51 = 0 ∧ slotWord t m.plate 52 = 0 ∧ slotWord t m.plate 53 = 6 ∧ t.chamber.state = .faulted ∧
     (s.chamber.resetAccepted = false → held) ∧
     (held ∨ moveKind t = some .unload ∧ t.shuttle.move.map (fun x => x.plate) = some m.plate)) := by
  obtain ⟨hchamber, hplate, h51, h52, h53⟩ := load_faulted (x := .ready) hkind hdest hr hstage hstate
  obtain ⟨hrack, hdry⟩ := unrequested_done (x := .ready) hplaces hmove
  obtain ⟨hready, hidle⟩ := readyDone (m := m) (s := s)
  obtain ⟨-, hpos1, hpos2⟩ := aside_moveEnded hplaces hmove
  generalize moveDoneAs .ready m s = w at *
  obtain ⟨ask, hask⟩ : ∃ ask, unloadAsk (fun k => k == .finished || s.chamber.resetAccepted)
    (enterPos pos m.plate .spoiled s.chamber) = ask := ⟨_, rfl⟩
  rw [hask] at hchamber
  have hfaulted : w.chamber.state = .faulted := by
    rw [hchamber]
    cases pos <;> exact hstate
  have hmarked : (if pos = .one then w.chamber.pos1 else w.chamber.pos2) = some (m.plate, .spoiled) := by
    rw [hchamber]
    cases pos <;> rfl
  have hgrant : handlingTests w = grant w := handlingTests_grant (by rw [hfaulted]; nofun) fun cls => by
    rw [hchamber]
    exact hask ▸ unloadAsk_no_load _ _ .two cls
  obtain ⟨hwords, -⟩ := grant_figures m.plate w
  have hunasked (hreset : s.chamber.resetAccepted = false) (pos' : ChamberPos) (b : Bool) : ask ≠ .unload m.plate pos' b := by
    intro h
    obtain ⟨k, hat, hpass⟩ := unloadAsk_marked (hask.trans h)
    rw [hreset, Bool.or_false, beq_iff_eq] at hpass
    subst hpass
    cases pos <;> cases pos'
    · nomatch Option.some.inj hat
    · exact hpos2 (congrArg occupant hat)
    · exact hpos1 (congrArg occupant hat)
    · nomatch Option.some.inj hat
  have hgranted := granted_grant hready hidle
  have hboth : (grant w).chamber.state = .faulted ∧
      ((if pos = .one then (grant w).chamber.pos1 else (grant w).chamber.pos2) = some (m.plate, .spoiled) ∧
        plateOf (grant w) m.plate = plateOf w m.plate ∨
      moveKind (grant w) = some .unload ∧ (grant w).shuttle.move.map (fun x => x.plate) = some m.plate ∧
        ∃ pos' b, ask = .unload m.plate pos' b) := by
    rcases hgranted with ⟨h, -, -, hkind', -⟩ | ⟨p', pos', sp, hasked, h, -, -, hsent, hgone⟩ | ⟨pos', cls, p', q, k', j', hasked, -⟩
    · rw [h]
      exact ⟨hfaulted, .inl ⟨hmarked, (grant_leaves_unasked hrack hdry fun _ _ _ => hkind').1⟩⟩
    · have hasked' : ask = .unload p' pos' sp := by
        rw [hchamber] at hasked
        exact hasked
      refine ⟨by rw [h]; cases pos' <;> exact hfaulted, ?_⟩
      by_cases hp : p' = m.plate
      · subst hp
        exact .inr ⟨hsent, hgone, pos', sp, hasked'⟩
      · have hat := unloadAsk_occupant (hask.trans hasked')
        refine .inl ⟨?_, (grant_leaves_unasked hrack hdry fun _ _ e => ?_).1⟩
        · rw [h, hchamber]
          cases pos <;> cases pos'
          · exact absurd (Option.some.inj hat).symm hp
          · rfl
          · rfl
          · exact absurd (Option.some.inj hat).symm hp
        · rw [hasked] at e
          exact absurd (Ask.unload.inj e).1 hp
    · rw [hchamber] at hasked
      exact absurd (hask.trans hasked) (unloadAsk_no_load _ _ pos' cls)
  obtain ⟨hkept, hheld⟩ := hboth
  dsimp only
  rw [hgrant, hwords 51 (by decide) (by decide), hwords 52 (by decide) (by decide), hwords 53 (by decide) (by decide)]
  refine ⟨h51, h52, h53, hkept, fun hreset => ?_, ?_⟩
  · rcases hheld with ⟨hmark, hsame⟩ | ⟨-, -, pos', b, h⟩
    · exact ⟨hmark, hsame.trans hplate⟩
    · exact absurd h (hunasked hreset pos' b)
  · rcases hheld with ⟨hmark, hsame⟩ | ⟨hsent, hgone, -⟩
    · exact .inl ⟨hmark, hsame.trans hplate⟩
    · exact .inr ⟨hsent, hgone⟩

end

end

end Sys2Proof.Machine

/-! PROOFS. The end of a move with the shuttle STOPPED, its failure, and a report without a move (R140, R147, R148, R150, R161). -/

namespace Sys2Proof.Machine

section
variable {s t u w : State} {p : PlateId} {r : Plate} {m : Move} {k : Fin 6} {j : Fin 4} {pos : ChamberPos}

/-! ## The tests with the shuttle STOPPED or FAULTED -/

theorem tests_unready_shuttle (h : w.shuttle.state ≠ .ready) : (handlingTests w).shuttle = w.shuttle := by
  have hgrant : handlingTests w = lightTubes (withdrawSecondAsk w) := grant_of_not_ready _ (by simpa using h)
  rw [hgrant]
  simp

theorem tests_undark (hshuttle : w.shuttle.state ≠ .ready) (hwithdraw : withdrawSecondAsk w = w) (hdark : w.chamber.state ≠ .dark) :
    handlingTests w = w := by
  have hgrant : grant w = w := grant_of_not_ready w hshuttle
  have hlight : lightTubes w = w := lightTubes_undark hdark
  unfold handlingTests
  rw [hwithdraw, hlight, hgrant]

theorem stopped_shuttle (m : Move) (s : State) : (moveDoneAs .stopped m s).shuttle =
    { s.shuttle with state := .stopped, move := none, timer := none } := by
  obtain ⟨hshuttle, -⟩ := moveDone_frame m s
  unfold moveDoneAs
  dsimp only
  rw [hshuttle]

theorem stopped_unready (m : Move) (s : State) : (moveDoneAs .stopped m s).shuttle.state ≠ .ready := by
  rw [stopped_shuttle]
  nofun

theorem unloadNext_not_loading (h : s.chamber.state ≠ .loading) : (unloadNext s).chamber.state ≠ .loading := by
  unfold unloadNext enterReady
  dsimp only
  split
  · exact h
  · split
    · split
      · nofun
      · exact h
    · split
      · split
        · nofun
        · exact h
      · exact h
    all_goals exact h

/-! ## The end of a move with the shuttle STOPPED -/

section
variable (hr : plateOf s m.plate = some r) (hstage : r.stage ≠ .ended)
include hr hstage

theorem store_stopped (hkind : m.kind = .store) (hdest : m.dest = .slot k j) (hstate : s.chamber.state ≠ .loading) :
    (let t := handlingTests (moveDoneAs .stopped m s)
     plateOf t m.plate = some { r with drawerSlot := some (k, j), stage := .drying } ∧
     t.drying = { s.drying with drawers := s.drying.drawers.set k { s.drying.drawers[k] with
       slots := s.drying.drawers[k].slots.set j (some m.plate) } } ∧
     slotWord t m.plate 35 = 6 ∧ slotWord t m.plate 49 = w16 ((k.val + 1) * 256 + (j.val + 1)) ∧
     t.admission = s.admission ∧ ramKeptOutside [slotBase m.plate + 35, slotBase m.plate + 49] s t) := by
  have hdone : moveDoneAs .stopped m s =
      { storeCompleted m.plate (.slot k j) (moveEnded s) with shuttle.state := .stopped } := by
    unfold moveDoneAs moveDone
    rw [hkind, hdest]
  obtain ⟨hplate, hword, hslot, hdrying, hram, -⟩ := storeCompleted_effect (k := k) (j := j) (s := moveEnded s) hr hstage
  have hlights : handlingTests (moveDoneAs .stopped m s) = lightTubes (moveDoneAs .stopped m s) :=
    handlingTests_lights (stopped_unready m s) (by rw [hdone]; simpa [moveEnded] using hstate)
  obtain ⟨x, hx⟩ : ∃ x, storeCompleted m.plate (.slot k j) (moveEnded s) = x := ⟨_, rfl⟩
  have hadmission : x.admission = s.admission := by simp [← hx, moveEnded]
  rw [hx] at hplate hword hslot hdrying hram hdone
  obtain ⟨hrecord, hwords⟩ : PlateStands m.plate x (lightTubes (moveDoneAs .stopped m s)) := by
    rw [hdone]
    exact plateStands_of_eq (by simp) (by simp)
  dsimp only
  rw [hlights, hrecord, hwords 35 (by decide), hwords 49 (by decide)]
  refine ⟨hplate, ?_, hword, hslot, ?_, ?_⟩
  · rw [hdone]
    refine Eq.trans ?_ hdrying
    simp
  · rw [hdone]
    simpa using hadmission
  · rw [hdone]
    exact ramKept_of_ram (by simp) hram

theorem unload_stopped (hkind : m.kind = .unload) (hstate : s.chamber.state ≠ .loading) (hback : r.dose.back.isOpen = false)
    (hmain : r.dose.main.isOpen = false) : UnloadedAs m r (handlingTests (moveDoneAs .stopped m s)) := by
  obtain ⟨x, hx⟩ : ∃ x, endPlate m.plate m.spoiled (moveEnded s) = x := ⟨_, rfl⟩
  have hdone : moveDoneAs .stopped m s = { unloadNext x with shuttle.state := .stopped } := by
    unfold moveDoneAs moveDone
    rw [hkind]
    dsimp only
    rw [hx]
  have hended : UnloadedAs m r x := by
    rw [← hx]
    exact unloadedAs_endPlate (s := moveEnded s) hr hstage hback hmain
  have hloading : x.chamber.state ≠ .loading := by simpa [← hx, moveEnded] using hstate
  have hlights : handlingTests (moveDoneAs .stopped m s) = lightTubes (moveDoneAs .stopped m s) :=
    handlingTests_lights (stopped_unready m s) (by rw [hdone]; exact unloadNext_not_loading hloading)
  rw [hlights, hdone]
  exact hended.stands (plateStands_of_eq (by simp) (by simp)) (by simp)

end

theorem unload_stopped_chamber (hkind : m.kind = .unload) (hstate : s.chamber.state = .unloading) :
    (let t := handlingTests (moveDoneAs .stopped m s)
     (∀ (p : PlateId) (pos : ChamberPos), (pos = .one ∧ s.chamber.pos1 = some (p, .finished) ∨
         pos = .two ∧ s.chamber.pos1 = none ∧ s.chamber.pos2 = some (p, .finished)) →
       t.chamber = { s.chamber with ask := .unload p pos false }) ∧
     (s.chamber.pos1 = none → s.chamber.pos2 = none → t.chamber = emptiedChamber s.now s.chamber)) := by
  obtain ⟨x, hx⟩ : ∃ x, endPlate m.plate m.spoiled (moveEnded s) = x := ⟨_, rfl⟩
  have hdone : moveDoneAs .stopped m s = { unloadNext x with shuttle.state := .stopped } := by
    unfold moveDoneAs moveDone
    rw [hkind]
    dsimp only
    rw [hx]
  have hchamber : x.chamber = s.chamber := by simp [← hx, moveEnded]
  have hnow : x.now = s.now := by simp [← hx, moveEnded]
  have hidle : x.shuttle.move = none := by simp [← hx, moveEnded]
  have hnext (pos : ChamberPos) := unloadNext_lowest (pos := pos) (s := x) (by rw [hchamber, hstate]) hidle
  rw [hchamber, hnow] at hnext
  have hunready := stopped_unready m s
  generalize moveDoneAs .stopped m s = w at hdone hunready
  dsimp only
  refine ⟨fun p pos hlowest => ?_, fun h1 h2 => ?_⟩
  · have hasks : w.chamber = { s.chamber with ask := .unload p pos false } := by
      rw [hdone, (hnext pos).1 p hlowest]
    rw [handlingTests_idle hunready (by rw [hasks, hstate]; nofun) (by rw [hasks, hstate]; nofun)]
    exact hasks
  · have hempty : w.chamber = emptiedChamber s.now s.chamber := by
      rw [hdone, (hnext .one).2 h1 h2]
      rfl
    rw [handlingTests_idle hunready (by rw [hempty]; nofun) (by rw [hempty]; nofun)]
    exact hempty

section
variable (hkind : m.kind = .load) (hdest : m.dest = .chamber pos) (hr : plateOf s m.plate = some r) (hstage : r.stage ≠ .ended)
include hkind hdest hr hstage

theorem load_starts_stopped (hstate : s.chamber.state = .loading) (hask : s.chamber.ask = .none)
    (h : pos = .two ∨ loadCandidate s s.chamber.batchClass = none)
    (htargets : (s.chamber.batchClass.getD (0, 0)).1 ≠ 0 ∨ (s.chamber.batchClass.getD (0, 0)).2 ≠ 0) :
    (let t := handlingTests (moveDoneAs .stopped m s)
     plateOf t m.plate = some { r with stage := .inChamber } ∧ slotWord t m.plate 35 = 8 ∧ StartedAs pos m.plate s t) := by
  obtain ⟨hstarted, hnone, hloading, hdark, hplate, hword⟩ :=
    load_starts (x := .stopped) hkind hdest hr hstage hstate hask h htargets
  dsimp only
  rw [handlingTests_idle (stopped_unready m s) hloading fun e => absurd e hdark]
  exact ⟨hplate, hword, hstarted⟩

theorem load_asks_stopped (hpos : pos = .one) (hstate : s.chamber.state = .loading)
    (hcandidate : loadCandidate s s.chamber.batchClass ≠ none) :
    (let t := handlingTests (moveDoneAs .stopped m s)
     plateOf t m.plate = some { r with stage := .inChamber } ∧ t.chamber = { s.chamber with
       pos1 := some (m.plate, .undecided), ask := .load .two s.chamber.batchClass, second := some (s.now + 60000) }) := by
  subst hpos
  obtain ⟨hchamber, hwithdraw, hplate, -⟩ := load_asks (x := .stopped) hkind hdest hr hstage hstate hcandidate
  dsimp only
  rw [tests_undark (stopped_unready m s) hwithdraw (by rw [hchamber, hstate]; nofun)]
  exact ⟨hplate, hchamber⟩

theorem load_faulted_stopped (hstate : s.chamber.state = .faulted) :
    (let t := handlingTests (moveDoneAs .stopped m s)
     plateOf t m.plate = some { r with
       stage := .inChamber, uvaDose := 0, uvcDose := 0, finishVerdict := some .incomplete } ∧
     slotWord t m.plate 51 = 0 ∧ slotWord t m.plate 52 = 0 ∧ slotWord t m.plate 53 = 6 ∧
     t.chamber.state = .faulted ∧ (pos = .one → t.chamber.pos1 = some (m.plate, .spoiled)) ∧
     (pos = .two → t.chamber.pos2 = some (m.plate, .spoiled))) := by
  obtain ⟨hchamber, hplate, h51, h52, h53⟩ := load_faulted (x := .stopped) hkind hdest hr hstage hstate
  have hfaulted : (moveDoneAs .stopped m s).chamber.state = .faulted := by
    rw [hchamber]
    cases pos <;> exact hstate
  dsimp only
  rw [handlingTests_idle (stopped_unready m s) (by rw [hfaulted]; nofun) (by rw [hfaulted]; nofun)]
  refine ⟨hplate, h51, h52, h53, hfaulted, ?_, ?_⟩
  · rintro rfl
    rw [hchamber]
    rfl
  · rintro rfl
    rw [hchamber]
    rfl

end

/-! ## The failure of a move (R148, R161) -/

theorem failMove_eq (m : Move) (s : State) : failMove m s =
    latch .handling { afterFailure m (endPlate m.plate true (moveEnded s)) with shuttle.state := .faulted } := rfl

theorem failMove_faulted (m : Move) (s : State) : (failMove m s).shuttle.state = .faulted := by
  rw [failMove_eq]
  simp

theorem failMove_admission (m : Move) (s : State) : (failMove m s).admission = { s.admission with commitments :=
    if m.kind = .store then s.admission.commitments - 1 else s.admission.commitments } := by
  have hafter (u : State) : (afterFailure m u).admission = { u.admission with commitments :=
      if m.kind = .store then u.admission.commitments - 1 else u.admission.commitments } := by
    unfold afterFailure
    cases m.kind <;> simp [giveBackPlace]
  have hkept : (endPlate m.plate true (moveEnded s)).admission = s.admission := by simp [moveEnded]
  have hlatch : (failMove m s).admission = (afterFailure m (endPlate m.plate true (moveEnded s))).admission := by
    rw [failMove_eq]
    simp
  rw [hlatch, hafter, hkept]

/-- A failed move and the tests of the same event (R148). -/
theorem failMove_tests (hr : plateOf s m.plate = some r) (hstage : r.stage ≠ .ended) :
    (let t := handlingTests (failMove m s)
     t.shuttle = { s.shuttle with state := .faulted, move := none, timer := none } ∧ t.bus.latched.getLsbD 4 = true ∧
     slotState t m.plate = .done ∧ slotWord t m.plate 33 = 18 ∧
     ((plateOf t m.plate).map fun q => (q.stage, q.disposition)) = some (.ended, some .spoiled) ∧
     t.admission = { s.admission with commitments :=
       if m.kind = .store then s.admission.commitments - 1 else s.admission.commitments } ∧
     t.drying = s.drying ∧ t.supervisor = s.supervisor) := by
  obtain ⟨hshuttle, hbit, hdone, hreason, ⟨q, hq, hended, hspoiled⟩, -, hdrying, -, hsupervisor, -⟩ := failMove_effect hr hstage
  have hadmission := failMove_admission m s
  have hready : (failMove m s).shuttle.state ≠ .ready := by
    rw [failMove_faulted]
    nofun
  generalize failMove m s = u at *
  have hgrant : handlingTests u = lightTubes (withdrawSecondAsk u) := grant_of_not_ready _ (by simpa using hready)
  have hfinish : FinishOnly u (handlingTests u) := finishOnly_handlingTests hready .refl
  obtain ⟨q', hq', hfigures⟩ := hfinish.figure (fun r => (r.stage, r.disposition)) (fun _ => rfl) hq
  refine ⟨(tests_unready_shuttle hready).trans hshuttle, by simpa using hbit, (hfinish.state _).trans hdone,
    (hfinish.word _ 33 (by decide) (by decide)).trans hreason, ?_, ?_, ?_, ?_⟩
  · rw [hq', Option.map_some, hfigures, hended, hspoiled]
  · rw [hgrant]
    simpa using hadmission
  · rw [hgrant]
    simpa using hdrying
  · rw [hgrant]
    simpa using hsupervisor

/-- The chamber at the failure of a LOAD of position 1 (R161). -/
theorem failMove_loadOne (hkind : m.kind = .load) (hdest : m.dest = .chamber .one) (hstate : s.chamber.state = .loading) :
    (handlingTests (failMove m s)).chamber = emptiedChamber s.now s.chamber := by
  obtain ⟨x, hx⟩ : ∃ x, endPlate m.plate true (moveEnded s) = x := ⟨_, rfl⟩
  have hchamber : x.chamber = s.chamber := by simp [← hx, moveEnded]
  have hnow : x.now = s.now := by simp [← hx, moveEnded]
  have hafter : (afterFailure m x).chamber = emptiedChamber s.now s.chamber := by
    unfold afterFailure loadFailed
    rw [hkind, hdest]
    dsimp only [placePos]
    rw [if_neg (by rw [hchamber, hstate]; nofun)]
    unfold enterReady
    dsimp only
    rw [hchamber, hnow]
    rfl
  have hfailed : (failMove m s).chamber = emptiedChamber s.now s.chamber := by
    rw [failMove_eq, hx]
    simpa using hafter
  have hunready : (failMove m s).shuttle.state ≠ .ready := by
    rw [failMove_faulted]
    nofun
  rw [handlingTests_idle hunready (by rw [hfailed]; nofun) (by rw [hfailed]; nofun)]
  exact hfailed

/-- The chamber at the failure of a LOAD of position 2 (R161, R162). -/
theorem failMove_loadTwo (hkind : m.kind = .load) (hdest : m.dest = .chamber .two) (hstate : s.chamber.state = .loading)
    (htargets : (s.chamber.batchClass.getD (0, 0)).1 ≠ 0 ∨ (s.chamber.batchClass.getD (0, 0)).2 ≠ 0) :
    (handlingTests (failMove m s)).chamber =
      batchStarted s.now (s.supervisor.line = .safe ∨ s.chamber.doorClosed = false) s.chamber := by
  obtain ⟨x, hx⟩ : ∃ x, endPlate m.plate true (moveEnded s) = x := ⟨_, rfl⟩
  have hchamber : x.chamber = s.chamber := by simp [← hx, moveEnded]
  have hnow : x.now = s.now := by simp [← hx, moveEnded]
  have hsupervisor : x.supervisor = s.supervisor := by simp [← hx, moveEnded]
  have hafter : (afterFailure m x).chamber =
      batchStarted s.now (s.supervisor.line = .safe ∨ s.chamber.doorClosed = false) s.chamber := by
    unfold afterFailure loadFailed
    rw [hkind, hdest]
    dsimp only [placePos]
    rw [if_neg (by rw [hchamber, hstate]; nofun), startExposure_started (by rw [hchamber]; exact htargets)]
    simp only [hchamber, hnow, hsupervisor]
  have hfailed : (failMove m s).chamber =
      batchStarted s.now (s.supervisor.line = .safe ∨ s.chamber.doorClosed = false) s.chamber := by
    rw [failMove_eq, hx]
    simpa using hafter
  have hunready : (failMove m s).shuttle.state ≠ .ready := by
    rw [failMove_faulted]
    nofun
  have hstarted : (batchStarted s.now (s.supervisor.line = .safe ∨ s.chamber.doorClosed = false) s.chamber).state ≠ .loading ∧
      (batchStarted s.now (s.supervisor.line = .safe ∨ s.chamber.doorClosed = false) s.chamber).state ≠ .dark := by
    unfold batchStarted
    split
    · exact ⟨nofun, nofun⟩
    · exact ⟨nofun, nofun⟩
  rw [handlingTests_idle hunready (by rw [hfailed]; exact hstarted.1) (by rw [hfailed]; exact fun e => absurd e hstarted.2)]
  exact hfailed

end

end Sys2Proof.Machine

/-! PROOFS. The obligation about the reports of the shuttle node (R140, R144, R146 to R148, R150). -/

namespace Sys2Proof.Machine

section
variable {s : State} {m : Move} {r : Plate} {cmd : NodeCmd} {stat : Byte} {d : Vector Byte 6}

theorem shuttleAble_seen (hpresent : isPresent s .shuttle = true) : shuttleAble (shuttleSeen stat d s) = true ↔
    stat.getLsbD 7 = true ∧ stat.getLsbD 6 = false ∧ s.supervisor.line ≠ .safe := by
  have hkept : isPresent (shuttleSeen stat d s) .shuttle = true := hpresent
  unfold shuttleAble isSafe
  rw [hkept]
  simp [shuttleSeen, shuttleReport, and_assoc]

/-! ## A report without a move (R140, R150) -/

/-- A stack no longer full lets a READY shuttle take the UNLOAD asked for (R144, R146). -/
theorem report_stack_free (hfull : d[1] = 0 ∨ d[1] = 1) {p : PlateId} {pos : ChamberPos} {sp : Bool} (hstate : s.shuttle.state = .ready)
    (hstack : s.shuttle.stackFull = true) (hfree : d[1] = 0) (hrack : s.drying.rack = []) (hask : s.chamber.ask = .unload p pos sp)
    (hecho : d[5].toNat ≠ nextOrder s .shuttle) : (shuttleTaken cmd stat d s).shuttle = { shuttleReport stat d s.shuttle with
      state := .moving, timer := some (s.now + 90000)
      move := some { kind := .unload, plate := p, source := .chamber pos, dest := .output
                     order := nextOrder s .shuttle, spoiled := sp } } := by
  have hclear : (shuttleSeen stat d s).shuttle.stackFull = false := by
    refine decide_eq_false ?_
    rw [hfree]
    decide
  have hgrant : testUnload s.shuttle.stackFull (shuttleSeen stat d s) = board .unload p (.chamber pos) .output sp
      { shuttleSeen stat d s with chamber := { clearPos pos s.chamber with ask := .none } } := by
    refine (if_neg ?_).trans (grant_unloads (s := shuttleSeen stat d s) hstate (.inl hrack) hask hclear)
    rw [hclear, hstack]
    decide
  obtain ⟨u, hu⟩ : ∃ u, board .unload p (.chamber pos) .output sp
    { shuttleSeen stat d s with chamber := { clearPos pos s.chamber with ask := .none } } = u := ⟨_, rfl⟩
  have hsent : u.shuttle = { shuttleReport stat d s.shuttle with
      state := .moving, timer := some (s.now + 90000)
      move := some { kind := .unload, plate := p, source := .chamber pos, dest := .output
                     order := nextOrder s .shuttle, spoiled := sp } } := by
    rw [← hu, board_move]
    rfl
  have hmoving : u.shuttle.state = .moving := by rw [hsent]
  have htaken : shuttleTaken cmd stat d s = handlingTests u := by
    unfold shuttleTaken takeShuttleReport
    dsimp only
    rw [recordShuttle_eq hfull, hgrant, hu, testMove_left (by rw [hsent]) (.inl hecho), evalShuttle_moving hmoving,
      endShuttleReset_idle (.inl (by rw [hmoving]; nofun))]
  rw [htaken, tests_unready_shuttle (by rw [hmoving]; nofun), hsent]

section
variable (hfull : d[1] = 0 ∨ d[1] = 1) (hmove : s.shuttle.move = none)
include hfull hmove

theorem shuttleTaken_idle (hstate : s.shuttle.state ≠ .ready) : shuttleTaken cmd stat d s =
    handlingTests (endShuttleReset (decide (cmd = .reset)) (stat.getLsbD 7) (stat.getLsbD 6)
      (evalShuttle (shuttleSeen stat d s))) := by
  rw [shuttleTaken_unready hfull hstate, testMove_none (s := shuttleSeen stat d s) hmove]

theorem report_stopped_able (hstate : s.shuttle.state = .stopped) (hable : shuttleAble (shuttleSeen stat d s) = true) :
    (shuttleTaken cmd stat d s).shuttle.state = .ready ∨ (shuttleTaken cmd stat d s).shuttle.state = .moving := by
  rw [shuttleTaken_idle hfull hmove (by rw [hstate]; nofun), evalShuttle_stopped (s := shuttleSeen stat d s) hstate hable,
    endShuttleReset_idle (s := { shuttleSeen stat d s with shuttle.state := .ready }) (.inl nofun)]
  exact handlingTests_shuttle rfl

theorem report_stopped_unable (hstate : s.shuttle.state = .stopped) (hable : shuttleAble (shuttleSeen stat d s) = false) :
    (shuttleTaken cmd stat d s).shuttle = shuttleReport stat d s.shuttle := by
  have hseen : (shuttleSeen stat d s).shuttle.state = .stopped := hstate
  have hstays : evalShuttle (shuttleSeen stat d s) = shuttleSeen stat d s := by
    simp only [evalShuttle, hseen, hable]
    rfl
  rw [shuttleTaken_idle hfull hmove (by rw [hstate]; nofun), hstays, endShuttleReset_idle (.inl (by rw [hseen]; nofun)),
    tests_unready_shuttle (by rw [hseen]; nofun)]
  rfl

theorem report_ready_unable (hstate : s.shuttle.state = .ready) (hsame : s.shuttle.stackFull = decide (d[1] = 1))
    (hable : shuttleAble (shuttleSeen stat d s) = false) :
    (shuttleTaken cmd stat d s).shuttle = { shuttleReport stat d s.shuttle with state := .stopped } := by
  have hseen : (shuttleSeen stat d s).shuttle.state = .ready := hstate
  have hunload : testUnload s.shuttle.stackFull (shuttleSeen stat d s) = shuttleSeen stat d s := if_pos hsame.symm
  have hstops : evalShuttle (shuttleSeen stat d s) = { shuttleSeen stat d s with shuttle.state := .stopped } := by
    simp only [evalShuttle, hseen, hable]
    rfl
  have htaken : shuttleTaken cmd stat d s = handlingTests { shuttleSeen stat d s with shuttle.state := .stopped } := by
    unfold shuttleTaken takeShuttleReport
    dsimp only
    rw [recordShuttle_eq hfull, hunload, testMove_none (s := shuttleSeen stat d s) hmove, hstops,
      endShuttleReset_idle (s := { shuttleSeen stat d s with shuttle.state := .stopped }) (.inl nofun)]
  rw [htaken, tests_unready_shuttle (w := { shuttleSeen stat d s with shuttle.state := .stopped }) nofun]
  rfl

theorem report_reset (hstate : s.shuttle.state = .faulted) (hrequested : s.shuttle.resetRequested = true) :
    (cmd = .reset → stat.getLsbD 7 = true → stat.getLsbD 6 = false →
      (shuttleTaken cmd stat d s).shuttle.resetRequested = false ∧
      ((shuttleTaken cmd stat d s).shuttle.state = .ready ∨ (shuttleTaken cmd stat d s).shuttle.state = .moving)) ∧
    (cmd ≠ .reset ∨ stat.getLsbD 7 = false ∨ stat.getLsbD 6 = true →
      (shuttleTaken cmd stat d s).shuttle = shuttleReport stat d s.shuttle) := by
  have hseen : (shuttleSeen stat d s).shuttle.state = .faulted := hstate
  rw [shuttleTaken_idle hfull hmove (by rw [hstate]; nofun), evalShuttle_faulted hseen]
  refine ⟨fun hcmd hready hfault => ?_, fun hnot => ?_⟩
  · have hends : endShuttleReset (decide (cmd = .reset)) (stat.getLsbD 7) (stat.getLsbD 6) (shuttleSeen stat d s) =
        { shuttleSeen stat d s with shuttle.state := .ready, shuttle.resetRequested := false } :=
      if_pos ⟨hseen, hrequested, by rw [hready, hfault, decide_eq_true hcmd]; rfl⟩
    rw [hends]
    refine ⟨?_, handlingTests_shuttle rfl⟩
    have hkept (u : State) : (handlingTests u).shuttle.resetRequested = u.shuttle.resetRequested := by
      refine (grant_keeps (fun s => s.shuttle.resetRequested) (lightTubes (withdrawSecondAsk u)) (fun _ _ _ => by rw [board_move])
        (fun _ _ _ => by rw [board_move]) fun pos _ _ _ _ => ?_).trans (by simp)
      rw [board_move]
      cases pos <;> rfl
    rw [hkept]
  · rw [endShuttleReset_idle (.inr ?_), tests_unready_shuttle (by rw [hseen]; nofun)]
    · rfl
    · rcases hnot with h | h | h
      · rw [decide_eq_false h, Bool.false_and, Bool.false_and]
      · rw [h, Bool.and_false, Bool.false_and]
      · rw [h, Bool.not_true, Bool.and_false]

end

end

/-- Once begun, a batch is EXPOSING or SUSPENDED as the stop says (R162). -/
theorem batchStarted_state {now : Nat} {line : LineState} {closed : Bool} {c : Chamber} :
    (batchStarted now (line = .safe ∨ closed = false) c).pos2 = c.pos2 ∧
      ((batchStarted now (line = .safe ∨ closed = false) c).state = .exposing ↔ line ≠ .safe ∧ closed = true) ∧
      ((batchStarted now (line = .safe ∨ closed = false) c).state = .suspended ↔ line = .safe ∨ closed = false) := by
  unfold batchStarted
  split
  · rename_i hstops
    refine ⟨rfl, iff_of_false nofun fun ⟨hline, hclosed⟩ => ?_, iff_of_true rfl hstops⟩
    exact hstops.elim hline fun hopen => absurd (hclosed.symm.trans hopen) nofun
  · rename_i hgoes
    obtain ⟨hline, hclosed⟩ := not_or.mp hgoes
    exact ⟨rfl, iff_of_true rfl ⟨hline, Bool.eq_true_of_not_eq_false hclosed⟩, iff_of_false nofun hgoes⟩

/-- Settles O58: the report, then the current move by its kind and end, then a shuttle without a move. -/
theorem shuttleReportsEndTheMove : Obligations.ShuttleReportsEndTheMove := by
  unfold Obligations.ShuttleReportsEndTheMove
  intro n again cmd bytes stat d s hgood hnode hpresent hfull
  obtain ⟨w, hw⟩ : ∃ w, shuttleTaken cmd stat d (answered n stat d s) = w := ⟨_, rfl⟩
  obtain ⟨link, count, hexec⟩ : ∃ link count, exec (.responseFrame bytes) s =
      .next { shuttleTaken cmd stat d (answered n stat d s) with link := link, freeCount := count } :=
    exec_shuttleReport hgood hpresent
  rw [hw] at hexec
  have hable : shuttleAble (shuttleSeen stat d (answered n stat d s)) = true ↔
      stat.getLsbD 7 = true ∧ stat.getLsbD 6 = false ∧ s.supervisor.line ≠ .safe :=
    shuttleAble_seen (s := answered n stat d s) (isPresent_answered.trans (isPresent_of_node hnode hpresent))
  refine ⟨_, hexec, ?figures, fun m hstate hmove hcmd => ?move, fun hmove => ?idle⟩
  case figures =>
    have hfigures : shuttleFigures (shuttleTaken cmd stat d (answered n stat d s)).shuttle =
        shuttleFigures (shuttleReport stat d s.shuttle) := figures_shuttleTaken (s := answered n stat d s) hfull
    rw [hw] at hfigures
    obtain ⟨hready, hrest⟩ := Prod.mk.inj hfigures
    obtain ⟨hfault, hrest⟩ := Prod.mk.inj hrest
    obtain ⟨hresult, hrest⟩ := Prod.mk.inj hrest
    obtain ⟨hposition, hrest⟩ := Prod.mk.inj hrest
    obtain ⟨hstack, hecho⟩ := Prod.mk.inj hrest
    exact ⟨hready, hfault, hresult, hposition, hstack, hecho⟩
  case move =>
    have hdone (hecho : d[5].toNat = m.order) (hresult : orderResultOfCode (stat.toNat / 4 % 8) = .done) : w = handlingTests
        (moveDoneAs (if shuttleAble (shuttleSeen stat d (answered n stat d s)) then .ready else .stopped) m
          (shuttleSeen stat d (answered n stat d s))) :=
      hw.symm.trans (shuttleTaken_done (s := answered n stat d s) hfull hstate hmove hecho hresult)
    refine ⟨fun hleft hloading hdark => ?left, fun hecho hresult hgo => ?outcome,
      fun hecho hresult hgo hplaces r hr hstage => ?able, fun hecho hresult hstop r hr hstage => ?unable,
      fun hecho hresult r hr hstage => ?failed⟩
    case left =>
      have htaken : w = shuttleSeen stat d (answered n stat d s) := by
        refine hw.symm.trans ((shuttleTaken_left (s := answered n stat d s) hfull hstate hmove hleft).trans
          (handlingTests_idle ?_ hloading ?_))
        · exact fun e => nomatch hstate.symm.trans e
        · exact fun e => absurd e hdark
      rw [htaken]
      rfl
    case outcome =>
      rw [hdone hecho hresult, if_pos (hable.mpr hgo)]
      exact outcome_done (s := shuttleSeen stat d (answered n stat d s))
    case able =>
      rw [hdone hecho hresult, if_pos (hable.mpr hgo)]
      obtain ⟨hgiven, hkept⟩ := admission_done (m := m) (s := shuttleSeen stat d (answered n stat d s))
      refine ⟨hgiven, hkept, fun k j hkind hdest => ?_, fun hkind hback hmain => ⟨?_, fun hunloading => ?_⟩,
        fun pos hkind hdest => ⟨fun hloading hask h htargets => ?_, fun hloading hask h htargets hdoor => ?_,
          fun hloading hpos hcandidate => ?_, fun hfaulted => ?_⟩⟩
      · exact store_done (s := shuttleSeen stat d (answered n stat d s)) hplaces hmove hr hstage hkind hdest
      · exact unload_done (s := shuttleSeen stat d (answered n stat d s)) hplaces hmove hr hstage hkind hback hmain
      · exact unload_done_chamber (s := shuttleSeen stat d (answered n stat d s)) hkind hunloading
      · exact load_starts_granted (s := shuttleSeen stat d (answered n stat d s)) hplaces hmove hkind hdest hr hstage
          hloading hask h htargets
      · exact load_onTarget_granted (s := shuttleSeen stat d (answered n stat d s)) hplaces hmove hkind hdest hr hstage
          hloading h htargets hgo.2.2 hdoor
      · exact load_asks_granted (s := shuttleSeen stat d (answered n stat d s)) hplaces hmove hkind hdest hr hstage hpos
          hloading hcandidate
      · exact load_faulted_granted (s := shuttleSeen stat d (answered n stat d s)) hplaces hmove hkind hdest hr hstage
          hfaulted
    case unable =>
      rw [hdone hecho hresult, if_neg (mt hable.mp hstop)]
      refine ⟨?_, fun k j hkind hdest hloading => ?_, fun hkind hloading hback hmain => ⟨?_, fun hunloading => ?_⟩,
        fun pos hkind hdest => ⟨fun hloading hask h htargets => ?_, fun hloading hpos hcandidate => ?_, fun hfaulted => ?_⟩⟩
      · exact (tests_unready_shuttle (stopped_unready m _)).trans (stopped_shuttle m (shuttleSeen stat d (answered n stat d s)))
      · exact store_stopped (s := shuttleSeen stat d (answered n stat d s)) hr hstage hkind hdest hloading
      · exact unload_stopped (s := shuttleSeen stat d (answered n stat d s)) hr hstage hkind hloading hback hmain
      · exact unload_stopped_chamber (s := shuttleSeen stat d (answered n stat d s)) hkind hunloading
      · exact load_starts_stopped (s := shuttleSeen stat d (answered n stat d s)) hkind hdest hr hstage hloading hask h htargets
      · exact load_asks_stopped (s := shuttleSeen stat d (answered n stat d s)) hkind hdest hr hstage hpos hloading hcandidate
      · exact load_faulted_stopped (s := shuttleSeen stat d (answered n stat d s)) hkind hdest hr hstage hfaulted
    case failed =>
      have htaken : w = handlingTests (failMove m (shuttleSeen stat d (answered n stat d s))) :=
        hw.symm.trans (shuttleTaken_failed (s := answered n stat d s) hfull hstate hmove hcmd hecho hresult)
      obtain ⟨hshuttle, hbit, hended, hreason, hspoilt, hadmission, hdrying, hsupervisor⟩ :=
        failMove_tests (s := shuttleSeen stat d (answered n stat d s)) hr hstage
      rw [← htaken] at hshuttle hbit hended hreason hspoilt hadmission hdrying hsupervisor
      refine ⟨hshuttle, hbit, hended, hreason, hspoilt, hadmission, hdrying, hsupervisor, fun hkind hdest hloading => ?_,
        fun hkind hdest hloading htargets => ?_⟩
      · have h := failMove_loadOne (s := shuttleSeen stat d (answered n stat d s)) hkind hdest hloading
        rw [← htaken] at h
        exact h
      · have hbatch := failMove_loadTwo (s := shuttleSeen stat d (answered n stat d s)) hkind hdest hloading htargets
        rw [← htaken] at hbatch
        dsimp only
        rw [hbatch]
        exact batchStarted_state
  case idle =>
    have hgoes := report_stopped_able (s := answered n stat d s) (cmd := cmd) (stat := stat) hfull hmove
    have hstays := report_stopped_unable (s := answered n stat d s) (cmd := cmd) (stat := stat) hfull hmove
    have hstops := report_ready_unable (s := answered n stat d s) (cmd := cmd) (stat := stat) hfull hmove
    have hreset := report_reset (s := answered n stat d s) (cmd := cmd) (stat := stat) hfull hmove
    rw [hw] at hgoes hstays hstops hreset
    refine ⟨fun hstate hgo => hgoes hstate (hable.mpr hgo),
      fun hstate hstop => hstays hstate (Bool.eq_false_iff.mpr (mt hable.mp hstop)),
      fun hstate hsame hstop => hstops hstate hsame (Bool.eq_false_iff.mpr (mt hable.mp hstop)),
      fun p pos sp hstate hstack hfree hrack hask _ hecho => ?_, hreset⟩
    have hshuttle := report_stack_free (s := answered n stat d s) (cmd := cmd) (stat := stat) hfull hstate hstack hfree hrack
      hask (nextOrder_answered (s := s) ▸ hecho)
    rw [nextOrder_answered, hw] at hshuttle
    exact hshuttle

end Sys2Proof.Machine
